-- ==== Sys2Proof/Word.lean ====
section
/-!
DEFINITION. The word types of the Rosud 1440 model and their plainest conversions: bytes, 32-bit register words,
64-bit registers, and byte lists read little-endian (02 R51).
-/
namespace Sys2Proof

/-- One byte. -/
abbrev Byte := BitVec 8
/-- One BAR0 register word, also one Ezgan word and one FP32 value (00 R753, 06 R222). -/
abbrev Word := BitVec 32
/-- One 64-bit register or field (00 R405 and the field tables). -/
abbrev DWord := BitVec 64

/-- The number a byte list spells, lowest byte first (02 R51). -/
def leNat : List Byte → Nat
  | [] => 0
  | b :: bs => b.toNat + 256 * leNat bs

/-- The `k` bytes of a number, lowest byte first (02 R51). -/
def natLe : Nat → Nat → List Byte
  | 0, _ => []
  | k + 1, n => BitVec.ofNat 8 n :: natLe k (n / 256)

/-- Bits `[hi:lo]` of a number (00, notation table). -/
def bitsOf (n hi lo : Nat) : Nat := (n >>> lo) % 2 ^ (hi + 1 - lo)

/-- One bit of a number as a Boolean. -/
def bitOf (n i : Nat) : Bool := Nat.testBit n i

/-- A Boolean as the value of a one-bit field. -/
def b01 (b : Bool) : Nat := if b then 1 else 0

end Sys2Proof
end

