-- ==== Sys2Proof/Syntax.lean ====
section
/-!
DEFINITION. The commands of the block: the one inductive `Instr`, one constructor per row of spec/opcode_table.json, in
the table's order, and the operand types that they carry. An operand is a unit's number, a field of the command's own
layout, or a fact from outside the module that the event reports (a measured value, the outcome of a test, the bytes
of a flit); the facts are never computed by the model.
-/
namespace Sys2Proof

/-- A core site (01 R28). -/
abbrev Site := Fin 1536
/-- A queue (09 R344). -/
abbrev Queue := Fin 176
/-- A host port, 0 H0 and 1 H1 (01 R22). -/
abbrev Port := Fin 2
/-- A link port (11 R454). -/
abbrev Link := Fin 16
/-- A hub die (01 R21). -/
abbrev Hub := Fin 8
/-- A scalar or vector register number (06 R222). -/
abbrev Reg := Fin 32
/-- A predicate register number (06 R222). -/
abbrev PReg := Fin 8
/-- A context (07 R286). -/
abbrev Ctx := Fin 64
/-- A sync counter (10 R406). -/
abbrev Counter := Fin 4096
/-- A stream number (08 R313). -/
abbrev StreamNo := Fin 16384
/-- A 64-byte line (07 R285), byte 0 in bits 7..0. -/
abbrev Line := BitVec 512
/-- A 256-byte flit (11 R460), byte 0 in bits 7..0. -/
abbrev Flit := BitVec 2048

/-- A message header but for KIND and LINES, which the command's name and its lines give (11 R462). -/
structure MsgHead where
  hops : Fin 32
  src : Fin 512
  dst : Fin 512
  mtag : BitVec 16
  arg : DWord
  deriving DecidableEq, Repr

/-- What the DRAM's codes reported of one read (07 R294 to R297); a correction carries the number of repaired bits. -/
inductive EccFact where
  | clean
  | corrected (bits : Nat)
  | uncorrectable
  deriving DecidableEq, Repr

/-- What one read of the DRAM met: the code's report, or a link ECC that could not correct the transfer, after which the read was
repeated once with the report given (07 R295). -/
inductive ReadFact where
  | once (e : EccFact)
  | repeated (e : EccFact)
  deriving DecidableEq, Repr

/-- A memory request at a hub (07 R303): a line address, for a write its byte mask and data, and whether it is a
prefetch fetch (08 R325). -/
structure MemReq where
  line : BitVec 36
  write : Option (BitVec 64 × Line)
  prefetch : Bool
  deriving DecidableEq, Repr

/-- The outcome of start-up's row audit and self-test at one site (03 R143, 01 R29); sites not listed passed both. -/
structure SiteFact where
  site : Site
  rows : BitVec 100
  selfTestFailed : Bool
  deriving DecidableEq, Repr

/-- What a link training found (11 R471): the lanes found healthy, whether it gained lock, and the peer's identity. -/
structure TrainFact where
  lanes : BitVec 5
  locked : Bool
  peer : Fin 512
  peerPort : Fin 16
  deriving DecidableEq, Repr

/-- What start-up meets on its way (16 R619, R623); bit u of `fwBad` marks a firmware unit with no slot that verifies at step 6, and
`spares` are the pseudo-channels that training puts on a spare, in order (07 R307). -/
structure StartFacts where
  fwBad : BitVec 4
  hbmFailed : BitVec 8
  lpFailed : BitVec 8
  spares : List (Hub × Fin 32)
  sites : List SiteFact
  links : List (Link × TrainFact)
  timeMs : BitVec 16
  deriving DecidableEq, Repr

/-- What the limiter measured over its period (15 R608, R617): input voltage and current in 10 mV and 10 mA, power in
W, and each unit's temperature in quarter degrees. -/
structure Measures where
  vin : BitVec 16
  iin : BitVec 16
  watts : BitVec 16
  temps : Vector (BitVec 12) 40
  deriving DecidableEq, Repr

/-- A PCIe configuration request (16 R626, 20 R726, R727, 07 R282). -/
inductive CfgReq where
  | read (reg : Fin 1024)
  | write (reg : Fin 1024) (v : Word)
  | powerState (d3hot : Bool)
  | bar2Size (log2GiB : Fin 13)
  deriving DecidableEq, Repr

/-- The transport that carried a management command (20 R729). -/
inductive Transport where
  | smbus
  | i3c
  | pcie (p : Port)
  deriving DecidableEq, Repr

/-- The commands, one constructor per row of the opcode table. -/
inductive Instr where
  /-- LIST_ACCEPTANCE (R368). -/
  | listAcceptance (q : Queue)
  /-- NOP (R374). -/
  | nop (q : Queue) (k : Nat)
  /-- FENCE (R374). -/
  | fence (q : Queue) (k : Nat)
  /-- SIGNAL (R408). -/
  | signal (q : Queue) (k : Nat)
  /-- WAIT (R412). -/
  | wait (q : Queue) (k : Nat)
  /-- BARRIER (R430). -/
  | barrier (q : Queue) (k : Nat)
  /-- PREEMPT_POINT (R397). -/
  | preemptPoint (q : Queue) (k : Nat)
  /-- MATMUL (R355); `es` is what the prefetch buffers' code reported of lines that its keeper reads take (08 R328). -/
  | matmul (q : Queue) (k : Nat) (c : Site) (n : Nat) (es : List (BitVec 42 × EccFact))
  /-- JOB (R258). -/
  | job (q : Queue) (k : Nat)
  /-- COPY (R360). -/
  | copy (q : Queue) (k : Nat) (n : Nat)
  /-- GATHER (R341). -/
  | gather (q : Queue) (k : Nat) (n : Nat)
  /-- STREAM_OPEN (R314). -/
  | streamOpen (q : Queue) (k : Nat)
  /-- STREAM_CLOSE (R319). -/
  | streamClose (q : Queue) (k : Nat)
  /-- REDUCE_SCATTER (R498). -/
  | reduceScatter (q : Queue) (k : Nat)
  /-- ALL_GATHER (R498). -/
  | allGather (q : Queue) (k : Nat)
  /-- ALL_REDUCE (R498). -/
  | allReduce (q : Queue) (k : Nat)
  /-- BROADCAST (R498). -/
  | broadcast (q : Queue) (k : Nat)
  /-- UPDATE (R529). -/
  | update (q : Queue) (k : Nat)
  /-- UPDATE_MAIN_PASS (R534). -/
  | updateMainPass (q : Queue) (k : Nat)
  /-- UPDATE_BLOCK (R534). -/
  | updateBlock (q : Queue) (k : Nat) (b : BitVec 32)
  /-- BOUNDARY (R442). -/
  | boundary (q : Queue) (k : Nat)
  /-- BOUNDARY_RAISE (R448). -/
  | boundaryRaise
  /-- ITEM_COMPLETION (R376). -/
  | itemCompletion (q : Queue) (k : Nat)
  /-- RECORD_RELEASE (R385). -/
  | recordRelease (q : Queue)
  /-- COMPLETION_RING_RETRY (R388). -/
  | completionRingRetry (q : Queue)
  /-- IRQ_HOLD_EXPIRY (R391). -/
  | irqHoldExpiry (q : Queue)
  /-- DEADLINE (R394). -/
  | deadline (q : Queue) (l : Nat)
  /-- START (R364). -/
  | start (p : Port) (q : Queue)
  /-- PREEMPT_NOW (R396). -/
  | preemptNow (p : Port) (q : Queue)
  /-- PREEMPT_AT_POINT (R397). -/
  | preemptAtPoint (p : Port) (q : Queue)
  /-- RESUME (R398). -/
  | resume (p : Port) (q : Queue)
  /-- ABORT (R399). -/
  | abort (p : Port) (q : Queue)
  /-- CONTEXT_SAVE (R178). -/
  | contextSave (c : Site)
  /-- CQ_HEAD_WRITE (R390). -/
  | cqHeadWrite (p : Port) (q : Queue) (v : Word)
  /-- QE_WIN_COMMIT_GO (R290). -/
  | qeWinCommitGo (p : Port) (x : Ctx)
  /-- QE_Q_TAKE_GO (R573). -/
  | qeQTakeGo (p : Port) (q : Queue)
  /-- INSTANCE_START (R260). -/
  | instanceStart (q : Queue) (k : Nat) (c : Site)
  /-- ADD (R231). -/
  | add (c : Site) (d a b : Reg)
  /-- SUB (R231). -/
  | sub (c : Site) (d a b : Reg)
  /-- MUL (R231). -/
  | mul (c : Site) (d a b : Reg)
  /-- AND (R231). -/
  | and (c : Site) (d a b : Reg)
  /-- OR (R231). -/
  | or (c : Site) (d a b : Reg)
  /-- XOR (R231). -/
  | xor (c : Site) (d a b : Reg)
  /-- SHL (R231). -/
  | shl (c : Site) (d a b : Reg)
  /-- SHR (R231). -/
  | shr (c : Site) (d a b : Reg)
  /-- SAR (R231). -/
  | sar (c : Site) (d a b : Reg)
  /-- SLT (R231). -/
  | slt (c : Site) (d a b : Reg)
  /-- SLTU (R231). -/
  | sltu (c : Site) (d a b : Reg)
  /-- SEQ (R231). -/
  | seq (c : Site) (d a b : Reg)
  /-- MIN (R231). -/
  | min (c : Site) (d a b : Reg)
  /-- MAX (R231). -/
  | max (c : Site) (d a b : Reg)
  /-- ADDI (R231). -/
  | addi (c : Site) (d a : Reg) (imm : BitVec 12)
  /-- ANDI (R231). -/
  | andi (c : Site) (d a : Reg) (imm : BitVec 12)
  /-- ORI (R231). -/
  | ori (c : Site) (d a : Reg) (imm : BitVec 12)
  /-- XORI (R231). -/
  | xori (c : Site) (d a : Reg) (imm : BitVec 12)
  /-- SHLI (R231). -/
  | shli (c : Site) (d a : Reg) (imm : BitVec 12)
  /-- SHRI (R231). -/
  | shri (c : Site) (d a : Reg) (imm : BitVec 12)
  /-- SARI (R231). -/
  | sari (c : Site) (d a : Reg) (imm : BitVec 12)
  /-- MOVK0 (R231). -/
  | movk0 (c : Site) (d : Reg) (imm : BitVec 16)
  /-- MOVK1 (R231). -/
  | movk1 (c : Site) (d : Reg) (imm : BitVec 16)
  /-- MOVK2 (R231). -/
  | movk2 (c : Site) (d : Reg) (imm : BitVec 16)
  /-- MOVK3 (R231). -/
  | movk3 (c : Site) (d : Reg) (imm : BitVec 16)
  /-- BR (R231). -/
  | br (c : Site) (t : BitVec 14)
  /-- BEQZ (R231). -/
  | beqz (c : Site) (a : Reg) (t : BitVec 14)
  /-- BNEZ (R231). -/
  | bnez (c : Site) (a : Reg) (t : BitVec 14)
  /-- BLTZ (R231). -/
  | bltz (c : Site) (a : Reg) (t : BitVec 14)
  /-- CALL (R231). -/
  | call (c : Site) (t : BitVec 14)
  /-- RET (R231). -/
  | ret (c : Site) (a : Reg)
  /-- MFSR (R232). -/
  | mfsr (c : Site) (d : Reg) (imm : BitVec 12)
  /-- EZGAN_NOP (R231). -/
  | ezganNop (c : Site)
  /-- HALT (R261). -/
  | halt (c : Site)
  /-- LD (R231). -/
  | ld (c : Site) (d a : Reg) (imm : BitVec 12)
  /-- ST (R231). -/
  | st (c : Site) (d a : Reg) (imm : BitVec 12)
  /-- LDW (R231). -/
  | ldw (c : Site) (d a : Reg) (imm : BitVec 12)
  /-- STW (R231). -/
  | stw (c : Site) (d a : Reg) (imm : BitVec 12)
  /-- VADD (R231). -/
  | vadd (c : Site) (d a b : Reg) (p : PReg) (sb : Bool)
  /-- VSUB (R231). -/
  | vsub (c : Site) (d a b : Reg) (p : PReg) (sb : Bool)
  /-- VMUL (R231). -/
  | vmul (c : Site) (d a b : Reg) (p : PReg) (sb : Bool)
  /-- VFMA (R231). -/
  | vfma (c : Site) (d a b : Reg) (p : PReg) (sb : Bool)
  /-- VMAX (R89). -/
  | vmax (c : Site) (d a b : Reg) (p : PReg) (sb : Bool)
  /-- VMIN (R89). -/
  | vmin (c : Site) (d a b : Reg) (p : PReg) (sb : Bool)
  /-- VRCPE (R235). -/
  | vrcpe (c : Site) (d a : Reg) (p : PReg)
  /-- VRSQE (R235). -/
  | vrsqe (c : Site) (d a : Reg) (p : PReg)
  /-- VEXP2E (R235). -/
  | vexp2e (c : Site) (d a : Reg) (p : PReg)
  /-- VLOG2E (R235). -/
  | vlog2e (c : Site) (d a : Reg) (p : PReg)
  /-- VRCPS (R231). -/
  | vrcps (c : Site) (d a b : Reg) (p : PReg) (sb : Bool)
  /-- VRSQS (R231). -/
  | vrsqs (c : Site) (d a b : Reg) (p : PReg) (sb : Bool)
  /-- VCEQ (R91). -/
  | vceq (c : Site) (d a b : Reg) (p : PReg) (sb : Bool)
  /-- VCNE (R91). -/
  | vcne (c : Site) (d a b : Reg) (p : PReg) (sb : Bool)
  /-- VCLT (R91). -/
  | vclt (c : Site) (d a b : Reg) (p : PReg) (sb : Bool)
  /-- VCLE (R91). -/
  | vcle (c : Site) (d a b : Reg) (p : PReg) (sb : Bool)
  /-- VSEL (R231). -/
  | vsel (c : Site) (d a b : Reg) (p : PReg) (sb : Bool)
  /-- VIADD (R231). -/
  | viadd (c : Site) (d a b : Reg) (p : PReg) (sb : Bool)
  /-- VISUB (R231). -/
  | visub (c : Site) (d a b : Reg) (p : PReg) (sb : Bool)
  /-- VAND (R231). -/
  | vand (c : Site) (d a b : Reg) (p : PReg) (sb : Bool)
  /-- VOR (R231). -/
  | vor (c : Site) (d a b : Reg) (p : PReg) (sb : Bool)
  /-- VXOR (R231). -/
  | vxor (c : Site) (d a b : Reg) (p : PReg) (sb : Bool)
  /-- VSHL (R231). -/
  | vshl (c : Site) (d a b : Reg) (p : PReg) (sb : Bool)
  /-- VSHR (R231). -/
  | vshr (c : Site) (d a b : Reg) (p : PReg) (sb : Bool)
  /-- VLANE (R231). -/
  | vlane (c : Site) (d : Reg) (p : PReg)
  /-- VBCAST (R231). -/
  | vbcast (c : Site) (d a : Reg) (p : PReg)
  /-- PAND (R231). -/
  | pand (c : Site) (d a b : Reg) (p : PReg)
  /-- POR (R231). -/
  | por (c : Site) (d a b : Reg) (p : PReg)
  /-- PNOT (R231). -/
  | pnot (c : Site) (d a : Reg) (p : PReg)
  /-- PMOV (R231). -/
  | pmov (c : Site) (d a : Reg) (p : PReg)
  /-- VMSK (R208). -/
  | vmsk (c : Site) (d a : Reg) (p : PReg)
  /-- VLD (R231). -/
  | vld (c : Site) (d a : Reg) (imm : BitVec 12)
  /-- VST (R231). -/
  | vst (c : Site) (d a : Reg) (imm : BitVec 12)
  /-- VGATHER (R239). -/
  | vgather (c : Site) (d a b : Reg) (p : PReg)
  /-- VSCATTER (R239). -/
  | vscatter (c : Site) (d a b : Reg) (p : PReg)
  /-- VCVTO (R240). -/
  | vcvto (c : Site) (d a : Reg) (fmt : BitVec 4) (rnd : BitVec 2) (sat sr : Bool)
  /-- VCVTI (R241). -/
  | vcvti (c : Site) (d a : Reg) (fmt : BitVec 4) (rnd : BitVec 2) (sat sr : Bool)
  /-- VRSUM (R238). -/
  | vrsum (c : Site) (d a : Reg) (p : PReg)
  /-- VRMAX (R238). -/
  | vrmax (c : Site) (d a : Reg) (p : PReg)
  /-- VRMIN (R238). -/
  | vrmin (c : Site) (d a : Reg) (p : PReg)
  /-- SRD (R245). -/
  | srd (c : Site) (d a b : Reg)
  /-- SWR (R246). -/
  | swr (c : Site) (d a b : Reg)
  /-- STREAM_OPERATION_COMPLETE (R244). -/
  | streamOperationComplete (c : Site) (i : Nat)
  /-- SFENCE (R231). -/
  | sfence (c : Site)
  /-- SIG (R408). -/
  | sig (c : Site) (d a : Reg)
  /-- WAITC (R249). -/
  | waitc (c : Site) (d a b : Reg) (mod : BitVec 4)
  /-- WWAIT (R423). -/
  | wwait (c : Site) (imm : BitVec 12)
  /-- WFIRE (R421). -/
  | wfire (c : Site) (imm : BitVec 12)
  /-- HBAR (R430). -/
  | hbar (c : Site) (d : Reg)
  /-- TZERO (R145). -/
  | tzero (c : Site) (w : BitVec 128)
  /-- TMM (R145). -/
  | tmm (c : Site) (w : BitVec 128)
  /-- TACCRD (R145). -/
  | taccrd (c : Site) (w : BitVec 128) (stop : Option (Fin 256))
  /-- TSAVE (R165). -/
  | tsave (c : Site) (w : BitVec 128)
  /-- TRESTORE (R166). -/
  | trestore (c : Site) (w : BitVec 128)
  /-- KEEPER_LOAD (R117). -/
  | keeperLoad (c : Site)
  /-- PASS_START (R120). -/
  | passStart (c : Site)
  /-- RESTAGE (R129). -/
  | restage (c : Site)
  /-- CHUNK_SUM_WRITE (R122). -/
  | chunkSumWrite (c : Site) (m : Fin 256) (n : Fin 96)
  /-- AUDIT_DUE (R135). -/
  | auditDue (c : Site)
  /-- AUDIT_NOW (R135). -/
  | auditNow (c : Site)
  /-- ROW_AUDIT (R136). -/
  | rowAudit (c : Site)
  /-- AUDIT_END (R137). -/
  | auditEnd (c : Site) (rows : BitVec 100)
  /-- PROMOTION (R140). -/
  | promotion (c : Site)
  /-- CORE_LOSS (R563). -/
  | coreLoss (c : Site) (cause : Fin 4)
  /-- ITEM_RETRY (R565). -/
  | itemRetry (q : Queue) (k : Nat) (c : Site)
  /-- SU_CTR_ADD (R411). -/
  | suCtrAdd (p : Port) (n : Counter) (v : Word)
  /-- WATCH_GRANT (R414). -/
  | watchGrant
  /-- HOST_WATCH_REGISTER (R453). -/
  | hostWatchRegister (p : Port) (i : Fin 64) (v : Word)
  /-- HOST_WATCH_WITHDRAW (R453). -/
  | hostWatchWithdraw (p : Port) (i : Fin 64) (v : Word)
  /-- STEP_SYNC_IN_PULSE (R444). -/
  | stepSyncInPulse
  /-- STEP_SYNC_OUT_END (R447). -/
  | stepSyncOutEnd
  /-- STEP_SYNC_IN_IGNORE (R450). -/
  | stepSyncInIgnore (pin : Bool)
  /-- STEP_SYNC_OUT_DISABLE (R450). -/
  | stepSyncOutDisable
  /-- REARM (R450). -/
  | rearm
  /-- TELEMETRY_ROLL (R710). -/
  | telemetryRoll
  /-- HUB_REQUEST_ARRIVAL (R303). -/
  | hubRequestArrival (h : Hub) (r : MemReq)
  /-- REQUEST_PERFORMED (R306). -/
  | requestPerformed (h : Hub) (i : Nat) (e : ReadFact)
  /-- SPARE_COPY_END (R300). -/
  | spareCopyEnd (h : Hub)
  /-- PATROL_SCRUB (R299). -/
  | patrolScrub (h : Hub) (a : BitVec 42) (e : ReadFact)
  /-- PREFETCH_FETCH (R322). -/
  | prefetchFetch (s : StreamNo) (h : Hub)
  /-- FETCH_RETURN (R334). -/
  | fetchReturn (h : Hub) (i : Nat)
  /-- CONSUMING_READ (R316); `es` is what the prefetch buffers' code reported of lines that it takes (R328); a line not named was clean. -/
  | consumingRead (c : Site) (i : Nat) (es : List (BitVec 42 × EccFact))
  /-- HOST_BAR2_READ (R284). -/
  | hostBar2Read (p : Port) (off : BitVec 42) (len : Nat)
  /-- HOST_BAR2_WRITE (R284). -/
  | hostBar2Write (p : Port) (off : BitVec 42) (bytes : List Byte)
  /-- PCIE_CONFIG_REQUEST (R626). -/
  | pcieConfigRequest (p : Port) (r : CfgReq)
  /-- DATA_FLIT (R466); `fec` is none for a flit that the FEC delivers, else how many codewords that it could not correct are first
met with this flit, which they touch (R459). -/
  | dataFlit (l : Link) (fec : Option Nat) (f : Flit)
  /-- NAK (R467); `fec` as for DATA_FLIT. -/
  | nak (l : Link) (fec : Option Nat) (f : Flit)
  /-- REPLAY_TIMEOUT (R467). -/
  | replayTimeout (l : Link)
  /-- TRAINING (R471); on an UP port, the peer's, of a sparing that the peer has begun (R473). -/
  | training (l : Link)
  /-- TRAINING_END (R471). -/
  | trainingEnd (l : Link) (r : TrainFact)
  /-- LANE_FAIL (R472). -/
  | laneFail (l : Link) (i : Fin 5)
  /-- SPARING_END (R473). -/
  | sparingEnd (l : Link)
  /-- RETRAIN (R486). -/
  | retrain (l : Link)
  /-- READ (R462). -/
  | read (l : Link) (m : MsgHead)
  /-- WRITE (R462). -/
  | write (l : Link) (m : MsgHead) (data : List Line)
  /-- WRITE_MASKED (R462). -/
  | writeMasked (l : Link) (m : MsgHead) (data : List Line)
  /-- READ_DATA (R464). -/
  | readData (l : Link) (m : MsgHead) (data : List Line)
  /-- WRITE_DONE (R464). -/
  | writeDone (l : Link) (m : MsgHead)
  /-- REFUSED (R464). -/
  | refused (l : Link) (m : MsgHead)
  /-- GATED (R464). -/
  | gated (l : Link) (m : MsgHead)
  /-- ECC_FAIL (R464). -/
  | eccFail (l : Link) (m : MsgHead)
  /-- UNREACHABLE (R484). -/
  | unreachable (l : Link) (m : MsgHead)
  /-- REQUEST_TIMEOUT (R485). -/
  | requestTimeout (tag : Nat)
  /-- CHUNK (R496). -/
  | chunk (l : Link) (m : MsgHead) (data : List Line)
  /-- ARRIVE (R434). -/
  | arrive (l : Link) (m : MsgHead)
  /-- RELEASE (R434). -/
  | release (l : Link) (m : MsgHead)
  /-- CANCEL (R435). -/
  | cancel (l : Link) (m : MsgHead)
  /-- LOST (R483). -/
  | lost (l : Link) (m : MsgHead)
  /-- WARM_RESET (R553). -/
  | warmReset (sites : List SiteFact)
  /-- MOD_RESET_N (R552). -/
  | modResetN
  /-- DEVICE_FAULT (R562). -/
  | deviceFault
  /-- ALWAYS_ON_FAULT (R562). -/
  | alwaysOnFault
  /-- POWER_ON (R558). -/
  | powerOn (vin : BitVec 16)
  /-- NIMTIA_BOOT (R618). -/
  | nimtiaBoot (cool : Fin 4) (slot : Fin 64) (cfg fwOk : Bool)
  /-- PWR_EN_ASSERT (R618). -/
  | pwrEnAssert (vin : BitVec 16)
  /-- START_UP (R619). -/
  | startUp (f : StartFacts)
  /-- PWR_EN_DEASSERT (R557). -/
  | pwrEnDeassert
  /-- VIN_UNDERVOLTAGE (R615). -/
  | vinUndervoltage (vin : BitVec 16)
  /-- VIN_OVERVOLTAGE (R615). -/
  | vinOvervoltage (vin : BitVec 16)
  /-- EFUSE_TRIP (R616). -/
  | efuseTrip
  /-- EFUSE_RETRY (R616). -/
  | efuseRetry
  /-- REFERENCE_LOSS (R589). -/
  | referenceLoss
  /-- REFERENCE_RETURN (R590). -/
  | referenceReturn
  /-- HOLDOVER_END (R591). -/
  | holdoverEnd
  /-- LIMITER_PERIOD (R608). -/
  | limiterPeriod (m : Measures)
  /-- SENSOR_FAULT (R607). -/
  | sensorFault (u : Fin 32) (i : Fin 2)
  /-- STRAP_CHANGE (R725). -/
  | strapChange (cool : Fin 4) (slot : Fin 64) (cfg : Bool)
  /-- PERST_N (R628). -/
  | perstN (p : Port)
  /-- HOST_PORT_LOST (R562). -/
  | hostPortLost (p : Port)
  /-- PWR_GATE_WRITE (R597). -/
  | pwrGateWrite (p : Port) (hi : Bool) (v : Word)
  /-- GATE_OFF (R597). -/
  | gateOff (b : Fin 44)
  /-- LPDDR5X_GROUP_READY (R598). -/
  | lpddr5xGroupReady (h : Hub)
  /-- CLK_OBS_WRITE (R593). -/
  | clkObsWrite (v : Word)
  /-- LOAD_CONFIG (R643). -/
  | loadConfig (p : Port)
  /-- ACTIVATE_FIRMWARE (R688). -/
  | activateFirmware (p : Port)
  /-- SET_POWER_PROFILE (R603). -/
  | setPowerProfile (p : Port)
  /-- TAKEOVER_QUEUES (R571). -/
  | takeoverQueues (p : Port)
  /-- DEBUG_UNLOCK (R675). -/
  | debugUnlock (p : Port)
  /-- KEY_ROLL (R663). -/
  | keyRoll (p : Port)
  /-- FUSE_COMMIT (R666). -/
  | fuseCommit (p : Port)
  /-- RESET_DEVICE (R552). -/
  | resetDevice (p : Port)
  /-- ZEROIZE (R667). -/
  | zeroize (p : Port)
  /-- GET_IDENTITY (R671). -/
  | getIdentity (p : Port)
  /-- ATTEST (R672). -/
  | attest (p : Port)
  /-- BACKOFF_END (R662). -/
  | backoffEnd (p : Port)
  /-- BEGIN (R682). -/
  | fwuBegin (p : Port)
  /-- WRITE_BLOCK (R683). -/
  | writeBlock (p : Port)
  /-- STAGE (R686). -/
  | fwuStage (p : Port)
  /-- FWU_ABORT (R699). -/
  | fwuAbort (p : Port)
  /-- COMMIT (R697). -/
  | fwuCommit (p : Port)
  /-- REVERT (R697). -/
  | fwuRevert (p : Port)
  /-- RESTART (R698). -/
  | fwuRestart (p : Port)
  /-- ACTIVATION_SWITCH (R692). -/
  | activationSwitch
  /-- ACTIVATION_CANCEL (R693). -/
  | activationCancel
  /-- ACTIVATION_REVERT (R694). -/
  | activationRevert
  /-- TALLY_WRITE (R705). -/
  | tallyWrite (ok : Bool)
  /-- TALLY_SAMPLE (R701). -/
  | tallySample (lanes : List (Fin 80 × BitVec 32))
  /-- SNAP (R713). -/
  | snap (p : Port)
  /-- WRITE_NOW (R706). -/
  | writeNow
  /-- READ_REG (R730). -/
  | readReg (t : Transport) (off : BitVec 26) (count : Nat)
  /-- READ_TALLY (R730). -/
  | readTally (t : Transport) (area chunk : Nat)
  /-- READ_LOG (R730). -/
  | readLog (t : Transport) (n : DWord)
  /-- READ_IMAGE (R730). -/
  | readImage (t : Transport) (chunk : Nat)
  /-- GET_STATUS (R730). -/
  | getStatus (t : Transport)
  /-- ALERT_RESPONSE (R732). -/
  | alertResponse
  /-- BUS_RECOVERY (R733). -/
  | busRecovery (ok : Bool)
  /-- BUS_SENSE (R734). -/
  | busSense (high : Bool)
  /-- EXTEST (R674). -/
  | extest
  /-- SAMPLE_PRELOAD (R673). -/
  | samplePreload (cells : BitVec 20)
  /-- CLAMP (R674). -/
  | clamp
  /-- HIGHZ (R674). -/
  | highz
  /-- DBG_ACCESS (R676). -/
  | dbgAccess (halt : Option (Site × Bool))
  /-- BYPASS (R673). -/
  | bypass
  /-- REGISTER_WRITE (R14). -/
  | registerWrite (p : Port) (off : BitVec 26) (width : Nat) (v : DWord)
  /-- ALWAYS_ON_POWER_LOSS (R557). -/
  | alwaysOnPowerLoss
  /-- HOST_PORT_LINK_UP (R628). -/
  | hostPortLinkUp (p : Port) (speed : Fin 6) (faults : BitVec 16)
  /-- IDLE_FLIT (R460); `fec` as for DATA_FLIT. -/
  | idleFlit (l : Link) (fec : Option Nat) (f : Flit)
  /-- UNKNOWN_KIND_MESSAGE (R463), on the virtual channel whose flits brought it. -/
  | unknownKindMessage (l : Link) (vc : Fin 4) (kind : Byte) (m : MsgHead) (data : List Line)
  /-- SPARING_TIMEOUT (R475). -/
  | sparingTimeout (l : Link)
  /-- MALFORMED_INSTRUCTION (R228). -/
  | malformedInstruction (c : Site)
  /-- HOST_BAR4_WRITE (R683). -/
  | hostBar4Write (p : Port) (off : BitVec 20) (bytes : List Byte)
  /-- SEC_CTL_GO (R653). -/
  | secCtlGo (p : Port)
  /-- ENTDAA (R729). -/
  | entdaa (addr : BitVec 7)
  /-- TEST_LOGIC_RESET (R673). -/
  | testLogicReset
  deriving DecidableEq, Repr

end Sys2Proof
end

