-- ==== Sys2Proof/Decode.lean ====
section
/-!
DEFINITION. Commands from the bits of the opcode table. No row of spec/opcode_table.json gives a field any bits (every
row's list of fields is empty): a command reaches the block as a named event, not as a word. So no word spells one.
-/
namespace Sys2Proof

/-- The command that a word spells by the table's bits: none, since the table gives no row any bits. -/
def decodeTableWord (_nbits _w : Nat) : Option Instr := none

end Sys2Proof
end

