-- ==== Sys2Proof/Config.lean ====
section
/-!
DEFINITION. What an implementation fixes and the spec leaves open: free values without a body, which nothing can evaluate.
Each stands in a log entry.
-/
namespace Sys2Proof

/-- The estimate instructions' own results (06 R235; log 8): a function of the operand bits alone. A result outside the
instruction's bound is not taken; the meaning then uses the correctly rounded value, which meets it. -/
opaque Config.estimate (op : Nat) (x : Word) : Word

/-- The free values of a step whose result the spec leaves open (log 5): the use's number from State's counter, and which of
its values. -/
opaque Config.free (n i : Nat) : Nat

/-- The public device key, 68 bytes (17 R648, R668; log 10). -/
opaque Config.deviceKey : List Byte

/-- One signature of the device key, 2,820 bytes, on a message with an index of the key (17 R669, R672; log 10). -/
opaque Config.deviceSignature (index : Nat) (message : List Byte) : List Byte

/-- The vendor slot that signed the device certificate, and its signature of 2,820 bytes (17 R671; log 10). -/
opaque Config.certSlot : Bool
opaque Config.certSignature : List Byte

/-- The two vendor public keys of 68 bytes as module flash holds them, and their hashes in fuses (17 R649; log 11). -/
opaque Config.vendorKey (i : Nat) : List Byte
opaque Config.vendorHash (i : Nat) : List Byte

/-- PCIe configuration registers whose contents the spec does not give (20 R726; log 13). -/
opaque Config.pcieConfig (port reg : Nat) : Word

end Sys2Proof
end

