-- ==== Sys2Proof/Machine/Num.lean ====
section
/-!
DEFINITION. Exact numbers and roundings: the values of 02, the floating formats' parameters (02 R52, R64), reading and
rounding of one value, and the FP32 operations that the vector unit, the engines and the update unit share.
-/
namespace Sys2Proof.Machine

/-- A value of a format of 02: a NaN, an infinity, or `(-1)^neg * m * 2^e` exactly; zero keeps its sign. -/
inductive Val where
  | nan
  | inf (neg : Bool)
  | fin (neg : Bool) (m : Nat) (e : Int)
  deriving DecidableEq, Repr

/-- The flags of an item's final record (02 R87). -/
structure Flags where
  inv : Bool := false
  nanIn : Bool := false
  ovf : Bool := false
  unf : Bool := false
  inexact : Bool := false
  nonfinite : Bool := false
  deriving DecidableEq, Repr

/-- A rounding mode of one conversion: nearest even, toward zero, or stochastic with 32 drawn bits (02 R70, R74). -/
inductive Rnd where
  | rne
  | rtz
  | sr (r : Nat)
  deriving DecidableEq, Repr

/-- Parameters of a floating format (02 R52, R53, R64). `maxCode` is the code of the largest finite magnitude. -/
structure FFmt where
  ebits : Nat
  fbits : Nat
  bias : Int
  maxCode : Nat
  infCode : Option Nat
  nanCode : Option Nat
  deriving DecidableEq, Repr

def fp32Fmt : FFmt := ⟨8, 23, 127, 0x7F7FFFFF, some 0x7F800000, some 0x7FC00000⟩
def bf16Fmt : FFmt := ⟨8, 7, 127, 0x7F7F, some 0x7F80, some 0x7FC0⟩
def fp16Fmt : FFmt := ⟨5, 10, 15, 0x7BFF, some 0x7C00, some 0x7E00⟩
def e4m3Fmt : FFmt := ⟨4, 3, 7, 0x7E, none, some 0x7F⟩
def e5m2Fmt : FFmt := ⟨5, 2, 15, 0x7B, some 0x7C, some 0x7E⟩
def e3m2Fmt : FFmt := ⟨3, 2, 3, 0x1F, none, none⟩
def e2m3Fmt : FFmt := ⟨2, 3, 1, 0x1F, none, none⟩
def e2m1Fmt : FFmt := ⟨2, 1, 1, 0x7, none, none⟩
/-- The accumulator format (02 R64). -/
def fp32xFmt : FFmt := ⟨10, 23, 511, 0x1FF7FFFFF, some 0x1FF800000, some 0x1FFC00000⟩
/-- IEEE binary64, which 13 R542 computes its powers in. -/
def fp64Fmt : FFmt := ⟨11, 52, 1023, 0x7FEFFFFFFFFFFFFF, some 0x7FF0000000000000, some 0x7FF8000000000000⟩

/-- `2^e` for a nonnegative integer exponent, 1 below zero. -/
def pow2 (e : Int) : Nat := 2 ^ e.toNat

/-- floor(log2 (m * 2^e)) for nonzero m. -/
def ilog2 (m : Nat) (e : Int) : Int := (Nat.log2 m : Int) + e

/-- Comparison of two nonnegative dyadic numbers. -/
def dyLe (m₁ : Nat) (e₁ : Int) (m₂ : Nat) (e₂ : Int) : Bool :=
  let e := min e₁ e₂
  decide (m₁ * pow2 (e₁ - e) ≤ m₂ * pow2 (e₂ - e))

def dyLt (m₁ : Nat) (e₁ : Int) (m₂ : Nat) (e₂ : Int) : Bool := !dyLe m₂ e₂ m₁ e₁

def dyEq (m₁ : Nat) (e₁ : Int) (m₂ : Nat) (e₂ : Int) : Bool := dyLe m₁ e₁ m₂ e₂ && dyLe m₂ e₂ m₁ e₁

/-- The finite magnitude a code without its sign spells (02 R52): a zero exponent field is zero or subnormal. -/
def FFmt.magOf (f : FFmt) (code : Nat) : Nat × Int :=
  let x := code >>> f.fbits
  let fr := code % 2 ^ f.fbits
  if x = 0 then (fr, 1 - f.bias - f.fbits) else (fr + 2 ^ f.fbits, (x : Int) - f.bias - f.fbits)

/-- The value of an encoding (02 R52, R53): every NaN encoding reads as NaN. -/
def FFmt.read (f : FFmt) (bits : Nat) : Val :=
  let neg := bits.testBit (f.ebits + f.fbits)
  let code := bits % 2 ^ (f.ebits + f.fbits)
  if code ≤ f.maxCode then let me := f.magOf code; .fin neg me.1 me.2
  else if f.infCode = some code then .inf neg
  else .nan

/-- A sign bit in the place the format has it. -/
def FFmt.signed (f : FFmt) (neg : Bool) (code : Nat) : Nat := code + b01 neg * 2 ^ (f.ebits + f.fbits)

/-- The default NaN of the format, or its largest code where it has none (02 R53). -/
def FFmt.nan (f : FFmt) : Nat := f.nanCode.getD 0

/-- Whether the discarded part `rem / 2^sh` moves the kept part away from zero (02 R73, R76). -/
def roundUp (mode : Rnd) (kept rem sh : Nat) : Bool :=
  match mode with
  | .rne => decide (2 * rem > 2 ^ sh) || (decide (2 * rem = 2 ^ sh) && decide (kept % 2 = 1))
  | .rtz => false
  | .sr r => decide (2 ^ 32 ≤ (rem * 2 ^ 32) / 2 ^ sh + r)

/-- A magnitude rounded at unit `2^q`: the count of units, and whether it is inexact. -/
def roundAt (mode : Rnd) (m : Nat) (e q : Int) : Nat × Bool :=
  if q ≤ e then (m * pow2 (e - q), false)
  else
    let sh := (q - e).toNat
    let kept := m >>> sh
    let rem := m % 2 ^ sh
    (if roundUp mode kept rem sh then kept + 1 else kept, decide (rem ≠ 0))

/-- The unit in the last place of a nonzero magnitude in the format, its exponent unbounded above. -/
def FFmt.ulpExp (f : FFmt) (m : Nat) (e : Int) : Int := max (ilog2 m e) (1 - f.bias) - f.fbits

/-- A rounded magnitude `k * 2^q` as a code; `k` fits the precision by `roundAt` at `ulpExp`. -/
def FFmt.codeOf (f : FFmt) (k : Nat) (q : Int) : Nat :=
  if k < 2 ^ f.fbits then k
  else if k = 2 ^ (f.fbits + 1) then (q + 1 + f.fbits + f.bias).toNat * 2 ^ f.fbits
  else (q + f.fbits + f.bias).toNat * 2 ^ f.fbits + (k - 2 ^ f.fbits)

/-- One rounding of a nonzero finite magnitude (02 R73, R76, R78): `none` where it overflows; else the code and
whether it differs from the exact value. -/
def FFmt.roundMag (f : FFmt) (mode : Rnd) (m : Nat) (e : Int) : Option (Nat × Bool) :=
  let big := f.magOf f.maxCode
  let tooBig := match mode with
    | .rne => dyLe (2 * big.1 + 1) (big.2 - 1) m e
    | _ => dyLe (big.1 + 1) big.2 m e
  if tooBig then none
  else
    let q := f.ulpExp m e
    let k := roundAt mode m e q
    if dyLt big.1 big.2 k.1 q then (match mode with | .sr _ => none | _ => some (f.maxCode, k.2))
    else some (f.codeOf k.1 q, k.2)

/-- Rounding to nearest even with infinity on overflow and no flags: the operations of R72 and R63. -/
def FFmt.rne (f : FFmt) (v : Val) : Nat :=
  match v with
  | .nan => f.nan
  | .inf n => f.signed n (f.infCode.getD f.maxCode)
  | .fin n 0 _ => f.signed n 0
  | .fin n m e =>
    match f.roundMag .rne m e with
    | none => f.signed n (f.infCode.getD f.maxCode)
    | some (c, _) => f.signed n c

namespace Val

def isNan : Val → Bool
  | .nan => true
  | _ => false

def isInf : Val → Bool
  | .inf _ => true
  | _ => false

def isFinite : Val → Bool
  | .fin _ _ _ => true
  | _ => false

def isZero : Val → Bool
  | .fin _ 0 _ => true
  | _ => false

def neg : Val → Val
  | .nan => .nan
  | .inf n => .inf (!n)
  | .fin n m e => .fin (!n) m e

def abs : Val → Val
  | .nan => .nan
  | .inf _ => .inf false
  | .fin _ m e => .fin false m e

/-- Whether the sign bit is set. -/
def sign : Val → Bool
  | .nan => false
  | .inf n => n
  | .fin n _ _ => n

/-- The exact product (02 R68), NaN where the operands are zero and infinity. -/
def mul : Val → Val → Val
  | .nan, _ => .nan
  | _, .nan => .nan
  | .inf a, .inf b => .inf (a != b)
  | .inf a, .fin b m _ => if m = 0 then .nan else .inf (a != b)
  | .fin a m _, .inf b => if m = 0 then .nan else .inf (a != b)
  | .fin a m e, .fin b n f => .fin (a != b) (m * n) (e + f)

/-- A signed dyadic as an integer at exponent `e`. -/
def toIntAt (neg : Bool) (m : Nat) (e e0 : Int) : Int :=
  let v : Int := (m * pow2 (e - e0) : Nat)
  if neg then -v else v

/-- The exact sum (02 R69): opposite infinities give NaN; an exact zero is −0 only when both terms are −0. -/
def add : Val → Val → Val
  | .nan, _ => .nan
  | _, .nan => .nan
  | .inf a, .inf b => if a = b then .inf a else .nan
  | .inf a, .fin _ _ _ => .inf a
  | .fin _ _ _, .inf b => .inf b
  | .fin a m e, .fin b n f =>
    let g := min e f
    let t := toIntAt a m e g + toIntAt b n f g
    if t = 0 then .fin (a && b && m == 0 && n == 0) 0 0
    else .fin (decide (t < 0)) t.natAbs g

/-- The quotient, correctly rounded later: 80 quotient bits and a sticky bit below them, so that one rounding to any
format of this model is exact. Division of a nonzero value by zero is an infinity (13 R541). -/
def div : Val → Val → Val
  | .nan, _ => .nan
  | _, .nan => .nan
  | .inf _, .inf _ => .nan
  | .inf a, .fin b _ _ => .inf (a != b)
  | .fin a _ _, .inf b => .fin (a != b) 0 0
  | .fin a m e, .fin b n f =>
    if n = 0 then (if m = 0 then .nan else .inf (a != b))
    else if m = 0 then .fin (a != b) 0 0
    else
      let k := 80 + Nat.log2 n
      let q := (m * 2 ^ k) / n
      let r := (m * 2 ^ k) % n
      .fin (a != b) (2 * q + (if r = 0 then 0 else 1)) (e - f - k - 1)

/-- The square root with a sticky bit below 80 bits; of −0 it is −0, of a value below zero NaN (13 R541). -/
def sqrt : Val → Val
  | .nan => .nan
  | .inf n => if n then .nan else .inf false
  | .fin n m e =>
    if m = 0 then .fin n 0 0
    else if n then .nan
    else
      let e' : Int := if e % 2 = 0 then e else e - 1
      let m' := if e % 2 = 0 then m else 2 * m
      let s := Nat.sqrt (m' * 4 ^ 80)
      .fin false (2 * s + (if s * s = m' * 4 ^ 80 then 0 else 1)) (e' / 2 - 81)

/-- Equality of R91: unordered with NaN, zeros equal. -/
def eqv : Val → Val → Bool
  | .nan, _ => false
  | _, .nan => false
  | .inf a, .inf b => a == b
  | .inf _, .fin _ _ _ => false
  | .fin _ _ _, .inf _ => false
  | .fin a m e, .fin b n f => (m == 0 && n == 0) || (a == b && dyEq m e n f)

/-- Less-than of R91. -/
def lt : Val → Val → Bool
  | .nan, _ => false
  | _, .nan => false
  | .inf a, .inf b => a && !b
  | .inf a, .fin _ _ _ => a
  | .fin _ _ _, .inf b => !b
  | .fin a m e, .fin b n f =>
    let g := min e f
    decide (toIntAt a m e g < toIntAt b n f g)

def le (a b : Val) : Bool := lt a b || eqv a b

/-- Maximum of R89. -/
def max (a b : Val) : Val :=
  if a.isNan || b.isNan then .nan
  else if a.isZero && b.isZero then (if a.sign then b else a)
  else if lt a b then b else a

/-- Minimum of R89. -/
def min (a b : Val) : Val :=
  if a.isNan || b.isNan then .nan
  else if a.isZero && b.isZero then (if a.sign then a else b)
  else if lt b a then b else a

end Val

/-- An FP32 encoding's value. -/
def f32 (w : Word) : Val := fp32Fmt.read w.toNat
/-- A value rounded to FP32, nearest even (02 R72). -/
def toF32 (v : Val) : Word := BitVec.ofNat 32 (fp32Fmt.rne v)

def fadd (a b : Word) : Word := toF32 ((f32 a).add (f32 b))
def fneg (a : Word) : Word := a ^^^ 0x80000000#32
def fsub (a b : Word) : Word := toF32 ((f32 a).add (f32 b).neg)
def fmul (a b : Word) : Word := toF32 ((f32 a).mul (f32 b))
/-- `a * b + c`, rounded once (06 VFMA). -/
def ffma (a b c : Word) : Word := toF32 (((f32 a).mul (f32 b)).add (f32 c))
def fdiv (a b : Word) : Word := toF32 ((f32 a).div (f32 b))
def fsqrt (a : Word) : Word := toF32 (f32 a).sqrt
def fmax (a b : Word) : Word := toF32 ((f32 a).max (f32 b))
def fmin (a b : Word) : Word := toF32 ((f32 a).min (f32 b))

end Sys2Proof.Machine
end

