-- ==== Sys2Proof/Machine/Table.lean ====
section
/-!
DEFINITION. Sparse tables in one canonical form: keys strictly rising, and no entry equal to the value an unlisted key
has. Memory, counters and the numbered units of the block are held so, and equal contents are equal data.
-/
namespace Sys2Proof.Machine

/-- A sparse table of values by number. -/
abbrev Table (α : Type) := List (Nat × α)

/-- The value at a key; `d` where the key is not listed. -/
def tget {α : Type} (d : α) : Table α → Nat → α
  | [], _ => d
  | (k', v) :: t, k => if k = k' then v else tget d t k

/-- A value put at its place by rising key. -/
def tins {α : Type} : Table α → Nat → α → Table α
  | [], k, v => [(k, v)]
  | (k', v') :: t, k, v =>
    if k < k' then (k, v) :: (k', v') :: t
    else if k = k' then (k, v) :: t
    else (k', v') :: tins t k v

/-- The table with `v` at `k`, in canonical form: the default is not listed. -/
def tput {α : Type} [DecidableEq α] (d : α) (t : Table α) (k : Nat) (v : α) : Table α :=
  if v = d then t.filter fun e => decide (e.1 ≠ k) else tins t k v

/-- Every listed value changed in its place; the functions it is used with keep the default, and give it for no other value. -/
def tmap {α : Type} (f : α → α) (t : Table α) : Table α := t.map fun e => (e.1, f e.2)

/-- Keys strictly rise above `lo` and no value is the default. -/
def tokFrom {α : Type} [DecidableEq α] (d : α) : Nat → Table α → Bool
  | _, [] => true
  | lo, (k, v) :: t => decide (lo ≤ k) && !decide (v = d) && tokFrom d (k + 1) t

/-- The canonical form. -/
def tok {α : Type} [DecidableEq α] (d : α) (t : Table α) : Bool := tokFrom d 0 t

end Sys2Proof.Machine
end

