-- ==== Sys2Proof/Machine/CoreState.lean ====
section
/-!
DEFINITION. The state of one core site: its array (03), its accumulator tiles (04), its masks (05) and its sequencer
(06). Every field is plain data.
-/
namespace Sys2Proof.Machine

/-- A shape stamp (04 R158); the sizes are held minus one, as TS_STAMP shows them. -/
structure Stamp where
  valid : Bool
  nM1 : BitVec 7
  mM1 : BitVec 8
  deriving DecidableEq, Repr

def Stamp.invalid : Stamp := ⟨false, 0, 0⟩

/-- A captured invalid event with the order of 04 R173: issue number, row, column, k code. -/
structure XCap where
  issue : Nat
  m : Nat
  n : Nat
  k : Nat
  kind : Nat
  acc : Nat
  tag : Word
  deriving DecidableEq, Repr

/-- One chunk sum on its way to the tile (03 R108 to R113): the window as `v * 2^e`, its sticky and special bits, whether
every term is −0, and the product events that the cells raised. -/
structure ChunkSum where
  m : Nat
  n : Nat
  v : Int
  e : Int
  sticky : Bool
  nan : Bool
  pinf : Bool
  ninf : Bool
  allNegZero : Bool
  prodInv : Option Nat
  nanIn : Bool
  deriving DecidableEq, Repr

/-- Where a tile instruction of the queue stands (03, pass timing; 04 R185 to R189): not begun, its keeper load begun, waiting for
a restage, at work (a TMM's rows stream, a TACCRD has written rows), or cut by a stop with rows left. -/
inductive PassPhase where
  | waiting
  | loaded
  | restage
  | streaming
  | cut
  deriving DecidableEq, Repr

/-- A tile instruction in the tile queue (06 R226): its word, issue number, mask snapshot (05 R208) and, for a TACCRD, s(ORGREG)
at issue; for a ZERO TMM, whether its stamp was new to the tile and whether its clearing is still to come (04 R162, R163); for a
TMM, whether it loads no keeper, its bank or banks (1 K0, 2 K1, 3 both), the keeper rows and block scales read from core memory,
the first runner (or output) row and keeper row still to do, the row its streaming began with, its cycles I, L, S and T, and its
chunk sums in flight; for a TACCRD, the row before which it pauses; whether it has raised INV, and whether the TS_ registers record
it. -/
structure Pass where
  word : BitVec 128
  issue : Nat
  mask : BitVec 256 := BitVec.allOnes 256
  org : DWord := 0
  fresh : Bool := false
  clear : Bool := false
  reuse : Bool := false
  bank : Nat := 0
  phase : PassPhase := .waiting
  row : Nat := 0
  first : Nat := 0
  krow : Nat := 0
  upto : Option Nat := none
  keeper : List (List Nat) := []
  kscales : List (List Nat) := []
  cycI : Int := 0
  cycL : Int := 0
  cycS : Int := 0
  cycT : Int := 0
  sums : List ChunkSum := []
  inv : Bool := false
  recorded : Bool := false
  deriving DecidableEq, Repr

/-- The keeper reuse latch: the seven values of 04 R167, the bank that holds the keeper, and its block scales by column, which
stay with the latched keeper (04 R169, 02 R62). -/
structure KLatch where
  kaddr : Nat
  ksaddr : Nat
  k : Nat
  n : Nat
  kfmt : Nat
  kconv : Bool
  tk : Bool
  bank : Nat
  scales : List (List Nat)
  deriving DecidableEq, Repr

/-- One row of the runner reuse latch (04 R171): the core-memory lines it was read from, its format and its skew epoch. -/
structure RLatch where
  line : Nat
  lines : Nat
  fmt : Nat
  epoch : BitVec 16
  deriving DecidableEq, Repr

/-- The cycle variables of the pass-start procedure (05 R201). -/
structure Pipe where
  u0 : Int
  u1 : Int
  port : Int
  t : Int
  rs : Int
  re : Int
  deriving DecidableEq, Repr

/-- The array of a core (03 R93 to R144) with its transposing buffer `rook`, by runner row or keeper row times 96 and k or column
(05 R194). A keeper latch not listed has the free value of `base`, or zero where no audit has
overwritten it (03 R137; log 5). `passes` counts to 2^20; the register shows at most 0xFFFFF. -/
structure ArrayState where
  failed : BitVec 100
  newFailed : BitVec 100
  epoch : BitVec 16
  auditBad : Bool
  firstFail : Nat
  passes : Nat
  auditDtc : DWord
  auditDue : Bool
  auditRun : Option DWord
  restages : Word
  held : Bool
  k0 : Table (Option (BitVec 16))
  k1 : Table (Option (BitVec 16))
  wsign : Table (Option Bool)
  base : Option Nat
  active : Nat
  lastLoad : Nat
  pipe : Pipe
  kLatch : Option KLatch
  rLatch : List RLatch
  rook : Table (BitVec 16)
  deriving DecidableEq, Repr

/-- A core's skew profile and epoch in one reading (03 R126). -/
structure Snap where
  failed : BitVec 100
  epoch : BitVec 16
  deriving DecidableEq, Repr

/-- The accumulator tiles, their stamps and the TS_ registers (04 R158, R193), and the masks (05 R207). Element (m, n) of
tile t has key 24576 t + 96 m + n. `nans` are the elements whose NaN an INV produced (02 R87). -/
structure TileState where
  a : Table (BitVec 34)
  nans : Table Bool
  stamps : Vector Stamp 4
  rowStart : Nat
  krowStart : Nat
  interrupted : Bool
  lbank : Nat
  insnInv : Bool
  insn : BitVec 128
  xcap : Option XCap
  xcount : Nat
  flags : Flags
  masks : Vector (BitVec 256) 16
  queue : List Pass
  issueNo : Nat
  deriving DecidableEq, Repr

/-- A stream operation in a slot (06 R244): an SRD with its lines once the consuming read has taken them, or an SWR. -/
inductive SlotOp where
  | srd (line count stream : Nat) (data : Option (List Byte))
  | swr (line count addr : Nat)
  deriving DecidableEq, Repr

/-- What the sequencer does (06 R266). -/
inductive SeqPhase where
  | idle
  | running
  | waitC
  | waitW (wire : Nat)
  | waitH
  | waitF
  | stopping
  deriving DecidableEq, Repr

/-- A stop request in force or held off by an audit (03 R136, 06 R263): none, one that ends the work, or a preemption's. -/
inductive StopReq where
  | none
  | drop
  | save
  deriving DecidableEq, Repr

/-- The item whose part runs on the core (04 R152, 06 R260): its queue and QSEQ, context, extent, instance, and options. For a
MATMUL the instance is its region (09 R356), with the passes of the region already made, the sums of its streamed rows, and the
number of the free values of its staging (09 R749). -/
structure Run where
  q : Nat
  k : Nat
  ctx : Nat
  extent : Nat
  job : Bool
  inst : Nat
  count : Nat
  vflags : Bool
  seed : DWord
  trap : Bool
  tag : Word
  image : Nat
  ilen : Nat
  done : Nat := 0
  sums : List (List (BitVec 34)) := []
  base : Nat := 0
  deriving DecidableEq, Repr

/-- The sequencer and vector unit of a core (06 R222). -/
structure SeqState where
  phase : SeqPhase
  stop : StopReq
  halted : Bool
  run : Option Run
  imem : Table Word
  pc : BitVec 14
  s : Vector DWord 32
  v : Vector (Vector Word 64) 32
  p : Vector DWord 8
  slots : List SlotOp
  wake : BitVec 16
  outbox : List (Nat × Nat)
  deriving DecidableEq, Repr

/-- One core site. -/
structure Core where
  arr : ArrayState
  tile : TileState
  seq : SeqState
  deriving DecidableEq, Repr

def Pipe.reset : Pipe := ⟨0, 0, 0, -1, -1, -1⟩

def ArrayState.reset : ArrayState :=
  { failed := 0, newFailed := 0, epoch := 0, auditBad := false, firstFail := 0x7F, passes := 0, auditDtc := 0,
    auditDue := false, auditRun := none, restages := 0, held := false, k0 := [], k1 := [], wsign := [], base := none, active := 1,
    lastLoad := 0, pipe := Pipe.reset, kLatch := none, rLatch := [], rook := [] }

def TileState.reset : TileState :=
  { a := [], nans := [], stamps := Vector.replicate 4 Stamp.invalid, rowStart := 0, krowStart := 0, interrupted := false, lbank := 0,
    insnInv := false, insn := 0, xcap := none, xcount := 0, flags := {}, masks := Vector.replicate 16 (BitVec.allOnes 256),
    queue := [], issueNo := 0 }

def SeqState.reset : SeqState :=
  { phase := .idle, stop := .none, halted := false, run := none, imem := [], pc := 0, s := Vector.replicate 32 0,
    v := Vector.replicate 32 (Vector.replicate 64 0), p := Vector.replicate 8 (BitVec.allOnes 64), slots := [], wake := 0,
    outbox := [] }

/-- A core site after start-up with no failed row (03 R144, 04 R193, 06 R266). -/
def Core.reset : Core := ⟨ArrayState.reset, TileState.reset, SeqState.reset⟩

end Sys2Proof.Machine
end

