-- ==== Sys2Proof/Machine/Formats.lean ====
section
/-!
DEFINITION. The thirteen formats (02 R47): element widths and values, packing (R51), block scales (R56 to R61), stochastic
bits (R74), and conversion to every output format with its flags (R77 to R87).
-/
namespace Sys2Proof.Machine

/-- Bits per element of a format code (02 R47). -/
def fmtBits (f : Nat) : Nat :=
  if f = 0 then 32 else if f ≤ 2 then 16 else if f ≤ 6 then 8 else if f ≤ 8 then 6 else if f = 9 then 4
  else if f = 10 then 8 else if f = 11 then 4 else 8

/-- A code of the table (02 R47, R48). -/
def fmtValid (f : Nat) : Bool := decide (f ≤ 12)

/-- Whether the format has a block scale (02 R47). -/
def fmtScaled (f : Nat) : Bool := (decide (5 ≤ f) && decide (f ≤ 9)) || decide (f = 12)

/-- A permitted pairing of runner and keeper codes (02 R49). -/
def pairOk (r k : Nat) : Bool :=
  (r == 0 && k == 0) || (decide (1 ≤ r ∧ r ≤ 9) && decide (1 ≤ k ∧ k ≤ 9)) ||
    (decide (10 ≤ r ∧ r ≤ 12) && decide (10 ≤ k ∧ k ≤ 12))

/-- The floating parameters behind a code, where it is a float (02 R52). -/
def fmtFloat (f : Nat) : Option FFmt :=
  match f with
  | 0 => some fp32Fmt
  | 1 => some bf16Fmt
  | 2 => some fp16Fmt
  | 3 => some e4m3Fmt
  | 4 => some e5m2Fmt
  | 5 => some e4m3Fmt
  | 6 => some e5m2Fmt
  | 7 => some e2m3Fmt
  | 8 => some e3m2Fmt
  | 9 => some e2m1Fmt
  | _ => none

/-- A `b`-bit two's-complement number. -/
def sInt (b n : Nat) : Int := if n % 2 ^ b < 2 ^ (b - 1) then (n % 2 ^ b : Nat) else (n % 2 ^ b : Nat) - (2 ^ b : Nat)

/-- An integer as a value of scale `2^e`; zero is +0. -/
def intVal (i : Int) (e : Int) : Val := .fin (decide (i < 0)) i.natAbs e

/-- An element's value before its block scale (02 R52 to R55). -/
def elemVal (f bits : Nat) : Val :=
  match fmtFloat f with
  | some g => g.read bits
  | none => if f = 12 then intVal (sInt 8 bits) (-6) else intVal (sInt (fmtBits f) bits) 0

/-- A value times its block scale 2^(e - 127); 0xFF reads as NaN (02 R56, R60, R61). -/
def scaleVal (v : Val) (e : Nat) : Val :=
  if e = 0xFF then .nan
  else match v with
    | .fin n m x => .fin n m (x + e - 127)
    | w => w

/-- Element `i` of packed bytes of width `b` (02 R51). -/
def elemBits (bs : List Byte) (b i : Nat) : Nat :=
  (leNat ((bs.drop (b * i / 8)).take 5) >>> (b * i % 8)) % 2 ^ b

/-- The number that packed elements spell, element 0 lowest (02 R51). -/
def packNat (b : Nat) : List Nat → Nat
  | [] => 0
  | v :: vs => v % 2 ^ b + 2 ^ b * packNat b vs

/-- The bytes of a row of `n` elements of `b` bits, padded to whole lines (04 R154). -/
def rowBytes (n b : Nat) : Nat := (n * b + 511) / 512 * 64

def mix (z : BitVec 64) : BitVec 64 :=
  let z := (z ^^^ (z >>> 30)) * 0xBF58476D1CE4E5B9#64
  let z := (z ^^^ (z >>> 27)) * 0x94D049BB133111EB#64
  z ^^^ (z >>> 31)

/-- The 32 random bits of an element (02 R74). -/
def srBits (seed : BitVec 64) (m n f : Nat) : Nat :=
  let z := mix (seed ^^^ ((BitVec.ofNat 64 m <<< 32) ||| BitVec.ofNat 64 (n % 2 ^ 32)))
  (mix (z ^^^ BitVec.ofNat 64 f)).toNat >>> 32

def Flags.or (a b : Flags) : Flags :=
  ⟨a.inv || b.inv, a.nanIn || b.nanIn, a.ovf || b.ovf, a.unf || b.unf, a.inexact || b.inexact, a.nonfinite || b.nonfinite⟩

/-- Whether R88 counts a flag. -/
def Flags.counts (a : Flags) : Bool := a.inv || a.nanIn || a.ovf || a.unf || a.nonfinite

/-- Conversion of one value to a floating format without a block scale (02 R77 to R79, R81). -/
def convFloat (f : FFmt) (mode : Rnd) (sat : Bool) (v : Val) : Nat × Flags :=
  match v with
  | .nan => (f.nan, { nanIn := true, nonfinite := true })
  | .inf n =>
    match f.infCode with
    | some c => (f.signed n c, { nonfinite := true })
    | none => if sat then (f.signed n f.maxCode, { ovf := true, inexact := true }) else (f.nan, { nonfinite := true })
  | .fin n 0 _ => (f.signed n 0, {})
  | .fin n m e =>
    match f.roundMag mode m e with
    | none =>
      if sat then (f.signed n f.maxCode, { ovf := true, inexact := true })
      else match f.infCode with
        | some c => (f.signed n c, { ovf := true, inexact := true, nonfinite := true })
        | none => (f.nan, { ovf := true, inexact := true, nonfinite := true })
    | some (c, ix) => (f.signed n c, { unf := ix && dyLt m e 1 (1 - f.bias), inexact := ix })

/-- Conversion of one value to INT8 or INT4 (02 R77, R80, R81). -/
def convInt (b : Nat) (mode : Rnd) (v : Val) : Nat × Flags :=
  match v with
  | .nan => (0, { inv := true, nanIn := true })
  | .inf n => (if n then 2 ^ (b - 1) else 2 ^ (b - 1) - 1, { ovf := true, inexact := true })
  | .fin n m e =>
    let k := roundAt mode m e 0
    let lim := if n then 2 ^ (b - 1) else 2 ^ (b - 1) - 1
    if lim < k.1 then (if n then 2 ^ (b - 1) else lim, { ovf := true, inexact := true })
    else (if n then (2 ^ b - k.1) % 2 ^ b else k.1, { inexact := k.2 })

/-- Conversion of one value to a format without a block scale. -/
def convScalar (f : Nat) (mode : Rnd) (sat : Bool) (v : Val) : Nat × Flags :=
  match fmtFloat f with
  | some g => convFloat g mode sat v
  | none => convInt (fmtBits f) mode v

/-- emax of R82. -/
def mxEmax (f : Nat) : Int :=
  if f = 5 then 8 else if f = 6 then 15 else if f = 8 then 4 else if f = 7 then 2 else if f = 9 then 2 else 0

/-- floor(log2 A) over a block's finite elements, `none` where A = 0 or no element is finite (02 R82). -/
def blockLog : List Val → Option Int
  | [] => none
  | .fin _ m e :: vs =>
    if m = 0 then blockLog vs
    else match blockLog vs with
      | none => some (ilog2 m e)
      | some l => some (max l (ilog2 m e))
  | _ :: vs => blockLog vs

/-- The block scale of R82 and how it was clamped: −1 at 0, 1 at 254, 0 not. -/
def blockScale (f : Nat) (vs : List Val) : Nat × Int :=
  match blockLog vs with
  | none => (0, 0)
  | some l =>
    let e := l - mxEmax f + 127
    if e < 0 then (0, -1) else if 254 < e then (254, 1) else (e.toNat, 0)

/-- One finite quotient in the element format of an MX output (02 R83, R84, R86). -/
def mxFinite (f : Nat) (clamp : Int) (mode : Rnd) (n : Bool) (m : Nat) (e : Int) : Nat × Flags :=
  match fmtFloat f with
  | some g =>
    let big := g.magOf g.maxCode
    if m = 0 then (g.signed n 0, {})
    else if dyLt big.1 big.2 m e then (g.signed n g.maxCode, { ovf := decide (clamp = 1), inexact := true })
    else match g.roundMag mode m e with
      | none => (g.signed n g.maxCode, { inexact := true })
      | some (c, ix) =>
        (g.signed n c, { unf := ix && decide (clamp = -1) && dyLt m e 1 (1 - g.bias), inexact := ix })
  | none =>
    let k := roundAt mode m e (-6)
    let lim := if n then 128 else 127
    if lim < k.1 ∨ (clamp = 1 ∧ dyLt lim (-6) m e) then (lim, { ovf := decide (clamp = 1), inexact := true })
    else (if n then (256 - k.1) % 256 else k.1, { inexact := k.2 })

/-- The largest finite element of its sign (02 R85). -/
def mxMax (f : Nat) (n : Bool) : Nat :=
  match fmtFloat f with
  | some g => g.signed n g.maxCode
  | none => if n then 128 else 127

/-- One element of a block with scale code `s` (02 R83 to R86); `e8` where the elements are MXFP8. -/
def mxElem (f : Nat) (s : Nat) (clamp : Int) (mode : Rnd) (sat : Bool) (v : Val) : Nat × Flags :=
  match v with
  | .fin n m e => mxFinite f clamp mode n m (e + 127 - s)
  | .nan => convScalar f mode sat .nan
  | .inf n => if f = 5 ∨ f = 6 then convScalar f mode sat (.inf n) else (mxMax f n, { ovf := true, inexact := true })

/-- A block of up to 32 values written in an MX format (02 R82 to R86): scale, element codes, flags. The modes carry each
element's stochastic bits. -/
def convBlock (f : Nat) (sat : Bool) (vs : List (Val × Rnd)) : Nat × List Nat × Flags :=
  let vals := vs.map (·.1)
  let bad := decide (f ≠ 5 ∧ f ≠ 6) && (vals.any Val.isNan || (vals.any Val.isInf && !sat))
  if bad then (0xFF, vs.map fun _ => 0, { nonfinite := true, nanIn := vals.any Val.isNan })
  else
    let sc := blockScale f vals
    let es := vs.map fun v => mxElem f sc.1 sc.2 v.2 sat v.1
    (sc.1, es.map (·.1), (es.map (·.2)).foldl Flags.or {})

/-- Blocks of 32 of a list. -/
def blocks32 {α : Type} (n : Nat) (xs : List α) : List (List α) :=
  match n with
  | 0 => []
  | n + 1 => if xs.isEmpty then [] else xs.take 32 :: blocks32 n (xs.drop 32)

/-- A row of values in any output format: element codes, scales in order (none without a block scale), flags (02 R77 to
R86). -/
def convRow (f : Nat) (sat : Bool) (vs : List (Val × Rnd)) : List Nat × List Nat × Flags :=
  if fmtScaled f then
    let bs := (blocks32 (vs.length / 32 + 1) vs).map (convBlock f sat)
    ((bs.map (·.2.1)).flatten, bs.map (·.1), (bs.map (·.2.2)).foldl Flags.or {})
  else
    let es := vs.map fun v => convScalar f v.2 sat v.1
    (es.map (·.1), [], (es.map (·.2)).foldl Flags.or {})

/-- The rounding of one element under RND and SR (02 R70, R71, R74). -/
def rndOf (sr : Bool) (rnd : Nat) (seed : DWord) (m n f : Nat) : Rnd :=
  if sr then .sr (srBits seed m n f) else if rnd = 1 then .rtz else .rne

/-- One product on its way into a column (02 R68, 03 R104, R107): a special outcome, or finite terms with their signs. -/
inductive Prod where
  | nanIn
  | invalid
  | inf (neg : Bool)
  | terms (ts : List (Bool × Nat × Int))
  deriving DecidableEq, Repr

/-- Slice `i` of a 24-bit significand (03 R103). -/
def slice (m i : Nat) : Nat := (m >>> (16 - 8 * i)) % 256

/-- The slice pairs formed at a pass count (03 R104). -/
def slicePairs (passes : Nat) : List (Nat × Nat) :=
  if passes = 1 then [(0, 0)]
  else if passes = 2 then [(0, 0), (0, 1), (1, 0)]
  else [(0, 0), (0, 1), (1, 0), (0, 2), (1, 1), (2, 0)]

/-- The product of a keeper and a runner value; `passes` is 0 but in wide mode (02 R68, 03 R104, R106). -/
def product (passes : Nat) (kv rv : Val) : Prod :=
  match kv, rv with
  | .nan, _ => .nanIn
  | _, .nan => .nanIn
  | .inf a, .inf b => .inf (a != b)
  | .inf a, .fin b m _ => if m = 0 then .invalid else .inf (a != b)
  | .fin a m _, .inf b => if m = 0 then .invalid else .inf (a != b)
  | .fin a m e, .fin b n f =>
    if passes = 0 ∨ m = 0 ∨ n = 0 then .terms [(a != b, m * n, e + f)]
    else .terms ((slicePairs passes).map fun ij =>
      (a != b, slice m ij.1 * slice n ij.2, e + f + 32 - 8 * ij.1 - 8 * ij.2))

/-- The exponent of the window's unit, 55 below the largest finite nonzero term (03 R108). -/
def windowUnit (ts : List (Bool × Nat × Int)) : Int :=
  match blockLog (ts.map fun t => Val.fin t.1 t.2.1 t.2.2) with
  | none => 0
  | some l => l - 55

/-- floor(|p| / u) of a term and whether it is not a whole number of units (03 R108, R109). -/
def inUnits (u : Int) (m : Nat) (e : Int) : Nat × Bool :=
  if u ≤ e then (m * pow2 (e - u), false)
  else (m >>> (u - e).toNat, decide (m % 2 ^ (u - e).toNat ≠ 0))

/-- The finite terms of a chunk. -/
def chunkTerms (ps : List (Nat × Prod)) : List (Bool × Nat × Int) :=
  (ps.map fun p => match p.2 with | .terms ts => ts | _ => []).flatten

/-- The chunk sum of the products of one runner row and column, each with its k (03 R108 to R113). -/
def chunkSum (m n : Nat) (ps : List (Nat × Prod)) : ChunkSum :=
  let ts := chunkTerms ps
  let u := windowUnit ts
  let parts := ts.map fun t => let w := inUnits u t.2.1 t.2.2; ((if t.1 then -(w.1 : Int) else (w.1 : Int)), w.2)
  let special := ps.any fun p => match p.2 with | .terms _ => false | _ => true
  { m := m, n := n, v := (parts.map (·.1)).sum, e := u, sticky := parts.any (·.2),
    nan := ps.any fun p => match p.2 with | .nanIn => true | .invalid => true | _ => false,
    pinf := ps.any fun p => match p.2 with | .inf b => !b | _ => false,
    ninf := ps.any fun p => match p.2 with | .inf b => b | _ => false,
    allNegZero := !special && !ts.isEmpty && ts.all fun t => t.1 && t.2.1 == 0,
    prodInv := ((ps.filter fun p => match p.2 with | .invalid => true | _ => false).map (·.1)).min?,
    nanIn := ps.any fun p => match p.2 with | .nanIn => true | _ => false }

end Sys2Proof.Machine
end

