-- ==== Sys2Proof/Machine/QueueState.lean ====
section
/-!
DEFINITION. The state of a queue (09 R346, R404), of an item from acceptance to its released record (09 R372, R377), and
of the work of each kind of item while it runs.
-/
namespace Sys2Proof.Machine

/-- A memory window (07 R286, R293): base and limit in 4 KiB granules, and QE_WIN_CTL bits [4:0]. -/
structure Window where
  base : BitVec 30
  limit : BitVec 30
  ctl : BitVec 5
  deriving DecidableEq, Repr

/-- A window set of 16 windows. -/
abbrev WinSet := Vector Window 16

def Window.off : Window := ⟨0, 0, 0⟩

/-- The states of a queue but WAITING, which is a RUNNING queue on a pending LINK word with every item started (09 R346). -/
inductive QState where
  | closed
  | idle
  | running
  | stopped
  | preempting
  | preempted
  deriving DecidableEq, Repr

/-- Where the engine stands in the chain (09 R364, R365): nowhere, about to read a list, at a LINK word, or watching it. -/
inductive QPos where
  | none
  | list (addr : Nat)
  | link (addr : Nat)
  | watch (addr : Nat)
  deriving DecidableEq, Repr

/-- An item's course: not started, running, saved by a preemption, work ended and completion to come, completed. -/
inductive Phase where
  | notStarted
  | running
  | saved
  | workDone
  | ended
  deriving DecidableEq, Repr

/-- One line of a bucket on its way through the stages (12 R496, R497): the member's value, and what it waits for; a flag
line waits first for the member's own reduce steps (R502). -/
inductive KeWait where
  | own
  | reduce (stage : Nat)
  | gather (stage : Nat)
  | done
  deriving DecidableEq, Repr

structure KeLine where
  val : Line
  wait : KeWait
  deriving DecidableEq, Repr

/-- A stage of a ring as one bucket sees it (12 R493, R494): its length, this member's position, and the device at each
position of this member's ring. -/
structure KeStage where
  len : Nat
  pos : Nat
  devs : List Nat
  deriving DecidableEq, Repr

/-- A line that a CHUNK brought before this member's own value stood at its stage. -/
structure KeEarly where
  gather : Bool
  stage : Nat
  idx : Nat
  val : Line
  deriving DecidableEq, Repr

/-- A KE item at work (12): its herd and BSEQ, whether its bucket has begun, the descriptor's fields, the root of a
BROADCAST, the lines on their way (the flag line under 0xFFFFFFFF), the member's flag bits, the result's bits, and the
result lines written. -/
structure KeWork where
  herd : Nat
  bseq : Nat
  begun : Bool
  stages : List KeStage
  chan : Nat
  elems : Nat
  chunkLines : Nat
  src : Nat
  dst : Nat
  flagw : Nat
  cstride : Nat
  ncontrib : Nat
  sfmt : Nat
  root : Option Nat
  lines : Table KeLine
  early : List KeEarly
  bits : Nat
  result : Option Nat
  written : Nat
  deriving DecidableEq, Repr

/-- An UPDATE item at work (13 R526 to R547): its descriptor, its beta snapshot and flag word, the stamp and class that the
check pass found of each block, whether a pass has begun, a fault of the check pass, the blocks whose outcome is final, and
the report's counts. -/
structure UpdWork where
  desc : List Byte
  betas : Vector (Word × Word) 16
  flagWord : Nat
  checked : Bool
  main : Bool
  found : Table (Nat × Nat)
  fault : Bool
  finished : List Nat
  updated : Nat
  frozen : Nat
  skewed : Nat
  passed : Nat
  skipped : Nat
  firstSkewed : Option (Nat × Nat)
  firstBad : Option Nat
  deriving DecidableEq, Repr

/-- What a saved core carries beside its save area (model's own, log 18): its logical core, its run, the issue count, the
captured event with its issue number, the item flags and count so far, the skew epoch at the save, the tile instructions still to
do with what each had done (04 R185 to R188), and the elements whose NaN an INV produced. -/
structure SavedRun where
  lcore : Nat
  run : Run
  issueNo : Nat
  xcap : Option XCap
  xcount : Nat
  fl : Flags
  epoch : BitVec 16
  queue : List Pass
  nans : Table Bool
  deriving DecidableEq, Repr

/-- Work lost with a core that is to run again: the instance or region, and the logical core that was lost (14 R565). -/
structure Lost where
  inst : Nat
  lcore : Nat
  deriving DecidableEq, Repr

/-- A MATMUL item at work (09 R356): regions in all, the next region to hand out, regions to run again after a core loss,
and cores saved by a preemption; the mask bitmap as read at its start (05 R213). A core's region in progress is its run's
instance number. -/
structure MatWork where
  total : Nat
  next : Nat
  again : List Lost
  saved : List SavedRun
  invTiles : Nat
  mask : List Byte
  deriving DecidableEq, Repr

/-- A JOB item at work (06 R259, R261): instances started, halted, lost ones to run again, and saved ones. -/
structure JobWork where
  started : Nat
  halted : Nat
  again : List Lost
  invTiles : Nat
  saved : List SavedRun
  deriving DecidableEq, Repr

/-- A running item's own state, by kind. -/
inductive Work where
  | none
  | wait
  | barrier (herd : Nat) (gen : DWord)
  | matmul (w : MatWork)
  | job (w : JobWork)
  | copy (row off : Nat)
  | gather (next : Nat) (lay : Option Snap)
  | close (stream : Nat)
  | ke (w : KeWork)
  | update (w : UpdWork)
  | boundary (b : DWord) (win : Nat) (waits : Bool)
  deriving DecidableEq, Repr

/-- An accepted item whose final record has not been released (09 R372, 14 R559): its header and list fields as accepted,
its command as read at start, and the fields of its final record as far as they are decided. -/
structure Item where
  k : Nat
  op : Nat
  iflags : Nat
  len : Nat
  tag : Word
  addr : Nat
  lseq : Nat
  ctx : Nat
  wins : WinSet
  gen : Nat
  csig : Option Nat
  due : Option Nat
  trap : Bool
  acceptDtc : DWord
  boundarySeen : Bool
  phase : Phase
  cmd : List Byte
  work : Work
  status : Nat
  fl : Flags
  saturated : Bool
  retried : Bool
  progress : Nat
  detail : Nat
  startDtc : Option DWord
  endDtc : DWord
  deriving DecidableEq, Repr

/-- A preemption that has been asked for (09 R396, R397): now, at the next PREEMPT_POINT, or past that point, the item numbered
`k`. -/
inductive PreReq where
  | none
  | now
  | atPoint
  | past (k : Nat)
  deriving DecidableEq, Repr

/-- A queue and its registers (09 R404, 14 R576). `heldAt` is the last try, by time, to write a record that RING_HELD shows (R388). -/
structure QueueSt where
  st : QState
  prio : BitVec 2
  start : DWord
  aseq : Nat
  rseq : Nat
  lseq : Nat
  cqBase : DWord
  log2 : Nat
  head : Word
  written : Nat
  irq : Word
  time : Nat
  refuse : Word
  rebase : Bool
  ringHeld : Bool
  heldAt : DWord
  pos : QPos
  preReq : PreReq
  stopNext : Bool
  items : List Item
  refusals : List (List Byte)
  held : List (List Byte)
  irqCount : Nat
  irqFirst : Option DWord
  deriving DecidableEq, Repr

/-- A queue at power-on (09 R373, R404). -/
def QueueSt.reset : QueueSt :=
  { st := .idle, prio := 0, start := 0, aseq := 0, rseq := 0, lseq := 1, cqBase := 0, log2 := 6, head := 0,
    written := 0, irq := 0x00001000, time := 0, refuse := 0, rebase := false, ringHeld := false, heldAt := 0, pos := .none,
    preReq := .none, stopNext := false, items := [], refusals := [], held := [], irqCount := 0, irqFirst := none }

end Sys2Proof.Machine
end

