-- ==== Sys2Proof/Machine/DeviceState.lean ====
section
/-!
DEFINITION. The state of the rest of the block: memory and hubs (07, 08), the sync unit (10), the link ports (11), the
collectives (12), the update units' table (13), faults (14), clocks and power (15), the configuration image (16), security
(17), firmware (18), the Tally (19), and the pins and the management bus (20).
-/
namespace Sys2Proof.Machine

/-- A request at a hub (07 R302, R303): its arrival number, line, whether it writes, and the whole line, whether it is a prefetch, and
whether it holds a slot. -/
structure HubReq where
  id : Nat
  line : Nat
  write : Bool
  whole : Bool
  prefetch : Bool
  slot : Bool
  deriving DecidableEq, Repr

/-- A line of a prefetch buffer (08 R321): its stream, source line number, and the copy. -/
structure BufLine where
  stream : Nat
  line : Nat
  data : Line
  index : Option Nat
  deriving DecidableEq, Repr

/-- A prefetch fetch in flight, with the number of its request (08 R325, R334). -/
structure Fetch where
  stream : Nat
  line : Nat
  data : Line
  stale : Bool
  index : Option Nat
  req : Nat
  deriving DecidableEq, Repr

/-- A CHUNK message held for a bucket that has not started (12 R509), with the port it came on. -/
structure HeldChunk where
  head : MsgHead
  data : List Line
  deriving DecidableEq, Repr

/-- One hub die: its memory controllers (07 R307), prefetcher (08 R343), update unit (13 R550) and HVE (12 R519). -/
structure HubSt where
  used : Nat
  copying : List Nat
  pc0 : Nat
  pc1 : Nat
  hbmCE : Word
  lpCE : Word
  ueHbm : BitVec 16
  ueLp : BitVec 16
  high : Nat
  reqs : List HubReq
  nextReq : Nat
  runs : Table Nat
  openRow : Table (Option Nat)
  corr : Table (List DWord)
  muleCE : BitVec 16
  muleUE : BitVec 16
  buf : List BufLine
  fetches : List Fetch
  oxUpdated : Word
  oxFrozen : Word
  oxSkewed : Word
  oxSkipped : Word
  hveLines : Word
  hveAdds : DWord
  hveEarly : BitVec 16
  hveBad : BitVec 16
  chunks : List HeldChunk
  deriving DecidableEq, Repr

def HubSt.reset : HubSt :=
  { used := 0, copying := [], pc0 := 0, pc1 := 0, hbmCE := 0, lpCE := 0, ueHbm := 0, ueLp := 0, high := 0, reqs := [],
    nextReq := 0, runs := [], openRow := [], corr := [], muleCE := 0, muleUE := 0, buf := [], fetches := [],
    oxUpdated := 0, oxFrozen := 0, oxSkewed := 0, oxSkipped := 0, hveLines := 0, hveAdds := 0, hveEarly := 0, hveBad := 0,
    chunks := [] }

/-- A context's windows (07 R286, R290). -/
structure CtxWins where
  active : WinSet
  pending : WinSet
  gen : BitVec 16
  deriving DecidableEq, Repr

/-- A stream's state (08 R313). -/
inductive StreamPhase where
  | free
  | active
  | ended
  deriving DecidableEq, Repr

structure Stream where
  phase : StreamPhase
  ctx : Nat
  pos : Nat
  desc : List Byte
  lay : Option Snap
  deriving DecidableEq, Repr

def Stream.free : Stream := ⟨.free, 0, 0, [], none⟩

/-- Bytes `lo` to `hi − 1`, whole lines, whose contents the spec leaves open: each reads the free value that `base` and its
address give until its line is written (07 R750, 09 R749; log 5). -/
structure OpenRange where
  lo : Nat
  hi : Nat
  base : Nat
  deriving DecidableEq, Repr

/-- Main memory and what stands between it and its users (07, 08). `cells`, `unset` and `ue` go by where a byte is kept, the address
that it has without interleave (Ops: State.loc). -/
structure MemSt where
  cells : List Host.Cell
  unset : List OpenRange
  ue : List Nat
  hubs : Vector HubSt 8
  wins : Table CtxWins
  peer : WinSet
  streams : Table Stream
  deriving DecidableEq, Repr

/-- Who waits on a watch (10 R414). -/
inductive Waiter where
  | item (q k : Nat)
  | core (site : Nat)
  | host (p i : Nat)
  deriving DecidableEq, Repr

/-- A watch (10 R412); `cond` 0 ≥, 1 ==, 2 changed; `v0` is the value at registration. -/
structure Watch where
  counter : Nat
  who : Waiter
  t : DWord
  cond : Nat
  claim : Option DWord
  v0 : DWord
  deriving DecidableEq, Repr

/-- A barrier group (10 R426, R431). -/
structure Herd where
  kind : Nat
  step : Bool
  ctx : Nat
  master : Nat
  mask : BitVec 1536
  arrived : List Nat
  gen : DWord
  held : List (Nat × DWord)
  deriving DecidableEq, Repr

def Herd.none : Herd := ⟨0, false, 0, 0, 0, [], 0, []⟩

/-- A host watch's registers (10 R453). -/
structure HostWatch where
  ctl : Word
  thr : DWord
  deriving DecidableEq, Repr

/-- A BOUNDARY in progress (10 R442): its queue and QSEQ, B, the window's half-width, and whether it waits. -/
structure BoundaryRun where
  q : Nat
  k : Nat
  b : DWord
  win : Nat
  waits : Bool
  deriving DecidableEq, Repr

/-- The sync unit (10). -/
structure SyncSt where
  ctr : Table DWord
  groups : Table (BitVec 8)
  herds : Table Herd
  watches : List Watch
  waiting : List Watch
  host : Table HostWatch
  dtc : DWord
  bcnt : DWord
  stepWin : BitVec 16
  lastResult : BitVec 2
  lastOffset : BitVec 18
  pulse : Option DWord
  inIgnored : Bool
  outDisabled : Bool
  unaligned : Nat
  outEnd : Option DWord
  run : Option BoundaryRun
  deriving DecidableEq, Repr

/-- Port states (11 R471). -/
inductive LinkPhase where
  | disabled
  | training
  | up
  | sparing
  | down
  deriving DecidableEq, Repr

/-- A data flit that waits to be sent: its VC, whether a message starts in it, and its payload in place. -/
structure TxFlit where
  vc : Nat
  first : Bool
  flit : Flit
  deriving DecidableEq, Repr

/-- A link port (11 R486) with its sender and receiver (R465 to R470); `since` is when its sparing began. -/
structure LinkSt where
  role : Nat
  dir : Nat
  expect : Nat
  phase : LinkPhase
  healthy : BitVec 5
  routed : Bool
  peerValid : Bool
  peer : Nat
  trainFails : Nat
  failsInRow : Nat
  laneCE : Vector Word 5
  fecUE : Word
  crc : Word
  replays : BitVec 16
  sparings : Nat
  downs : Nat
  txSeq : BitVec 16
  replay : List Flit
  credits : Vector Nat 4
  txq : List TxFlit
  rxSeq : BitVec 16
  nakFor : Option (BitVec 16)
  rxFree : Vector Nat 4
  rx : Vector (List Byte) 4
  lastAseq : DWord
  replaysInRow : Nat
  since : DWord
  deriving DecidableEq, Repr

def LinkSt.reset : LinkSt :=
  { role := 0, dir := 0, expect := 0, phase := .disabled, healthy := 0x1F, routed := false, peerValid := false, peer := 0,
    trainFails := 0, failsInRow := 0, laneCE := Vector.replicate 5 0, fecUE := 0, crc := 0, replays := 0, sparings := 0,
    downs := 0, txSeq := 0, replay := [], credits := #v[1024, 1024, 1536, 512], txq := [], rxSeq := 0, nakFor := none,
    rxFree := Vector.replicate 4 0, rx := Vector.replicate 4 [], lastAseq := 0, replaysInRow := 0, since := 0 }

/-- A request of a COPY that waits for its response (11 R464, R485): its tag, its item, the device, a READ or a write, the row
that it belongs to, the local address of the destination bytes with their offset in the lines read and their count, and when
it was sent. -/
structure OutReq where
  tag : Nat
  q : Nat
  k : Nat
  dev : Nat
  read : Bool
  row : Nat
  dst : Nat
  skip : Nat
  len : Nat
  sent : DWord
  deriving DecidableEq, Repr

/-- The links and the fabric as this device sees them (11 R480 to R487). `lastFail` is the item, line address and tick of the
last failing response (R464). -/
structure FabricSt where
  links : Vector LinkSt 16
  lost : BitVec 512
  seen : List (Nat × DWord)
  notice : DWord
  out : List OutReq
  nextTag : Nat
  lastFail : Option (Nat × Nat × Nat × DWord)
  deriving DecidableEq, Repr

/-- Collective state kept per herd: NEXT_BSEQ, the ring's order and FLAT after members were dropped, and used BSEQs yet to be
passed (12 R505, R508, R514). -/
structure KeHerd where
  next : DWord
  order : Option (List Nat)
  flat : Bool
  gone : List Nat
  deriving DecidableEq, Repr

def KeHerd.reset : KeHerd := ⟨1, none, false, []⟩

/-- A fault log entry (14 R580). -/
structure LogEntry where
  seq : DWord
  dtc : DWord
  bcnt : DWord
  cls : Nat
  kind : Nat
  sev : Nat
  unit : Nat
  arg0 : DWord
  arg1 : DWord
  deriving DecidableEq, Repr

/-- The fault log and the FLT_ registers (14 R582), a warm reset on its way (14 R553, R757) with its trigger and its R, and the
trigger of one that waits to be taken (15 R612, 18 R695). `hold` is the warm domain held in reset without the reference (15
R589). -/
structure FaultSt where
  log : List LogEntry
  seq : DWord
  irq : Vector Word 2
  last : Nat
  count : BitVec 16
  pending : Option (Nat × DWord)
  wanted : Option Nat
  hold : Bool
  alwaysOn : Bool
  deriving DecidableEq, Repr

/-- Power phases: no input, Nimtia up on standby, start-up under way or ended, load switch open (15 R614, 16 R618). -/
inductive PowerPhase where
  | off
  | booting
  | standby
  | ready
  | on
  | tripped
  | latched
  deriving DecidableEq, Repr

/-- Clocks, power and temperature (15 R617). `cold` holds from a power-on until start-up step 4, when the DTC starts (16 R619);
`lpBad` the LPDDR5X
groups that start-up could not train (16 R623); `limitAt` is the last limiter period's end; `overVolt` a shutdown for overvoltage (R615). -/
structure PowerSt where
  phase : PowerPhase
  pwrEn : Bool
  refOk : Bool
  holdover : Bool
  losses : Nat
  sris : BitVec 2
  obs : Word
  strapCool : BitVec 2
  profImage : BitVec 2
  profCmd : BitVec 2
  gate0 : Word
  gate1 : BitVec 12
  stat0 : Word
  stat1 : BitVec 12
  tripped : Bool
  byTemp : Bool
  byPower : Bool
  steps : Nat
  vin : BitVec 16
  iin : BitVec 16
  watts : BitVec 16
  temps : Vector (BitVec 12) 40
  sensors : BitVec 64
  openings : List DWord
  overVolt : Bool
  cold : Bool
  lpBad : BitVec 8
  limitAt : DWord
  deriving DecidableEq, Repr

/-- A ring entry of the image (16 R634 RINGS): the herd, stage lengths, channel ports, and each member's positions. -/
structure RingEntry where
  herd : Nat
  lens : List Nat
  chans : List Nat
  members : List (Nat × List Nat)
  deriving DecidableEq, Repr

/-- A herd entry of the image (16 R634 HERDS). -/
structure HerdEntry where
  herd : Nat
  kind : Nat
  ctx : Nat
  step : Bool
  master : Nat
  mask : BitVec 1536
  deriving DecidableEq, Repr

/-- The fabric section (16 R634 FABRIC), with the device number of R635. -/
structure FabricImg where
  device : Nat
  x : Nat
  y : Nat
  z : Nat
  roles : Vector Nat 16
  dirs : Vector Nat 16
  expects : Vector Nat 16
  detours : Vector Nat 6
  cascade : List (Nat × Nat)
  deriving DecidableEq, Repr

/-- The configuration image in force (16 R631 to R634). -/
structure Image where
  raw : List Byte
  ver : DWord
  digest : List Byte
  safe : Bool
  source : BitVec 2
  signed : Bool
  engines : Option (List Nat)
  qOwner : BitVec 176
  ctxOwner : BitVec 64
  saveBase : Option (List Nat)
  hbmMode : BitVec 2
  lpMode : BitVec 2
  windows : Option (List (Nat × Nat × Window))
  fab : FabricImg
  rings : List RingEntry
  herds : List HerdEntry
  profile : BitVec 2
  sris : BitVec 2
  gate0 : Word
  gate1 : BitVec 12
  stepWin : BitVec 16
  groups : Table (BitVec 8)
  twBound : Nat
  twTicks : Nat
  requireSig : Bool
  allowDebug : Bool
  minVer : DWord
  deriving DecidableEq, Repr

/-- Start-up, the image store and the ID_ block (16 R647, 20 R735). -/
structure StartSt where
  step : Nat
  result : BitVec 2
  timeMs : BitVec 16
  img : Image
  live : Option (List HerdEntry × List RingEntry)
  lag : List (Nat × Option HerdEntry × Option RingEntry)
  loads : BitVec 16
  slot0 : List Byte
  slot1 : List Byte
  preferred : Bool
  sigFloor : Bool
  verFloor : DWord
  cool : BitVec 2
  slotId : BitVec 6
  cfgSrc : Bool
  changed : Bool
  serial : DWord
  rev : BitVec 8
  assembly : BitVec 8
  siteFailed : List Nat
  lmap : Table (Option (Option Nat))
  qOwner : BitVec 176
  ctxOwner : BitVec 64
  deriving DecidableEq, Repr

/-- One security mailbox (17 R679). -/
structure Mailbox where
  cmd : Vector Word 16
  irqEn : Bool
  vector : BitVec 11
  busy : Bool
  opcode : Byte
  status : Byte
  detail : Word
  htag : Word
  out : List Byte
  key : Option (BitVec 256)
  ctr : DWord
  backoff : Option DWord
  deriving DecidableEq, Repr

def Mailbox.reset : Mailbox :=
  { cmd := Vector.replicate 16 0, irqEn := false, vector := 0, busy := false, opcode := 0, status := 0, detail := 0,
    htag := 0, out := [], key := none, ctr := 0, backoff := none }

/-- Security (17). -/
structure SecSt where
  box : Vector Mailbox 2
  order : List Nat
  rev0 : Bool
  rev1 : Bool
  debugOff : Bool
  next : Nat
  block : Nat
  unlocked : Bool
  deriving DecidableEq, Repr

/-- One firmware slot's image with its manifest (18 R684); the image itself only as bytes. -/
structure FwImage where
  manifest : List Byte
  bytes : List Byte
  deriving DecidableEq, Repr

/-- A firmware unit (18 R680, R681): active slot, the state of the other slot (0 EMPTY, 1 STAGING, 2 STAGED, 3 PREVIOUS). -/
structure FwUnit where
  slotB : Bool
  act : FwImage
  oth : FwImage
  other : Nat
  floor : DWord
  deriving DecidableEq, Repr

/-- Firmware update (18 R699). `bad` marks the units without a slot that verifies, in recovery (R698); `carry` holds on the step
herd's master that accepted a count to carry (R690). -/
structure FwuSt where
  isOpen : Bool
  port : Nat
  recovery : Bool
  bad : BitVec 4
  off : BitVec 20
  len : BitVec 17
  busy : Bool
  cmd : Byte
  status : Byte
  reason : Byte
  package : Table Byte
  bar4 : Table Byte
  units : Vector FwUnit 4
  records : Vector (BitVec 16) 4
  backups : List (Nat × BitVec 16)
  reversion : Bool
  actState : Nat
  actResult : Nat
  actReason : Byte
  actHerd : Nat
  actTarget : DWord
  actDtc : DWord
  carry : Bool
  deriving DecidableEq, Repr

/-- A telemetry window (19 R710). -/
structure TeleWin where
  index : DWord
  start : DWord
  stop : DWord
  bounds : Word
  peakW : BitVec 16
  peakT : BitVec 16
  hbmCE : DWord
  replays : Word
  throttle : Word
  deriving DecidableEq, Repr

def TeleWin.reset : TeleWin := ⟨0, 0, 0, 0, 0, 0x800, 0, 0, 0⟩

/-- The Tally (19): its live fields by record offset, the flash copies, the snapshots, the DTC of the last completed write, of
the last write that fell due by time and of the last sample, and the windows. -/
structure TallySt where
  live : Table Nat
  copy0 : Option (Table Nat)
  copy1 : Option (Table Nat)
  snap0 : Option (Table Nat)
  snap1 : Option (Table Nat)
  wdtc : DWord
  tried : DWord
  sampled : DWord
  writeDue : Bool
  restarted : Bool
  flashFail : Bool
  cur : TeleWin
  last : TeleWin
  deriving DecidableEq, Repr

/-- What a test access port instruction selects (17 R673). -/
inductive TapSel where
  | bypass
  | extest
  | sample
  | clamp
  | highz
  | debug
  deriving DecidableEq, Repr

/-- A host port's endpoint (20 R726, R735, 07 R282). -/
structure PcieSt where
  speed : Nat
  width : Nat
  reversed : Bool
  laneFault : BitVec 16
  d3hot : Bool
  bar2Base : BitVec 12
  bar2Size : Nat
  msix : Table Word
  pba : Table Bool
  deriving DecidableEq, Repr

def PcieSt.reset : PcieSt := ⟨0, 0, false, 0, false, 0, 6, [], []⟩

/-- Pins, ports and the management bus (20). -/
structure PinSt where
  pcie : Vector PcieSt 2
  transport : BitVec 2
  isolated : Bool
  address : BitVec 7
  recoveries : BitVec 16
  badTries : Nat
  alert : Option DWord
  tap : TapSel
  cells : BitVec 20
  stepOut : Bool
  deriving DecidableEq, Repr

/-- Something that leaves the module, oldest first in State (model's own field). -/
inductive Out where
  | msix (p : Nat) (vector : Nat)
  | hostWrite (p : Nat) (addr : Nat) (bytes : List Byte)
  | msg (port : Nat) (kind : Nat) (m : MsgHead) (data : List Line)
  | flit (port : Nat) (f : Flit)
  | completion (p : Nat) (data : List Byte) (poisoned : List Bool)
  | config (p : Nat) (retry : Bool) (data : Word)
  | mgmt (t : Transport) (code : Nat) (data : List Byte)
  | inBand
  deriving DecidableEq, Repr

end Sys2Proof.Machine
end

