-- ==== Sys2Proof/Machine/State.lean ====
section
/-!
DEFINITION. The whole state of the block as plain data, its state after reset, and the reasons a step can stop. Each
field's rule and reset value stands in INVENTORY.md under its heading State.
-/
namespace Sys2Proof.Machine

/-- The state of the module and the queue of waiting commands. `turns` holds, by engine and priority, the queue whose turn
is next (09 R347). -/
structure State where
  cores : Table Core
  queues : Table QueueSt
  takeLast : Word
  turns : Table Nat
  mem : MemSt
  sync : SyncSt
  fab : FabricSt
  ke : Table KeHerd
  betas : Vector (Word × Word) 16
  fault : FaultSt
  power : PowerSt
  start : StartSt
  sec : SecSt
  fwu : FwuSt
  tally : TallySt
  pins : PinSt
  pending : List Instr
  sent : List Out
  freeCount : Nat
  deriving DecidableEq, Repr

/-- Why a step stops with a fault. The block of the spec never stops for a command, so the one reason is the model's own. -/
inductive Fault where
  /-- An access to a byte of memory for which the model has no value; no meaning raises it, since unwritten memory
  reads a fixed byte (log 2). Safe: a stop where the hardware goes on. -/
  | unreadable
  deriving DecidableEq, Repr

/-- Why a command is refused. -/
inductive Refusal where
  /-- No meaning yet, by the command's mnemonic. Safe: nothing is claimed of it. -/
  | notModelled (mnemonic : String)
  /-- An ill-formed command, one that WellFormed refuses (a data list longer than the transport carries). No hardware
  event has such a form. Safe. -/
  | illFormed
  deriving DecidableEq, Repr

/-- Window 0 and window 1 of every context in the built-in image (16, section table). -/
def defaultWins : WinSet :=
  (Vector.replicate 16 Window.off).set 0 ⟨0, 0x0CFFFFFF, 0xF⟩ |>.set 1 ⟨0x20000000, 0x3FFFFFFF, 0xF⟩

/-- A context's windows under the built-in image. -/
def CtxWins.reset : CtxWins := ⟨defaultWins, defaultWins, 0⟩

/-- Owner of each queue in the built-in image, bit set for H1 (16, section table QUEUES). -/
def defaultQOwner : BitVec 176 :=
  BitVec.ofNat 176 ((2 ^ 128 - 2 ^ 64) + (2 ^ 160 - 2 ^ 144) + (2 ^ 168 - 2 ^ 164) + (2 ^ 176 - 2 ^ 172))

/-- Owner of each context in the built-in image, bit set for H1 (16, section table CONTEXTS). -/
def defaultCtxOwner : BitVec 64 := 0xFFFFFFFF00000000

def FabricImg.alone : FabricImg :=
  { device := 0, x := 1, y := 1, z := 1, roles := Vector.replicate 16 0, dirs := Vector.replicate 16 0,
    expects := Vector.replicate 16 0, detours := Vector.replicate 6 0xFF, cascade := [] }

/-- The built-in image: every default of the section table together with SAFE = 1 (16 R631). -/
def Image.builtIn : Image :=
  { raw := [], ver := 0, digest := List.replicate 32 0, safe := true, source := 3, signed := false, engines := none,
    qOwner := defaultQOwner, ctxOwner := defaultCtxOwner, saveBase := none, hbmMode := 1, lpMode := 1, windows := none,
    fab := FabricImg.alone, rings := [], herds := [], profile := 3, sris := 0, gate0 := 0xFFFFFFFF, gate1 := 0x7FF,
    stepWin := 1000, groups := [], twBound := 1, twTicks := 0, requireSig := false, allowDebug := false, minVer := 0 }

def MemSt.reset : MemSt :=
  { cells := [], unset := [], ue := [], hubs := Vector.replicate 8 HubSt.reset, wins := [], peer := Vector.replicate 16 Window.off,
    streams := [] }

def SyncSt.reset : SyncSt :=
  { ctr := [], groups := [], herds := [], watches := [], waiting := [], host := [], dtc := 0, bcnt := 0, stepWin := 1000,
    lastResult := 0, lastOffset := 0, pulse := none, inIgnored := false, outDisabled := false, unaligned := 0,
    outEnd := none, run := none }

def FabricSt.reset : FabricSt :=
  { links := Vector.replicate 16 LinkSt.reset, lost := 0, seen := [], notice := 0, out := [], nextTag := 0, lastFail := none }

def FaultSt.reset : FaultSt :=
  { log := [], seq := 0, irq := Vector.replicate 2 0x00040000, last := 0, count := 0, pending := none, wanted := none, hold := false,
    alwaysOn := false }

/-- Clocks and power up, in profile A with open straps; measured values are the model's choice (log 7). -/
def PowerSt.reset : PowerSt :=
  { phase := .on, pwrEn := true, refOk := true, holdover := false, losses := 0, sris := 0, obs := 0x00005010,
    strapCool := 3, profImage := 3, profCmd := 3, gate0 := 0xFFFFFFFF, gate1 := 0x7FF, stat0 := 0xFFFFFFFF,
    stat1 := 0x7FF, tripped := false, byTemp := false, byPower := false, steps := 0, vin := 5400, iin := 0, watts := 0,
    temps := Vector.replicate 40 100, sensors := 0, openings := [], overVolt := false, cold := false, lpBad := 0, limitAt := 0 }

/-- Start-up ended with the built-in image; the identity is the marking example's module at assembly 03 (log 6). -/
def StartSt.reset : StartSt :=
  { step := 11, result := 1, timeMs := 0, img := Image.builtIn, live := none, lag := [], loads := 1, slot0 := [],
    slot1 := [], preferred := false, sigFloor := false, verFloor := 0, cool := 3, slotId := 63, cfgSrc := false,
    changed := false, serial := 0x000003A1F022C4B7, rev := 0x11, assembly := 3, siteFailed := [], lmap := [],
    qOwner := defaultQOwner, ctxOwner := defaultCtxOwner }

def SecSt.reset : SecSt :=
  { box := Vector.replicate 2 Mailbox.reset, order := [], rev0 := false, rev1 := false, debugOff := false,
    next := 0, block := 0, unlocked := false }

/-- A unit's factory manifest: version 1, no floor, compatible with every version of the other units, each record in layout 1 (log
25). -/
def factoryManifest (u : Nat) : List Byte :=
  [0x46, 0x55, 0x57, 0x4D, 1, 0, BitVec.ofNat 8 u, 0, 1] ++ List.replicate 63 0 ++
    ((List.range 4).map fun w => List.replicate 8 0 ++ List.replicate 8 (if w = u then 0 else 0xFF)).flatten ++
    ((List.range 4).map fun _ => [1, 0, 1, 0]).flatten ++ List.replicate 104 0

def FwUnit.reset (u : Nat) : FwUnit := ⟨false, ⟨factoryManifest u, []⟩, ⟨[], []⟩, 0, 0⟩

def FwuSt.reset : FwuSt :=
  { isOpen := false, port := 0, recovery := false, bad := 0, off := 0, len := 0, busy := false, cmd := 0, status := 0, reason := 0,
    package := [], bar4 := [], units := Vector.ofFn fun u => FwUnit.reset u, records := Vector.replicate 4 1, backups := [],
    reversion := false, actState := 0, actResult := 0, actReason := 0, actHerd := 0, actTarget := 0, actDtc := 0,
    carry := false }

def TallySt.reset : TallySt :=
  { live := [], copy0 := none, copy1 := none, snap0 := none, snap1 := none, wdtc := 0, tried := 0, sampled := 0, writeDue := false,
    restarted := false, flashFail := false, cur := TeleWin.reset, last := TeleWin.reset }

def PinSt.reset : PinSt :=
  { pcie := Vector.replicate 2 PcieSt.reset, transport := 0, isolated := false, address := 0x34, recoveries := 0,
    badTries := 0, alert := none, tap := .bypass, cells := 0, stepOut := false }

/-- The machine right after reset: start-up has ended with the built-in image on a module with no failed part (log 1). -/
def State.reset : State :=
  { cores := [], queues := [], takeLast := 0, turns := [], mem := MemSt.reset, sync := SyncSt.reset, fab := FabricSt.reset, ke := [],
    betas := Vector.replicate 16 (0x3F666666, 0x3F7D70A4), fault := FaultSt.reset, power := PowerSt.reset,
    start := StartSt.reset, sec := SecSt.reset, fwu := FwuSt.reset, tally := TallySt.reset, pins := PinSt.reset,
    pending := [], sent := [], freeCount := 0 }

end Sys2Proof.Machine
end

