-- ==== Sys2Proof/Machine/Set.lean ====
section
/-!
DEFINITION. The updates of State, one per field. Sys2Proof/Laws/State.lean holds their laws.
-/
namespace Sys2Proof.Machine

abbrev Answer := Host.Outcome State Fault Refusal

def State.setCores (s : State) (x : Table Core) : State := { s with cores := x }
def State.setQueues (s : State) (x : Table QueueSt) : State := { s with queues := x }
def State.setTakeLast (s : State) (x : Word) : State := { s with takeLast := x }
def State.setTurns (s : State) (x : Table Nat) : State := { s with turns := x }
def State.setMem (s : State) (x : MemSt) : State := { s with mem := x }
def State.setSync (s : State) (x : SyncSt) : State := { s with sync := x }
def State.setFab (s : State) (x : FabricSt) : State := { s with fab := x }
def State.setKe (s : State) (x : Table KeHerd) : State := { s with ke := x }
def State.setBetas (s : State) (x : Vector (Word × Word) 16) : State := { s with betas := x }
def State.setFault (s : State) (x : FaultSt) : State := { s with fault := x }
def State.setPower (s : State) (x : PowerSt) : State := { s with power := x }
def State.setStart (s : State) (x : StartSt) : State := { s with start := x }
def State.setSec (s : State) (x : SecSt) : State := { s with sec := x }
def State.setFwu (s : State) (x : FwuSt) : State := { s with fwu := x }
def State.setTally (s : State) (x : TallySt) : State := { s with tally := x }
def State.setPins (s : State) (x : PinSt) : State := { s with pins := x }
def State.setPending (s : State) (x : List Instr) : State := { s with pending := x }
def State.setSent (s : State) (x : List Out) : State := { s with sent := x }
def State.setFreeCount (s : State) (x : Nat) : State := { s with freeCount := x }

end Sys2Proof.Machine
end

