-- ==== Sys2Proof/Machine/Ops.lean ====
section
/-!
DEFINITION. The operations that every family shares: the parts of State by number, what leaves the module, the fault log
(14 R580), the Tally's counters (19), sites and logical cores (01 R28 to R34), power profiles (15 R604, R609), the address
map (07 R267 to R281), and reads and accepted writes of memory (07, 08 R331 to R339).
-/
namespace Sys2Proof.Machine

/-- An item's failure: its status code and DETAIL word (09 R378, R384), and the local line whose uncorrectable read made it
(07 R297). -/
structure Fail where
  status : Nat
  detail : Nat
  ue : Option Nat := none
  deriving DecidableEq, Repr

/-- An element of a vector, with a default beyond its end. -/
def vget {α : Type} {n : Nat} (v : Vector α n) (i : Nat) (d : α) : α := v[i]?.getD d

/-- A vector with one element replaced; unchanged beyond its end. -/
def vset {α : Type} {n : Nat} (v : Vector α n) (i : Nat) (x : α) : Vector α n := v.setIfInBounds i x

/-- A count that saturates. -/
def satAdd (lim n k : Nat) : Nat := min lim (n + k)

/-- A 32-bit count that saturates (07 R307, 12 R519, 13 R550). -/
def sat32 (w : Word) (k : Nat) : Word := BitVec.ofNat 32 (satAdd 0xFFFFFFFF w.toNat k)
/-- A 16-bit count that saturates. -/
def sat16 (w : BitVec 16) (k : Nat) : BitVec 16 := BitVec.ofNat 16 (satAdd 0xFFFF w.toNat k)

/-! ## The parts of State by number -/

def State.core (s : State) (c : Nat) : Core := tget Core.reset s.cores c
def State.putCore (s : State) (c : Nat) (x : Core) : State := s.setCores (tput Core.reset s.cores c x)
def State.queue (s : State) (q : Nat) : QueueSt := tget QueueSt.reset s.queues q
def State.putQueue (s : State) (q : Nat) (x : QueueSt) : State := s.setQueues (tput QueueSt.reset s.queues q x)
def State.hub (s : State) (h : Nat) : HubSt := vget s.mem.hubs h HubSt.reset
def State.putHub (s : State) (h : Nat) (x : HubSt) : State := s.setMem { s.mem with hubs := vset s.mem.hubs h x }
def State.link (s : State) (l : Nat) : LinkSt := vget s.fab.links l LinkSt.reset
def State.putLink (s : State) (l : Nat) (x : LinkSt) : State := s.setFab { s.fab with links := vset s.fab.links l x }
def State.pcie (s : State) (p : Nat) : PcieSt := vget s.pins.pcie p PcieSt.reset
def State.putPcie (s : State) (p : Nat) (x : PcieSt) : State := s.setPins { s.pins with pcie := vset s.pins.pcie p x }
def State.box (s : State) (p : Nat) : Mailbox := vget s.sec.box p Mailbox.reset
def State.putBox (s : State) (p : Nat) (x : Mailbox) : State := s.setSec { s.sec with box := vset s.sec.box p x }
def State.herd (s : State) (h : Nat) : Herd := tget Herd.none s.sync.herds h
def State.putHerd (s : State) (h : Nat) (x : Herd) : State :=
  s.setSync { s.sync with herds := tput Herd.none s.sync.herds h x }
def State.ctx (s : State) (x : Nat) : CtxWins := tget CtxWins.reset s.mem.wins x
def State.putCtx (s : State) (x : Nat) (w : CtxWins) : State :=
  s.setMem { s.mem with wins := tput CtxWins.reset s.mem.wins x w }
def State.stream (s : State) (n : Nat) : Stream := tget Stream.free s.mem.streams n
def State.putStream (s : State) (n : Nat) (x : Stream) : State :=
  s.setMem { s.mem with streams := tput Stream.free s.mem.streams n x }
def State.keHerd (s : State) (h : Nat) : KeHerd := tget KeHerd.reset s.ke h
def State.putKeHerd (s : State) (h : Nat) (x : KeHerd) : State := s.setKe (tput KeHerd.reset s.ke h x)

/-- The DTC now (10 R438). -/
def State.now (s : State) : DWord := s.sync.dtc

/-- Something leaves the module. -/
def State.emit (s : State) (o : Out) : State := s.setSent (s.sent ++ [o])

/-! ## The Tally's counters -/

/-- A Tally counter of 64 bits at its record offset counts on, and stays at its limit (19 R703). -/
def State.tallyAdd (s : State) (off k : Nat) : State :=
  s.setTally { s.tally with live := tput 0 s.tally.live off (satAdd (2 ^ 64 - 1) (tget 0 s.tally.live off) k) }

/-- The record offset of the OVERFLOW bits; the model holds the 256 bits as one number (19 R700). -/
def tallyOverflow : Nat := 0x1F00

/-- A Tally bin of 32 bits counts on; one that reaches its limit stays and sets its histogram's OVERFLOW bit (19 R704). -/
def State.tallyBin (s : State) (off ovf k : Nat) : State :=
  let v := satAdd 0xFFFFFFFF (tget 0 s.tally.live off) k
  let live := tput 0 s.tally.live off v
  s.setTally { s.tally with
    live := if v = 0xFFFFFFFF then tput 0 live tallyOverflow (tget 0 live tallyOverflow ||| 2 ^ ovf) else live }

/-! ## Messages to a host and the fault log -/

/-- The vector's mask bit in the port's MSI-X table (07 R283). -/
def PcieSt.masked (p : PcieSt) (v : Nat) : Bool := (tget 0 p.msix (4 * v + 3)).toNat.testBit 0

/-- An MSI-X message of a port: sent, or pending while its vector is masked (07 R283, 09 R391). -/
def State.msix (s : State) (p v : Nat) : State :=
  if (s.pcie p).masked v then s.putPcie p { s.pcie p with pba := tput false (s.pcie p).pba v true }
  else s.emit (.msix p v)

/-- The message of FLT_IRQ for an entry of a severity (14 R582). -/
def State.fltIrq (s : State) (p sev : Nat) : State :=
  let r := (vget s.fault.irq p 0).toNat
  if bitOf r 31 ∧ bitsOf r 19 17 ≤ 4 ∧ bitsOf r 19 17 ≤ sev then s.msix p (bitsOf r 30 20) else s

/-- MG_ALERT_N and, on I3C, an in-band interrupt (20 R732). -/
def State.alertFor (s : State) (sev : Nat) (n : DWord) : State :=
  if 3 ≤ sev then
    let t := s.setPins { s.pins with alert := some n }
    if s.pins.transport = 2 then t.emit .inBand else t
  else s

/-- One fault log entry (14 R580), its messages (R582) and alert (20 R732); class 0x0001 also counts in FLT_RESETS. -/
def State.logEvent (s : State) (cls kind unit sev : Nat) (arg0 arg1 : Nat) : State :=
  let n := s.fault.seq + 1
  let e : LogEntry := ⟨n, s.sync.dtc, s.sync.bcnt, cls, kind, sev, unit, BitVec.ofNat 64 arg0, BitVec.ofNat 64 arg1⟩
  let f := { s.fault with
    seq := n
    log := (s.fault.log ++ [e]).drop (s.fault.log.length + 1 - 512)
    last := if cls = 1 then arg0 else s.fault.last
    count := if cls = 1 then sat16 s.fault.count 1 else s.fault.count }
  (((s.setFault f).fltIrq 0 sev).fltIrq 1 sev).alertFor sev n

/-! ## Owners -/

/-- The port that owns a queue (09 R344, 14 R572). -/
def State.qOwner (s : State) (q : Nat) : Nat := b01 (s.start.qOwner.toNat.testBit q)
/-- The port that owns a context (07 R289). -/
def State.ctxOwner (s : State) (x : Nat) : Nat := b01 (s.start.ctxOwner.toNat.testBit x)
/-- The engine of a queue: 0 to 7 CE0 to CE7, 8 XE, 9 KE, 10 UE (09 R344). -/
def engineOf (q : Nat) : Nat := if q < 128 then q / 16 else if q < 160 then 8 else if q < 168 then 9 else 10

/-! ## Sites, logical cores and profiles -/

/-- The site that holds a logical core, none where it is not present (01 R30 to R32). -/
def State.siteOf (s : State) (c : Nat) : Option Nat :=
  match tget none s.start.lmap c with
  | none => some (64 * (c / 60) + c % 60)
  | some x => x

/-- The logical core that a site holds (01 R34). -/
def State.lcoreOf (s : State) (site : Nat) : Option Nat :=
  ((List.range 60).map (· + 60 * (site / 64))).find? fun c => decide (s.siteOf c = some site)

/-- STATE of ID_SITE_MAP: 0 active, 1 spare, 2 failed (01 R34). -/
def State.siteState (s : State) (site : Nat) : Nat :=
  if site ∈ s.start.siteFailed then 2 else if (s.lcoreOf site).isSome then 0 else 1

/-- The compute engine of a logical core, none where the image places it in none (16 R634 ENGINES). -/
def State.engineOfCore (s : State) (c : Nat) : Option Nat :=
  match s.start.img.engines with
  | none => some (c / 180)
  | some l => (l[c]?).bind fun e => if e < 8 then some e else none

/-- A profile code's rank: A 0, I 1, L 2; code 3 is `other` (15 R602, R603). -/
def profRank (code other : Nat) : Nat := if code = 3 then other else code
/-- The effective profile (15 R603). -/
def State.profile (s : State) : Nat :=
  min (profRank s.power.strapCool.toNat 0) (min (profRank s.power.profImage.toNat 2) (profRank s.power.profCmd.toNat 2))
/-- Enabled cores per die in a profile (15 R602). -/
def profCores (p : Nat) : Nat := if p = 0 then 30 else if p = 1 then 50 else 60
/-- The ceiling of a profile in W (15 R602). -/
def profWatts (p : Nat) : Nat := if p = 0 then 2000 else if p = 1 then 2800 else 3200

/-- A sensor failure's bit: unit `u`, sensor `i` (15 R607). -/
def State.sensorBad (s : State) (u i : Nat) : Bool := s.power.sensors.toNat.testBit (2 * u + i)

/-- Enabled cores of a die: half the profile's count while one of the die's sensors is failed (15 R604, R607). -/
def State.dieCores (s : State) (d : Nat) : Nat :=
  let k := profCores s.profile
  if s.sensorBad d 0 != s.sensorBad d 1 then k / 2 else k

/-- The present logical cores of a die in ascending order (15 R604). -/
def State.dieMembers (s : State) (d : Nat) : List Nat :=
  ((List.range 60).map (· + 60 * d)).filter fun c => (s.siteOf c).isSome

/-- The enabled cores of a die under the profile alone (15 R604). -/
def State.enabledOn (s : State) (d : Nat) : List Nat := (s.dieMembers d).take (profCores s.profile)

/-- The cores of a die that may take a new item: enabled, and not throttled (15 R607, R609). -/
def State.runningOn (s : State) (d : Nat) : List Nat :=
  let m := (s.dieMembers d).take (s.dieCores d)
  if m.length ≤ 4 then m else m.take (max 4 (m.length - s.power.steps))

/-- Whether a logical core may take a new item. -/
def State.coreRuns (s : State) (c : Nat) : Bool := (s.runningOn (c / 60)).elem c

/-- Every engine's placement holds an enabled core (09 R40, 15 R605); engines other than CE always open. -/
def State.engineOpen (s : State) (e : Nat) : Bool :=
  decide (8 ≤ e) || (List.range 24).any fun d => (s.enabledOn d).any fun c => decide (s.engineOfCore c = some e)

/-- BAR0 is open to the hosts: start-up step 6 has ended (16 R624). -/
def State.barOpen (s : State) : Bool := decide (s.power.phase = .on) && decide (6 ≤ s.start.step)
/-- Start-up has ended, and the module has not been shut down since (16 R619). -/
def State.started (s : State) : Bool := decide (s.power.phase = .on) && decide (s.start.step = 11)
/-- Queue commands are taken: start-up has ended, and no warm reset is on its way (16 R624, 14 R757). -/
def State.commanding (s : State) : Bool := s.started && s.fault.pending.isNone
/-- The device runs work: it takes queue commands and no thermal trip is in force (15 R611). -/
def State.serving (s : State) : Bool := s.commanding && !s.power.tripped
/-- A firmware activation drains the engines (18 R692): no list is read and no further item starts. -/
def State.draining (s : State) : Bool := decide (s.fwu.actState = 3)

/-- A host port that can carry traffic: trained, in D0, not gated (14 R556, 15 R596). -/
def State.portUp (s : State) (p : Nat) : Bool :=
  decide ((s.pcie p).speed ≠ 0) && !(s.pcie p).d3hot && s.power.gate1.toNat.testBit (8 + p)

/-! ## The address map -/

def hbmTop : Nat := 0x10000000000
def coreBase : Nat := 0x10000000000
def coreTop : Nat := 0x100C0000000
def ctlBase : Nat := 0x18000000000
def ctlTop : Nat := 0x18004000000
def lpBase : Nat := 0x20000000000
def localTop : Nat := 0x40000000000
/-- Bytes of core memory in a site's stride (07 R268). -/
def coreBytes : Nat := 0x180000

/-- Where a local address lies (07 R267, R268). -/
inductive Region where
  | hbm
  | core (site : Nat)
  | control
  | lp
  | hole
  deriving DecidableEq, Repr

/-- The region of a local address, holes of R268 included. -/
def State.region (s : State) (a : Nat) : Region :=
  if a < hbmTop then .hbm
  else if a < coreTop then
    let site := (a - coreBase) / 0x200000
    if (a - coreBase) % 0x200000 < coreBytes ∧ s.siteState site = 0 then .core site else .hole
  else if ctlBase ≤ a ∧ a < ctlTop then .control
  else if lpBase ≤ a ∧ a < localTop then .lp
  else .hole

/-- The interleave of 07 R276: the stack or hub of an address under a mode, `top` the partition's bit. -/
def interleave (mode top a : Nat) : Nat :=
  if mode = 3 then (a >>> top) % 8
  else (a / (if mode = 0 then 256 else if mode = 1 then 4096 else 65536)) % 8

/-- The offset within the stack or hub (07 R276, R280). -/
def interleaveOff (mode top a : Nat) : Nat :=
  if mode = 3 then a % 2 ^ top
  else
    let g := if mode = 0 then 256 else if mode = 1 then 4096 else 65536
    a / (8 * g) * g + a % g

/-- The hub that owns an address of HBM or LPDDR5X (07 R276, R280). -/
def State.hubOf (s : State) (a : Nat) : Nat :=
  if a < hbmTop then interleave s.start.img.hbmMode.toNat 37 a
  else interleave s.start.img.lpMode.toNat 38 (a - lpBase)

/-- Offset within the stack or channel group (07 R277, R280). -/
def State.hubOffset (s : State) (a : Nat) : Nat :=
  if a < hbmTop then interleaveOff s.start.img.hbmMode.toNat 37 a
  else interleaveOff s.start.img.lpMode.toNat 38 (a - lpBase)

/-- The logical pseudo-channel of an HBM address (07 R277). -/
def State.pseudo (s : State) (a : Nat) : Nat := bitsOf (s.hubOffset a) 12 8

/-- A bank of the hub, HBM banks by pseudo-channel and bank, LPDDR5X banks by channel, rank and bank (07 R277, R280). -/
def State.bankOf (s : State) (a : Nat) : Nat :=
  let o := s.hubOffset a
  if a < hbmTop then bitsOf o 12 8 * 64 + bitsOf o 20 15
  else 2048 + bitsOf o 10 8 * 32 + bitsOf o 14 14 * 16 + bitsOf o 18 15

/-- The row of an address within its bank. -/
def State.rowOf (s : State) (a : Nat) : Nat :=
  let o := s.hubOffset a
  if a < hbmTop then bitsOf o 36 21 else bitsOf o 37 19

/-- The LPDDR5X group of a hub is gated: by its enable, or because start-up could not train it, which no write of its enable mends (15
R594, 16 R623; log 51). -/
def State.lpGated (s : State) (h : Nat) : Bool := !s.power.gate0.toNat.testBit (8 + h) || s.power.lpBad.getLsbD h

/-- An LPDDR5X address behind a gated group (07 R281). -/
def State.gatedAt (s : State) (a : Nat) : Bool := decide (s.region a = .lp) && s.lpGated (s.hubOf a)

/-- Where a local address's byte is kept: HBM by stack and offset and LPDDR5X by group and offset, as if not interleaved, so that
contents stand when the interleave modes change (07 R276, R280, 16 R644); other addresses as they are. -/
def State.loc (s : State) (a : Nat) : Nat :=
  if a < hbmTop then s.hubOf a * 2 ^ 37 + s.hubOffset a
  else if lpBase ≤ a ∧ a < localTop then lpBase + s.hubOf a * 2 ^ 38 + s.hubOffset a
  else a

/-- Bytes of one granule of an interleave mode (07 R276). -/
def granule (mode : Nat) : Nat := if mode = 0 then 256 else if mode = 1 then 4096 else if mode = 2 then 65536 else 2 ^ 37

/-- The local address of a byte of a site's core memory. -/
def coreAddr (site off : Nat) : Nat := coreBase + site * 0x200000 + off

/-! ## Reading memory -/

/-- What an unlisted address reads as (log 2; core memory by 07 R750). -/
def emptyByte : Byte := 0

/-- An address in a range of open contents. -/
def OpenRange.has (r : OpenRange) (a : Nat) : Bool := decide (r.lo ≤ a) && decide (a < r.hi)
/-- The free byte of a range at an address (log 5). -/
def OpenRange.free (r : OpenRange) (a : Nat) : Byte := BitVec.ofNat 8 (Config.free r.base a)

/-- One byte of memory: what stands there, or a free value where the spec leaves the contents open. -/
def MemSt.byte (m : MemSt) (a : Nat) : Byte :=
  match m.unset.find? fun r => r.has a with
  | some r => r.free a
  | none => tget emptyByte m.cells a

def State.byte (s : State) (a : Nat) : Byte := s.mem.byte (s.loc a)
/-- `n` bytes from an address. -/
def State.bytes (s : State) (a n : Nat) : List Byte := (List.range n).map fun i => s.byte (a + i)
/-- The number that `n` bytes spell. -/
def State.num (s : State) (a n : Nat) : Nat := leNat (s.bytes a n)
/-- The start of an address's line. -/
def lineOf (a : Nat) : Nat := a / 64 * 64
/-- A line's data as 512 bits. -/
def State.line (s : State) (a : Nat) : Line := BitVec.ofNat 512 (s.num (lineOf a) 64)
/-- Whether a line reads uncorrectable (07 R297). -/
def State.isUe (s : State) (a : Nat) : Bool := s.mem.ue.elem (s.loc (lineOf a))
/-- The lines that `n` bytes from an address touch. -/
def linesOf (a n : Nat) : List Nat :=
  if n = 0 then [] else (List.range ((a + n - 1) / 64 + 1 - a / 64)).map fun i => 64 * (a / 64 + i)

/-! ## Accepted writes -/

/-- Bytes put into memory, in canonical form. -/
def putBytes (cells : List Host.Cell) (a : Nat) : List Byte → List Host.Cell
  | [] => cells
  | b :: bs => putBytes (tput emptyByte cells a b) (a + 1) bs

/-- Ranges without the bytes from `lo` to `hi − 1`. -/
def cutRanges (lo hi : Nat) (l : List OpenRange) : List OpenRange :=
  (l.map fun r =>
    (if r.lo < min r.hi lo then [{ r with hi := min r.hi lo }] else []) ++
    (if max r.lo hi < r.hi then [{ r with lo := max r.lo hi }] else [])).flatten

/-- A line of open contents gets what it reads as for its contents before part of it is written. -/
def MemSt.fix (m : MemSt) (a : Nat) : MemSt :=
  if m.unset.any fun r => (List.range 64).any fun i => r.has (lineOf a + i) then
    { m with cells := putBytes m.cells (lineOf a) ((List.range 64).map fun i => m.byte (lineOf a + i))
             unset := cutRanges (lineOf a) (lineOf a + 64) m.unset }
  else m

/-- The contents of whole lines become open, by where they are kept (07 R750, 09 R749). -/
def State.forgetLoc (s : State) (lo hi : Nat) : State :=
  (s.setMem { s.mem with
    cells := s.mem.cells.filter fun c => !(decide (lo ≤ c.1) && decide (c.1 < hi))
    unset := cutRanges lo hi s.mem.unset ++ [⟨lo, hi, s.freeCount⟩] }).setFreeCount (s.freeCount + 1)

/-- A range of local addresses cut at granules; the fuel is the number of pieces. -/
def cutGranules (g : Nat) : Nat → Nat → Nat → List (Nat × Nat)
  | 0, _, _ => []
  | n + 1, lo, hi => if hi ≤ lo then [] else (lo, min hi ((lo / g + 1) * g)) :: cutGranules g n ((lo / g + 1) * g) hi

/-- The contents of the whole lines of a range of HBM or core memory become open (07 R750, 09 R749). -/
def State.forget (s : State) (lo hi : Nat) : State :=
  if hbmTop ≤ lo then s.forgetLoc lo hi
  else
    let g := granule s.start.img.hbmMode.toNat
    (cutGranules g (hi / g + 1 - lo / g) lo hi).foldl (fun t p => t.forgetLoc (t.loc p.1) (t.loc p.1 + (p.2 - p.1))) s

/-- Whole lines read zero, by where they are kept (07 R750). -/
def State.zeroLoc (s : State) (lo hi : Nat) : State :=
  s.setMem { s.mem with cells := s.mem.cells.filter fun c => !(decide (lo ≤ c.1) && decide (c.1 < hi))
                        unset := cutRanges lo hi s.mem.unset
                        ue := s.mem.ue.filter fun l => !(decide (lo ≤ l) && decide (l < hi)) }

/-- The copies that a write to a line invalidates: its own, and gathered row lines fetched through it (08 R333, R339). -/
def BufLine.hit (b : BufLine) (line : Nat) : Bool := decide (b.line = line) || decide (b.index = some line)
def Fetch.hit (f : Fetch) (line : Nat) : Bool := !f.stale && (decide (f.line = line) || decide (f.index = some line))

/-- One hub's prefetch buffer after a write to a line: copies dropped, fetches in flight marked stale (08 R333, R334). -/
def HubSt.invalidate (h : HubSt) (line : Nat) : HubSt :=
  { h with buf := h.buf.filter fun b => !b.hit line
           fetches := h.fetches.map fun f => if f.hit line then { f with stale := true } else f }

/-- How many valid or in-flight lines a write invalidates (08 R337). -/
def HubSt.invalidated (h : HubSt) (line : Nat) : Nat :=
  (h.buf.filter fun b => b.hit line).length + (h.fetches.filter fun f => f.hit line).length

/-- Invalidation at one hub with its lifetime count PF_INVAL (08 R333, R337). -/
def State.invalidateAt (s : State) (line h : Nat) : State :=
  let n := (s.hub h).invalidated line
  if n = 0 then s else (s.putHub h ((s.hub h).invalidate line)).tallyAdd (0x280 + 8 * h) n

/-- Invalidation of every buffered copy of a line, and of the row lines gathered through it at any hub (08 R333, R339). -/
def State.invalidate (s : State) (line : Nat) : State := (List.range 8).foldl (fun t h => t.invalidateAt line h) s

/-- A LINK watch fires when a write touches its 8-byte word (10 R420). -/
def QueueSt.fire (x : QueueSt) (a n : Nat) : QueueSt :=
  match x.pos with
  | .watch w => if a < w + 8 ∧ w < a + n then { x with pos := .link w } else x
  | _ => x

/-- The LINK watches after a write to `n` bytes from an address (10 R420). -/
def State.fireLinks (s : State) (a n : Nat) : State :=
  s.setQueues (tmap (fun x => x.fire a n) s.queues)

/-- A write to core memory drops the runner rows that the feeder holds of its lines (04 R172). -/
def State.dropRunner (s : State) (site lo hi : Nat) : State :=
  let c := s.core site
  if c.arr.rLatch = [] then s
  else s.putCore site { c with arr := { c.arr with rLatch := c.arr.rLatch.filter fun r =>
    !(decide (64 * r.line < hi) && decide (lo < 64 * (r.line + r.lines))) } }

/-- One accepted line write or part of one, within one line: data, a whole line's repair (07 R297), invalidation (08
R333), LINK watches, and the feeder's latch. -/
def State.writeLine (s : State) (a : Nat) (bs : List Byte) : State :=
  let l := s.loc a
  let f := s.mem.fix l
  let m := { f with cells := putBytes f.cells l bs
                    ue := if bs.length = 64 then f.ue.filter (· ≠ lineOf l) else f.ue }
  let t := (s.setMem m).fireLinks a bs.length
  match s.region a with
  | .core site => t.dropRunner site (a - coreAddr site 0) (a - coreAddr site 0 + bs.length)
  | _ => t.invalidate (lineOf a)

/-- A list of bytes cut at line boundaries; the fuel is the number of bytes. -/
def cutLines : Nat → Nat → List Byte → List (Nat × List Byte)
  | 0, _, _ => []
  | f + 1, a, bs =>
    if bs = [] then [] else
      let n := 64 - a % 64
      (a, bs.take n) :: cutLines f (a + n) (bs.drop n)

/-- Accepted writes of bytes from an address, line by line. -/
def State.write (s : State) (a : Nat) (bs : List Byte) : State :=
  (cutLines bs.length a bs).foldl (fun t p => t.writeLine p.1 p.2) s

/-! ## Uncorrectable reads -/

/-- One uncorrectable read of a line counts at its hub and is logged under class 0x0020 (07 R297, R307, 14 R562). -/
def State.ueRead (s : State) (a sev : Nat) : State :=
  match s.region a with
  | .hbm => let h := s.hubOf a
            (s.putHub h { s.hub h with ueHbm := sat16 (s.hub h).ueHbm 1 }).logEvent 0x20 2 h sev (lineOf a) 0
  | .lp => let h := s.hubOf a
           (s.putHub h { s.hub h with ueLp := sat16 (s.hub h).ueLp 1 }).logEvent 0x20 2 h sev (lineOf a) 0
  | .core site => s.logEvent 0x20 1 site sev (lineOf a) 0
  | _ => s

/-- A line becomes uncorrectable, and stays so until it is written whole (07 R297). -/
def State.markUe (s : State) (a : Nat) : State :=
  s.setMem { s.mem with ue := if s.isUe a then s.mem.ue else s.loc (lineOf a) :: s.mem.ue }

/-! ## Windows -/

/-- A window grants a right (R bit 1, W bit 2, X bit 3 of QE_WIN_CTL) to a line (07 R287). -/
def Window.grants (w : Window) (right : Nat) (fabric : Bool) (a : Nat) : Bool :=
  w.ctl.toNat.testBit 0 && decide (w.base.toNat ≤ a / 4096) && decide (a / 4096 ≤ w.limit.toNat) &&
    w.ctl.toNat.testBit right && (!fabric || w.ctl.toNat.testBit 4)

/-- Some window of the set grants the right (07 R287, R274). -/
def WinSet.grants (ws : WinSet) (right : Nat) (fabric : Bool) (a : Nat) : Bool :=
  ws.toList.any fun w => w.grants right fabric a

/-- The rights' bits. -/
def rightR : Nat := 1
def rightW : Nat := 2
def rightX : Nat := 3

/-- DETAIL of a failure at an address: its bits [41:10] (09 R384). -/
def addrDetail (a : Nat) : Nat := a / 1024 % 2 ^ 32

def failWindow (a : Nat) : Fail := ⟨0x10, addrDetail a, none⟩
def failEcc (a : Nat) : Fail := ⟨0x11, addrDetail a, some a⟩
def failGated (a : Nat) : Fail := ⟨0x19, addrDetail a, none⟩
/-- FAILED_MALFORMED found at start, at a byte offset of the command (09 R384). -/
def failField (off : Nat) : Fail := ⟨0x1D, 0xFF000000 + off, none⟩

/-- A failure at an address of control space names no address within it (07 R269). -/
def State.failAddr (s : State) (a : Nat) : Fail := if s.region a = .control then ⟨0x10, 0x60000000, none⟩ else failWindow a

/-- The first of a descriptor's local addresses with a bit above bit 41, which fails the item (07 R272). -/
def failFar (as : List Nat) : Option Fail := (as.find? fun a => decide (2 ^ 42 ≤ a)).map failWindow

/-- The check of one line of an item's local access (07 R268, R269, R281, R287, R288). -/
def State.checkLine (s : State) (ws : WinSet) (right : Nat) (a : Nat) : Option Fail :=
  match s.region a with
  | .hole => some (failWindow a)
  | .control => some ⟨0x10, 0x60000000, none⟩
  | _ =>
    if !ws.grants right false a then some (failWindow a)
    else if s.gatedAt a then some (failGated a)
    else none

/-- A read of one line on behalf of an item: its check, then its ECC (07 R288, R297). -/
def State.checkRead (s : State) (ws : WinSet) (a : Nat) : Option Fail :=
  match s.checkLine ws rightR a with
  | some f => some f
  | none => if s.isUe a then some (failEcc a) else none

/-- The first failure of reading `n` bytes, line by line in ascending order. -/
def State.checkReads (s : State) (ws : WinSet) (a n : Nat) : Option Fail :=
  (linesOf a n).findSome? fun l => s.checkRead ws (max l a)

/-- A write of part of a line, or of a whole line, on behalf of an item (07 R288, R298). -/
def State.checkWrite (s : State) (ws : WinSet) (a n : Nat) : Option Fail :=
  match s.checkLine ws rightW a with
  | some f => some f
  | none => if s.isUe a ∧ n < 64 then some (failEcc a) else none

/-- An item's writes of a list of bytes, line by line up to the first that fails (07 R288). -/
def writesFor (ws : WinSet) (s : State) : List (Nat × List Byte) → State × Option Fail
  | [] => (s, none)
  | (a, bs) :: t =>
    match s.checkWrite ws a bs.length with
    | some f => (s, some f)
    | none => writesFor ws (s.writeLine a bs) t

/-- An item's write of bytes from a local address (07 R288). -/
def State.writeFor (s : State) (ws : WinSet) (a : Nat) (bs : List Byte) : State × Option Fail :=
  writesFor ws s (cutLines bs.length a bs)

/-- A hub's requests that hold a slot, and those that wait in its sort queue (07 R302, R303). -/
def HubSt.inSlots (x : HubSt) : List HubReq := x.reqs.filter (·.slot)
def HubSt.sorted (x : HubSt) : List HubReq := x.reqs.filter (!·.slot)

/-- KiB of early CHUNK data at a hub, rounded up (12 R519). -/
def HubSt.heldKib (h : HubSt) : Nat := ((h.chunks.map fun c => c.data.length).foldl (· + ·) 0 * 64 + 1023) / 1024

/-- The report of an uncorrectable read that made a failure (07 R297, R307). -/
def State.noteUe (s : State) (f : Fail) : State := match f.ue with | some a => s.ueRead a 2 | none => s

end Sys2Proof.Machine
end

