-- ==== Sys2Proof/Machine/LinkOps.lean ====
section
/-!
DEFINITION. What the link ports share: flits and their CRC (11 R461), packing of messages (R462), sending against credits
with replay (R465 to R469), routes (R480, R484), and sending one message of this device or in transit.
-/
namespace Sys2Proof.Machine

/-! ## Flits -/

/-- One bit step of the reflected CRC-32C (11 R461). -/
def crcBit (c : Word) : Word := if c.getLsbD 0 then (c >>> 1) ^^^ 0x82F63B78#32 else c >>> 1
/-- One byte into the CRC. -/
def crcByte (c : Word) (b : Byte) : Word :=
  crcBit (crcBit (crcBit (crcBit (crcBit (crcBit (crcBit (crcBit (c ^^^ b.zeroExtend 32))))))))
/-- CRC-32C of bytes (11 R461). -/
def crc32c (bs : List Byte) : Word := (bs.foldl crcByte 0xFFFFFFFF#32) ^^^ 0xFFFFFFFF#32

/-- The bytes of a flit in order. -/
def flitBytes (f : Flit) : List Byte := natLe 256 f.toNat
/-- A flit of 256 bytes. -/
def flitOf (bs : List Byte) : Flit := BitVec.ofNat 2048 (leNat bs)

/-- A flit with its CRC (11 R461): type, VC, FSEQ, ASEQ, CREDIT and payload. -/
def mkFlit (type vc fseq aseq credit : Nat) (payload : List Byte) : Flit :=
  let h := natLe 1 type ++ natLe 1 vc ++ natLe 2 fseq ++ natLe 2 aseq ++ natLe 2 credit ++ natLe 4 0
  let p := (payload ++ List.replicate 240 0).take 240
  flitOf (h ++ natLe 4 (crc32c (h ++ p)).toNat ++ p)

/-- The header fields of a flit (11 R461). -/
structure FlitHead where
  type : Nat
  vc : Nat
  fseq : Nat
  aseq : Nat
  credit : Nat
  creditVc : Nat
  zeros : Bool
  crcOk : Bool
  deriving DecidableEq, Repr

def readHead (f : Flit) : FlitHead :=
  let b := flitBytes f
  let n := f.toNat
  let type := bitsOf n 7 0
  { type := type, vc := bitsOf n 9 8, fseq := bitsOf n 31 16, aseq := bitsOf n 47 32, credit := bitsOf n 59 48,
    creditVc := bitsOf n 61 60,
    zeros := bitsOf n 15 10 == 0 && bitsOf n 63 62 == 0 && bitsOf n 95 64 == 0 &&
      (type == 1 || (bitsOf n 9 8 == 0 && bitsOf n 31 16 == 0)),
    crcOk := (crc32c (b.take 12 ++ b.drop 16)).toNat == bitsOf n 127 96 }

/-- A flit that R461 lets through: good CRC, a known TYPE, zero fields zero. -/
def FlitHead.good (h : FlitHead) : Bool := h.crcOk && decide (h.type ≤ 3) && h.zeros

def flitPayload (f : Flit) : List Byte := (flitBytes f).drop 16

/-! ## Messages -/

/-- The virtual channel of a KIND (11 R462). -/
def kindVc (k : Nat) : Nat := if k < 0x10 then 0 else if k < 0x20 then 1 else if k = 0x20 then 2 else 3

/-- A message's bytes (11 R462). -/
def msgBytes (kind : Nat) (m : MsgHead) (data : List Line) : List Byte :=
  natLe 1 kind ++ natLe 1 (data.length + 8 * m.hops) ++ natLe 2 m.src ++ natLe 2 m.dst ++ natLe 2 m.mtag.toNat ++
    natLe 8 m.arg.toNat ++ (data.map fun l => natLe 64 l.toNat).flatten

/-- The payloads that carry a message which starts a new flit (11 R462; log 17). -/
def payloads : Nat → List Byte → List (List Byte)
  | 0, _ => []
  | n + 1, bs => if bs = [] then [] else bs.take 240 :: payloads n (bs.drop 240)

/-- The hub of a port (01 R21). -/
def portHub (p : Nat) : Nat := p % 8

/-- The VCs whose credits a port holds back: requests while its hub's sort queue is full (07 R302), collectives while the hub holds
8 MiB of early data (12 R509). -/
def State.withheld (s : State) (p : Nat) : List Nat :=
  (if 65536 ≤ (s.hub (portHub p)).sorted.length then [0] else []) ++ (if 8192 ≤ (s.hub (portHub p)).heldKib then [2] else [])

/-- The credit field to send now: the first VC with freed flits that is not held back (11 R469). -/
def LinkSt.creditField (l : LinkSt) (held : List Nat) : Nat × LinkSt :=
  match (List.range 4).find? fun v => decide (0 < vget l.rxFree v 0) && !held.elem v with
  | none => (0, l)
  | some v => let k := min 4095 (vget l.rxFree v 0)
              (k + 4096 * v, { l with rxFree := vset l.rxFree v (vget l.rxFree v 0 - k) })

/-- The ASEQ that every flit carries: the last data flit received in order (11 R461, R468). -/
def LinkSt.aseq (l : LinkSt) : Nat := (l.rxSeq - 1).toNat

/-- One waiting data flit sent against a credit of its VC and a place in the replay buffer (11 R465, R469), or kept. -/
def LinkSt.send1 (held : List Nat) (l : LinkSt) (e : TxFlit) : LinkSt × List Flit :=
  if l.phase = .up ∧ 0 < vget l.credits e.vc 0 ∧ l.replay.length < 4096 ∧ !l.txq.any (fun x => decide (x.vc = e.vc)) then
    let c := l.creditField held
    let f := mkFlit 1 e.vc l.txSeq.toNat l.aseq c.1 (flitPayload e.flit)
    ({ c.2 with credits := vset l.credits e.vc (vget l.credits e.vc 0 - 1), replay := l.replay ++ [f],
                txSeq := l.txSeq + 1 }, [f])
  else ({ l with txq := l.txq ++ [e] }, [])

/-- Every waiting flit that can go, in order within its VC (11 R470). -/
def LinkSt.pump (held : List Nat) (l : LinkSt) : LinkSt × List Flit :=
  l.txq.foldl (fun a e => let r := a.1.send1 held e; (r.1, a.2 ++ r.2)) ({ l with txq := [] }, [])

/-- Flits leave a port. -/
def State.emitFlits (s : State) (l : Nat) (fs : List Flit) : State := fs.foldl (fun t f => t.emit (.flit l f)) s

/-- The port sends what it can; the age of the oldest buffered flit starts when the buffer was empty (11 R467). -/
def State.pumpLink (s : State) (l : Nat) : State :=
  let r := (s.link l).pump (s.withheld l)
  let x := if (s.link l).replay = [] then { r.1 with lastAseq := s.now } else r.1
  (s.putLink l x).emitFlits l r.2

/-- A message handed to a port: noted, packed, and sent as far as credits allow. -/
def State.sendOn (s : State) (l kind : Nat) (m : MsgHead) (data : List Line) : State :=
  let bs := msgBytes kind m data
  let ps := payloads 2 bs
  let fs := (ps.zip (List.range ps.length)).map fun p =>
    (⟨kindVc kind, decide (p.2 = 0), flitOf (List.replicate 16 0 ++ p.1)⟩ : TxFlit)
  let t := s.emit (.msg l kind m data)
  (t.putLink l { t.link l with txq := (t.link l).txq ++ fs }).pumpLink l

/-! ## Routes -/

/-- What route answers (11 R480). -/
inductive Route where
  | here
  | none
  | port (p : Nat)
  deriving DecidableEq, Repr

def FabricImg.members (f : FabricImg) : Nat := f.x * f.y * f.z

/-- A device's coordinate in a dimension (11 R477). -/
def FabricImg.coord (f : FabricImg) (d dim : Nat) : Nat :=
  if dim = 0 then d % f.x else if dim = 1 then d / f.x % f.y else d / (f.x * f.y)

def FabricImg.ext (f : FabricImg) (dim : Nat) : Nat := if dim = 0 then f.x else if dim = 1 then f.y else f.z

/-- First and second port of a direction 0 x+, 1 x−, 2 y+, 3 y−, 4 z+, 5 z− (11 R476). -/
def firstPort (dir : Nat) : Nat := if dir = 0 then 0 else if dir = 1 then 4 else if dir = 2 then 2 else if dir = 3 then 6
  else if dir = 4 then 8 else 10

/-- The detour port of a direction, if the image names one (11 R479). -/
def FabricImg.detour (f : FabricImg) (dir : Nat) : Option Nat :=
  let p := vget f.detours dir 0xFF
  if p < 16 then some p else .none

/-- The direction that route takes in a dimension: the shorter way, plus on a tie (11 R480). -/
def FabricImg.dirTo (f : FabricImg) (self d dim : Nat) : Nat :=
  let e := f.ext dim
  let g := (f.coord d dim + e - f.coord self dim) % e
  if g ≤ e - g then 2 * dim else 2 * dim + 1

/-- The port of one direction (11 R480). -/
def FabricImg.pickPort (f : FabricImg) (up : Nat → Bool) (src d dir : Nat) : Route :=
  let p := if (src + d) % 2 = 0 then firstPort dir else firstPort dir + 1
  let o := if (src + d) % 2 = 0 then firstPort dir + 1 else firstPort dir
  if up p then .port p
  else if up o then .port o
  else match f.detour dir with
    | some b => if up b then .port b else .none
    | .none => .none

/-- The procedure route of 11 R480, for given states of the ports and LOST marks. -/
def FabricImg.route (f : FabricImg) (up : Nat → Bool) (lost : Nat → Bool) (src d hops : Nat) : Route :=
  if lost d then .none
  else match f.cascade.find? fun e => decide (e.1 = d) with
    | some e => if up e.2 then .port e.2 else .none
    | .none =>
      if f.members ≤ d ∨ 24 < hops then .none
      else match (List.range 3).find? fun dim => decide (f.coord f.device dim ≠ f.coord d dim) with
        | .none => .here
        | some dim => f.pickPort up src d (f.dirTo f.device d dim)

/-- A port in service: UP, or SPARING, where messages wait (11 R473, R474). -/
def LinkSt.carries (l : LinkSt) : Bool := decide (l.phase = .up) || decide (l.phase = .sparing)

/-- A port that carries routed traffic. R480 says 'UP with ROUTED = 1'; a sparing loses and reorders no message, and messages wait on
the port (11 R474), so a SPARING port keeps its place in route (DEDUCED, log 77). -/
def State.linkUp (s : State) (p : Nat) : Bool := (s.link p).carries && (s.link p).routed

/-- The fabric section in force. -/
def State.fabImg (s : State) : FabricImg := s.start.img.fab
/-- This device's number. -/
def State.device (s : State) : Nat := s.fabImg.device

/-- The route of a message at this device (11 R480). -/
def State.route (s : State) (src d hops : Nat) : Route :=
  s.fabImg.route s.linkUp (fun e => s.fab.lost.toNat.testBit e) src d hops

/-- DETAIL of FAILED_LINK: the message's nominal port, or bit 4 (09 R384, 11 R480). -/
def State.nominal (s : State) (d : Nat) : Nat :=
  match s.fabImg.route (fun p => decide ((s.link p).role ≠ 0)) (fun _ => false) s.device d 0 with
  | .port p => p
  | _ => 16

def State.failLink (s : State) (d : Nat) : Fail := ⟨0x1A, s.nominal d, none⟩

/-- Whether a device is reachable (11 R484). -/
def State.reachable (s : State) (d : Nat) : Bool :=
  decide (d = s.device) || (match s.route s.device d 0 with | .port _ => true | _ => false)

/-- A message sent on the port that route gives; one that has no route is discarded (11 R480, R484). -/
def State.sendTo (s : State) (kind : Nat) (m : MsgHead) (data : List Line) : State :=
  match s.route m.src m.dst m.hops with
  | .port p => s.sendOn p kind m data
  | _ => s

/-- A message of this device. -/
def State.originate (s : State) (kind dst : Nat) (mtag : Nat) (arg : Nat) (data : List Line) : State :=
  s.sendTo kind ⟨0, Fin.ofNat 512 s.device, Fin.ofNat 512 dst, BitVec.ofNat 16 mtag, BitVec.ofNat 64 arg⟩ data

/-! ## Receiving -/

/-- A port on which messages arrive. -/
def State.hears (s : State) (l : Nat) : Bool := decide ((s.link l).phase = .up) && decide (s.power.phase = .on)

/-- Bytes left in the flit that the next message byte of a VC lies in; messages end on a flit's end at the stream's end. -/
def rxSkip (bs : List Byte) : List Byte :=
  match bs with
  | [] => []
  | b :: _ => if b = 0 then bs.drop (if bs.length % 240 = 0 then 240 else bs.length % 240) else bs

/-- A message taken from a VC's stream where it stands at the front; its flits are freed (11 R462, R469). -/
def LinkSt.take (l : LinkSt) (v kind : Nat) (m : MsgHead) (data : List Line) : LinkSt :=
  let bs := rxSkip (vget l.rx v [])
  let msg := msgBytes kind m data
  if msg.isPrefixOf bs then
    let rest := rxSkip (bs.drop msg.length)
    let freed := ((vget l.rx v []).length + 239) / 240 - (rest.length + 239) / 240
    { l with rx := vset l.rx v rest, rxFree := vset l.rxFree v (vget l.rxFree v 0 + freed) }
  else l

/-- A message has arrived on a port. -/
def State.takeMsg (s : State) (l kind : Nat) (m : MsgHead) (data : List Line) : State :=
  s.putLink l ((s.link l).take (kindVc kind) kind m data)

/-- The message one hop on (11 R462). -/
def hopOn (m : MsgHead) : MsgHead := { m with hops := m.hops + 1 }

/-- A message in transit goes on, its HOPS one more for the hop that brought it; a request with no route is answered
UNREACHABLE to its source (11 R462, R480, R484). -/
def State.transit (s : State) (kind : Nat) (m : MsgHead) (data : List Line) : State :=
  match s.route m.src m.dst (m.hops.toNat + 1) with
  | .port p => s.sendOn p kind (hopOn m) data
  | _ => if kindVc kind = 0 then s.originate 0x16 m.src (if kind = 1 then m.mtag.toNat % 2 ^ 13 else m.mtag.toNat) 0 [] else s

end Sys2Proof.Machine
end

