-- ==== Sys2Proof/Machine/TileOps.lean ====
section
/-!
DEFINITION. What the array and tile commands share: the fields of a tile instruction (04 R146, R147), the rows of the array
and its skew profile (03 R94, R144), cycles per product (R100), the pass-start procedure (05 R201), keeper latches (03
R754), adding a chunk sum into a tile (R111 to R113), the captured invalid event (04 R173), and cutting a pass at a stop.
-/
namespace Sys2Proof.Machine

/-! ## Fields of a tile instruction (04 R146, R147) -/

abbrev TWord := BitVec 128
def twF (w : TWord) (hi lo : Nat) : Nat := bitsOf w.toNat hi lo
def twB (w : TWord) (i : Nat) : Bool := w.toNat.testBit i
def twTop (w : TWord) : Nat := twF w 123 120
def twM (w : TWord) : Nat := twF w 119 112 + 1
def twN (w : TWord) : Nat := twF w 111 105 + 1
def twK (w : TWord) : Nat := twF w 104 98 + 1
def twRfmt (w : TWord) : Nat := twF w 97 94
def twKfmt (w : TWord) : Nat := twF w 93 90
def twOfmt (w : TWord) : Nat := twF w 89 86
def twRnd (w : TWord) : Nat := twF w 85 84
def twPasses (w : TWord) : Nat := twF w 83 82
def twAcc (w : TWord) : Nat := twF w 81 80
def twZero (w : TWord) : Bool := twB w 79
def twTk (w : TWord) : Bool := twB w 78
def twTr (w : TWord) : Bool := twB w 77
def twReuse (w : TWord) : Bool := twB w 76
def twSat (w : TWord) : Bool := twB w 75
def twSr (w : TWord) : Bool := twB w 74
def twMaskEn (w : TWord) : Bool := twB w 73
def twMaskId (w : TWord) : Nat := twF w 72 69
def twKconv (w : TWord) : Bool := twB w 68
def twDest (w : TWord) : Bool := twB w 67
def twRaddr (w : TWord) : Nat := twF w 63 49
def twKaddr (w : TWord) : Nat := twF w 48 34
def twVreg (w : TWord) : Nat := twF w 48 44
def twOrg (w : TWord) : Nat := twF w 43 39
def twRsaddr (w : TWord) : Nat := twF w 33 19
def twKsaddr (w : TWord) : Nat := twF w 18 4
/-- The stamp an instruction carries (04 R159). -/
def twStamp (w : TWord) : Stamp := ⟨true, BitVec.ofNat 7 (twF w 111 105), BitVec.ofNat 8 (twF w 119 112)⟩
/-- Wide mode (03 R103). -/
def twWide (w : TWord) : Bool := twRfmt w == 0 && twKfmt w == 0
/-- Width of the keeper elements in core memory (04 R154). -/
def twKbits (w : TWord) : Nat := if twKconv w then 32 else fmtBits (twKfmt w)

/-! ## Rows of the array -/

/-- The healthy physical rows in ascending order (03 R94). -/
def ArrayState.healthyRows (a : ArrayState) : List Nat := (List.range 100).filter fun r => !a.failed.getLsbD r
/-- The physical row of a logical row (03 R94). -/
def ArrayState.phys (a : ArrayState) (k : Nat) : Nat := (a.healthyRows[k]?).getD 100
/-- The bypassed rows in ascending order: failed rows above the row that holds logical row 95 (03 R94). -/
def ArrayState.bypassed (a : ArrayState) : List Nat := (List.range (a.phys 95)).filter fun r => a.failed.getLsbD r
/-- The state of a physical row: 0 in use, 1 spare, 2 bypassed, 3 failed spare (03 R144). -/
def ArrayState.rowState (a : ArrayState) (r : Nat) : Nat :=
  if a.failed.getLsbD r then (if r < a.phys 95 then 2 else 3) else if r ≤ a.phys 95 then 0 else 1
/-- How many spare rows of an earlier map this one has taken into use: the rows promoted (03 R93, R125). -/
def ArrayState.promoted (a old : ArrayState) : Nat :=
  ((List.range 100).filter fun r => decide (old.rowState r = 1) && decide (a.rowState r = 0)).length
/-- BPi as CORE_BYPASS shows it (03 R144). -/
def ArrayState.bp (a : ArrayState) (i : Nat) : Nat := (a.bypassed[i]?).getD 0xFF
/-- The number of bypassed rows as CORE_SKEW reports it: 5 to 7 are never reported (03 R144). -/
def ArrayState.bypassCount (a : ArrayState) : Nat := min 4 a.bypassed.length
/-- CORE_SKEW (03 R144). -/
def ArrayState.skew (a : ArrayState) : Nat :=
  a.epoch.toNat * 65536 + a.bypassCount * 256 + (192 + a.bypassCount)
/-- CORE_BYPASS (03 R144). -/
def ArrayState.bypassReg (a : ArrayState) : Nat :=
  a.bp 0 + 256 * a.bp 1 + 65536 * a.bp 2 + 16777216 * a.bp 3
/-- The load window W (03 R117). -/
def ArrayState.window (a : ArrayState) : Int := a.phys 95 + 1

/-- Cycles per product (03 R100, R104). -/
def cyclesPer (rfmt passes : Nat) : Nat :=
  if rfmt = 0 then (if passes = 1 then 4 else if passes = 2 then 12 else 24)
  else if rfmt = 1 then 4 else if rfmt = 2 then 6 else if rfmt ≤ 9 then 2 else 4
def twC (w : TWord) : Nat := cyclesPer (twRfmt w) (twPasses w)
/-- Steps of a staged runner tile (06 R255). -/
def twSteps (w : TWord) : Nat := twM w + 99 / twC w
/-- The runner rows that stream: below M and not masked (05 R209), in ascending order. -/
def streamed (w : TWord) (mask : BitVec 256) : List Nat := (List.range (twM w)).filter fun m => mask.getLsbD m

/-- An audit is due or runs, or has become due by the count of passes (03 R135, R136). -/
def ArrayState.audits (a : ArrayState) : Bool := a.auditDue || a.auditRun.isSome || decide (a.passes = 0x100000)

/-! ## Pass timing (03 R117 to R122, 05 R201) -/

/-- The ACLK cycle in which the tick that runs now begins (13 cycles to a tick; log 16). -/
def State.aclk (s : State) : Int := 13 * (s.now.toNat : Int)

/-- Whether a cycle has come by the end of the tick that runs now (log 16). -/
def State.reached (s : State) (cyc : Int) : Bool := decide (cyc < s.aclk + 13)

/-- The bank a load writes: 3 both for a wide keeper, else the idle bank of 03 R748 (1 K0, 2 K1). -/
def loadBank (lastLoad : Nat) (wide : Bool) : Nat := if wide then 3 else if lastLoad = 1 then 2 else 1

/-- The cycle variables as after a drain (03, 05 R201). -/
def Pipe.drained (i : Int) : Pipe := ⟨i, i, i, i - 1, i - 1, i - 1⟩

/-- The load window of a keeper (03 R117). -/
def ArrayState.loadLen (a : ArrayState) (wide : Bool) : Int := if wide then 2 * a.window else a.window

/-- The first cycle in which a bank may be written (03 R118). -/
def Pipe.free (p : Pipe) (bank : Nat) : Int := if bank = 3 then max p.u0 p.u1 else if bank = 1 then p.u0 else p.u1

/-- When the transposing buffer holds an operand filled for a pass presented in cycle I (05 R201). -/
def Pipe.filled (p : Pipe) (i : Int) : Int := max (max i p.rs + 96) (p.re + 1)

/-- The cycle L of a keeper load (05 R201). -/
def Pipe.loadAt (p : Pipe) (i : Int) (bank : Nat) (tk : Bool) : Int :=
  let l := max (max (p.free bank) p.port) i
  if tk then max l (p.filled i) else l

/-- The cycle variables after a load that begins in cycle L. -/
def Pipe.loaded (p : Pipe) (l len : Int) (tk : Bool) : Pipe :=
  { p with port := l + len, rs := if tk then l else p.rs, re := if tk then l + len - 1 else p.re }

/-- The cycle S of a pass whose keeper is ready in cycle `ready` (05 R201). -/
def Pipe.startAt (p : Pipe) (i ready : Int) (tr : Bool) : Int :=
  max (p.t + 1) (if tr then max ready (p.filled i) else ready)

/-- The cycle variables after a pass of `n` cycles that starts in cycle S. -/
def Pipe.started (p : Pipe) (s n : Int) (bank : Nat) (tr : Bool) : Pipe :=
  let t := s + n - 1
  { p with u0 := if bank = 2 then p.u0 else t + 1, u1 := if bank = 1 then p.u1 else t + 1, t := t,
           rs := if tr then s else p.rs, re := if tr then t else p.re }

/-! ## Keeper latches (03 R105, R754) -/

/-- The latch contents of a narrow element (02 R62, R63, 03 R754). -/
def latchOf (kfmt : Nat) (conv : Bool) (bits : Nat) : Nat :=
  if conv then (if kfmt = 1 then bf16Fmt.rne (fp32Fmt.read bits) else fp16Fmt.rne (fp32Fmt.read bits))
  else if kfmt = 7 then e4m3Fmt.rne (e2m3Fmt.read bits)
  else if kfmt = 8 then e4m3Fmt.rne (e3m2Fmt.read bits)
  else if kfmt = 9 then e4m3Fmt.rne (e2m1Fmt.read bits)
  else if kfmt = 11 then (sInt 4 bits % 256).toNat
  else bits

/-- The value that a narrow latch holds, before its block scale. -/
def latchVal (kfmt bits : Nat) : Val :=
  if kfmt = 1 then bf16Fmt.read bits else if kfmt = 2 then fp16Fmt.read bits
  else if kfmt = 4 ∨ kfmt = 6 then e5m2Fmt.read (bits % 256)
  else if kfmt ≤ 9 then e4m3Fmt.read (bits % 256)
  else if kfmt = 12 then intVal (sInt 8 bits) (-6) else intVal (sInt 8 bits) 0

/-- A wide element in its latches: K0 slices 0 and 1, K1 the exponent field and slice 2 (03 R105). -/
def wideLatch (bits : Nat) : Nat × Nat × Bool :=
  let ex := bitsOf bits 30 23
  let sig := bitsOf bits 22 0 + (if ex = 0 then 0 else 2 ^ 23)
  (sig / 256, ex * 256 + sig % 256, bits.testBit 31)

/-- The FP32 encoding that wide latches hold. -/
def wideBits (k0 k1 : Nat) (neg : Bool) : Nat :=
  b01 neg * 2 ^ 31 + k1 / 256 % 256 * 2 ^ 23 + (k0 * 256 + k1 % 256) % 2 ^ 23

/-- A keeper latch: as written, or a free value after an audit, or zero (03 R137; log 5). -/
def ArrayState.latch (a : ArrayState) (bank i : Nat) : BitVec 16 :=
  match tget none (if bank = 1 then a.k0 else a.k1) i with
  | some x => x
  | none => match a.base with
    | none => 0
    | some b => BitVec.ofNat 16 (Config.free b (2 ^ 43 + bank * 16384 + i))

/-- A wide sign bit. -/
def ArrayState.signBit (a : ArrayState) (i : Nat) : Bool :=
  match tget none a.wsign i with
  | some x => x
  | none => match a.base with
    | none => false
    | some b => (Config.free b (2 ^ 43 + i)).testBit 0

/-- The value of keeper cell (k, n) in a bank (1 K0, 2 K1, 3 both), before its block scale. -/
def ArrayState.keeper (a : ArrayState) (bank kfmt k n : Nat) : Val :=
  let i := 96 * k + n
  if bank = 3 then
    fp32Fmt.read (wideBits (a.latch 1 i).toNat (a.latch 2 i).toNat (a.signBit i))
  else latchVal kfmt (a.latch bank i).toNat

/-- What is kept of a keeper element on its way to its latches: its latch form, or the FP32 encoding of a wide one. -/
def cellForm (w : TWord) (bits : Nat) : Nat := if twWide w then bits else latchOf (twKfmt w) (twKconv w) bits

/-- A keeper element written into its latch or latches. -/
def ArrayState.putKeeper (a : ArrayState) (bank k n form : Nat) : ArrayState :=
  let i := 96 * k + n
  if bank = 3 then
    let x := wideLatch form
    { a with k0 := tput none a.k0 i (some (BitVec.ofNat 16 x.1)), k1 := tput none a.k1 i (some (BitVec.ofNat 16 x.2.1)),
             wsign := tput none a.wsign i (some x.2.2) }
  else
    let x := BitVec.ofNat 16 form
    if bank = 1 then { a with k0 := tput none a.k0 i (some x) } else { a with k1 := tput none a.k1 i (some x) }

/-- The keeper rows of a pass from its first up to below `upto` written into its bank; rows k ≥ K and columns n ≥ N keep their
latches (03 R102, R117; log 22). -/
def ArrayState.writeRows (a : ArrayState) (x : Pass) (upto : Nat) : ArrayState :=
  (List.range (min upto (twK x.word))).foldl (fun a k => if k < x.krow then a else
    (List.range (twN x.word)).foldl (fun a n => a.putKeeper x.bank k n ((x.keeper.getD k []).getD n 0)) a) a

/-- The latch holds the keeper of a TMM (04 R167). -/
def KLatch.serves (l : KLatch) (w : TWord) : Bool :=
  l.kaddr == twKaddr w && l.ksaddr == twKsaddr w && l.k == twK w && l.n == twN w && l.kfmt == twKfmt w &&
    l.kconv == twKconv w && l.tk == twTk w

/-- A TMM that loads no keeper, since the latch holds it (04 R167, 03 R121). -/
def ArrayState.reuses (a : ArrayState) (w : TWord) : Option KLatch := a.kLatch.filter fun l => twReuse w && l.serves w

/-! ## Accumulator tiles -/

/-- The key of element (m, n) of a tile. -/
def tileKey (t m n : Nat) : Nat := 24576 * t + 96 * m + n
def TileState.elem (t : TileState) (acc m n : Nat) : BitVec 34 := tget 0 t.a (tileKey acc m n)
def TileState.putElem (t : TileState) (acc m n : Nat) (v : BitVec 34) : TileState :=
  { t with a := tput 0 t.a (tileKey acc m n) v }
/-- Elements set to +0. -/
def TileState.zeroed (t : TileState) (f : Nat → Bool) : TileState :=
  { t with a := t.a.filter fun e => !f e.1, nans := t.nans.filter fun e => !f e.1 }
/-- A tile set to +0 in every element (04 R145, R158, R162). -/
def TileState.clear (t : TileState) (acc : Nat) : TileState := t.zeroed fun i => decide (i / 24576 = acc)
def TileState.stamp (t : TileState) (acc : Nat) : Stamp := vget t.stamps acc Stamp.invalid
def TileState.setStamp (t : TileState) (acc : Nat) (x : Stamp) : TileState := { t with stamps := vset t.stamps acc x }

/-- An FP32X encoding's value (02 R64). -/
def f34 (x : BitVec 34) : Val := fp32xFmt.read x.toNat

/-- The exact finite sum of a tile element (none under ZERO) and a chunk, rounded once (03 R111, R112). -/
def addFinite (a : Option (Bool × Nat × Int)) (cs : ChunkSum) : BitVec 34 :=
  let av := a.getD (false, 0, cs.e)
  let g := min av.2.2 cs.e
  let x := Val.toIntAt av.1 av.2.1 av.2.2 g + cs.v * (pow2 (cs.e - g) : Nat)
  if x = 0 then
    let aNeg := match a with | none => true | some v => v.1 && v.2.1 == 0
    if cs.allNegZero && aNeg then BitVec.ofNat 34 (fp32xFmt.signed true 0) else 0
  else
    let v := if cs.sticky then Val.fin (decide (x < 0)) (x.natAbs * 2 ^ 64 + 1) (g - 64) else .fin (decide (x < 0)) x.natAbs g
    BitVec.ofNat 34 (fp32xFmt.rne v)

/-- Adding a chunk sum into a tile element: the value written, and the KIND and k code of an INV raised at the column
bottom or the adder (02 R69, 03 R113, 04 R173). -/
def addTile (zero : Bool) (a : BitVec 34) (cs : ChunkSum) : BitVec 34 × Option (Nat × Nat) :=
  let nan := BitVec.ofNat 34 fp32xFmt.nan
  let inf := fun (n : Bool) => BitVec.ofNat 34 (fp32xFmt.signed n 0x1FF800000)
  if cs.nan then (nan, none)
  else if cs.pinf && cs.ninf then (nan, some (1, 0x7E))
  else if cs.pinf || cs.ninf then
    if zero then (inf cs.ninf, none)
    else match f34 a with
      | .nan => (nan, none)
      | .inf n => if n = cs.ninf then (inf n, none) else (nan, some (2, 0x7F))
      | .fin _ _ _ => (inf cs.ninf, none)
  else if zero then (addFinite none cs, none)
  else match f34 a with
    | .nan => (nan, none)
    | .inf n => (inf n, none)
    | .fin n m e => (addFinite (some (n, m, e)) cs, none)

/-! ## Captured events (04 R173 to R175) -/

/-- The order of captured events. -/
def XCap.before (x y : XCap) : Bool :=
  decide (x.issue < y.issue) || (decide (x.issue = y.issue) && (decide (x.m < y.m) || (decide (x.m = y.m) &&
    (decide (x.n < y.n) || (decide (x.n = y.n) && decide (x.k < y.k))))))

/-- One invalid event: the item's flag and the first event by the order of 04 R173. -/
def TileState.invalid (t : TileState) (x : XCap) : TileState :=
  { t with flags := { t.flags with inv := true }
           xcap := match t.xcap with | none => some x | some y => if x.before y then some x else some y }

/-- An instruction that raised INV counts once (04 R175). -/
def TileState.countInv (t : TileState) : TileState := { t with xcount := satAdd 0xFFFF t.xcount 1 }

/-- Whether the NaN that an element holds after a sum came from an INV: it held one of that kind before, or the sum makes one
without a NaN operand (02 R87). -/
def invNan (old : BitVec 34) (was zero : Bool) (cs : ChunkSum) : Bool :=
  if !zero && (f34 old).isNan then was else !cs.nanIn

/-- The tile part of CHUNK_SUM_WRITE (03 R111 to R115, R122): the element, flags, and captured events; whether INV was
raised. `zero` holds for the first chunk of a ZERO pass into its element. -/
def TileState.addChunk (t : TileState) (acc issue : Nat) (zero : Bool) (tag : Word) (cs : ChunkSum) : TileState × Bool :=
  let old := t.elem acc cs.m cs.n
  let r := addTile zero old cs
  let key := tileKey acc cs.m cs.n
  let nan := (f34 r.1).isNan && invNan old (tget false t.nans key) zero cs
  let t := { t.putElem acc cs.m cs.n r.1 with nans := tput false t.nans key nan }
  let t := if cs.nanIn then { t with flags := { t.flags with nanIn := true } } else t
  let t := match cs.prodInv with | some k => t.invalid ⟨issue, cs.m, cs.n, k, 0, acc, tag⟩ | none => t
  let t := match r.2 with | some (kind, k) => t.invalid ⟨issue, cs.m, cs.n, k, kind, acc, tag⟩ | none => t
  (t, cs.prodInv.isSome || r.2.isSome)

/-! ## The tile queue and its stops (04 R163, R185 to R189) -/

def Pass.isTmm (x : Pass) : Bool := decide (twTop x.word = 1)
/-- A TACCRD that has written rows and has rows left. -/
def Pass.reading (x : Pass) : Bool := decide (twTop x.word = 2) && decide (x.phase = .streaming)
/-- A TMM that has rows left to begin. -/
def Pass.unbegun (x : Pass) : Bool := x.isTmm && decide (x.phase ≠ .streaming)

/-- A pass in the queue replaced. -/
def TileState.setPass (t : TileState) (x : Pass) : TileState :=
  { t with queue := t.queue.map fun p => if p.issue = x.issue then x else p }

/-- The instructions of the queue that name a tile, issued before a given one. -/
def TileState.earlier (t : TileState) (x : Pass) : List Pass :=
  t.queue.filter fun y => decide (y.issue < x.issue) && decide (twAcc y.word = twAcc x.word)

/-- The runner rows that a pass still streams (05 R209, R210). -/
def Pass.rows (x : Pass) : List Nat := (streamed x.word x.mask).filter fun m => decide (x.row ≤ m)

/-- How many of them have begun by cycle `p`: the row of rank r begins at S + r c (04 R185, 05 R210). -/
def Pass.begun (x : Pass) (p : Int) : Nat :=
  if p < x.cycS then 0 else min x.rows.length (((p - x.cycS) / (twC x.word : Int)).toNat + 1)

/-- A streaming pass cut at a stop: rows begun run to completion, the row after the last begun is noted, and a pass with none
left is complete (04 R185, 05 R210). -/
def Pass.cut (x : Pass) (p : Int) : Pass :=
  let b := x.begun p
  if x.rows.length ≤ b then x
  else
    let next := if b = 0 then x.row else x.rows.getD (b - 1) 0 + 1
    { x with phase := .cut, krow := 96, row := next
             sums := if b = 0 then [] else x.sums.filter fun y => decide (y.m < next) }

/-- How many keeper rows of a pass have been written by cycle `p` (04 R186, R187). -/
def ArrayState.rowsIn (a : ArrayState) (x : Pass) (p : Int) : Nat :=
  if x.reuse then 96
  else if x.phase = .waiting then x.krow
  else max x.krow ((List.range 96).filter fun k =>
    decide ((if twWide x.word then x.cycL + 2 * (a.phys k : Int) + 1 else x.cycL + (a.phys k : Int)) ≤ p)).length

/-- A tile instruction of the queue as a stop at cycle `p` leaves it (04 R185 to R188). A TMM that would load no keeper counts
its load as complete (R187). -/
def Pass.stopped (x : Pass) (a : ArrayState) (p : Int) : Pass :=
  let x := { x with recorded := false }
  if !x.isTmm then x
  else match x.phase with
    | .streaming => x.cut p
    | .cut => x
    | .waiting =>
      match a.reuses x.word with
      | some l => { x with krow := 96, bank := l.bank, reuse := true, kscales := l.scales }
      | none => { x with bank := if x.bank ≠ 0 then x.bank else loadBank a.lastLoad (twWide x.word) }
    | _ => { x with krow := a.rowsIn x p }

/-- Whether every chunk sum of a pass that streams has been written (03 R122). -/
def Pass.retired (x : Pass) : Bool := decide (x.phase = .streaming) && x.sums.isEmpty

/-- The TS_ registers of an interrupted instruction at zero (04 R190, R193). -/
def TileState.unrecord (t : TileState) : TileState :=
  { t with rowStart := 0, krowStart := 0, interrupted := false, lbank := 0, insnInv := false, insn := 0 }

/-- TS_ROWSTART, TS_KROWSTART, TS_STATE and TS_INSN for an interrupted instruction (04 R185 to R189). For a TACCRD the spec gives
no TS_KROWSTART, and the model writes 0 (log 71). -/
def TileState.record (t : TileState) (x : Pass) : TileState :=
  { t.setPass { x with recorded := true } with
    rowStart := if x.isTmm && decide (x.krow < 96) then 0 else x.row
    krowStart := if x.isTmm then x.krow else 0
    interrupted := true, lbank := if x.isTmm then x.bank else 0, insnInv := x.inv, insn := x.word }

/-- The instruction that a stop records: a TACCRD cut among its rows, else the oldest incomplete TMM (04 R188, R189; log 71). -/
def TileState.oldest (t : TileState) : Option Pass :=
  match t.queue.find? Pass.reading with
  | some x => some x
  | none => t.queue.find? Pass.unbegun

/-- The tile part of a stop at cycle `p`: keeper rows written by then stand in their banks, rows not begun are left, and one
instruction is recorded. A stop that ends the work keeps only the sums of begun rows (04 R185 to R189). -/
def Core.stopTile (k : Core) (drop : Bool) (p : Int) : Core :=
  let a := k.tile.queue.foldl (fun a x =>
    if x.phase = .loaded ∨ x.phase = .restage then a.writeRows x (k.arr.rowsIn x p) else a) k.arr
  let t := { k.tile.unrecord with queue := k.tile.queue.map fun (x : Pass) => x.stopped k.arr p }
  let t := match t.oldest with | some x => t.record x | none => t
  { k with arr := a, tile := if drop then { t with queue := t.queue.filter fun x => !x.sums.isEmpty } else t }

/-- The latches and the idle bank at the start of an item, a restore, a promotion or an audit (04 R170, R172, 03 R748). -/
def ArrayState.clearLatches (a : ArrayState) : ArrayState := { a with kLatch := none, rLatch := [], lastLoad := 0 }

end Sys2Proof.Machine
end

