-- ==== Sys2Proof/Machine/ItemOps.lean ====
section
/-!
DEFINITION. What the queues share: sync counters and watches (10 R406 to R419), an item's end with its status, flags and
completion signal (09 R375, R378, R394), the cores that run a part of it (06 R262, R263), herds (10 R426 to R436), and
records with their rings (09 R377 to R392).
-/
namespace Sys2Proof.Machine

/-! ## Items by number -/

def QueueSt.item? (x : QueueSt) (k : Nat) : Option Item := x.items.find? fun i => decide (i.k = k)
def State.item? (s : State) (q k : Nat) : Option Item := (s.queue q).item? k
def QueueSt.mapItem (x : QueueSt) (k : Nat) (f : Item → Item) : QueueSt :=
  { x with items := x.items.map fun i => if i.k = k then f i else i }
def State.mapItem (s : State) (q k : Nat) (f : Item → Item) : State := s.putQueue q ((s.queue q).mapItem k f)

/-- A field of an item's command (09, layouts). -/
def Item.fld (i : Item) (off n : Nat) : Nat := leNat ((i.cmd.drop off).take n)

/-- An item whose work is going on. -/
def Item.live (i : Item) : Bool := decide (i.phase = .running)
/-- An item that has no final status yet. -/
def Item.undecided (i : Item) : Bool := decide (i.phase ≠ .ended) && decide (i.status = 0)

/-- The deadline D has come (09 R393, R394). -/
def Item.late (i : Item) (now : DWord) : Bool := match i.due with | some d => decide (d ≤ now.toNat) | none => false

/-- The item's end: FAILED_DEADLINE from D on (09 R394), a given failure, one already decided, or DONE and DONE_FLAGGED with
its detail (02 R88, 09 R384). -/
def Item.ending (i : Item) (now : DWord) (f : Option Fail) (flagged : Nat) : Item :=
  let i := { i with phase := .ended, endDtc := now }
  if i.status ≠ 0 then i
  else
    let i := if f.isNone ∧ (i.op = 6 ∨ i.op = 7) then { i with progress := 1 } else i
    match f with
    | some x => { i with status := x.status, detail := x.detail }
    | none =>
      if i.late now then { i with status := 0x14, detail := 0 }
      else if i.fl.counts then { i with status := 1, detail := flagged } else i

/-- DETAIL of DONE_FLAGGED for a MATMUL or JOB: tiles that raised INV (09 R384); other kinds give theirs. -/
def Item.flagDetail (i : Item) : Nat :=
  match i.work with
  | .matmul w => min 0xFFFF w.invTiles
  | .job w => min 0xFFFF w.invTiles
  | _ => i.detail

/-- The completion signal of an item that ended without a failure (09 R375). -/
def Item.csigOps (i : Item) : List (Nat × DWord) :=
  match i.csig with
  | some c => if i.status ≤ 1 then [(c, 1)] else []
  | none => []

/-- The PREEMPT_POINT that a request waits for has started, or ends without having started: items beyond it do not start (09
R397). -/
def QueueSt.atPoint (x : QueueSt) (i : Item) : QueueSt :=
  if x.st = .preempting ∧ x.preReq = .atPoint ∧ i.op = 8 ∧
      (x.items.all fun j => decide (j.op ≠ 8) || decide (i.k ≤ j.k) || decide (j.phase ≠ .notStarted)) then
    { x with preReq := .past i.k }
  else x

/-- A preempting queue is PREEMPTED when every save is done, or when every item up to its PREEMPT_POINT, and every other that has
started, has completed (09 R396, R397). -/
def QueueSt.settle (x : QueueSt) : QueueSt :=
  let done : Bool := match x.preReq with
    | .now => x.items.all fun i => decide (i.phase ≠ .running) || decide (i.op ≠ 0x10 ∧ i.op ≠ 0x11)
    | .past k => x.items.all fun i => decide (i.phase = .ended) || (decide (i.phase = .notStarted) && decide (k < i.k))
    | _ => false
  if x.st = .preempting ∧ done then { x with st := .preempted, preReq := .none } else x

/-- A fabric herd of a context with this device in it (12 R488). -/
def State.keMember (s : State) (h ctx : Nat) : Bool :=
  decide ((s.herd h).kind = 2) && decide ((s.herd h).ctx = ctx) && (s.herd h).mask.getLsbD s.device

/-- The bucket of an item that waits for its BSEQ or has begun (12 R506). -/
def Item.bucket (i : Item) : Option (Nat × Nat) :=
  match i.work with
  | .ke w => if i.phase = .ended then none else some (w.herd, w.bseq)
  | _ => none

/-- Another item of the herd waits or runs under the same BSEQ (12 R507). -/
def State.bseqTaken (s : State) (h b q k : Nat) : Bool :=
  s.queues.any fun e => e.2.items.any fun i => (decide (e.1 ≠ q) || decide (i.k ≠ k)) && decide (i.bucket = some (h, b))

/-- A KE item whose bucket has not begun. -/
def Item.unbegun (i : Item) : Bool :=
  decide (0x30 ≤ i.op) && decide (i.op ≤ 0x33) && (match i.work with | .ke w => !w.begun | _ => true)

/-- NEXT_BSEQ steps past BSEQs that are used (12 R508). -/
def KeHerd.sweep : Nat → KeHerd → KeHerd
  | 0, x => x
  | n + 1, x =>
    if x.gone.elem x.next.toNat then
      KeHerd.sweep n { x with next := x.next + 1, gone := x.gone.filter (· ≠ x.next.toNat) }
    else x

/-- The herd and BSEQ bits of a CHUNK message (12 R511). -/
def HeldChunk.of (c : HeldChunk) (h b : Nat) : Bool :=
  decide (bitsOf c.head.mtag.toNat 5 0 = h) && decide (c.head.arg.toNat / 2 ^ 32 = b % 2 ^ 32)

/-- The key of the flag line among a bucket's lines (12 R511). -/
def flagIdx : Nat := 0xFFFFFFFF

/-- Messages held for a bucket are discarded at every hub (12 R509). -/
def State.dropChunks (s : State) (h b : Nat) : State :=
  (List.range 8).foldl (fun t n =>
    let x := t.hub n
    let k := (x.chunks.filter fun c => c.of h b).length
    if k = 0 then t
    else t.putHub n { x with chunks := x.chunks.filter fun c => !c.of h b, hveEarly := sat16 x.hveEarly k }) s

/-- The BSEQ of an item that ends without starting stays used (12 R508). -/
def State.bseqGone (s : State) (q : Nat) (i : Item) : State :=
  let hb := match i.bucket with
    | some x => x
    | none => (s.num (i.addr + 8) 1, s.num (i.addr + 16) 8)
  let x := s.keHerd hb.1
  if hb.1 < 64 ∧ s.keMember hb.1 i.ctx ∧ x.next.toNat ≤ hb.2 ∧ !s.bseqTaken hb.1 hb.2 q i.k then
    (s.putKeHerd hb.1 (KeHerd.sweep (x.gone.length + 1) { x with gone := x.gone ++ [hb.2] })).dropChunks hb.1 hb.2
  else s

/-- The report line of an UPDATE item (13 R547). -/
def UpdWork.report (w : UpdWork) : List Byte :=
  (natLe 4 w.updated ++ natLe 4 w.frozen ++ natLe 4 w.skewed ++ natLe 4 w.passed ++ natLe 4 w.skipped ++
    natLe 4 ((w.firstSkewed.map (·.1)).getD 0xFFFFFFFF) ++ natLe 4 ((w.firstSkewed.map (·.2)).getD 0) ++
    natLe 4 (w.firstBad.getD 0xFFFFFFFF) ++ (w.desc.drop 48).take 4) ++ List.replicate 28 0

/-- The report is written whatever the status, once the check pass has begun, but for FAILED_RESET (13 R547). -/
def State.writeReport (s : State) (i : Item) : State :=
  match i.work with
  | .update w =>
    let a := leNat ((w.desc.drop 88).take 8)
    if w.checked ∧ a ≠ 0 ∧ i.status ≠ 0x13 then s.write a w.report else s
  | _ => s

/-- The saved cores of an item. -/
def Item.savedRuns (i : Item) : List SavedRun :=
  match i.work with
  | .job w => w.saved
  | .matmul w => w.saved
  | _ => []

/-- The flags of an item with those of its saved cores, which are sticky too (02 R87). -/
def Item.allFlags (i : Item) : Flags := i.savedRuns.foldl (fun f x => f.or x.fl) i.fl

/-- An item ends now, and the signals that its end brings. -/
def State.endNow (s : State) (q k : Nat) (f : Option Fail) : State × List (Nat × DWord) :=
  match s.item? q k with
  | none => (s, [])
  | some i =>
    if i.phase = .ended then (s, [])
    else
      let s := if i.unbegun then s.bseqGone q i else s
      let j := { { i with fl := i.allFlags }.ending s.now f i.flagDetail with startDtc := if i.phase = .notStarted then none else i.startDtc }
      let s := s.writeReport j
      (s.putQueue q (((s.queue q).mapItem k fun _ => j).atPoint j).settle, j.csigOps)

/-! ## Counters and watches -/

def State.counter (s : State) (c : Nat) : DWord := tget 0 s.sync.ctr c
def State.setCounter (s : State) (c : Nat) (v : DWord) : State := s.setSync { s.sync with ctr := tput 0 s.sync.ctr c v }

/-- A watch's condition on a counter value (10 R412). -/
def Watch.holds (w : Watch) (v : DWord) : Bool :=
  if w.cond = 0 then decide ((v - w.t).toNat < 2 ^ 63) else if w.cond = 1 then decide (v = w.t) else decide (v ≠ w.v0)

/-- The group's use of a counter by a context: shared, or private to it (10 R409, R410). SU_GROUP's value is held as bits
[7:6] USE and [5:0] CONTEXT; groups not listed are shared. -/
def State.group (s : State) (c : Nat) : BitVec 8 := tget 0x80 s.sync.groups (c / 64)
def State.mayUse (s : State) (c ctx : Nat) : Bool :=
  let g := (s.group c).toNat
  g / 64 == 2 || (g / 64 == 1 && g % 64 == ctx)
/-- A host port's right to add to or watch a counter (10 R411). -/
def State.portMayUse (s : State) (p c : Nat) : Bool :=
  let g := (s.group c).toNat
  g / 64 == 2 || (g / 64 == 1 && s.ctxOwner (g % 64) == p)
/-- The failure of naming a counter that the context may not use (10 R410). -/
def failCounter (c : Nat) : Fail := ⟨0x10, 0x60001000 + c, none⟩

def SeqState.resume (x : SeqState) : SeqState := { x with phase := .running, pc := x.pc + 1 }

/-- A released waiter goes on: a WAIT item completes, a core passes its WAITC, a host watch fires (10 R416, R453). -/
def State.releaseWaiter (s : State) (w : Watch) : State × List (Nat × DWord) :=
  match w.who with
  | .item q k => s.endNow q k none
  | .core site =>
    let c := s.core site
    (if c.seq.phase = .waitC then s.putCore site { c with seq := c.seq.resume } else s, [])
  | .host p i =>
    let h := tget (⟨0, 0⟩ : HostWatch) s.sync.host (64 * p + i)
    let ctl := (h.ctl &&& 0x7FFFFFFF#32) ||| 0x40000000#32
    ((s.setSync { s.sync with host := tput ⟨0, 0⟩ s.sync.host (64 * p + i) { h with ctl := ctl } }).msix p
      (bitsOf h.ctl.toNat 26 16), [])

def State.dropWatch (s : State) (w : Watch) : State :=
  s.setSync { s.sync with watches := s.sync.watches.filter (· ≠ w) }

/-- Release a watch: remove it, let its waiter go on, and for a claim subtract its amount (10 R416, R417). -/
def State.fireWatch (s : State) (w : Watch) : State × List (Nat × DWord) :=
  let r := (s.dropWatch w).releaseWaiter w
  (r.1, (match w.claim with | some a => [(w.counter, -a)] | none => []) ++ r.2)

/-- Release a list of watches in order. -/
def fireAll (s : State) : List Watch → State × List (Nat × DWord)
  | [] => (s, [])
  | w :: ws => let r := s.fireWatch w
               let t := fireAll r.1 ws
               (t.1, r.2 ++ t.2)

/-- The claiming watch that is oldest on a counter is released when its condition holds (10 R417). -/
def State.tryClaim (s : State) (c : Nat) : State × List (Nat × DWord) :=
  match s.sync.watches.find? fun w => decide (w.counter = c) && w.claim.isSome with
  | none => (s, [])
  | some w => if w.holds (s.counter c) then s.fireWatch w else (s, [])

/-- The procedure change of 10 R417, its inner change and the signals of completed items left as further operations. -/
def State.change1 (s : State) (c : Nat) (d : DWord) : State × List (Nat × DWord) :=
  let t := s.setCounter c (s.counter c + d)
  let r := fireAll t (t.sync.watches.filter fun w =>
    decide (w.counter = c) && w.claim.isNone && w.holds (t.counter c))
  let u := r.1.tryClaim c
  (u.1, u.2 ++ r.2)

/-- Operations on counters one at a time (10 R407). -/
def runOps : Nat → State → List (Nat × DWord) → State
  | 0, s, _ => s
  | _ + 1, s, [] => s
  | n + 1, s, (c, d) :: ops => let r := s.change1 c d
                               runOps n r.1 (r.2 ++ ops)

/-- Every operation and those it brings: each release brings at most two, and removes a watch. -/
def State.ops (s : State) (l : List (Nat × DWord)) : State := runOps (l.length + 2 * s.sync.watches.length + 1) s l

/-- A signal (10 R408). -/
def State.signal (s : State) (c : Nat) (d : DWord) : State := s.ops [(c, d)]

/-- Shared watches of the device (10 R414). -/
def sharedWatches : Nat := 16208

/-- A watch registered at its home hub and evaluated there (10 R415, R417). -/
def State.place (s : State) (w : Watch) : State :=
  let v := s.counter w.counter
  let w := { w with v0 := v }
  let older := s.sync.watches.any fun x => decide (x.counter = w.counter) && x.claim.isSome
  let t := s.setSync { s.sync with watches := s.sync.watches ++ [w] }
  if w.holds v && (w.claim.isNone || !older) then let r := t.fireWatch w
                                                  r.1.ops r.2
  else t

/-- A registration: with a free watch at once, else it waits in order of arrival (10 R414). -/
def State.register (s : State) (w : Watch) : State :=
  if s.sync.watches.length < sharedWatches ∧ s.sync.waiting = [] then s.place w
  else s.setSync { s.sync with waiting := s.sync.waiting ++ [w] }

/-- A registration withdrawn; a younger claiming watch that is now oldest is evaluated at once (10 R419). -/
def State.withdraw (s : State) (who : Waiter) : State :=
  let t := s.setSync { s.sync with waiting := s.sync.waiting.filter fun w => decide (w.who ≠ who) }
  match t.sync.watches.find? fun w => decide (w.who = who) with
  | none => t
  | some w =>
    let u := t.dropWatch w
    if w.claim.isSome then let r := u.tryClaim w.counter
                           r.1.ops r.2
    else u

/-- Registrations withdrawn together; then the claiming watch that is oldest now on each of their counters is evaluated (10 R419). -/
def State.withdrawAll (s : State) (gone : Waiter → Bool) : State :=
  let out := s.sync.watches.filter fun w => gone w.who
  let t := s.setSync { s.sync with waiting := s.sync.waiting.filter fun w => !gone w.who }
  ((out.filter fun w => w.claim.isSome).map (·.counter)).eraseDups.foldl (fun u c => let r := u.tryClaim c
                                                                                    r.1.ops r.2)
    (out.foldl State.dropWatch t)

/-! ## Cores that run a part of an item -/

/-- The sites that run a part of an item. -/
def State.sitesOf (s : State) (q k : Nat) : List Nat :=
  (s.cores.filter fun e => match e.2.seq.run with | some r => decide (r.q = q) && decide (r.k = k) | none => false).map (·.1)

/-- An instance's flags and its count of tiles with INV join its item's (06 R261, 04 R175). -/
def Item.addRun (i : Item) (t : TileState) : Item :=
  let i := { i with fl := i.fl.or t.flags }
  match i.work with
  | .job w => { i with work := .job { w with invTiles := w.invTiles + t.xcount } }
  | .matmul w => { i with work := .matmul { w with invTiles := w.invTiles + t.xcount } }
  | _ => i

/-- A core with no item (04 R193, 06 R266). -/
def Core.freed (c : Core) : Core :=
  { c with tile := TileState.reset, seq := { SeqState.reset with outbox := c.seq.outbox, halted := c.seq.halted } }

/-- A core's part of its item ends: its flags go to the item and the core is free. -/
def State.releaseCore (s : State) (site : Nat) : State :=
  let c := s.core site
  match c.seq.run with
  | none => s
  | some r => (s.mapItem r.q r.k fun i => i.addRun c.tile).putCore site c.freed

/-- A core's arrival at a core herd is withdrawn (10 R433). -/
def State.unarrive (s : State) (site : Nat) : State :=
  s.setSync { s.sync with herds := s.sync.herds.foldl (fun t e =>
    tput Herd.none t e.1 (if e.2.kind = 1 then { e.2 with arrived := e.2.arrived.filter (· ≠ site) } else e.2)) [] }

/-- What the instance on a core waits on is withdrawn (06 R250, 10 R419, R433). -/
def State.leaveWait (s : State) (site : Nat) : State :=
  let c := s.core site
  if c.seq.phase = .waitC then s.withdraw (.core site) else if c.seq.phase = .waitH then s.unarrive site else s

/-- A stop takes effect on a core: it issues nothing more, a waiting registration is withdrawn, and its tile instructions stop
(06 R250, R263, 04 R185 to R189). -/
def State.stopNow (s : State) (site : Nat) : State :=
  let s := s.leaveWait site
  let c := s.core site
  s.putCore site { c.stopTile (decide (c.seq.stop = .drop)) s.aclk with seq := { c.seq with phase := .stopping } }

/-- A stop request reaches a core; one that falls inside an audit takes effect when the audit ends (03 R136, 06 R263). -/
def State.stopWith (s : State) (site : Nat) (x : StopReq) : State :=
  let c := s.core site
  let t := s.putCore site { c with seq := { c.seq with stop := x } }
  if c.arr.auditRun.isSome then t else t.stopNow site

/-- A stop that ends the work on a core: rows not begun are dropped, and passes not streaming are discarded. -/
def State.stopCore (s : State) (site : Nat) : State := s.stopWith site .drop

/-- A preemption's stop reaches a core: its queue is kept to be saved. -/
def State.stopSave (s : State) (site : Nat) : State := s.stopWith site .save

/-- A core whose stop has come to its point: nothing in its slots and no chunk sum to write (06 R263). -/
def Core.stopped (c : Core) : Bool :=
  decide (c.seq.phase = .stopping) && c.seq.slots.isEmpty && c.tile.queue.isEmpty

/-- An item whose status is decided ends when the last of its cores has stopped (06 R262). -/
def State.settleItem (s : State) (q k : Nat) : State :=
  match s.item? q k with
  | none => s
  | some i =>
    if i.status ≠ 0 ∧ i.phase ≠ .ended then
      let s := ((s.sitesOf q k).filter fun c => (s.core c).stopped).foldl (fun t c => t.releaseCore c) s
      if s.sitesOf q k = [] then (s.endNow q k none).1 else s
    else s

/-! ## Herds -/

/-- The participants of a core herd: its active sites (10 R428, R429). -/
def State.participants (s : State) (h : Herd) : List Nat :=
  (List.range 1536).filter fun x => h.mask.getLsbD x && decide (s.siteState x = 0)

/-- A core herd whose participants have all arrived releases them and counts a generation (10 R431). -/
def State.checkCoreHerd (s : State) (h : Nat) : State :=
  let x := s.herd h
  let ps := s.participants x
  if x.kind = 1 ∧ x.arrived ≠ [] ∧ ps.all (x.arrived.elem ·) then
    x.arrived.foldl (fun t site =>
      let c := t.core site
      if c.seq.phase = .waitH then t.putCore site { c with seq := c.seq.resume } else t)
      (s.putHerd h { x with gen := x.gen + 1, arrived := [] })
  else s

/-- The BARRIER items of this device that wait on a herd (10 R430). -/
def State.barriersOf (s : State) (h : Nat) : List (Nat × Nat) :=
  (s.queues.map fun e => (e.2.items.filter fun i => i.live && (match i.work with
    | .barrier g _ => decide (g = h) | _ => false)).map fun i => (e.1, i.k)).flatten

/-- The waiting BARRIER items of a herd complete (10 R434). -/
def State.releaseBarriers (s : State) (h : Nat) : State :=
  (s.barriersOf h).foldl (fun t e => let r := t.endNow e.1 e.2 none
                                     r.1.ops r.2) s

/-- The devices of a fabric herd's mask. -/
def Herd.members (h : Herd) : List Nat := (List.range 512).filter fun d => h.mask.getLsbD d

/-- The step count that the master carries in a RELEASE of the step herd, with the herd, as MTAG (18 R690). -/
def State.releaseTag (s : State) (h : Nat) : Nat :=
  let k := s.fwu.actTarget.toNat - s.sync.bcnt.toNat
  if s.fwu.carry ∧ s.fwu.actState = 2 ∧ s.fwu.actHerd = h ∧ 2 ≤ k ∧ k ≤ 255 then h + 256 * k else h

/-- On the master, a generation whose members have all arrived is released to every member (10 R431, R434). -/
def State.checkFabricHerd (s : State) (h : Nat) : State :=
  let x := s.herd h
  if x.kind = 2 ∧ x.master = s.device ∧ x.arrived ≠ [] ∧ x.members.all (x.arrived.elem ·) then
    let t := s.putHerd h { x with gen := x.gen + 1, arrived := [],
                                  held := x.held.filter fun e => decide (x.gen + 1 ≤ e.2) }
    let t := (x.members.filter (· ≠ s.device)).foldl (fun t d => t.originate 0x31 d (s.releaseTag h) (x.gen + 1).toNat []) t
    t.releaseBarriers h
  else s

/-- This device's arrival at a fabric herd: counted on the master, sent to it elsewhere (10 R434). -/
def State.arriveFabric (s : State) (h : Nat) : State :=
  let x := s.herd h
  if x.master = s.device then (s.putHerd h { x with arrived := x.arrived ++ [s.device] }).checkFabricHerd h
  else s.originate 0x30 x.master h x.gen.toNat []

/-- This device's arrival withdrawn (10 R433, R435). -/
def State.cancelFabric (s : State) (h : Nat) : State :=
  let x := s.herd h
  if x.master = s.device then s.putHerd h { x with arrived := x.arrived.filter (· ≠ s.device) }
  else s.originate 0x32 x.master h x.gen.toNat []

/-! ## Failing and completing an item -/

/-- Whether a registration belongs to one of some items, or to a core that runs a part of one and is not held in an audit. -/
def State.waitsFor (s : State) (ks : List (Nat × Nat)) (w : Waiter) : Bool :=
  match w with
  | .item q k => ks.elem (q, k)
  | .core c => match (s.core c).seq.run with | some r => ks.elem (r.q, r.k) && (s.core c).arr.auditRun.isNone | none => false
  | .host _ _ => false

/-- What a running item waits on, watches aside, is withdrawn (09 R394, 10 R433). -/
def State.withdrawItem (s : State) (i : Item) : State :=
  match i.work with
  | .barrier h _ => s.cancelFabric h
  | .boundary _ _ _ => s.setSync { s.sync with run := none }
  | _ => s

/-- An item ends with a failure; from D on that is FAILED_DEADLINE but for a reset or a thermal trip (14 R570). Parts that run on
cores stop first, and the item ends when the last has stopped (06 R262, 09 R394). The first failure decides; a later one finds the
item decided and only looks whether it has stopped. Commands never share an ACLK cycle, so the order of 06 R262 for one cycle is
theirs (log 72). -/
def State.failItem (s : State) (q k : Nat) (f : Fail) : State :=
  let s := s.noteUe f
  match s.item? q k with
  | none => s
  | some i =>
    if i.undecided then
      let f := if i.late s.now ∧ f.status ≠ 0x13 ∧ f.status ≠ 0x1E then ⟨0x14, 0, none⟩ else f
      let s := s.withdrawAll (s.waitsFor [(q, k)])
      let s := (if i.live then s.withdrawItem i else s).mapItem q k fun j =>
        if j.status = 0 ∧ j.phase ≠ .ended then { j with status := f.status, detail := f.detail } else j
      let s := (s.sitesOf q k).foldl (fun t c => t.stopCore c) s
      s.settleItem q k
    else s.settleItem q k

/-- An item's work ends; its completion follows (09 R376). -/
def State.workDone (s : State) (q k : Nat) : State := s.mapItem q k fun i => { i with phase := .workDone }

/-- An item starts and completes at once, and its signals follow (09 R374). -/
def State.finishNow (s : State) (q k : Nat) (progress : Nat) : State :=
  let r := (s.mapItem q k fun i => { i with progress := progress }).endNow q k none
  r.1.ops r.2

/-! ## Records and rings (09 R377 to R392) -/

/-- FLAGS byte of a record (09 R377, R382). -/
def Item.flagsByte (i : Item) : Nat :=
  b01 i.fl.inv + 2 * b01 i.fl.ovf + 4 * b01 i.fl.unf + 8 * b01 i.fl.nanIn + 16 * b01 i.fl.nonfinite +
    32 * b01 i.fl.inexact + 64 * b01 i.saturated + 128 * b01 i.retried

/-- ELAPSED (09 R381). -/
def Item.elapsed (i : Item) : Nat :=
  match i.startDtc with
  | none => 0
  | some a => min (2 ^ 48 - 1) (i.endDtc - a).toNat

/-- A record's bytes but for PHASE (09 R377). -/
def mkRecord (qseq q type status flags tag elapsed progress detail : Nat) : List Byte :=
  natLe 8 qseq ++ natLe 1 q ++ natLe 1 type ++ natLe 1 status ++ natLe 1 flags ++ natLe 4 tag ++ natLe 6 elapsed ++
    natLe 2 0 ++ natLe 4 progress ++ natLe 4 detail

/-- The final record of an item (09 R377). -/
def Item.record (i : Item) (q : Nat) : List Byte :=
  mkRecord i.k q 0 i.status i.flagsByte i.tag.toNat i.elapsed i.progress i.detail

def recordSeq (r : List Byte) : Nat := leNat (r.take 8)
def recordType (r : List Byte) : Nat := leNat ((r.drop 9).take 1) % 4
def recordElapsed (r : List Byte) : Nat := leNat ((r.drop 16).take 6)

/-- Whether the ring has room (09 R390). -/
def QueueSt.room (x : QueueSt) : Bool := decide ((BitVec.ofNat 32 x.written - x.head).toNat < 2 ^ x.log2)
/-- A ring in host memory (09 R387). -/
def QueueSt.hostRing (x : QueueSt) : Bool := x.cqBase.toNat.testBit 63
/-- The address of the next ring entry, the base aligned to the ring's size (09 R387). -/
def QueueSt.entryAddr (x : QueueSt) : Nat :=
  let size := 32 * 2 ^ x.log2
  x.cqBase.toNat % 2 ^ 63 / size * size + 32 * (x.written % 2 ^ x.log2)

/-- Why a record cannot be written now: the ring is full, a rebase is due, start-up has not ended (R558), the port cannot carry it, or its local line is
gated or uncorrectable (09 R388, R390, 14 R556, R573). -/
inductive RingBar where
  | open
  | wait
  | line
  deriving DecidableEq, Repr

def State.ringBar (s : State) (q : Nat) : RingBar :=
  let x := s.queue q
  if x.rebase ∨ !x.room ∨ !s.started then .wait
  else if x.hostRing then (if s.portUp (s.qOwner q) then .open else .wait)
  else if s.gatedAt x.entryAddr ∨ s.isUe x.entryAddr then .line else .open

/-- A record with its PHASE bit: 1 on even laps of the ring (09 R389). -/
def QueueSt.withPhase (x : QueueSt) (r : List Byte) : List Byte :=
  let b := leNat ((r.drop 9).take 1) % 128 + (if x.written / 2 ^ x.log2 % 2 = 0 then 128 else 0)
  r.take 9 ++ natLe 1 b ++ r.drop 10

/-- The message of a queue after a record (09 R391). -/
def State.queueIrq (s : State) (q : Nat) : State :=
  let x := s.queue q
  let count := max 1 (bitsOf x.irq.toNat 19 12)
  if x.irq.toNat.testBit 31 ∧ count ≤ x.irqCount then
    (s.putQueue q { x with irqCount := 0, irqFirst := none }).msix (s.qOwner q) (bitsOf x.irq.toNat 30 20)
  else s

/-- What the queue's registers hold after a record has been written: TAIL, and for a final record RSEQ, TIME and the item
gone (09 R385, R389, R392). -/
def QueueSt.wrote (x : QueueSt) (r : List Byte) (now : DWord) : QueueSt :=
  let x := { x with written := x.written + 1, ringHeld := false, irqCount := x.irqCount + 1,
                    irqFirst := match x.irqFirst with | none => some now | some t => some t }
  if recordType r = 0 then
    { x with rseq := recordSeq r, time := satAdd (2 ^ 64 - 1) x.time (recordElapsed r),
             items := x.items.filter fun i => decide (i.k ≠ recordSeq r) }
  else x

/-- One record written into the ring (09 R387, R389). -/
def State.writeRecord (s : State) (q : Nat) (r : List Byte) : State :=
  let x := s.queue q
  let bs := x.withPhase r
  let t := if x.hostRing then s.emit (.hostWrite (s.qOwner q) x.entryAddr bs) else s.write x.entryAddr bs
  (t.putQueue q ((t.queue q).wrote r s.now)).queueIrq q

/-- A record that meets a line which cannot be written is held, once logged under class 0x0024 (09 R388). -/
def State.holdLine (s : State) (q : Nat) : State :=
  let x := s.queue q
  if x.ringHeld then s
  else (s.putQueue q { x with ringHeld := true, heldAt := s.now }).logEvent 0x24 0 0 0 (lineOf x.entryAddr) q

/-- The records that wait are written in order while the ring takes them (09 R388, R390). -/
def drainHeld : Nat → State → Nat → State
  | 0, s, _ => s
  | n + 1, s, q =>
    match (s.queue q).held with
    | [] => s
    | r :: rest =>
      match s.ringBar q with
      | .wait => s
      | .line => s.holdLine q
      | .open => drainHeld n ((s.putQueue q { s.queue q with held := rest }).writeRecord q r) q

def State.drain (s : State) (q : Nat) : State := drainHeld (s.queue q).held.length s q

/-- The same where no record is held at a line that cannot be written: such a one is tried again only when R388 says (09 R388, R390). -/
def State.drainFree (s : State) (q : Nat) : State := if (s.queue q).ringHeld then s else s.drain q

/-- A record goes to its ring behind those that wait (09 R386, R390). -/
def State.post (s : State) (q : Nat) (r : List Byte) : State :=
  (s.putQueue q { s.queue q with held := (s.queue q).held ++ [r] }).drainFree q

/-- Final records that wait to be written. -/
def QueueSt.heldFinals (x : QueueSt) : Nat := (x.held.filter fun r => decide (recordType r = 0)).length

/-- The item whose final record is next in order, when it has completed (09 R385). -/
def QueueSt.nextFinal (x : QueueSt) : Option Item :=
  (x.item? (x.rseq + x.heldFinals + 1)).bind fun i => if i.phase = .ended then some i else none

/-- The refusal whose turn it is: every item with a lower number has its final record in the ring or behind it (09 R386). -/
def QueueSt.nextRefusal (x : QueueSt) : Option (List Byte) :=
  x.refusals.head?.bind fun r => if recordSeq r = x.rseq + x.heldFinals + 1 then some r else none

/-- Release of the next record: a refused list's NOT_ACCEPTED record once every earlier final record has been released, else
the next completed item's final record (09 R385, R386). -/
def State.releaseRecord (s : State) (q : Nat) : State :=
  let s := s.drainFree q
  let x := s.queue q
  match x.nextRefusal with
  | some r => (s.putQueue q { x with refusals := x.refusals.drop 1 }).post q r
  | none =>
    match x.nextFinal with
    | some i => s.post q (i.record q)
    | none => s

end Sys2Proof.Machine
end

