-- ==== Sys2Proof/Machine/MatCmd.lean ====
section
/-!
DEFINITION. The fields of a MATMUL (09, layouts), its output regions and their passes (09 R356, 05 R212 to R219).
-/
namespace Sys2Proof.Machine

/-! ## Fields of a MATMUL (09, layouts) -/

structure MatCmd where
  u : Nat
  rfmt : Nat
  kfmt : Nat
  ofmt : Nat
  rnd : Nat
  sat : Bool
  sr : Bool
  kconv : Bool
  maskForm : Nat
  passes : Nat
  m : Nat
  n : Nat
  f : Nat
  out : Nat
  ostride : Nat
  orgM : Nat
  orgN : Nat
  seed : Nat
  oscale : Nat
  mask : Nat
  deriving DecidableEq, Repr

/-- One use (09, layouts). -/
structure MatUse where
  k : Nat
  tk : Bool
  tr : Bool
  kstream : Bool
  rsrc : Nat
  rstride : Nat
  kstride : Nat
  ksrc : Nat
  rscale : Nat
  kscale : Nat
  deriving DecidableEq, Repr

def Item.matCmd (i : Item) : MatCmd :=
  let o := i.fld 10 1
  let p := i.fld 11 1
  { u := i.fld 8 1, rfmt := i.fld 9 1 % 16, kfmt := i.fld 9 1 / 16, ofmt := o % 16, rnd := bitsOf o 5 4,
    sat := o.testBit 6, sr := o.testBit 7, kconv := p.testBit 0, maskForm := bitsOf p 2 1, passes := bitsOf p 4 3,
    m := i.fld 12 4, n := i.fld 16 4, f := i.fld 20 4, out := i.fld 24 8, ostride := i.fld 32 4, orgM := i.fld 36 4,
    orgN := i.fld 40 4, seed := i.fld 48 8, oscale := i.fld 56 8, mask := i.fld 64 8 }

def Item.matUse (i : Item) (u : Nat) : MatUse :=
  let e := 80 + 48 * u
  let g := i.fld (e + 4) 1
  { k := i.fld e 4, tk := g.testBit 0, tr := g.testBit 1, kstream := g.testBit 2, rsrc := i.fld (e + 8) 8,
    rstride := i.fld (e + 16) 4, kstride := i.fld (e + 20) 4, ksrc := i.fld (e + 24) 8, rscale := i.fld (e + 32) 8,
    kscale := i.fld (e + 40) 8 }

/-- The uses of the command. -/
def Item.uses (i : Item) : List MatUse := (List.range i.matCmd.u).map i.matUse

/-- Width of keeper source elements (04 R154). -/
def keeperBits (conv : Bool) (kfmt : Nat) : Nat := if conv then 32 else fmtBits kfmt

/-! ## Regions (09 R356) -/

def Item.rowTile (i : Item) : Nat := if i.uses.any (·.tr) then 96 else 256
def Item.colTiles (i : Item) : Nat := (i.matCmd.n + 95) / 96
def Item.regions (i : Item) : Nat := (i.matCmd.m + i.rowTile - 1) / i.rowTile * i.colTiles

/-- A region's first row and column, and its sizes. -/
structure Area where
  r0 : Nat
  c0 : Nat
  rows : Nat
  cols : Nat
  deriving DecidableEq, Repr

def Item.area (i : Item) (r : Nat) : Area :=
  let c := i.matCmd
  let r0 := r / i.colTiles * i.rowTile
  let c0 := r % i.colTiles * 96
  ⟨r0, c0, min i.rowTile (c.m - r0), min 96 (c.n - c0)⟩

/-- Bytes of the mask bitmap (05 R212). -/
def MatCmd.maskBytes (c : MatCmd) : Nat :=
  if c.maskForm = 1 then (c.m + 7) / 8 else if c.maskForm = 2 then ((c.m + 31) / 32 + 7) / 8 else 0

/-- Whether an output row is trained, by the bitmap as the item read it at its start (05 R212, R213). -/
def MatCmd.trained (c : MatCmd) (mask : List Byte) (r : Nat) : Bool :=
  if c.maskForm = 0 then true
  else let b := if c.maskForm = 1 then r else r / 32
       (mask.getD (b / 8) 0).toNat.testBit (b % 8)

/-- The bitmap that a MATMUL read at its start. -/
def Item.maskBits (i : Item) : List Byte := match i.work with | .matmul w => w.mask | _ => []

/-- The rows of a region that stream (05 R214). -/
def Item.regionRows (i : Item) (r : Nat) : List Nat :=
  (List.range (i.area r).rows).filter fun m => i.matCmd.trained i.maskBits ((i.area r).r0 + m)

/-- One pass of a region: its use and its chunk (05 R218, R219); the keeper rows that a KSTREAM use took, and whether they come
as FP32 to be converted (09 R358). -/
structure MatPass where
  use : MatUse
  k0 : Nat
  kn : Nat
  conv : Bool
  data : List Byte
  deriving DecidableEq, Repr

/-- The passes of a region in order. -/
def Item.passes (i : Item) : List MatPass :=
  (i.uses.map fun x => (List.range ((x.k + 95) / 96)).map fun c => (⟨x, 96 * c, min 96 (x.k - 96 * c), i.matCmd.kconv, []⟩ : MatPass)).flatten

end Sys2Proof.Machine
end

