-- ==== Sys2Proof/Machine/Operands.lean ====
section
/-!
DEFINITION. The operand forms of a core program: word forms (06 R229), when a word issues (R224, R227), scalar, vector and
predicate operands (R222, R223, R233, R234), core-memory operands (R247, R252, R253), and an instruction's failure (R262).
-/
namespace Sys2Proof.Machine

/-! ## Word forms (06 R229) -/

def encRR (cls op d a b p mod : Nat) : Word :=
  BitVec.ofNat 32 (cls * 2 ^ 28 + op * 2 ^ 22 + d * 2 ^ 17 + a * 2 ^ 12 + b * 2 ^ 7 + p * 2 ^ 4 + mod)
def encRI (cls op d a imm : Nat) : Word :=
  BitVec.ofNat 32 (cls * 2 ^ 28 + op * 2 ^ 22 + d * 2 ^ 17 + a * 2 ^ 12 + imm)
def encMK (op d imm : Nat) : Word := BitVec.ofNat 32 (1 * 2 ^ 28 + op * 2 ^ 22 + d * 2 ^ 17 + imm)
def encCT (op a target : Nat) : Word := BitVec.ofNat 32 (2 * 2 ^ 28 + op * 2 ^ 22 + a * 2 ^ 17 + target)
def encCV (op d a fmt rnd sat sr : Nat) : Word :=
  BitVec.ofNat 32 (6 * 2 ^ 28 + op * 2 ^ 22 + d * 2 ^ 17 + a * 2 ^ 12 + fmt * 2 ^ 8 + rnd * 2 ^ 6 + sat * 2 ^ 5 + sr * 2 ^ 4)

/-- Class 0x4 with MOD[3] for a scalar B (06 R233). -/
def encV (op : Nat) (d a b : Reg) (p : PReg) (sb : Bool) : Word := encRR 4 op d a b p (if sb then 8 else 0)

/-! ## Issue -/

/-- The instruction word at an address; words beyond the image read zero (06 R230). -/
def SeqState.word (x : SeqState) (a : Nat) : Word := tget 0 x.imem (a % 16384)

/-- Whether the group of a word is a tile instruction (06 R227). -/
def SeqState.tileGroup (x : SeqState) (a : Nat) : Bool := (x.word (a / 4 * 4 + 3)).toNat / 2 ^ 28 == 15

/-- The tile instruction in the group at an address (06 R227). -/
def SeqState.tileWord (x : SeqState) (a : Nat) : TWord :=
  BitVec.ofNat 128 (packNat 32 ((List.range 4).map fun i => (x.word (a / 4 * 4 + i)).toNat))

/-- Whether the instance issues: it runs, is not halted by debug, and has raised no trapped INV (04 R176, 17 R678). -/
def Core.issues (c : Core) (r : Run) : Bool :=
  decide (c.seq.phase = .running) && r.job && !c.seq.halted && !(r.trap && c.tile.xcap.isSome)

/-- The vector registers that a word of class 0x4 names in D, A and B (06 R231, R233). -/
def vecOperands (w : Nat) : List Nat :=
  let op := bitsOf w 27 22
  let d := bitsOf w 21 17
  let a := bitsOf w 16 12
  let b := bitsOf w 11 7
  let arith := decide (op ≤ 0xB) || decide (op = 0x14) || decide (0x18 ≤ op ∧ op ≤ 0x1E)
  let cmp := decide (0x10 ≤ op ∧ op ≤ 0x13)
  let two := decide (op ≤ 5) || decide (op = 7) || decide (op = 9) || decide (op = 0x14) || decide (0x18 ≤ op ∧ op ≤ 0x1E) || cmp
  (if arith || decide (op = 0x20) || decide (op = 0x21) then [d] else []) ++
    (if arith || cmp || decide (op = 0x2C) then [a] else []) ++ (if two && !w.testBit 3 then [b] else [])

/-- The vector registers that a 32-bit instruction reads or writes (06 R231). -/
def vecNames (word : Word) : List Nat :=
  let w := word.toNat
  let op := bitsOf w 27 22
  match bitsOf w 31 28 with
  | 4 => vecOperands w
  | 5 => bitsOf w 21 17 :: (if op = 2 ∨ op = 3 then [bitsOf w 11 7] else [])
  | 6 => if op ≤ 1 then [bitsOf w 21 17, bitsOf w 16 12] else [bitsOf w 16 12]
  | _ => []

/-- The vector registers that a queued TACCRD has still to write (04 R156). -/
def Pass.vregs (x : Pass) : List Nat :=
  if twTop x.word = 2 ∧ twDest x.word then (List.range (2 * twM x.word)).map (twVreg x.word + ·) else []

/-- Whether an instruction waits for a queued TACCRD that writes a vector register it names (06 R224, R225). -/
def Core.vecWaits (c : Core) (l : List Nat) : Bool := c.tile.queue.any fun (x : Pass) => x.vregs.any fun r => l.elem r

/-- Whether the instance issues this 32-bit instruction, the word at PC, now (06 R224, R227). -/
def Core.atWord (c : Core) (r : Run) (w : Word) : Bool :=
  c.issues r && !c.seq.tileGroup c.seq.pc.toNat && decide (c.seq.word c.seq.pc.toNat = w) && !c.vecWaits (vecNames w)

/-- An instruction of the instance on a site: its effect when it is the one that issues, and nothing otherwise. -/
def State.issueAt (s : State) (site : Nat) (w : Word) (f : Core → Run → State) : State :=
  match (s.core site).seq.run with
  | some r => if (s.core site).atWord r w then f (s.core site) r else s
  | none => s

/-- The item fails at an instruction found at a core (06 R262, 09 R384). -/
def State.failAt (s : State) (site status : Nat) : State :=
  match (s.core site).seq.run with
  | none => s
  | some r => s.failItem r.q r.k ⟨status, ((s.lcoreOf site).getD 0x7FF) * 65536 + (if r.job then r.inst else 0), none⟩

/-- FAILED_MALFORMED found at a core. -/
def State.malformedAt (s : State) (site : Nat) : State := s.failAt site 0x1D

/-- The item fails with a status and DETAIL of its own. -/
def State.failCore (s : State) (site : Nat) (f : Fail) : State :=
  match (s.core site).seq.run with
  | none => s
  | some r => s.failItem r.q r.k f

/-! ## Registers -/

/-- The next instruction. After word 16,383 it is word 0, where the spec says nothing (DESIGN CHOICE, log 73). -/
def SeqState.next (x : SeqState) : SeqState := { x with pc := x.pc + 1 }
def SeqState.sreg (x : SeqState) (r : Nat) : DWord := vget x.s r 0
def SeqState.setS (x : SeqState) (r : Nat) (v : DWord) : SeqState := { x with s := vset x.s r v }
/-- A predicate; p0 reads all ones (06 R223). -/
def SeqState.preg (x : SeqState) (r : Nat) : DWord := if r = 0 then BitVec.allOnes 64 else vget x.p r 0
/-- A predicate written; p0 takes no write (06 R223). -/
def SeqState.setP (x : SeqState) (r : Nat) (v : DWord) : SeqState := if r = 0 then x else { x with p := vset x.p r v }
def SeqState.vreg (x : SeqState) (r : Nat) : Vector Word 64 := vget x.v r (Vector.replicate 64 0)
def SeqState.setV (x : SeqState) (r : Nat) (v : Vector Word 64) : SeqState := { x with v := vset x.v r v }
def lane (v : Vector Word 64) (l : Nat) : Word := vget v l 0
/-- The B operand: a vector, or the low word of s(B) on every lane (06 R233). -/
def SeqState.bvec (x : SeqState) (b : Nat) (sb : Bool) : Vector Word 64 :=
  if sb then Vector.replicate 64 ((x.sreg b).truncate 32) else x.vreg b
/-- Lanes taken where the predicate is 1; others keep the destination (06 R234). -/
def SeqState.lanes (x : SeqState) (d p : Nat) (f : Nat → Word) : Vector Word 64 :=
  Vector.ofFn fun l : Fin 64 => if (x.preg p).getLsbD l then f l else lane (x.vreg d) l
/-- A lane predicate as a register (06 R231). -/
def maskOf (f : Nat → Bool) : DWord := BitVec.ofNat 64 (((List.range 64).map fun l => if f l then 2 ^ l else 0).sum)

/-- The core after an instruction that writes its sequencer only. -/
def State.seqTo (s : State) (site : Nat) (x : SeqState) : State :=
  s.putCore site { s.core site with seq := x.next }

/-- s(D) := v, the next instruction (06 R231). -/
def State.writeS (s : State) (site : Nat) (d : Nat) (v : DWord) : State := s.seqTo site ((s.core site).seq.setS d v)
def State.writeP (s : State) (site : Nat) (d : Nat) (v : DWord) : State := s.seqTo site ((s.core site).seq.setP d v)
def State.writeV (s : State) (site : Nat) (d : Nat) (v : Vector Word 64) : State :=
  s.seqTo site ((s.core site).seq.setV d v)

/-- A sign-extended IMM (06 R229). -/
def immS (imm : BitVec 12) : DWord := imm.signExtend 64

/-- A jump; a target inside a tile-instruction group but its first word fails the item (06 R230). -/
def State.jump (s : State) (site : Nat) (x : SeqState) (target : BitVec 14) : State :=
  if x.tileGroup target.toNat ∧ target.toNat % 4 ≠ 0 then s.malformedAt site
  else s.putCore site { s.core site with seq := { x with pc := target } }

/-! ## Core memory -/

/-- Byte ranges overlap. -/
def overlaps (lo hi lo' hi' : Nat) : Bool := decide (lo < hi') && decide (lo' < hi)

/-- Core-memory bytes of a slot's lines. -/
def SlotOp.range (o : SlotOp) : Nat × Nat :=
  match o with
  | .srd line count _ _ => (64 * line, 64 * (line + count))
  | .swr line count _ => (64 * line, 64 * (line + count))

/-- Whether a slot makes an access wait (06 R247). -/
def SlotOp.blocks (o : SlotOp) (lo hi : Nat) (write : Bool) : Bool :=
  overlaps lo hi o.range.1 o.range.2 && (match o with | .srd _ _ _ _ => true | .swr _ _ _ => write)

/-- Bytes of an untransposed keeper or of a transposed one (04 R154, 05 R196). -/
def twKeeperBytes (w : TWord) : Nat :=
  if twTk w then twN w * rowBytes (twK w) (twKbits w) else twK w * rowBytes (twN w) (twKbits w)
/-- Bytes of a staged tile or of a transposed runner source (06 R255, 05 R197). -/
def twRunnerBytes (w : TWord) : Nat :=
  if twTr w then twK w * rowBytes (twM w) (fmtBits (twRfmt w))
  else 64 + twSteps w * rowBytes (twK w) (fmtBits (twRfmt w))
def twKscaleBytes (w : TWord) : Nat := if fmtScaled (twKfmt w) then twN w * ((twK w + 31) / 32) else 0
def twRscaleBytes (w : TWord) : Nat := if fmtScaled (twRfmt w) then twM w * ((twK w + 31) / 32) else 0

/-- Bytes of a tile image (04 R165). -/
def imageBytes : Nat := 122944

/-- Lines that a tile instruction reads, as line and bytes (04 R154, 05 R196, R197, 06 R255). -/
def tmmOperands (w : TWord) : List (Nat × Nat) :=
  [(twRaddr w, twRunnerBytes w), (twKaddr w, twKeeperBytes w), (twRsaddr w, twRscaleBytes w),
   (twKsaddr w, twKscaleBytes w)]

/-- Output lines of a TACCRD (04 R155). -/
def readOperands (w : TWord) : List (Nat × Nat) :=
  if twDest w then [] else
    [(twRaddr w, twM w * rowBytes (twN w) (fmtBits (twOfmt w))),
     (twRsaddr w, if fmtScaled (twOfmt w) then twM w * ((twN w + 31) / 32) else 0)]

/-- Whether a byte range meets one of some operands. -/
def meetsAny (lo hi : Nat) (l : List (Nat × Nat)) : Bool := l.any fun p => overlaps lo hi (64 * p.1) (64 * p.1 + p.2)

/-- What a queued tile instruction has still to read: a TMM its keeper and keeper scales until its load, its runner and runner
scales until it streams, but for lines read through the transposing buffer; a TRESTORE its image (06 R224, 05 R200). -/
def Pass.toRead (x : Pass) : List (Nat × Nat) :=
  let w := x.word
  if x.isTmm then
    (if x.phase = .waiting && !x.reuse then (twKsaddr w, twKscaleBytes w) :: (if twTk w then [] else [(twKaddr w, twKeeperBytes w)])
     else []) ++
    (if x.phase = .streaming then []
     else (twRsaddr w, twRscaleBytes w) :: (if twTr w then [] else [(twRaddr w, twRunnerBytes w)]))
  else if twTop w = 4 then [(twRaddr w, imageBytes)] else []

/-- What a queued tile instruction has still to write: the lines of a TACCRD or TSAVE (06 R224). -/
def Pass.toWrite (x : Pass) : List (Nat × Nat) :=
  if twTop x.word = 2 then readOperands x.word
  else if twTop x.word = 3 then [(twRaddr x.word, imageBytes)] else []

/-- Whether an access of the instance waits (06 R224, R247). -/
def Core.waits (c : Core) (lo hi : Nat) (write : Bool) : Bool :=
  (c.seq.slots.any fun o => o.blocks lo hi write) ||
    (c.tile.queue.any fun (x : Pass) => meetsAny lo hi x.toWrite || (write && meetsAny lo hi x.toRead))

/-- The outcome of checking a core-memory access. -/
inductive MemCheck where
  | ok
  | waits
  | fails (f : Fail)
  | malformed
  deriving DecidableEq, Repr

/-- The lines that an access reads: all of a read's, and of a write those of the 64-bit words that it writes only in part, whose
read half its SECDED code needs (06 R251, R253). -/
def accessReads (a n : Nat) (write : Bool) : List Nat :=
  if !write then linesOf a n
  else (if a % 8 = 0 then [] else [lineOf a]) ++ (if (a + n) % 8 = 0 then [] else [lineOf (a + n)])

/-- The check of an access of `n` bytes at a byte address of core memory: alignment, extent, waits, and the ECC of what it reads
(06 R247, R252, R253). An address that is misaligned and outside the extent is FAILED_MALFORMED, since the spec ranks neither
failure first (DESIGN CHOICE, log 73). -/
def State.coreCheck (s : State) (site : Nat) (r : Run) (a : Nat) (n align : Nat) (write : Bool) : MemCheck :=
  if a % align ≠ 0 then .malformed
  else if 64 * r.extent < a + n then .fails (failWindow (coreAddr site a))
  else if (s.core site).waits a (a + n) write then .waits
  else match (accessReads (coreAddr site a) n write).find? s.isUe with
    | some l => .fails (failEcc l)
    | none => .ok

/-- Run an access that has passed its check; a failing one ends the item, and one that waits changes nothing. -/
def State.withMem (s : State) (site : Nat) (m : MemCheck) (k : State) : State :=
  match m with
  | .ok => k
  | .waits => s
  | .fails f => s.failCore site f
  | .malformed => s.malformedAt site

/-- The effective address: a base and a scaled signed IMM (06 R231). -/
def effAddr (x : SeqState) (a : Nat) (scale : DWord) (imm : BitVec 12) : Nat := (x.sreg a + scale * immS imm).toNat

end Sys2Proof.Machine
end

