-- ==== Sys2Proof/Machine/StreamOps.lean ====
section
/-!
DEFINITION. Streams: the descriptor and its checks (08 R308, R309), source rows (R310, R338), destination lines in the three
layouts with staged runner tiles (R311, R312, 06 R255), the checks of a consuming read (R327), and taking lines from a
stream (R316 to R318, R323).
-/
namespace Sys2Proof.Machine

/-! ## Descriptors -/

/-- A stream descriptor's fields (08 R308). -/
structure Desc where
  raw : List Byte
  base : Nat
  e0 : Nat
  e1 : Nat
  e2 : Nat
  e3 : Nat
  s1 : Nat
  s2 : Nat
  s3 : Nat
  fmt : Nat
  layout : Nat
  passes : Nat
  gather : Bool
  idx64 : Bool
  tm : Nat
  lead : Nat
  ibase : Nat
  deriving DecidableEq, Repr

/-- A field of bytes. -/
def fld (bs : List Byte) (off n : Nat) : Nat := leNat ((bs.drop off).take n)

def readDesc (bs : List Byte) : Desc :=
  let m := fld bs 29 1
  { raw := bs, base := fld bs 0 8, e0 := fld bs 8 2 + 1, e1 := fld bs 10 2 + 1, e2 := fld bs 12 2 + 1,
    e3 := fld bs 14 2 + 1, s1 := fld bs 16 4, s2 := fld bs 20 4, s3 := fld bs 24 4, fmt := fld bs 28 1 % 16,
    layout := m % 4, passes := bitsOf m 3 2, gather := m.testBit 4, idx64 := m.testBit 5, tm := fld bs 30 1 + 1,
    lead := fld bs 32 2, ibase := fld bs 40 8 }

/-- Element width of the stream's rows in bits; a BYTES row's elements are bytes (08 R311). -/
def Desc.width (d : Desc) : Nat := if d.layout = 2 then 8 else fmtBits d.fmt
def Desc.rows (d : Desc) : Nat := d.e1 * d.e2 * d.e3
/-- Cycles per product of a RUNNER stream (03 R100). -/
def Desc.c (d : Desc) : Nat := cyclesPer d.fmt d.passes
/-- Steps of a RUNNER tile (08 R311). -/
def Desc.steps (d : Desc) : Nat := d.tm + 99 / d.c
/-- Lines of one RUNNER tile. -/
def Desc.tileLines (d : Desc) : Nat := 1 + d.steps * (rowBytes d.e0 d.width / 64)
/-- The stream's length in destination lines (08 R311). -/
def Desc.length (d : Desc) : Nat :=
  if d.layout = 0 then d.rows * (rowBytes d.e0 d.width / 64)
  else if d.layout = 1 then d.rows / d.tm * d.tileLines
  else (d.rows * d.e0 + 63) / 64

/-- The byte offset of the first field that breaks 08 R308 or R309, if any. -/
def Desc.bad (d : Desc) : Option Nat :=
  let b := d.raw
  let m := fld b 29 1
  let len := decide (2 ^ 32 - 1 < d.length)
  if d.e0 % 2 ≠ 0 ∧ (d.fmt = 9 ∨ d.fmt = 11) ∧ d.layout ≠ 2 then some 8
  else if d.e0 % 4 ≠ 0 ∧ (d.fmt = 7 ∨ d.fmt = 8) ∧ d.layout ≠ 2 then some 8
  else if d.layout = 1 ∧ 96 < d.e0 then some 8
  else if len then some 8
  else if d.layout = 1 ∧ d.e1 % d.tm ≠ 0 then some 10
  else if d.gather ∧ d.e2 ≠ 1 then some 12
  else if d.gather ∧ d.e3 ≠ 1 then some 14
  else if d.layout = 1 ∧ d.s1 = 0 then some 16
  else if d.gather ∧ d.s2 ≠ 0 then some 20
  else if d.gather ∧ d.s3 ≠ 0 then some 24
  else if 16 ≤ fld b 28 1 ∨ 12 < d.fmt ∨ (d.layout = 2 ∧ d.fmt ≠ 0) then some 28
  else if 64 ≤ m ∨ d.layout = 3 ∨ (d.layout = 1 ∧ d.fmt = 0 ∧ d.passes = 0) ∨
      (¬ (d.layout = 1 ∧ d.fmt = 0) ∧ d.passes ≠ 0) ∨ (!d.gather ∧ d.idx64) then some 29
  else if d.layout ≠ 1 ∧ fld b 30 1 ≠ 0 then some 30
  else if fld b 31 1 ≠ 0 then some 31
  else if fld b 34 6 ≠ 0 then some 34
  else if (!d.gather ∧ d.ibase ≠ 0) ∨ (d.gather ∧ d.ibase % (if d.idx64 then 8 else 4) ≠ 0) then some 40
  else if fld b 48 16 ≠ 0 then some 48
  else none

/-! ## Source rows -/

/-- The address of index i1 of a gather (08 R338). -/
def Desc.indexAddr (d : Desc) (i1 : Nat) : Nat := d.ibase + i1 * (if d.idx64 then 8 else 4)

/-- The byte address of source row r, formed without wrap (08 R310, R338). -/
def Desc.rowAddr (d : Desc) (s : State) (r : Nat) : Nat :=
  if d.gather then d.base + s.num (d.indexAddr r) (if d.idx64 then 8 else 4) * d.s1
  else d.base + r % d.e1 * d.s1 + r / d.e1 % d.e2 * d.s2 + r / (d.e1 * d.e2) * d.s3

/-- Bytes of a source row. -/
def Desc.rowLen (d : Desc) : Nat := (d.e0 * d.width + 7) / 8

/-- An element of a packed row in memory. -/
def State.elemAt (s : State) (addr b k : Nat) : Nat := (s.num (addr + b * k / 8) 5 >>> (b * k % 8)) % 2 ^ b

/-! ## Staged runner tiles (06 R255) -/

/-- The header of a staged runner tile (06 R255). -/
def tileHeader (a : ArrayState) (fmt m k c src stride steps : Nat) : List Byte :=
  natLe 2 0xE7A5 ++ natLe 2 a.epoch.toNat ++ natLe 1 fmt ++ natLe 1 (m - 1) ++ natLe 1 (k - 1) ++ natLe 1 c ++
    natLe 1 (a.bp 0) ++ natLe 1 (a.bp 1) ++ natLe 1 (a.bp 2) ++ natLe 1 (a.bp 3) ++ natLe 4 0 ++ natLe 8 src ++
    natLe 4 stride ++ natLe 4 steps ++ List.replicate 32 0

/-- Step j of a staged tile: logical row k holds runner row j − floor(phys(k) / c), or zero (06 R255). -/
def tileStep (a : ArrayState) (m k b c j : Nat) (elem : Nat → Nat → Nat) : List Byte :=
  let es := (List.range k).map fun kk =>
    let d := a.phys kk / c
    if d ≤ j ∧ j - d < m then elem (j - d) kk else 0
  natLe (rowBytes k b) (packNat b es)

/-- A whole staged tile of rows `STRIDE` apart from `SRC`. -/
def tileBytes (s : State) (a : ArrayState) (fmt m k b c src stride steps : Nat) : List Byte :=
  tileHeader a fmt m k c src stride steps ++
    ((List.range steps).map fun j =>
      tileStep a m k b c j fun mm kk => s.elemAt (src + mm * stride) b kk).flatten

/-! ## Destination lines (08 R311, R312) -/

/-- The elements of a step that line `x` of it holds, in part at least (06 R255). -/
def Desc.stepElems (d : Desc) (x : Nat) : List Nat :=
  (List.range d.e0).filter fun k => decide (512 * x < (k + 1) * d.width) && decide (k * d.width < 512 * (x + 1))

/-- What destination line n takes of its source rows: each row with the byte offsets and lengths of the parts taken. A gather's RUNNER
header takes its first row's index, and no byte of the row (08 R310 to R312, R338). -/
def Desc.parts (d : Desc) (a : ArrayState) (n : Nat) : List (Nat × List (Nat × Nat)) :=
  let l := rowBytes d.e0 d.width / 64
  if d.layout = 0 then
    let off := 64 * (n % l)
    [(n / l, [(off, min 64 (d.rowLen - off))])]
  else if d.layout = 2 then
    let r0 := 64 * n / d.e0
    (List.range ((min (64 * n + 63) (d.rows * d.e0 - 1)) / d.e0 + 1 - r0)).map fun i =>
      let r := r0 + i
      let lo := max (64 * n) (r * d.e0)
      (r, [(lo - r * d.e0, min (64 * n + 64) ((r + 1) * d.e0) - lo)])
  else
    let r0 := n / d.tileLines * d.tm
    let i := n % d.tileLines
    if i = 0 then [(r0, [])]
    else
      let j := (i - 1) / l
      let es := (d.stepElems ((i - 1) % l)).map fun k => (k, a.phys k / d.c)
      ((List.range d.tm).map fun m => (r0 + m, (es.filter fun e => decide (e.2 + m = j)).map fun e =>
        (e.1 * d.width / 8, (e.1 * d.width % 8 + d.width + 7) / 8))).filter fun p => !p.2.isEmpty

/-- The bytes of destination line n, for the core whose array is given (08 R311, R312). -/
def Desc.lineBytes (d : Desc) (s : State) (a : ArrayState) (n : Nat) : List Byte :=
  if d.layout = 0 then
    let l := rowBytes d.e0 d.width / 64
    let off := 64 * (n % l)
    let len := min 64 (d.rowLen - off)
    s.bytes (d.rowAddr s (n / l) + off) len ++ List.replicate (64 - len) 0
  else if d.layout = 2 then
    (List.range 64).map fun i =>
      let b := 64 * n + i
      if b < d.rows * d.e0 then s.byte (d.rowAddr s (b / d.e0) + b % d.e0) else 0
  else
    let t := n / d.tileLines
    let i := n % d.tileLines
    if i = 0 then tileHeader a d.fmt d.tm d.e0 d.c (d.rowAddr s (t * d.tm)) d.s1 d.steps
    else
      let l := rowBytes d.e0 d.width / 64
      let step := tileStep a d.tm d.e0 d.width d.c ((i - 1) / l) fun m k =>
        s.elemAt (d.rowAddr s (t * d.tm + m)) d.width k
      (step.drop (64 * ((i - 1) % l))).take 64

/-- One source line of a destination line, with the index line it was reached through (08 R322, R339). -/
structure SrcLine where
  line : Nat
  index : Option Nat
  deriving DecidableEq, Repr

/-- The source lines of destination line n in order of use, a row's index line before its own (08 R322, R339). -/
def Desc.srcLines (d : Desc) (s : State) (a : ArrayState) (n : Nat) : List SrcLine :=
  ((d.parts a n).map fun r =>
    let ix := if d.gather then linesOf (d.indexAddr r.1) (if d.idx64 then 8 else 4) else []
    let own := ((r.2.map fun p => linesOf (d.rowAddr s r.1 + p.1) p.2).flatten).eraseDups
    (ix.map fun l => ⟨l, none⟩) ++ own.map fun l => ⟨l, ix.head?⟩).flatten

/-- Whether a hub holds a valid copy of a line for a stream (08 R321). -/
def State.buffered (s : State) (stream line : Nat) : Bool :=
  (s.hub (s.hubOf line)).buf.any fun b => decide (b.stream = stream) && decide (b.line = line)

/-- The check of one source line of a consuming read (08 R327); a buffered copy is not read from DRAM. -/
def State.checkSrc (s : State) (ws : WinSet) (stream : Option Nat) (line : Nat) : Option Fail :=
  match s.region line with
  | .hole => some (failWindow line)
  | .core _ => some (failWindow line)
  | .control => some ⟨0x10, 0x60000000, none⟩
  | _ =>
    if !ws.grants rightR false line then some (failWindow line)
    else if s.gatedAt line then some (failGated line)
    else if (match stream with | some n => s.buffered n line | none => false) then none
    else if s.isUe line then some (failEcc line)
    else none

/-- The profile and epoch that a core has now, in one reading (03 R126). -/
def ArrayState.snap (a : ArrayState) : Snap := ⟨a.failed, a.epoch⟩
/-- An array of that profile and epoch, for which tiles are laid out. -/
def Snap.array (p : Snap) : ArrayState := { ArrayState.reset with failed := p.failed, epoch := p.epoch }

/-- The array for which destination line n is laid out: that of the reading made before its tile's first line where the tile was begun
before, else the core's own as it stands (03 R126). `lay` is the reading of the tile that holds line `pos`. -/
def Desc.layFor (d : Desc) (lay : Option Snap) (pos : Nat) (a : ArrayState) (n : Nat) : ArrayState :=
  match lay with
  | some p => if n / d.tileLines = pos / d.tileLines then p.array else a
  | none => a

/-- The reading to keep when lines up to `n` have been laid out: that of a RUNNER tile which line n goes on with (03 R126). -/
def Desc.layAfter (d : Desc) (lay : Option Snap) (pos : Nat) (a : ArrayState) (n : Nat) : Option Snap :=
  if d.layout = 1 ∧ n % d.tileLines ≠ 0 then some (d.layFor lay pos a (n - 1)).snap else none

/-- The first failure among the source lines of destination lines from `n`. -/
def Desc.checkLines (d : Desc) (s : State) (f : Nat → ArrayState) (ws : WinSet) (stream : Option Nat) (n count : Nat) :
    Option Fail :=
  (List.range count).findSome? fun i => (d.srcLines s (f (n + i)) (n + i)).findSome? fun l => s.checkSrc ws stream l.line

/-- Whether a source line is still used by a destination line from `n` on (08 R323). -/
def Desc.usedFrom (d : Desc) (s : State) (f : Nat → ArrayState) (n line : Nat) : Bool :=
  (List.range (d.length - n)).any fun i => (d.srcLines s (f (n + i)) (n + i)).any fun l => decide (l.line = line)

/-- Buffered lines of a stream that no later destination line uses are freed (08 R323). -/
def State.freeDelivered (s : State) (stream : Nat) (d : Desc) (a : Nat → ArrayState) (pos : Nat) : State :=
  s.setMem { s.mem with hubs := s.mem.hubs.map fun h =>
    { h with buf := h.buf.filter fun b => !(decide (b.stream = stream) && !d.usedFrom s a pos b.line) } }

/-- What the prefetch buffers' code reported of buffered lines that a read takes: a correction counts at the line's hub, and a lost line
counts there and is discarded, so that DRAM serves it (08 R328). -/
def State.bufferEcc (s : State) (stream : Nat) (lines : List Nat) (es : List (BitVec 42 × EccFact)) : State :=
  es.foldl (fun t e =>
    let l := lineOf e.1.toNat
    if lines.elem l && t.buffered stream l then
      let h := t.hubOf l
      let x := t.hub h
      match e.2 with
      | .clean => t
      | .corrected _ => t.putHub h { x with muleCE := sat16 x.muleCE 1 }
      | .uncorrectable => t.putHub h { x with muleUE := sat16 x.muleUE 1
                                              buf := x.buf.filter fun b => !(decide (b.stream = stream) && decide (b.line = l)) }
    else t) s

/-- Lines taken from a stream at its home hub (08 R316 to R318, R327): the state after, and the bytes or the failure. A read that fails
delivers nothing and leaves the position where it is, as R317 says of a read past the end (DESIGN CHOICE for the other failures, log
73). -/
def State.consume (s : State) (stream ctx : Nat) (ws : WinSet) (a : ArrayState) (count : Nat) (bad : Fail)
    (es : List (BitVec 42 × EccFact)) : State × (Fail ⊕ List Byte) :=
  let x := s.stream stream
  let d := readDesc x.desc
  if x.phase ≠ .active ∨ x.ctx ≠ ctx ∨ d.length < x.pos + count then (s, .inl bad)
  else
    let f := d.layFor x.lay x.pos a
    let lines := (((List.range count).map fun i => d.srcLines s (f (x.pos + i)) (x.pos + i)).flatten).map SrcLine.line
    let s := s.bufferEcc stream lines es
    match d.checkLines s f ws (some stream) x.pos count with
    | some f => (s, .inl f)
    | none =>
      let data := ((List.range count).map fun i => d.lineBytes s (f (x.pos + i)) (x.pos + i)).flatten
      let pos := x.pos + count
      let lay := d.layAfter x.lay x.pos a pos
      let t := s.putStream stream { x with pos := pos, phase := if pos = d.length then .ended else .active, lay := lay }
      (t.freeDelivered stream d (d.layFor lay pos a) pos, .inr data)

end Sys2Proof.Machine
end

