-- ==== Sys2Proof/Machine/Flags.lean ====
section
/-!
DEFINITION. The flags that vector arithmetic raises (06 R236) and how a core's instructions raise item flags (02 R87).
-/
namespace Sys2Proof.Machine

/-- Flags raised by an instruction on a site (02 R87). -/
def Core.raise (c : Core) (f : Flags) : Core := { c with tile := { c.tile with flags := c.tile.flags.or f } }

/-- Zero times infinity. -/
def mulInvalid (a b : Val) : Bool := (a.isZero && b.isInf) || (a.isInf && b.isZero)
/-- Infinities of opposite sign. -/
def addInvalid (a b : Val) : Bool := a.isInf && b.isInf && a.sign != b.sign

/-- Flags of one lane: a NaN operand, and an invalid operation (06 R236). -/
def laneFlags (vals : List Val) (inv : Bool) : Flags := { nanIn := vals.any Val.isNan, inv := inv }

/-- Flags of the active lanes under VFLAGS (06 R234, R236). -/
def vecFlags (x : SeqState) (r : Run) (p : Nat) (f : Nat → Flags) : Flags :=
  if r.vflags then (List.range 64).foldl (fun a l => if (x.preg p).getLsbD l then a.or (f l) else a) {} else {}

/-- v(D) := lanes of a floating instruction with its flags, the next instruction. -/
def State.writeVF (s : State) (site : Nat) (r : Run) (d p : Nat) (f : Nat → Word) (fl : Nat → Flags) : State :=
  let c := s.core site
  let c' := c.raise (vecFlags c.seq r p fl)
  s.putCore site { c' with seq := (c.seq.setV d (c.seq.lanes d p f)).next }

end Sys2Proof.Machine
end

