-- ==== Sys2Proof/Machine/Scalar.lean ====
section
/-!
DEFINITION. Scalar register, immediate and control instructions of a core program (06 R230 to R232, R261).
-/
namespace Sys2Proof.Machine

/-- A class 0x0 instruction: s(D) := f(s(A), s(B)) (06 R231). -/
def scalarRR (op : Nat) (f : DWord → DWord → DWord) (c : Site) (d a b : Reg) (s : State) : State :=
  s.issueAt c (encRR 0 op d a b 0 0) fun k _ => s.writeS c d (f (k.seq.sreg a) (k.seq.sreg b))

/-- A class 0x1 instruction with IMM: s(D) := f(s(A), IMM) (06 R231). -/
def scalarRI (op : Nat) (f : DWord → DWord → DWord) (c : Site) (d a : Reg) (imm : BitVec 12) (s : State) : State :=
  s.issueAt c (encRI 1 op d a imm.toNat) fun k _ => s.writeS c d (f (k.seq.sreg a) (immS imm))

/-- MOVKh: bits [16h + 15:16h] of s(D) := IMM (06 R231). -/
def movk (h : Nat) (c : Site) (d : Reg) (imm : BitVec 16) (s : State) : State :=
  s.issueAt c (encMK (0x10 + h) d imm.toNat) fun k _ =>
    s.writeS c d ((k.seq.sreg d &&& ~~~(0xFFFF#64 <<< (16 * h))) ||| (imm.zeroExtend 64 <<< (16 * h)))

/-- A shift by the low six bits (06 R231). -/
def shAmt (b : DWord) : Nat := b.toNat % 64
def flag (b : Bool) : DWord := if b then 1 else 0

/-- ADD (06 R231). -/
def execAdd (c : Site) (d a b : Reg) (s : State) : Answer := .next (scalarRR 0x01 (fun x y => x + y) c d a b s)
/-- SUB (06 R231). -/
def execSub (c : Site) (d a b : Reg) (s : State) : Answer := .next (scalarRR 0x02 (fun x y => x - y) c d a b s)
/-- MUL (06 R231). -/
def execMul (c : Site) (d a b : Reg) (s : State) : Answer := .next (scalarRR 0x03 (fun x y => x * y) c d a b s)
/-- AND (06 R231). -/
def execAnd (c : Site) (d a b : Reg) (s : State) : Answer := .next (scalarRR 0x04 (fun x y => x &&& y) c d a b s)
/-- OR (06 R231). -/
def execOr (c : Site) (d a b : Reg) (s : State) : Answer := .next (scalarRR 0x05 (fun x y => x ||| y) c d a b s)
/-- XOR (06 R231). -/
def execXor (c : Site) (d a b : Reg) (s : State) : Answer := .next (scalarRR 0x06 (fun x y => x ^^^ y) c d a b s)
/-- SHL (06 R231). -/
def execShl (c : Site) (d a b : Reg) (s : State) : Answer := .next (scalarRR 0x07 (fun x y => x <<< shAmt y) c d a b s)
/-- SHR, filling with zero (06 R231). -/
def execShr (c : Site) (d a b : Reg) (s : State) : Answer := .next (scalarRR 0x08 (fun x y => x >>> shAmt y) c d a b s)
/-- SAR, filling with the sign (06 R231). -/
def execSar (c : Site) (d a b : Reg) (s : State) : Answer := .next (scalarRR 0x09 (fun x y => x.sshiftRight (shAmt y)) c d a b s)
/-- SLT, signed (06 R231). -/
def execSlt (c : Site) (d a b : Reg) (s : State) : Answer := .next (scalarRR 0x0A (fun x y => flag (x.slt y)) c d a b s)
/-- SLTU (06 R231). -/
def execSltu (c : Site) (d a b : Reg) (s : State) : Answer := .next (scalarRR 0x0B (fun x y => flag (x.ult y)) c d a b s)
/-- SEQ (06 R231). -/
def execSeq (c : Site) (d a b : Reg) (s : State) : Answer := .next (scalarRR 0x0C (fun x y => flag (x == y)) c d a b s)
/-- MIN, signed (06 R231). -/
def execMin (c : Site) (d a b : Reg) (s : State) : Answer := .next (scalarRR 0x0D (fun x y => if x.slt y then x else y) c d a b s)
/-- MAX, signed (06 R231). -/
def execMax (c : Site) (d a b : Reg) (s : State) : Answer := .next (scalarRR 0x0E (fun x y => if x.slt y then y else x) c d a b s)
/-- ADDI (06 R231). -/
def execAddi (c : Site) (d a : Reg) (imm : BitVec 12) (s : State) : Answer := .next (scalarRI 0x01 (fun x y => x + y) c d a imm s)
/-- ANDI (06 R231). -/
def execAndi (c : Site) (d a : Reg) (imm : BitVec 12) (s : State) : Answer := .next (scalarRI 0x04 (fun x y => x &&& y) c d a imm s)
/-- ORI (06 R231). -/
def execOri (c : Site) (d a : Reg) (imm : BitVec 12) (s : State) : Answer := .next (scalarRI 0x05 (fun x y => x ||| y) c d a imm s)
/-- XORI (06 R231). -/
def execXori (c : Site) (d a : Reg) (imm : BitVec 12) (s : State) : Answer := .next (scalarRI 0x06 (fun x y => x ^^^ y) c d a imm s)
/-- SHLI by IMM[5:0] (06 R231). -/
def execShli (c : Site) (d a : Reg) (imm : BitVec 12) (s : State) : Answer := .next (scalarRI 0x07 (fun x y => x <<< shAmt y) c d a imm s)
/-- SHRI by IMM[5:0] (06 R231). -/
def execShri (c : Site) (d a : Reg) (imm : BitVec 12) (s : State) : Answer := .next (scalarRI 0x08 (fun x y => x >>> shAmt y) c d a imm s)
/-- SARI by IMM[5:0] (06 R231). -/
def execSari (c : Site) (d a : Reg) (imm : BitVec 12) (s : State) : Answer := .next (scalarRI 0x09 (fun x y => x.sshiftRight (shAmt y)) c d a imm s)
/-- MOVK0 (06 R231). -/
def execMovk0 (c : Site) (d : Reg) (imm : BitVec 16) (s : State) : Answer := .next (movk 0 c d imm s)
/-- MOVK1 (06 R231). -/
def execMovk1 (c : Site) (d : Reg) (imm : BitVec 16) (s : State) : Answer := .next (movk 1 c d imm s)
/-- MOVK2 (06 R231). -/
def execMovk2 (c : Site) (d : Reg) (imm : BitVec 16) (s : State) : Answer := .next (movk 2 c d imm s)
/-- MOVK3 (06 R231). -/
def execMovk3 (c : Site) (d : Reg) (imm : BitVec 16) (s : State) : Answer := .next (movk 3 c d imm s)

/-- A branch on s(A): to TARGET where the condition holds, else to the next word (06 R230, R231). -/
def branchIf (op : Nat) (cond : DWord → Bool) (c : Site) (a : Reg) (t : BitVec 14) (s : State) : State :=
  s.issueAt c (encCT op a t.toNat) fun k _ =>
    if cond (k.seq.sreg a) then s.jump c k.seq t else s.seqTo c k.seq

/-- BR (06 R231). -/
def execBr (c : Site) (t : BitVec 14) (s : State) : Answer :=
  .next (s.issueAt c (encCT 0x00 0 t.toNat) fun k _ => s.jump c k.seq t)
/-- BEQZ (06 R231). -/
def execBeqz (c : Site) (a : Reg) (t : BitVec 14) (s : State) : Answer := .next (branchIf 0x01 (fun x => x == 0) c a t s)
/-- BNEZ (06 R231). -/
def execBnez (c : Site) (a : Reg) (t : BitVec 14) (s : State) : Answer := .next (branchIf 0x02 (fun x => x != 0) c a t s)
/-- BLTZ (06 R231). -/
def execBltz (c : Site) (a : Reg) (t : BitVec 14) (s : State) : Answer := .next (branchIf 0x03 (fun x => x.slt 0) c a t s)
/-- CALL: s31 := PC + 1; PC := TARGET (06 R231). At PC 16,383 PC + 1 is 0: PC counts modulo 2^14, where the spec says nothing (DESIGN
CHOICE, log 73). -/
def execCall (c : Site) (t : BitVec 14) (s : State) : Answer :=
  .next (s.issueAt c (encCT 0x04 0 t.toNat) fun k _ =>
    s.jump c (k.seq.setS 31 ((k.seq.pc + 1).zeroExtend 64)) t)
/-- RET: PC := s(A)[13:0] (06 R231). -/
def execRet (c : Site) (a : Reg) (s : State) : Answer :=
  .next (s.issueAt c (encCT 0x05 a 0) fun k _ => s.jump c k.seq ((k.seq.sreg a).truncate 14))
/-- NOP (06 R231). -/
def execEzganNop (c : Site) (s : State) : Answer :=
  .next (s.issueAt c (encCT 0x3E 0 0) fun k _ => s.seqTo c k.seq)

/-- The special registers of MFSR, 0 to 8 (06 R232). -/
def specialReg (s : State) (site : Nat) (k : Core) (r : Run) (i : Nat) : DWord :=
  if i = 0 then s.now
  else if i = 1 then BitVec.ofNat 64 ((s.lcoreOf site).getD 0x7FF)
  else if i = 2 then BitVec.ofNat 64 site
  else if i = 3 then BitVec.ofNat 64 k.arr.skew
  else if i = 4 then BitVec.ofNat 64 k.arr.bypassReg
  else if i = 5 then r.tag.zeroExtend 64
  else if i = 6 then BitVec.ofNat 64 r.inst
  else if i = 7 then BitVec.ofNat 64 r.count
  else s.sync.bcnt

/-- MFSR; an IMM above 8 fails the item (06 R232). -/
def execMfsr (c : Site) (d : Reg) (imm : BitVec 12) (s : State) : Answer :=
  .next (s.issueAt c (encRI 2 0x06 d 0 imm.toNat) fun k r =>
    if 8 < imm.toNat then s.malformedAt c else s.writeS c d (specialReg s c k r imm.toNat))

/-- One instance has halted: it counts in PROGRESS, its completion goes to the core's outbox, and the core is free; the
item's work ends with its last instance (06 R261, 09 R402). -/
def haltInstance (s : State) (site : Nat) (r : Run) : State :=
  let s := s.releaseCore site
  let c := s.core site
  let s := s.putCore site { c with seq := { c.seq with outbox := c.seq.outbox ++ [(r.q, r.k)] } }
  s.mapItem r.q r.k fun i =>
    match i.work with
    | .job w =>
      { i with progress := i.progress + 1
               work := .job { w with halted := w.halted + 1 }
               phase := if w.halted + 1 = r.count ∧ i.status = 0 then .workDone else i.phase }
    | _ => i

/-- HALT: the instance ends once its slots and its tile queue are empty (06 R224, R231, R261). A trapped INV of a tile
instruction ends the item instead (04 R176). -/
def execHalt (c : Site) (s : State) : Answer :=
  .next (s.issueAt c (encCT 0x3F 0 0) fun k r =>
    if k.seq.slots.isEmpty && k.tile.queue.isEmpty && decide (k.seq.outbox.length < 4) then haltInstance s c r else s)

/-- LD and ST, LDW and STW: the core-memory operand at s(A) + n IMM (06 R231, R252). -/
def memOperand (k : Core) (a : Reg) (n : Nat) (imm : BitVec 12) : Nat := effAddr k.seq a (BitVec.ofNat 64 n) imm

/-- A scalar load of `n` bytes (06 R231). -/
def loadN (op n : Nat) (c : Site) (d a : Reg) (imm : BitVec 12) (s : State) : State :=
  s.issueAt c (encRI 3 op d a imm.toNat) fun k r =>
    let m := memOperand k a n imm
    s.withMem c (s.coreCheck c r m n n false) (s.writeS c d (BitVec.ofNat 64 (s.num (coreAddr c m) n)))

/-- A scalar store of `n` bytes (06 R231). -/
def storeN (op n : Nat) (c : Site) (d a : Reg) (imm : BitVec 12) (s : State) : State :=
  s.issueAt c (encRI 3 op d a imm.toNat) fun k r =>
    let m := memOperand k a n imm
    s.withMem c (s.coreCheck c r m n n true)
      ((s.write (coreAddr c m) (natLe n (k.seq.sreg d).toNat)).seqTo c k.seq)

/-- LD (06 R231). -/
def execLd (c : Site) (d a : Reg) (imm : BitVec 12) (s : State) : Answer := .next (loadN 0x00 8 c d a imm s)
/-- ST (06 R231). -/
def execSt (c : Site) (d a : Reg) (imm : BitVec 12) (s : State) : Answer := .next (storeN 0x01 8 c d a imm s)
/-- LDW, zero-extending (06 R231). -/
def execLdw (c : Site) (d a : Reg) (imm : BitVec 12) (s : State) : Answer := .next (loadN 0x02 4 c d a imm s)
/-- STW (06 R231). -/
def execStw (c : Site) (d a : Reg) (imm : BitVec 12) (s : State) : Answer := .next (storeN 0x03 4 c d a imm s)

end Sys2Proof.Machine
end

