-- ==== Sys2Proof/Machine/Vector.lean ====
section
/-!
DEFINITION. Vector arithmetic, comparison, integer, lane and predicate instructions (06 R231 to R236, 02 R72, R89 to R91).
-/
namespace Sys2Proof.Machine

/-- A floating class 0x4 instruction of v(A), B and v(D), lane by lane (06 R231, R233, R234). -/
def vecF (op : Nat) (f : Word → Word → Word → Word) (inv : Val → Val → Val → Bool) (third : Bool)
    (c : Site) (d a b : Reg) (p : PReg) (sb : Bool) (s : State) : State :=
  s.issueAt c (encV op d a b p sb) fun k r =>
    let A := k.seq.vreg a
    let B := k.seq.bvec b sb
    let D := k.seq.vreg d
    s.writeVF c r d p (fun l => f (lane A l) (lane B l) (lane D l))
      fun l => laneFlags ([f32 (lane A l), f32 (lane B l)] ++ (if third then [f32 (lane D l)] else []))
        (inv (f32 (lane A l)) (f32 (lane B l)) (f32 (lane D l)))

def noInv (_ _ _ : Val) : Bool := false

/-- `c - a * b` rounded once (06 VRCPS, VRSQS). -/
def fnma (c a b : Word) : Val := (f32 c).add ((f32 a).mul (f32 b)).neg
/-- 2 − a b, rounded once. -/
def rcpStep (a b : Word) : Word := toF32 (fnma 0x40000000#32 a b)
/-- Half of a value. -/
def Val.half : Val → Val
  | .fin n m e => .fin n m (e - 1)
  | v => v
/-- (3 − a b) / 2, rounded once. -/
def rsqStep (a b : Word) : Word := toF32 (fnma 0x40400000#32 a b).half

/-- VADD (06 R231, R236). -/
def execVadd (c : Site) (d a b : Reg) (p : PReg) (sb : Bool) (s : State) : Answer :=
  .next (vecF 0x00 (fun x y _ => fadd x y) (fun x y _ => addInvalid x y) false c d a b p sb s)
/-- VSUB (06 R231, R236). -/
def execVsub (c : Site) (d a b : Reg) (p : PReg) (sb : Bool) (s : State) : Answer :=
  .next (vecF 0x01 (fun x y _ => fsub x y) (fun x y _ => addInvalid x y.neg) false c d a b p sb s)
/-- VMUL (06 R231, R236). -/
def execVmul (c : Site) (d a b : Reg) (p : PReg) (sb : Bool) (s : State) : Answer :=
  .next (vecF 0x02 (fun x y _ => fmul x y) (fun x y _ => mulInvalid x y) false c d a b p sb s)
/-- VFMA, rounded once (06 R231, R236). -/
def execVfma (c : Site) (d a b : Reg) (p : PReg) (sb : Bool) (s : State) : Answer :=
  .next (vecF 0x03 (fun x y z => ffma x y z) (fun x y z => mulInvalid x y || addInvalid (x.mul y) z) true c d a b p sb s)
/-- VMAX; a NaN operand raises NAN_IN but never INV (02 R90) (06 R231, R236). -/
def execVmax (c : Site) (d a b : Reg) (p : PReg) (sb : Bool) (s : State) : Answer :=
  .next (vecF 0x04 (fun x y _ => fmax x y) (noInv) false c d a b p sb s)
/-- VMIN, as VMAX (06 R231, R236). -/
def execVmin (c : Site) (d a b : Reg) (p : PReg) (sb : Bool) (s : State) : Answer :=
  .next (vecF 0x05 (fun x y _ => fmin x y) (noInv) false c d a b p sb s)
/-- VRCPS (06 R231, R236). -/
def execVrcps (c : Site) (d a b : Reg) (p : PReg) (sb : Bool) (s : State) : Answer :=
  .next (vecF 0x07 (fun x y _ => rcpStep x y) (fun x y _ => mulInvalid x y) false c d a b p sb s)
/-- VRSQS (06 R231, R236). -/
def execVrsqs (c : Site) (d a b : Reg) (p : PReg) (sb : Bool) (s : State) : Answer :=
  .next (vecF 0x09 (fun x y _ => rsqStep x y) (fun x y _ => mulInvalid x y) false c d a b p sb s)

/-! ## Estimates (06 R235) -/

/-- A relative error below `w` sixteenths of 2^-12 of a positive or negative finite value against another. -/
def withinRel (w : Nat) (x y : Val) : Bool :=
  match x, y with
  | .fin n m e, .fin n' m' e' =>
    n == n' && (let g := min e e'
                let a := (m * pow2 (e - g) : Nat)
                let b := (m' * pow2 (e' - g) : Nat)
                decide (65536 * (((a : Int) - b).natAbs) < w * b))
  | _, _ => false

/-- A square. -/
def Val.square (v : Val) : Val := v.mul v

/-- The reciprocal, correctly rounded; zeros and infinities by the table of 06 R235. -/
def exactRcp (x : Word) : Word := toF32 ((Val.fin false 1 0).div (f32 x))

/-- The reciprocal square root, correctly rounded to within one more sticky bit; special inputs by 06 R235. -/
def exactRsq (x : Word) : Word :=
  match f32 x with
  | .nan => toF32 .nan
  | .inf n => if n then toF32 .nan else 0
  | .fin n m e => if m = 0 then toF32 (.inf n) else if n then toF32 .nan
                  else toF32 ((Val.fin false 1 0).div (Val.fin false m e).sqrt)

/-- An estimate e of 1/x holds its bound when e x is within 2^-12 of 1. -/
def rcpOk (x e : Word) : Bool := withinRel 16 ((f32 x).mul (f32 e)) (.fin false 1 0)
/-- An estimate e of 1/sqrt x holds its bound when e^2 x is within 2^-12 of 1, which is inside the bound on e. -/
def rsqOk (x e : Word) : Bool := !(f32 e).sign && withinRel 16 ((f32 x).mul (f32 e).square) (.fin false 1 0)

/-- A subnormal operand: the table of 06 R235 bounds finite normal inputs only, so its estimate is a free value (log 8). -/
def isSub (x : Word) : Bool := bitsOf x.toNat 30 23 == 0 && bitsOf x.toNat 22 0 != 0
/-- The free estimate of a subnormal operand, unless the table names its result; a NaN made by arithmetic is the default one (02
R53). -/
def subOr (op : Nat) (special : Bool) (x y : Word) : Word :=
  if isSub x && !special then (if (f32 (Config.estimate op x)).isNan then toF32 .nan else Config.estimate op x) else y

/-- VRCPE of one lane: the implementation's estimate where it holds its bound, else the rounded value (log 8). -/
def vrcpeLane (x : Word) : Word :=
  let e := Config.estimate 0x06 x
  subOr 0x06 false x <|
  if (f32 x).isFinite && !(f32 x).isZero && rcpOk x e then e else exactRcp x

/-- VRSQE of one lane (log 8). -/
def vrsqeLane (x : Word) : Word :=
  let e := Config.estimate 0x08 x
  subOr 0x08 (f32 x).sign x <|
  if (f32 x).isFinite && !(f32 x).isZero && !(f32 x).sign && rsqOk x e then e else exactRsq x

/-- 2^(f / 2^24) for f below 2^24, in units of 2^-40: one square root of two per bit of f, from the table of roots. -/
def exp2Roots : List Nat :=
  (List.range 24).foldl (fun l _ => match l with | [] => [Nat.sqrt (2 * 2 ^ 80)]
                                                 | r :: _ => Nat.sqrt (r * 2 ^ 40) :: l) []

/-- The product of the roots of the fraction's set bits, bit 23 the first root. -/
def exp2Frac (f : Nat) : Nat :=
  (List.range 24).foldl (fun a i => if f.testBit i then a * (exp2Roots[i]?.getD (2 ^ 40)) / 2 ^ 40 else a) (2 ^ 40)

/-- floor and fraction of x in units of 2^-24. -/
def splitFrac (n : Bool) (m : Nat) (e : Int) : Int × Nat :=
  let t : Int := if 0 ≤ e + 24 then (m * pow2 (e + 24) : Nat) else (m >>> (-(e + 24)).toNat : Nat)
  let t := if n then -t else t
  (t / 2 ^ 24, (t % 2 ^ 24).toNat)

/-- 2^x to within 2^-20 for the operands that VEXP2E bounds, before its rounding; special inputs by 06 R235. -/
def nearExp2 (x : Word) : Val :=
  match f32 x with
  | .nan => .nan
  | .inf n => if n then .fin false 0 0 else .inf false
  | .fin n m e =>
    if (Val.fin false 128 0).le (.fin n m e) then .inf false
    else if (Val.fin n m e).lt (.fin true 150 0) then .fin false 0 0
    else let p := splitFrac n m e
         .fin false (exp2Frac p.2) (p.1 - 40)

/-- log2 of m / 2^30 in [1, 2), in units of 2^-24, by repeated squaring. -/
def log2Frac : Nat → Nat → Nat → Nat
  | 0, _, acc => acc
  | k + 1, m, acc =>
    let q := m * m / 2 ^ 30
    if 2 ^ 31 ≤ q then log2Frac k (q / 2) (2 * acc + 1) else log2Frac k q (2 * acc)

/-- log2 x to within 2^-20 absolute, inside the bound of VLOG2E; special inputs by 06 R235. -/
def nearLog2 (x : Word) : Word :=
  match f32 x with
  | .nan => toF32 .nan
  | .inf n => if n then toF32 .nan else toF32 (.inf false)
  | .fin n m e =>
    if m = 0 then toF32 (.inf true)
    else if n then toF32 .nan
    else
      let l := Nat.log2 m
      let mant := m * 2 ^ 30 / 2 ^ l
      toF32 (intVal (((l : Int) + e) * 2 ^ 24 + (log2Frac 24 mant 0 : Nat)) (-24))

/-- An estimate of 2^x within 2^-12, judged with a margin against a value that is itself within 2^-20 (log 8). -/
def vexp2eLane (x : Word) : Word :=
  let e := Config.estimate 0x0A x
  let y := nearExp2 x
  subOr 0x0A false x <|
  if (f32 x).isFinite && y.isFinite && !y.isZero && withinRel 15 (f32 e) y then e else toF32 y

/-- An estimate of log2 x with absolute error below 2^-12 (log 8). -/
def vlog2eLane (x : Word) : Word :=
  let e := Config.estimate 0x0B x
  let y := nearLog2 x
  let d := (f32 e).add (f32 y).neg
  subOr 0x0B (f32 x).sign x <|
  if (f32 x).isFinite && !(f32 x).isZero && !(f32 x).sign && d.abs.lt (.fin false 15 (-16)) then e else y

/-- An estimate instruction: NaN operands raise NAN_IN, and nothing raises INV (06 R231, R234 to R236). -/
def vecE (op : Nat) (f : Word → Word) (c : Site) (d a : Reg) (p : PReg) (s : State) : State :=
  s.issueAt c (encV op d a 0 p false) fun k r =>
    let A := k.seq.vreg a
    s.writeVF c r d p (fun l => f (lane A l)) fun l => laneFlags [f32 (lane A l)] false

/-- VRCPE (06 R235). -/
def execVrcpe (c : Site) (d a : Reg) (p : PReg) (s : State) : Answer := .next (vecE 0x06 vrcpeLane c d a p s)
/-- VRSQE (06 R235). -/
def execVrsqe (c : Site) (d a : Reg) (p : PReg) (s : State) : Answer := .next (vecE 0x08 vrsqeLane c d a p s)
/-- VEXP2E (06 R235). -/
def execVexp2e (c : Site) (d a : Reg) (p : PReg) (s : State) : Answer := .next (vecE 0x0A vexp2eLane c d a p s)
/-- VLOG2E (06 R235). -/
def execVlog2e (c : Site) (d a : Reg) (p : PReg) (s : State) : Answer := .next (vecE 0x0B vlog2eLane c d a p s)

/-! ## Comparisons and selection -/

/-- A comparison into p(D[2:0]) on every lane; D[4:3] nonzero fails the item (02 R91, 06 R231, R234). -/
def vecCmp (op : Nat) (f : Val → Val → Bool) (c : Site) (d a b : Reg) (p : PReg) (sb : Bool) (s : State) : State :=
  s.issueAt c (encV op d a b p sb) fun k _ =>
    if 8 ≤ d.val then s.malformedAt c
    else s.writeP c d (maskOf fun l => f (f32 (lane (k.seq.vreg a) l)) (f32 (lane (k.seq.bvec b sb) l)))

/-- VCEQ (02 R91). -/
def execVceq (c : Site) (d a b : Reg) (p : PReg) (sb : Bool) (s : State) : Answer := .next (vecCmp 0x10 (Val.eqv) c d a b p sb s)
/-- VCNE (02 R91). -/
def execVcne (c : Site) (d a b : Reg) (p : PReg) (sb : Bool) (s : State) : Answer := .next (vecCmp 0x11 (fun x y => !x.eqv y) c d a b p sb s)
/-- VCLT (02 R91). -/
def execVclt (c : Site) (d a b : Reg) (p : PReg) (sb : Bool) (s : State) : Answer := .next (vecCmp 0x12 (Val.lt) c d a b p sb s)
/-- VCLE (02 R91). -/
def execVcle (c : Site) (d a b : Reg) (p : PReg) (sb : Bool) (s : State) : Answer := .next (vecCmp 0x13 (Val.le) c d a b p sb s)

/-- VSEL: on every lane v(A) where p(P) is 1, otherwise B (06 R231). -/
def execVsel (c : Site) (d a b : Reg) (p : PReg) (sb : Bool) (s : State) : Answer :=
  .next (s.issueAt c (encV 0x14 d a b p sb) fun k _ =>
    s.writeV c d (Vector.ofFn fun l : Fin 64 =>
      if (k.seq.preg p).getLsbD l then lane (k.seq.vreg a) l else lane (k.seq.bvec b sb) l))

/-- A 32-bit integer or bitwise instruction on active lanes (06 R231, R234). -/
def vecI (op : Nat) (f : Word → Word → Word) (c : Site) (d a b : Reg) (p : PReg) (sb : Bool) (s : State) : State :=
  s.issueAt c (encV op d a b p sb) fun k _ =>
    s.writeV c d (k.seq.lanes d p fun l => f (lane (k.seq.vreg a) l) (lane (k.seq.bvec b sb) l))

/-- VIADD (06 R231). -/
def execViadd (c : Site) (d a b : Reg) (p : PReg) (sb : Bool) (s : State) : Answer := .next (vecI 0x18 (fun x y => x + y) c d a b p sb s)
/-- VISUB (06 R231). -/
def execVisub (c : Site) (d a b : Reg) (p : PReg) (sb : Bool) (s : State) : Answer := .next (vecI 0x19 (fun x y => x - y) c d a b p sb s)
/-- VAND (06 R231). -/
def execVand (c : Site) (d a b : Reg) (p : PReg) (sb : Bool) (s : State) : Answer := .next (vecI 0x1A (fun x y => x &&& y) c d a b p sb s)
/-- VOR (06 R231). -/
def execVor (c : Site) (d a b : Reg) (p : PReg) (sb : Bool) (s : State) : Answer := .next (vecI 0x1B (fun x y => x ||| y) c d a b p sb s)
/-- VXOR (06 R231). -/
def execVxor (c : Site) (d a b : Reg) (p : PReg) (sb : Bool) (s : State) : Answer := .next (vecI 0x1C (fun x y => x ^^^ y) c d a b p sb s)
/-- VSHL (06 R231). -/
def execVshl (c : Site) (d a b : Reg) (p : PReg) (sb : Bool) (s : State) : Answer := .next (vecI 0x1D (fun x y => x <<< (y.toNat % 32)) c d a b p sb s)
/-- VSHR (06 R231). -/
def execVshr (c : Site) (d a b : Reg) (p : PReg) (sb : Bool) (s : State) : Answer := .next (vecI 0x1E (fun x y => x >>> (y.toNat % 32)) c d a b p sb s)

/-- VLANE: lane l := l (06 R231). -/
def execVlane (c : Site) (d : Reg) (p : PReg) (s : State) : Answer :=
  .next (s.issueAt c (encV 0x20 d 0 0 p false) fun k _ => s.writeV c d (k.seq.lanes d p fun l => BitVec.ofNat 32 l))
/-- VBCAST: every active lane := s(A)[31:0] (06 R231). -/
def execVbcast (c : Site) (d a : Reg) (p : PReg) (s : State) : Answer :=
  .next (s.issueAt c (encV 0x21 d a 0 p false) fun k _ =>
    s.writeV c d (k.seq.lanes d p fun _ => (k.seq.sreg a).truncate 32))

/-- A predicate instruction; p(X[2:0]) names its operands (06 R223, R231). Bits [4:3] of its register fields are ignored, since the
spec asks zero of them for comparisons only (DESIGN CHOICE, log 73). -/
def predOp (op : Nat) (f : DWord → DWord → DWord) (c : Site) (d a b : Reg) (p : PReg) (s : State) : State :=
  s.issueAt c (encV op d a b p false) fun k _ =>
    s.writeP c (d.val % 8) (f (k.seq.preg (a.val % 8)) (k.seq.preg (b.val % 8)))

/-- PAND (06 R231). -/
def execPand (c : Site) (d a b : Reg) (p : PReg) (s : State) : Answer := .next (predOp 0x28 (fun x y => x &&& y) c d a b p s)
/-- POR (06 R231). -/
def execPor (c : Site) (d a b : Reg) (p : PReg) (s : State) : Answer := .next (predOp 0x29 (fun x y => x ||| y) c d a b p s)
/-- PNOT (06 R231). -/
def execPnot (c : Site) (d a : Reg) (p : PReg) (s : State) : Answer := .next (predOp 0x2A (fun x _ => ~~~x) c d a 0 p s)
/-- PMOV: p(D[2:0]) := s(A) (06 R231); bits [4:3] of D as for the other predicate instructions (log 73). -/
def execPmov (c : Site) (d a : Reg) (p : PReg) (s : State) : Answer :=
  .next (s.issueAt c (encV 0x2B d a 0 p false) fun k _ => s.writeP c (d.val % 8) (k.seq.sreg a))

/-- The mask that lanes 0 to 7 of a vector spell (06 R231 VMSK). -/
def laneMask (v : Vector Word 64) : BitVec 256 :=
  BitVec.ofNat 256 (leNat (((List.range 8).map fun i => natLe 4 (lane v i).toNat).flatten))

/-- VMSK; it waits until every issued TMM that names the register has retired, and D[4] nonzero fails the item (05 R208, 06
R231). -/
def execVmsk (c : Site) (d a : Reg) (p : PReg) (s : State) : Answer :=
  .next (s.issueAt c (encV 0x2C d a 0 p false) fun k _ =>
    if 16 ≤ d.val then s.malformedAt c
    else if k.tile.queue.any fun x => x.isTmm && twMaskEn x.word && decide (twMaskId x.word = d.val) then s
    else s.putCore c { k with tile := { k.tile with masks := vset k.tile.masks d (laneMask (k.seq.vreg a)) },
                              seq := k.seq.next })

end Sys2Proof.Machine
end

