-- ==== Sys2Proof/Machine/StreamIns.lean ====
section
/-!
DEFINITION. Stream and sync instructions of a core program, the events of their slots (06 R244 to R250, 08 R316), and words
that fail by their form (06 R228, R229, R231, R233).
-/
namespace Sys2Proof.Machine

/-! ## SRD, SWR and their slots -/

/-- The window set under which the item on a core runs (07 R290). -/
def State.runWins (s : State) (r : Run) : WinSet := ((s.item? r.q r.k).map (·.wins)).getD (Vector.replicate 16 Window.off)

/-- A slot taken and the next instruction (06 R244). -/
def State.takeSlot (s : State) (site : Nat) (o : SlotOp) : State :=
  let x := (s.core site).seq
  s.seqTo site { x with slots := x.slots ++ [o] }

/-- The checks that SRD and SWR share: the line count, a free slot, the core-memory lines (06 R244, R247, R252). A count of 0 has
completed before them, and before the checks of the stream and of the SWR address, since R244 ranks it with none of them (DESIGN
CHOICE, log 73). -/
def State.slotCheck (s : State) (site : Nat) (r : Run) (line count : Nat) (write : Bool) : MemCheck :=
  if 24576 < count then .malformed
  else if r.extent < line + count then .fails (failWindow (coreAddr site (64 * line)))
  else if (s.core site).seq.slots.length = 8 ∨ (s.core site).waits (64 * line) (64 * (line + count)) write then .waits
  else .ok

/-- SRD: read s(B) lines of stream s(D) into core memory from line s(A) (06 R231, R244, R245). -/
def execSrd (c : Site) (d a b : Reg) (s : State) : Answer :=
  .next (s.issueAt c (encRR 7 0x00 d a b 0 0) fun k r =>
    let n := (k.seq.sreg b).toNat
    let line := (k.seq.sreg a).toNat
    let st := (k.seq.sreg d).toNat
    if n = 0 then s.seqTo c k.seq
    else if (s.stream st).phase ≠ .active ∨ (s.stream st).ctx ≠ r.ctx then s.malformedAt c
    else s.withMem c (s.slotCheck c r line n true) (s.takeSlot c (.srd line n st none)))

/-- The checks of an SWR's address at issue: a multiple of 64, write right, an address that exists outside a gated group (06
R246, 07 R268, R269, R281). -/
def State.swrCheck (s : State) (r : Run) (addr count : Nat) : Option Fail :=
  if addr % 64 ≠ 0 then some (s.failAddr addr)
  else (List.range count).findSome? fun i => s.checkLine (s.runWins r) rightW (addr + 64 * i)

/-- SWR: write s(B) lines from core-memory line s(A) to s(D) (06 R231, R244, R246, R253). -/
def execSwr (c : Site) (d a b : Reg) (s : State) : Answer :=
  .next (s.issueAt c (encRR 7 0x01 d a b 0 0) fun k r =>
    let n := (k.seq.sreg b).toNat
    let line := (k.seq.sreg a).toNat
    let addr := (k.seq.sreg d).toNat
    if n = 0 then s.seqTo c k.seq
    else s.withMem c (s.slotCheck c r line n false)
      (match s.swrCheck r addr n with
       | some f => s.failCore c f
       | none =>
         match (linesOf (coreAddr c (64 * line)) (64 * n)).find? s.isUe with
         | some l => s.failCore c (failEcc l)
         | none => s.takeSlot c (.swr line n addr)))

/-- A slot's operation replaced, or removed. -/
def State.setSlot (s : State) (site i : Nat) (o : Option SlotOp) : State :=
  let c := s.core site
  let l := match o with
    | some x => c.seq.slots.set i x
    | none => c.seq.slots.eraseIdx i
  s.putCore site { c with seq := { c.seq with slots := l } }

/-- CONSUMING_READ: the read of the SRD in slot i arrives at the stream's home hub (08 R316 to R318, R327, R328). -/
def execConsumingRead (c : Site) (i : Nat) (es : List (BitVec 42 × EccFact)) (s : State) : Answer :=
  .next (match (s.core c).seq.run, (s.core c).seq.slots[i]? with
  | some r, some (.srd line count st none) =>
    let bad : Fail := ⟨0x1D, ((s.lcoreOf c).getD 0x7FF) * 65536 + r.inst, none⟩
    let x := s.consume st r.ctx (s.runWins r) (s.core c).arr count bad es
    match x.2 with
    | .inl f => (x.1.setSlot c i none).failCore c f
    | .inr data => x.1.setSlot c i (some (.srd line count st (some data)))
  | _, _ => s)

/-- The instance goes on when a wait for its slots has ended, and an item that stops may end (06 R231 SFENCE, R263). -/
def State.slotsMoved (s : State) (site : Nat) : State :=
  let c := s.core site
  let s := if c.seq.phase = .waitF ∧ c.seq.slots.isEmpty then s.putCore site { c with seq := c.seq.resume } else s
  match c.seq.run with
  | some r => s.settleItem r.q r.k
  | none => s

/-- STREAM_OPERATION_COMPLETE: the lines of slot i have been written to core memory, or accepted at their hubs (06 R244 to
R246). -/
def execStreamOperationComplete (c : Site) (i : Nat) (s : State) : Answer :=
  .next (match (s.core c).seq.slots[i]? with
  | some (.srd line _ _ (some data)) => ((s.setSlot c i none).write (coreAddr c (64 * line)) data).slotsMoved c
  | some (.swr line count addr) =>
    ((s.setSlot c i none).write addr (s.bytes (coreAddr c (64 * line)) (64 * count))).slotsMoved c
  | _ => s)

/-- SFENCE: wait until the instance's stream operations have completed (06 R231). -/
def execSfence (c : Site) (s : State) : Answer :=
  .next (s.issueAt c (encRR 7 0x02 0 0 0 0 0) fun k _ =>
    if k.seq.slots.isEmpty then s.seqTo c k.seq
    else s.putCore c { k with seq := { k.seq with phase := .waitF } })

/-! ## Sync instructions -/

/-- SIG: signal counter s(D)[11:0] by s(A) (06 R231, 10 R408, R410). -/
def execSig (c : Site) (d a : Reg) (s : State) : Answer :=
  .next (s.issueAt c (encRR 8 0x00 d a 0 0 0) fun k r =>
    let n := (k.seq.sreg d).toNat % 4096
    if k.seq.sreg a = 0 then s.malformedAt c
    else if !s.mayUse n r.ctx then s.failCore c (failCounter n)
    else (s.seqTo c k.seq).signal n (k.seq.sreg a))

/-- WAITC: wait on counter s(D)[11:0] (06 R231, R249, 10 R410, R412, R418). -/
def execWaitc (c : Site) (d a b : Reg) (mod : BitVec 4) (s : State) : Answer :=
  .next (s.issueAt c (encRR 8 0x01 d a b 0 mod.toNat) fun k r =>
    let n := (k.seq.sreg d).toNat % 4096
    let cond := mod.toNat % 4
    let claim := mod.getLsbD 2
    if cond = 3 ∨ mod.getLsbD 3 ∨ (claim ∧ (cond = 2 ∨ k.seq.sreg b = 0)) then s.malformedAt c
    else if !s.mayUse n r.ctx then s.failCore c (failCounter n)
    else (s.putCore c { k with seq := { k.seq with phase := .waitC } }).register
      ⟨n, .core c, k.seq.sreg a, cond, if claim then some (k.seq.sreg b) else none, 0⟩)

/-- WWAIT on a wire: a set latch bit is taken at once, else the core sleeps (10 R423). -/
def execWwait (c : Site) (imm : BitVec 12) (s : State) : Answer :=
  .next (s.issueAt c (encRI 8 0x02 0 0 imm.toNat) fun k _ =>
    if 15 < imm.toNat then s.malformedAt c
    else if k.seq.wake.getLsbD imm.toNat then
      s.seqTo c { k.seq with wake := k.seq.wake &&& ~~~(1#16 <<< imm.toNat) }
    else s.putCore c { k with seq := { k.seq with phase := .waitW imm.toNat } })

/-- A wake on wire i reaches a core: its latch is set, and a core asleep on the wire takes it (10 R421 to R423). -/
def SeqState.wakeOn (x : SeqState) (i : Nat) : SeqState :=
  if x.phase = .waitW i then x.resume else { x with wake := x.wake ||| (1#16 <<< i) }

/-- The other cores of the die that run an instance of the same item (10 R421). -/
def State.herdOfWire (s : State) (site : Nat) (r : Run) : List Nat :=
  (s.sitesOf r.q r.k).filter fun x => decide (x / 64 = site / 64) && decide (x ≠ site)

/-- WFIRE (10 R421). -/
def execWfire (c : Site) (imm : BitVec 12) (s : State) : Answer :=
  .next (s.issueAt c (encRI 8 0x03 0 0 imm.toNat) fun k r =>
    if 15 < imm.toNat then s.malformedAt c
    else (s.herdOfWire c r).foldl (fun t x => t.putCore x { t.core x with seq := (t.core x).seq.wakeOn imm.toNat })
      (s.seqTo c k.seq))

/-- HBAR: arrive at core herd s(D)[5:0] and wait for its release (06 R231, R249, 10 R427 to R431; log 20). -/
def execHbar (c : Site) (d : Reg) (s : State) : Answer :=
  .next (s.issueAt c (encRR 8 0x04 d 0 0 0 0) fun k r =>
    let h := (k.seq.sreg d).toNat
    let x := s.herd h
    if 64 ≤ h ∨ x.kind ≠ 1 ∨ x.ctx ≠ r.ctx then s.malformedAt c
    else
      let t := s.putCore c { k with seq := { k.seq with phase := .waitH } }
      if x.mask.getLsbD c then (t.putHerd h { x with arrived := x.arrived ++ [c.val] }).checkCoreHerd h else t)

/-! ## Malformed words -/

/-- A word's fields. -/
def wF (w : Word) (hi lo : Nat) : Nat := bitsOf w.toNat hi lo

/-- An RR word whose unused fields are zero: which of D, A, B, P it uses, and the MOD bits it may set (06 R229). -/
def rrOk (w : Word) (d a b p : Bool) (mods : Nat → Bool) : Bool :=
  (d || wF w 21 17 == 0) && (a || wF w 16 12 == 0) && (b || wF w 11 7 == 0) && (p || wF w 6 4 == 0) && mods (wF w 3 0)

def modZero (m : Nat) : Bool := m == 0
/-- MOD of class 0x4 instructions with a vector or scalar B (06 R233). -/
def modB (m : Nat) : Bool := m == 0 || m == 8

/-- Class 0x4: the opcodes and their fields (06 R231, R233). -/
def vecWordOk (w : Word) : Bool :=
  let op := wF w 27 22
  if op ≤ 5 ∨ op = 7 ∨ op = 9 ∨ op = 0x14 ∨ (0x18 ≤ op ∧ op ≤ 0x1E) then rrOk w true true true true modB
  else if op = 6 ∨ op = 8 ∨ op = 0xA ∨ op = 0xB then rrOk w true true false true modZero
  else if 0x10 ≤ op ∧ op ≤ 0x13 then rrOk w true true true true modB && decide (wF w 21 17 < 8)
  else if op = 0x20 then rrOk w true false false true modZero
  else if op = 0x21 then rrOk w true true false true modZero
  else if op = 0x28 ∨ op = 0x29 then rrOk w true true true true modZero
  else if op = 0x2A ∨ op = 0x2B then rrOk w true true false true modZero
  else if op = 0x2C then rrOk w true true false true modZero && decide (wF w 21 17 < 16)
  else false

/-- Whether a word of a group that is no tile instruction has a listed opcode and zero unused fields (06 R228 to R233). -/
def wordOk (w : Word) : Bool :=
  let op := wF w 27 22
  match wF w 31 28 with
  | 0 => decide (w ≠ 0) && decide (1 ≤ op ∧ op ≤ 0xE) && rrOk w true true true false modZero
  | 1 => decide (op = 1 ∨ (4 ≤ op ∧ op ≤ 9)) || (decide (0x10 ≤ op ∧ op ≤ 0x13) && wF w 16 16 == 0)
  | 2 =>
    if op = 0 then wF w 21 14 == 0
    else if op ≤ 3 then wF w 16 14 == 0
    else if op = 4 then wF w 21 14 == 0
    else if op = 5 then wF w 16 0 == 0
    else if op = 6 then wF w 16 12 == 0
    else decide (op = 0x3E ∨ op = 0x3F) && wF w 21 0 == 0
  | 3 => decide (op ≤ 3)
  | 4 => vecWordOk w
  | 5 => decide (op ≤ 1) || (decide (op = 2 ∨ op = 3) && rrOk w true true true true modZero)
  | 6 => (decide (op ≤ 1) && wF w 3 0 == 0) || (decide (8 ≤ op ∧ op ≤ 0xA) && rrOk w true true false true modZero)
  | 7 => (decide (op ≤ 1) && rrOk w true true true false modZero) || (decide (op = 2) && wF w 21 0 == 0)
  | 8 =>
    if op = 0 then rrOk w true true false false modZero
    else if op = 1 then rrOk w true true true false fun m => m % 4 != 3 && decide (m < 8)
    else if op = 2 ∨ op = 3 then wF w 21 12 == 0
    else decide (op = 4) && rrOk w true false false false modZero
  | _ => false

/-- MALFORMED_INSTRUCTION: a word that fails by its form issues, and its item fails (06 R228, R229, R231, R262); so does a
tile instruction of no kind (04 R145). -/
def execMalformedInstruction (c : Site) (s : State) : Answer :=
  .next (match (s.core c).seq.run with
  | some r =>
    let k := s.core c
    let pc := k.seq.pc.toNat
    let bad := if k.seq.tileGroup pc then decide (5 ≤ twTop (k.seq.tileWord pc)) else !wordOk (k.seq.word pc)
    if k.issues r && bad then s.malformedAt c else s
  | none => s)

end Sys2Proof.Machine
end

