-- ==== Sys2Proof/Machine/Tile.lean ====
section
/-!
DEFINITION. The tile instructions with their queue (04 R145 to R166, 05 R207 to R211, 06 R224 to R226) and the events of a
pass: keeper load, pass start, restage and chunk-sum write (03 R111 to R134, 04 R167 to R172, 05 R194 to R202).
-/
namespace Sys2Proof.Machine

/-! ## Checks at issue -/

/-- Bits of a used field may be anything; others must be zero. -/
def zeroF (w : TWord) (hi lo : Nat) : Bool := twF w hi lo == 0

/-- Reserved bits and fields that R148 marks zero for the kind. -/
def tileZeros (w : TWord) : Bool :=
  zeroF w 66 64 &&
  (if twTop w = 1 then
    zeroF w 89 84 && zeroF w 75 74 && zeroF w 67 67 && zeroF w 3 0 &&
      (fmtScaled (twRfmt w) || zeroF w 33 19) && (fmtScaled (twKfmt w) || zeroF w 18 4)
  else if twTop w = 2 then
    zeroF w 104 90 && zeroF w 83 82 && zeroF w 79 76 && zeroF w 73 68 && zeroF w 38 34 && zeroF w 18 0 &&
      ((!twDest w && fmtScaled (twOfmt w)) || zeroF w 33 19) && (!twDest w || zeroF w 63 49) && (twDest w || zeroF w 48 44)
  else if twTop w = 0 then zeroF w 104 82 && zeroF w 79 67 && zeroF w 63 0
  else zeroF w 119 82 && zeroF w 79 67 && zeroF w 48 0)

/-- R49, R149, R150 and the ranges of R146. -/
def tileForm (w : TWord) : Bool :=
  decide (twN w ≤ 96) && decide (twK w ≤ 96) &&
  (if twTop w = 1 then
    pairOk (twRfmt w) (twKfmt w) && (twRfmt w == 0) == (twPasses w != 0) &&
      (!twKconv w || twKfmt w == 1 || twKfmt w == 2) && !(twTk w && twKfmt w == 0) && !(twTr w && twRfmt w == 0) &&
      !(twTr w && decide (96 < twM w)) && (twMaskEn w || twMaskId w == 0)
  else if twTop w = 2 then
    fmtValid (twOfmt w) && decide (twRnd w ≤ 1) && !(twSr w && twRnd w == 1) &&
      (!twDest w || (decide (twOfmt w ≤ 2) && decide (twVreg w + 2 * twM w ≤ 32)))
  else true)

/-- The well-formed tile instruction of one kind at PC that the instance issues now: not while the tile queue is full, nor
while an audit is due or runs (03 R136, 06 R226). A malformed one fails the item (04 R151). -/
def State.tileIssue (s : State) (site : Nat) (top : Nat) (w : TWord) (f : Core → Run → State) : State :=
  let k := s.core site
  match k.seq.run with
  | none => s
  | some r =>
    let pc := k.seq.pc.toNat
    if k.issues r && k.seq.tileGroup pc && decide (pc % 4 = 0) && decide (k.seq.tileWord pc = w) &&
        decide (twTop w = top) then
      if k.arr.audits || decide (8 ≤ k.tile.queue.length) then s
      else if !(tileZeros w && tileForm w) then s.malformedAt site
      else f k r
    else s

/-- The next instruction after a tile instruction; PC counts modulo 2^14 (log 73). -/
def SeqState.next4 (x : SeqState) : SeqState := { x with pc := x.pc + 4 }

/-- An operand of `n` bytes from a line, checked against the extent (04 R152, R153). -/
def operandFail (site extent line n : Nat) : Option Fail :=
  if n = 0 ∨ 64 * line + n ≤ 64 * extent then none
  else some (failWindow (coreAddr site (64 * max line (min extent (line + (n + 63) / 64)))))

/-- The first operand outside the extent. -/
def operandsFail (site extent : Nat) (l : List (Nat × Nat)) : Option Fail :=
  l.findSome? fun p => operandFail site extent p.1 p.2

/-- Whether a slot or an earlier tile instruction has lines that the instruction needs still to read or to write (06 R224,
R247). -/
def Core.slotWait (k : Core) (l : List (Nat × Nat)) (write : Bool) : Bool :=
  l.any fun p => k.waits (64 * p.1) (64 * p.1 + p.2) write

/-- An uncorrectable line among operands. -/
def State.operandUe (s : State) (site : Nat) (l : List (Nat × Nat)) : Option Fail :=
  l.findSome? fun p => ((linesOf (coreAddr site (64 * p.1)) p.2).find? s.isUe).map failEcc

/-- FAILED_ACC_SHAPE found at a core (04 R160, R161). -/
def State.shapeAt (s : State) (site : Nat) : State := s.failAt site 0x15

/-! ## The tile queue (04 R163, 06 R226) -/

/-- Whether a core's queue goes on: an item runs there and is not stopping. -/
def Core.active (k : Core) : Bool := k.seq.run.isSome && decide (k.seq.phase ≠ .stopping)

/-- A tile instruction that issues enters the tile queue (06 R226). -/
def Core.enqueue (k : Core) (x : Pass) : Core :=
  { k with tile := { k.tile with issueNo := k.tile.issueNo + 1, queue := k.tile.queue ++ [x] }, seq := k.seq.next4 }

/-- A tile instruction as it enters the queue in cycle `i`. -/
def newEntry (k : Core) (w : TWord) (i : Int) : Pass :=
  { word := w, issue := k.tile.issueNo, org := k.seq.sreg (twOrg w), cycI := i }

/-- A tile instruction leaves the queue, and the TS_ registers return to zero when they recorded it (04 R190). The core has drained
when no TMM is left (03 R748). -/
def Core.dequeue (k : Core) (x : Pass) : Core :=
  let rest := k.tile.queue.filter fun p => decide (p.issue ≠ x.issue)
  let t := if x.recorded then k.tile.unrecord else k.tile
  { k with tile := { t with queue := rest }
           arr := if rest.any Pass.isTmm then k.arr else { k.arr with lastLoad := 0 } }

/-- TACCRD and TSAVE only read their tile. -/
def Pass.reader (x : Pass) : Bool := decide (twTop x.word = 2) || decide (twTop x.word = 3)

/-- Whether an earlier instruction of its tile holds an instruction back until it retires: any but, for a TACCRD or TSAVE, another
reader (04 R163). -/
def TileState.behind (t : TileState) (x : Pass) : Bool := (t.earlier x).any fun y => !(x.reader && y.reader)

/-- Whether a queued instruction has something to do when none of its tile stands before it: a TMM its ZERO clearing, a TACCRD the
rows up to where it pauses. -/
def Pass.todo (x : Pass) : Bool :=
  if x.isTmm then x.clear else match x.upto with | none => true | some u => decide (x.row < u)

/-- The first queued instruction, other than the passes of the array, that can be done now. -/
def Core.ready (k : Core) : Option Pass := k.tile.queue.find? fun x => x.todo && !k.tile.behind x

/-- The elements that a ZERO pass sets to +0: those of its tile outside its streamed rows and its columns (04 R162, 05 R209). Inside
them its chunk sums are written without the old value. -/
def zeroClears (x : Pass) (i : Nat) : Bool :=
  let w := x.word
  decide (i / 24576 = twAcc w) &&
    !(decide (i % 24576 / 96 < twM w) && x.mask.getLsbD (i % 24576 / 96) && decide (i % 96 < twN w))

/-- The ZERO clearing of a TMM; one with no streamed row is then done (05 R211). -/
def Core.clearFor (k : Core) (x : Pass) : Core :=
  let k := { k with tile := (k.tile.zeroed (zeroClears x)).setPass { x with clear := false } }
  if streamed x.word x.mask = [] then k.dequeue x else k

/-! ## TACCRD rows -/

/-- The values of row m of a tile with their roundings (04 R157, 02 R74). -/
def rowVals (t : TileState) (acc m n : Nat) (rnd : Nat → Rnd) : List (Val × Rnd) :=
  (List.range n).map fun i => (f34 (t.elem acc m i), rnd i)

/-- The rounding of element (m, n) of a readout (04 R157). -/
def readRnd (w : TWord) (seed org : DWord) (m n : Nat) : Rnd :=
  rndOf (twSr w) (twRnd w) seed ((org.toNat / 2 ^ 32 + m) % 2 ^ 32) ((org.toNat + n) % 2 ^ 32) (twOfmt w)

/-- Whether an element of a row holds a NaN that no INV produced: such a NaN is an operand (02 R77, R87). -/
def operandNan (t : TileState) (w : TWord) (m : Nat) : Bool :=
  (List.range (twN w)).any fun n => (f34 (t.elem (twAcc w) m n)).isNan && !tget false t.nans (tileKey (twAcc w) m n)

/-- One output row: element codes, scales, flags (02 R77 to R87). -/
def readRow (t : TileState) (w : TWord) (org seed : DWord) (m : Nat) : List Nat × List Nat × Flags :=
  let r := convRow (twOfmt w) (twSat w) (rowVals t (twAcc w) m (twN w) fun n => readRnd w seed org m n)
  (r.1, r.2.1, { r.2.2 with nanIn := r.2.2.nanIn && operandNan t w m })

/-- Invalid conversions of a row are captured in order of column (04 R173). -/
def captureRow (t : TileState) (w : TWord) (issue : Nat) (tag : Word) (m : Nat) : TileState :=
  (List.range (twN w)).foldl (fun t n =>
    if (twOfmt w = 10 ∨ twOfmt w = 11) ∧ (f34 (t.elem (twAcc w) m n)).isNan then
      t.invalid ⟨issue, m, n, 0x7F, 3, twAcc w, tag⟩ else t) t

/-- One output row into core memory with zero padding, and its scales (04 R155). -/
def rowToMemory (s : State) (site : Nat) (w : TWord) (m : Nat) (row : List Nat × List Nat × Flags) : State :=
  let b := fmtBits (twOfmt w)
  let len := rowBytes (twN w) b
  let t := s.write (coreAddr site (64 * twRaddr w) + m * len) (natLe len (packNat b row.1))
  if row.2.1 = [] then t
  else t.write (coreAddr site (64 * twRsaddr w) + m * row.2.1.length) (row.2.1.map (BitVec.ofNat 8))

/-- One output row into vector registers (04 R156). -/
def rowToVector (x : SeqState) (w : TWord) (m : Nat) (codes : List Nat) : SeqState :=
  (List.range (twN w)).foldl (fun x n =>
    let r := twVreg w + 2 * m + n / 64
    x.setV r (vset (x.vreg r) (n % 64) (BitVec.ofNat 32 (codes[n]?.getD 0)))) x

/-- One row of a TACCRD: its flags and captures, and its destination (04 R145, R155, R156). -/
def readOut (s : State) (site : Nat) (x : Pass) (r : Run) (m : Nat) : State :=
  let w := x.word
  let k := s.core site
  let row := readRow k.tile w x.org r.seed m
  let k := { k with tile := captureRow k.tile w x.issue r.tag m }.raise row.2.2
  if twDest w then s.putCore site { k with seq := rowToVector k.seq w m row.1 }
  else rowToMemory (s.putCore site k) site w m row

/-- Whether a TACCRD meets a NaN that an integer format cannot hold. -/
def readInv (t : TileState) (w : TWord) (rows : List Nat) : Bool :=
  (twOfmt w == 10 || twOfmt w == 11) && rows.any fun m => (List.range (twN w)).any fun n => (f34 (t.elem (twAcc w) m n)).isNan

/-- The rows that a TACCRD writes next. -/
def Pass.nextRows (x : Pass) : List Nat :=
  let hi := match x.upto with | none => twM x.word | some u => min u (twM x.word)
  (List.range hi).filter fun m => decide (x.row ≤ m)

/-- A TACCRD's next rows written; INV counts once over all its parts (04 R175). With its last row it is done, and a trapped INV ends
the item (04 R176). -/
def State.readOn (s : State) (site : Nat) (x : Pass) (r : Run) : State :=
  let inv := readInv (s.core site).tile x.word x.nextRows
  let t := x.nextRows.foldl (fun t m => readOut t site x r m) s
  let k := t.core site
  let k := if inv && !x.inv then { k with tile := k.tile.countInv } else k
  let y := { x with phase := .streaming, inv := x.inv || inv, row := x.row + x.nextRows.length }
  if y.row < twM x.word then t.putCore site { k with tile := k.tile.setPass y }
  else
    let t := t.putCore site (k.dequeue y)
    if y.inv && r.trap then t.failAt site 0x1B else t

/-! ## TSAVE and TRESTORE -/

/-- A stamp in the layout of TS_STAMP0 (04 R193). -/
def Stamp.word (x : Stamp) : Nat := b01 x.valid * 2 ^ 31 + x.nM1.toNat * 256 + x.mM1.toNat

/-- A stamp as saved. -/
def stampOf (w : Nat) : Stamp := ⟨w.testBit 31, BitVec.ofNat 7 (bitsOf w 14 8), BitVec.ofNat 8 (bitsOf w 7 0)⟩

/-- The elements of a tile, five bytes each (04 R165). -/
def tileElems (t : TileState) (acc : Nat) : List Byte :=
  ((List.range 24576).map fun i => natLe 5 (tget 0 t.a (24576 * acc + i)).toNat).flatten

/-- A tile read from elements of five bytes; bits [39:34] are ignored (04 R166). -/
def restoreElems (t : TileState) (acc : Nat) (bs : Nat → Nat) : TileState :=
  (List.range 24576).foldl (fun t i => { t with a := tput 0 t.a (24576 * acc + i) (BitVec.ofNat 34 (bs i)) }) (t.clear acc)

/-- The image that TSAVE writes (04 R165). `st` is the stamp as it stood when the TSAVE issued. -/
def tileImage (t : TileState) (acc : Nat) (st : Stamp) : List Byte :=
  tileElems t acc ++ natLe 4 st.word ++ List.replicate 60 0

/-! ## What a queued instruction does -/

/-- A queued instruction other than a pass is done, or a pass clears its tile (04 R145, R162, R163, R165, R166). -/
def State.perform (s : State) (site : Nat) (x : Pass) (r : Run) : State :=
  let k := s.core site
  let w := x.word
  let base := coreAddr site (64 * twRaddr w)
  match twTop w with
  | 0 => s.putCore site ({ k with tile := k.tile.clear (twAcc w) }.dequeue x)
  | 1 => s.putCore site (k.clearFor x)
  | 2 => s.readOn site x r
  | 3 => (s.putCore site (k.dequeue x)).write base (tileImage k.tile (twAcc w) (stampOf x.org.toNat))
  | _ =>
    match s.operandUe site [(twRaddr w, imageBytes)] with
    | some f => s.failCore site f
    | none => s.putCore site ({ k with tile := restoreElems k.tile (twAcc w) fun i => s.num (base + 5 * i) 5 }.dequeue x)

/-- Queued instructions are done as long as one can be, but not on a core that is stopping nor while an audit is due or runs (03
R136). -/
def runTile : Nat → State → Nat → State
  | 0, s, _ => s
  | n + 1, s, site =>
    let k := s.core site
    match k.seq.run, k.ready with
    | some r, some x => if !k.active || k.arr.audits then s else runTile n (s.perform site x r) site
    | _, _ => s

/-- Each queued instruction clears once and is done once, so twice the queue's length is enough. -/
def State.tilesOn (s : State) (site : Nat) : State := runTile (2 * (s.core site).tile.queue.length) s site

/-! ## TZERO, TMM, TACCRD, TSAVE and TRESTORE at issue -/

/-- TZERO: its stamp is set, and +0 goes into the whole tile once earlier instructions of the tile have retired (04 R145, R159,
R163). -/
def execTzero (c : Site) (w : BitVec 128) (s : State) : Answer :=
  .next (s.tileIssue c 0 w fun k _ =>
    (s.putCore c ({ k with tile := k.tile.setStamp (twAcc w) (twStamp w) }.enqueue (newEntry k w s.aclk))).tilesOn c)

/-- The header of a staged tile agrees with the instruction, its zero fields zero (06 R256). -/
def headerOk (w : TWord) (h : List Byte) : Bool :=
  fld h 0 2 == 0xE7A5 && fld h 4 1 == twRfmt w && fld h 5 1 + 1 == twM w && fld h 6 1 + 1 == twK w && fld h 7 1 == twC w &&
    fld h 12 4 == 0 && decide (fld h 16 8 < 2 ^ 42) && fld h 28 4 == twSteps w && fld h 32 32 == 0

/-- The mask in force: a snapshot of the register it names (05 R208). -/
def tmmMask (k : Core) (w : TWord) : BitVec 256 :=
  if twMaskEn w then vget k.tile.masks (twMaskId w) 0 else BitVec.allOnes 256

/-- A TMM as it enters the tile queue (06 R226, 05 R208). -/
def newPass (k : Core) (w : TWord) (i : Int) : Pass :=
  { newEntry k w i with mask := tmmMask k w, clear := twZero w, fresh := twZero w && decide (k.tile.stamp (twAcc w) ≠ twStamp w) }

/-- The issue of a TMM that has passed its checks: its stamp and its place in the queue; one that neither streams nor clears retires
at once (04 R159, R162, 05 R211). The first pass after a drain is presented now (03). -/
def issueTmm (k : Core) (w : TWord) (i : Int) : Core :=
  let x := newPass k w i
  let t := if twZero w then k.tile.setStamp (twAcc w) (twStamp w) else k.tile
  let a := if k.tile.queue.any Pass.isTmm then k.arr else { k.arr with pipe := Pipe.drained i }
  if streamed w x.mask = [] && !twZero w then { k with tile := { t with issueNo := t.issueNo + 1 }, seq := k.seq.next4 }
  else { k with arr := a, tile := t }.enqueue x

/-- TMM at issue (04 R145 to R163, 06 R224, R247, R256). Of an operand outside the extent, a stamp that differs and a bad header the
first in this order decides, since the spec ranks none first (DESIGN CHOICE, log 73). -/
def execTmm (c : Site) (w : BitVec 128) (s : State) : Answer :=
  .next (s.tileIssue c 1 w fun k r =>
    match operandsFail c r.extent (tmmOperands w) with
    | some f => s.failCore c f
    | none =>
      if !twZero w && decide (k.tile.stamp (twAcc w) ≠ twStamp w) then s.shapeAt c
      else if k.slotWait (tmmOperands w) false then s
      else if !twTr w && s.isUe (coreAddr c (64 * twRaddr w)) then s.failCore c (failEcc (coreAddr c (64 * twRaddr w)))
      else if !twTr w && !headerOk w (s.bytes (coreAddr c (64 * twRaddr w)) 64) then s.malformedAt c
      else (s.putCore c (issueTmm k w s.aclk)).tilesOn c)

/-- The stamp check of TACCRD and TSAVE (04 R161). -/
def readShape (k : Core) (w : TWord) (whole : Bool) : Bool :=
  let st := k.tile.stamp (twAcc w)
  st.valid && (whole || (decide (twM w ≤ st.mM1.toNat + 1) && decide (twN w ≤ st.nM1.toNat + 1)))

/-- The uncorrectable line, if any, of a word that a TACCRD's scales write only in part (06 R253). -/
def State.scaleUe (s : State) (site : Nat) (w : TWord) : Option Fail :=
  (readOperands w).findSome? fun p => ((accessReads (coreAddr site (64 * p.1)) p.2 true).find? s.isUe).map failEcc

/-- TACCRD (04 R145 to R163). Without `stop` it issues, or a TACCRD of this word that has paused goes on to its end; with `stop` its
rows are written up to that one, where it pauses until a later TACCRD command, or a stop, reaches it (04 R189; log 74). -/
def execTaccrd (c : Site) (w : BitVec 128) (stop : Option (Fin 256)) (s : State) : Answer :=
  .next (
    let upto := stop.map fun m => m.val + 1
    match (s.core c).tile.queue.find? fun x => x.reading && decide (x.word = w) with
    | some x =>
      if (s.core c).active then
        (s.putCore c { s.core c with tile := (s.core c).tile.setPass { x with upto := upto } }).tilesOn c
      else s
    | none => s.tileIssue c 2 w fun k r =>
      match operandsFail c r.extent (readOperands w) with
      | some f => s.failCore c f
      | none =>
        let x := { newEntry k w s.aclk with upto := upto }
        if !readShape k w false then s.shapeAt c
        else if k.slotWait (readOperands w) true || k.vecWaits x.vregs then s
        else match s.scaleUe c w with
          | some f => s.failCore c f
          | none => (s.putCore c (k.enqueue x)).tilesOn c)

/-- TSAVE: the tile image to core memory once earlier writers have retired (04 R145, R161, R163, R165). -/
def execTsave (c : Site) (w : BitVec 128) (s : State) : Answer :=
  .next (s.tileIssue c 3 w fun k r =>
    let ops := [(twRaddr w, imageBytes)]
    match operandsFail c r.extent ops with
    | some f => s.failCore c f
    | none =>
      if !readShape k w true then s.shapeAt c
      else if k.slotWait ops true then s
      else (s.putCore c (k.enqueue { newEntry k w s.aclk with
        org := BitVec.ofNat 64 (k.tile.stamp (twAcc w)).word })).tilesOn c)

/-- TRESTORE: the stamp from an image at issue, and the tile once earlier instructions of it have retired (04 R145, R159, R163,
R166). -/
def execTrestore (c : Site) (w : BitVec 128) (s : State) : Answer :=
  .next (s.tileIssue c 4 w fun k r =>
    let ops := [(twRaddr w, imageBytes)]
    match operandsFail c r.extent ops with
    | some f => s.failCore c f
    | none =>
      if k.slotWait ops false then s
      else match s.operandUe c ops with
        | some f => s.failCore c f
        | none =>
          let st := s.num (coreAddr c (64 * twRaddr w) + 122880) 4
          if 96 ≤ bitsOf st 14 8 then s.malformedAt c
          else
            (s.putCore c ({ k with tile := k.tile.setStamp (twAcc w) (stampOf st) }.enqueue (newEntry k w s.aclk))).tilesOn c)

/-! ## Keeper load -/

/-- The latch after a TMM's keeper load (04 R167, R169). -/
def kLatchOf (w : TWord) (bank : Nat) (scales : List (List Nat)) : KLatch :=
  ⟨twKaddr w, twKsaddr w, twK w, twN w, twKfmt w, twKconv w, twTk w, bank, scales⟩

/-- The bits of keeper element (k, n) in core memory (04 R154, 05 R196). -/
def keeperElem (s : State) (site : Nat) (w : TWord) (k n : Nat) : Nat :=
  let b := twKbits w
  let base := coreAddr site (64 * twKaddr w)
  if twTk w then s.elemAt (base + n * rowBytes (twK w) b) b k else s.elemAt (base + k * rowBytes (twN w) b) b n

/-- The transposing buffer filled with a keeper, expanded and converted (05 R194 to R196). -/
def fillKeeper (s : State) (site : Nat) (w : TWord) (a : ArrayState) : ArrayState :=
  (List.range (twK w)).foldl (fun a k => (List.range (twN w)).foldl (fun a n =>
    { a with rook := tput 0 a.rook (96 * k + n) (BitVec.ofNat 16 (cellForm w (keeperElem s site w k n))) }) a) a

/-- The keeper rows from `krow` on, as they go to their latches: out of the transposing buffer, or from core memory (03 R117, 05
R194, R196). -/
def keeperRows (s : State) (site : Nat) (w : TWord) (a : ArrayState) (krow : Nat) : List (List Nat) :=
  (List.range (twK w)).map fun k =>
    if k < krow then []
    else (List.range (twN w)).map fun n =>
      if twTk w then (tget 0 a.rook (96 * k + n)).toNat else cellForm w (keeperElem s site w k n)

/-- The block scales of a keeper by column, kept with it (02 R62, 04 R154, 05 R195). -/
def keeperScales (s : State) (site : Nat) (w : TWord) : List (List Nat) :=
  let nb := (twK w + 31) / 32
  (List.range (twN w)).map fun n =>
    if fmtScaled (twKfmt w) then (List.range nb).map fun j => (s.byte (coreAddr site (64 * twKsaddr w) + n * nb + j)).toNat else []

/-- Banks share a bit of 1 K0, 2 K1, 3 both. -/
def bankMeets (x y : Nat) : Bool := decide (x = y ∧ x ≠ 0) || (x == 3 && y != 0) || (y == 3 && x != 0)

/-- A TMM has its keeper and has not begun to stream. -/
def Pass.holding (x : Pass) : Bool := x.isTmm && (decide (x.phase = .loaded) || decide (x.phase = .restage))

/-- The bank or banks that a TMM's keeper load writes: those it was cut in, or the idle bank (03 R748, 04 R190). -/
def loadBankOf (a : ArrayState) (x : Pass) : Nat := if x.bank ≠ 0 then x.bank else loadBank a.lastLoad (twWide x.word)

/-- Whether a keeper load must wait for a pass before it: one that holds its keeper in the same bank, or, when the load goes through
the transposing buffer, one whose runner still goes through it (03 R118, 05 R201). -/
def TileState.loadWaits (t : TileState) (x : Pass) (bank : Nat) : Bool :=
  t.queue.any fun y => y.holding && decide (y.issue < x.issue) && (bankMeets y.bank bank || (twTk x.word && twTr y.word))

/-- KEEPER_LOAD: the oldest TMM without its keeper begins its load into the idle bank in its cycle L, or reuses the latched keeper
(03 R117 to R121, R748, 04 R167 to R170, 05 R199 to R202). The transposed source is read as it stands now, the old or the new value
that R200 allows (DESIGN CHOICE, log 73). -/
def execKeeperLoad (c : Site) (s : State) : Answer :=
  .next (let k := s.core c
    match k.tile.queue.find? fun x => x.isTmm && decide (x.phase = .waiting) with
    | none => s
    | some x =>
      let w := x.word
      let bank := loadBankOf k.arr x
      let l := k.arr.pipe.loadAt x.cycI bank (twTk w)
      if !k.active || k.arr.audits then s
      else match k.arr.reuses w with
        | some e =>
          s.putCore c { k with tile := k.tile.setPass { x with phase := .loaded, reuse := true, bank := e.bank, kscales := e.scales } }
        | none =>
          if k.tile.loadWaits x bank || !s.reached l then s
          else match s.operandUe c [(twKaddr w, twKeeperBytes w), (twKsaddr w, twKscaleBytes w)] with
            | some f => (s.putCore c { k with arr := { k.arr with kLatch := none, rLatch := [] } }).failCore c f
            | none =>
              let a := if twTk w then fillKeeper s c w k.arr else k.arr
              let sc := keeperScales s c w
              let l := max l s.aclk
              s.putCore c { k with
                arr := { a with pipe := a.pipe.loaded l (a.loadLen (twWide w)) (twTk w), lastLoad := bank
                                kLatch := some (kLatchOf w bank sc) }
                tile := k.tile.setPass { x with phase := .loaded, bank := bank, cycL := l, kscales := sc
                                                keeper := keeperRows s c w a x.krow } })

/-! ## Pass start -/

/-- The block scale of runner row m at k: 127 without one (02 R57 to R59, 05 R195). -/
def runnerScale (s : State) (site : Nat) (w : TWord) (m k : Nat) : Nat :=
  if fmtScaled (twRfmt w) then
    (s.byte (coreAddr site (64 * twRsaddr w) + m * ((twK w + 31) / 32) + k / 32)).toNat else 127

/-- phys(k) when the rows listed are bypassed (03 R94). -/
def physOf (bps : List Nat) (k : Nat) : Nat := (((List.range 100).filter fun r => !bps.elem r)[k]?).getD 100

/-- The bypassed rows that a staged tile's header names (06 R255, R257). -/
def headerRows (s : State) (site : Nat) (w : TWord) : List Nat :=
  (List.range 4).map fun i => (s.byte (coreAddr site (64 * twRaddr w) + 8 + i)).toNat

/-- The transposing buffer filled with a runner, expanded (05 R194, R195, R197). -/
def fillRunner (s : State) (site : Nat) (w : TWord) (a : ArrayState) : ArrayState :=
  let b := fmtBits (twRfmt w)
  (List.range (twM w)).foldl (fun a m => (List.range (twK w)).foldl (fun a k =>
    let x := latchOf (twRfmt w) false (s.elemAt (coreAddr site (64 * twRaddr w) + k * rowBytes (twM w) b) b m)
    { a with rook := tput 0 a.rook (96 * m + k) (BitVec.ofNat 16 x) }) a) a

/-- The value of runner element (m, k) before its scale. A staged tile is laid out and delayed by the profile of its header; where
that profile gives a row another delay than the core's, the element meets the wrong cell, and its value there is free (06 R255,
R257; log 75). -/
def runnerElem (s : State) (site : Nat) (w : TWord) (a : ArrayState) (bps : List Nat) (m k : Nat) : Val :=
  let b := fmtBits (twRfmt w)
  if twTr w then latchVal (twRfmt w) (tget 0 a.rook (96 * m + k)).toNat
  else if physOf bps k = a.phys k then
    elemVal (twRfmt w) (s.elemAt (coreAddr site (64 * twRaddr w) + 64 + (m + physOf bps k / twC w) * rowBytes (twK w) b) b k)
  else elemVal (twRfmt w) (Config.free s.freeCount (96 * m + k) % 2 ^ b)

/-- The chunk sum of runner row m and column n (03 R104 to R110). -/
def passSum (s : State) (site : Nat) (x : Pass) (a : ArrayState) (bps : List Nat) (m n : Nat) : ChunkSum :=
  let w := x.word
  chunkSum m n ((List.range (twK w)).map fun k =>
    let kv := scaleVal (a.keeper x.bank (twKfmt w) k n) (((x.kscales.getD n []).getD (k / 32) 127))
    (k, product (twPasses w) kv (scaleVal (runnerElem s site w a bps m k) (runnerScale s site w m k))))

/-- Every chunk sum of a pass from its first row on (03 R98, 05 R209). -/
def passSums (s : State) (site : Nat) (x : Pass) (a : ArrayState) : List ChunkSum :=
  let bps := headerRows s site x.word
  (x.rows.map fun m => (List.range (twN x.word)).map fun n => passSum s site x a bps m n).flatten

/-- The latch entry of a staged runner row: the lines of the steps that hold its elements, format and epoch (04 R171, 06 R255). -/
def rowTag (w : TWord) (a : ArrayState) (bps : List Nat) (m : Nat) : RLatch :=
  let l := rowBytes (twK w) (fmtBits (twRfmt w)) / 64
  ⟨twRaddr w + 1 + m * l, (physOf bps (twK w - 1) / twC w + 1) * l, twRfmt w, a.epoch⟩

/-- The feeder's latch after it has streamed rows, its last eight, and the rows that it read from core memory (04 R171). -/
def feedRows (tag : Nat → RLatch) : List Nat → List RLatch → List RLatch × List Nat
  | [], l => (l, [])
  | m :: ms, l =>
    let hit := l.elem (tag m)
    let l' := l.filter (· ≠ tag m) ++ [tag m]
    let r := feedRows tag ms (l'.drop (l'.length - 8))
    (r.1, if hit then r.2 else m :: r.2)

/-- What the feeder does with the rows of a pass; a transposed runner leaves the latch (05 R198). -/
def Pass.feed (x : Pass) (a : ArrayState) (bps : List Nat) : List RLatch × List Nat :=
  if twTr x.word then (a.rLatch, []) else feedRows (rowTag x.word a bps) x.rows a.rLatch

/-- The lines that a pass reads as it starts, as line and bytes: a transposed source whole, else the header and the rows that the
latch does not hold; and the scale bytes of the rows that stream (04 R171, 05 R197, R209, 06 R255). -/
def passReads (s : State) (site : Nat) (x : Pass) (a : ArrayState) : List (Nat × Nat) :=
  let w := x.word
  let bps := headerRows s site w
  let base := coreAddr site 0
  (if twTr w then [(base + 64 * twRaddr w, twRunnerBytes w)]
   else (base + 64 * twRaddr w, 64) ::
     (x.feed a bps).2.map fun m => (base + 64 * (rowTag w a bps m).line, 64 * (rowTag w a bps m).lines)) ++
  (if fmtScaled (twRfmt w) then x.rows.map fun m => (base + 64 * twRsaddr w + m * ((twK w + 31) / 32), (twK w + 31) / 32) else [])

/-- The first uncorrectable line that a pass reads as it starts. -/
def State.passUe (s : State) (site : Nat) (x : Pass) (a : ArrayState) : Option Fail :=
  (passReads s site x a).findSome? fun p => ((linesOf p.1 p.2).find? s.isUe).map failEcc

/-- Whether a staged tile's header gives some row of the pass another delay than the core's (06 R257). -/
def Pass.skewed (x : Pass) (s : State) (site : Nat) (a : ArrayState) : Bool :=
  !twTr x.word && (List.range (twK x.word)).any fun k => decide (physOf (headerRows s site x.word) k ≠ a.phys k)

/-- The cycle S of a pass that holds its keeper (05 R201). -/
def ArrayState.startAt (a : ArrayState) (x : Pass) : Int :=
  a.pipe.startAt x.cycI (if x.reuse then a.pipe.t + 1 else x.cycL + a.loadLen (twWide x.word)) (twTr x.word)

/-- The array when a pass starts: its keeper rows in their bank, the bank active (03 R97), a transposed runner in the buffer. -/
def ArrayState.armed (a : ArrayState) (s : State) (site : Nat) (x : Pass) : ArrayState :=
  let a := { (if x.reuse then a else a.writeRows x 96) with active := x.bank }
  if twTr x.word then fillRunner s site x.word a else a

/-- The start of a pass in cycle S: the cycle variables, the pass count with the audit it makes due, and the sums on their way (03
R97, R120, R135, 05 R201). -/
def startPass (s : State) (site : Nat) (k : Core) (x : Pass) (cyc : Int) : Core :=
  let a := k.arr.armed s site x
  let n : Int := (x.rows.length * twC x.word : Nat)
  let y := { x with phase := .streaming, first := x.row, cycS := cyc, cycT := cyc + n - 1, keeper := [], sums := passSums s site x a }
  { k with
    arr := { a with pipe := a.pipe.started cyc n x.bank (twTr x.word), rLatch := (x.feed a (headerRows s site x.word)).1
                    passes := min 0x100000 (a.passes + 1) }
    tile := k.tile.setPass y }

/-- Whether a TMM waits for an earlier instruction of its tile before it starts (04 R163): for a TZERO or TRESTORE, under ZERO for a
TMM of another stamp, and under ZERO with a stamp new to the tile for any. -/
def TileState.startWaits (t : TileState) (x : Pass) : Bool :=
  (t.earlier x).any fun y => x.fresh || decide (twTop y.word = 0) || decide (twTop y.word = 4) ||
    (y.isTmm && twZero x.word && decide (twStamp y.word ≠ twStamp x.word))

/-- The TMM that streams next. -/
def TileState.nextPass (t : TileState) : Option Pass := t.queue.find? fun x => x.isTmm && decide (x.phase ≠ .streaming)

/-- PASS_START: the oldest TMM that holds its keeper begins to stream in its cycle S. A staged tile of another epoch is refused and a
restage asked for (03 R120, R128, 04 R163, 05 R198). -/
def execPassStart (c : Site) (s : State) : Answer :=
  .next (let k := s.core c
    match k.tile.nextPass with
    | none => s
    | some x =>
      let w := x.word
      let cyc := k.arr.startAt x
      if !k.active || k.arr.audits || decide (x.phase ≠ .loaded) || k.tile.startWaits x || !s.reached cyc then s
      else if !twTr w && decide (s.num (coreAddr c (64 * twRaddr w) + 2) 2 ≠ k.arr.epoch.toNat) then
        (s.putCore c { k with arr := { k.arr with restages := sat32 k.arr.restages 1 }
                              tile := k.tile.setPass { x with phase := .restage } }).tallyAdd 0xA0 1
      else match s.passUe c x k.arr with
        | some f => s.failCore c f
        | none =>
          let t := s.putCore c (startPass s c k x (max cyc s.aclk))
          if x.skewed s c k.arr then t.setFreeCount (s.freeCount + 1) else t)

/-- RESTAGE: the tile is laid out again from its header's source under the item's windows, by one snapshot of the profile
(03 R126, R129, R130, 06 R257). -/
def execRestage (c : Site) (s : State) : Answer :=
  .next (let k := s.core c
    match k.tile.nextPass, k.seq.run with
    | some x, some r =>
      let w := x.word
      let base := coreAddr c (64 * twRaddr w)
      let src := s.num (base + 16) 8
      let stride := s.num (base + 24) 4
      let b := fmtBits (twRfmt w)
      if !k.active || decide (x.phase ≠ .restage) then s
      else match (List.range (twM w)).findSome? fun m =>
          s.checkReads (s.runWins r) (src + m * stride) ((twK w * b + 7) / 8) with
        | some f => s.failCore c f
        | none =>
          let bytes := tileBytes s k.arr (twRfmt w) (twM w) (twK w) b (twC w) src stride (twSteps w)
          (s.putCore c { k with tile := k.tile.setPass { x with phase := .loaded } }).write base bytes
    | _, _ => s)

/-! ## Chunk sums -/

/-- A pass that has written its last sum leaves the queue; under TRAP_INV its INV ends the item (04 R176). One that a stop has cut
stays to be saved, or leaves when the work ends. Then instructions that waited for it go on. -/
def retirePass (s : State) (site : Nat) (x : Pass) : State :=
  let k := s.core site
  if x.phase = .cut ∧ k.seq.stop ≠ .drop then s
  else
    let t := s.putCore site (k.dequeue x)
    match k.seq.run with
    | none => t
    | some r =>
      let u := if x.inv ∧ r.trap ∧ x.phase ≠ .cut then t.failAt site 0x1B else t.settleItem r.q r.k
      u.tilesOn site

/-- The cycle in which the chunk sum of row m and column n is written: 4 after it leaves the array (03 R99, R122, 05 R210). -/
def Pass.writeAt (x : Pass) (a : ArrayState) (m n : Nat) : Int :=
  let rank := ((streamed x.word x.mask).filter fun i => decide (x.first ≤ i) && decide (i < m)).length
  x.cycS + (rank * twC x.word + twC x.word - 1 + a.phys 95 + 2 + n + 4 : Nat)

/-- CHUNK_SUM_WRITE: the oldest pass's chunk sum for (m, n) is added into its tile element, once its cycle has come and every earlier
instruction that reads or clears the tile has retired (03 R111 to R115, R122, 04 R163). -/
def execChunkSumWrite (c : Site) (m : Fin 256) (n : Fin 96) (s : State) : Answer :=
  .next (let k := s.core c
    match k.tile.queue.find? fun x => x.sums.any fun y => decide (y.m = m.val ∧ y.n = n.val) with
    | none => s
    | some x =>
      match x.sums.find? fun y => decide (y.m = m.val ∧ y.n = n.val) with
      | none => s
      | some y =>
        if ((k.tile.earlier x).any fun z => !z.isTmm) || !s.reached (x.writeAt k.arr m n) then s
        else
          let tag := ((k.seq.run.map (·.tag)).getD 0)
          let r := k.tile.addChunk (twAcc x.word) x.issue (twZero x.word) tag y
          let t := if r.2 && !x.inv then r.1.countInv else r.1
          let x' := { x with sums := x.sums.filter fun z => !(decide (z.m = m.val ∧ z.n = n.val)), inv := x.inv || r.2 }
          let t := if x.recorded then { t with insnInv := x'.inv } else t
          let u := s.putCore c { k with tile := t.setPass x' }
          if x'.sums.isEmpty then retirePass u c x' else u)

end Sys2Proof.Machine
end

