-- ==== Sys2Proof/Machine/CoreEvents.lean ====
section
/-!
DEFINITION. Events of a core: row audits and promotions (03 R123 to R142), the loss of a core with the single retry (14 R563
to R569), the start of an instance (06 R258 to R260), and the save of a context with its restore (04 R178 to R190, 06 R263,
R265).
-/
namespace Sys2Proof.Machine

/-! ## Row audits -/

/-- AUDIT_DUE: after 2^20 passes since the last audit began an audit falls due (03 R135, R144). -/
def execAuditDue (c : Site) (s : State) : Answer :=
  .next (let k := s.core c
    if k.arr.passes = 0x100000 ∧ !k.arr.auditDue ∧ k.arr.auditRun = none then
      s.putCore c { k with arr := { k.arr with auditDue := true } }
    else s)

/-- AUDIT_NOW: CORE_AUDIT_CTL.AUDIT_NOW written with 1; ignored while an audit is due or runs (03 R135, R144). -/
def execAuditNow (c : Site) (s : State) : Answer :=
  .next (let k := s.core c
    if k.arr.audits ∨ !s.barOpen then s else s.putCore c { k with arr := { k.arr with auditDue := true } })

/-- The core's array while an audit runs: both banks overwritten, both latches clear (03 R137, R748). -/
def ArrayState.beginAudit (a : ArrayState) (now : DWord) (base : Nat) : ArrayState :=
  { a.clearLatches with auditDue := false, auditRun := some now, passes := 0, k0 := [], k1 := [], wsign := [],
                        base := some base }

/-- TMMs that have not begun to stream load their keepers anew after an audit. -/
def Pass.unload (x : Pass) : Pass :=
  if x.unbegun then { x with phase := .waiting, reuse := false, krow := 0, bank := 0, keeper := [], kscales := [] } else x

/-- ROW_AUDIT: an audit that is due begins once no chunk sum is in flight (03 R136, R137). A core that is stopping saves its context
first, so that the audit overwrites no keeper that a resume uses (log 76). -/
def execRowAudit (c : Site) (s : State) : Answer :=
  .next (let k := s.core c
    if k.arr.auditDue ∧ k.seq.phase ≠ .stopping ∧ k.tile.queue.all fun x => x.sums.isEmpty then
      (s.putCore c { k with arr := k.arr.beginAudit s.now s.freeCount
                            tile := { k.tile with queue := k.tile.queue.map Pass.unload } }).setFreeCount (s.freeCount + 1)
    else s)

/-- The rows of a mask in ascending order. -/
def rowsOf (m : BitVec 100) : List Nat := (List.range 100).filter fun r => m.getLsbD r

/-- A logged event whose DTC is not the present one (03 R142). -/
def State.logAt (s : State) (dtc : DWord) (cls kind unit sev arg0 arg1 : Nat) : State :=
  let t := s.logEvent cls kind unit sev arg0 arg1
  t.setFault { t.fault with log := t.fault.log.map fun e => if e.seq = t.fault.seq then { e with dtc := dtc } else e }

/-! ## The loss of a core -/

/-- Core herd masks and arrivals when a logical core moves from one site to another (10 R429). -/
def Herd.move (h : Herd) (old new : Nat) : Herd :=
  if h.kind = 1 ∧ h.mask.getLsbD old then
    { h with mask := (h.mask &&& ~~~(1#1536 <<< old)) ||| (1#1536 <<< new) } else h

def State.mapHerds (s : State) (f : Herd → Herd) : State :=
  s.setSync { s.sync with herds := s.sync.herds.foldl (fun t e => tput Herd.none t e.1 (f e.2)) [] }

/-- The lowest spare site of a die (01 R32). -/
def State.spareOf (s : State) (d : Nat) : Option Nat :=
  ((List.range 64).map (64 * d + ·)).find? fun x => decide (s.siteState x = 1)

/-- A site fails in service: its logical number moves to the die's lowest spare site, or is no longer present (01 R32). An engine that
so loses its last present core keeps its queues as they stand until the next start-up, warm reset or full load opens or closes
them: 01 R40 and 09 R346 do not say when a queue in service closes (DESIGN CHOICE, log 73). -/
def State.failSite (s : State) (site : Nat) : State :=
  let t := s.setStart { s.start with siteFailed := if s.start.siteFailed.elem site then s.start.siteFailed else site :: s.start.siteFailed }
  match s.lcoreOf site with
  | none => t
  | some c =>
    match s.spareOf (site / 64) with
    | some n =>
      ((t.setStart { t.start with lmap := tput none t.start.lmap c (some (some n)) }).mapHerds (·.move site n)).tallyAdd
        (0x1C0 + 8 * (site / 64)) 1
    | none => t.setStart { t.start with lmap := tput none t.start.lmap c (some none) }

/-- The present logical cores of an engine (01 R39). -/
def State.engineCores (s : State) (e : Nat) : List Nat :=
  (List.range 1440).filter fun c => decide (s.engineOfCore c = some e) && (s.siteOf c).isSome

/-- The item may be retried: RETRYABLE, no earlier retry, not ended, and another present core of its engine (14 R565,
R566). -/
def State.mayRetry (s : State) (i : Item) (q lcore : Nat) : Bool :=
  i.iflags.testBit 0 && !i.retried && decide (i.status = 0) && (decide (i.op = 0x10) || decide (i.op = 0x11)) &&
    (s.engineCores (engineOf q)).any fun c => decide (c ≠ lcore)

/-- The lost work waits to run again on another core (14 R565). -/
def Item.again (i : Item) (n lcore : Nat) : Item :=
  match i.work with
  | .job w => { i with retried := true, work := .job { w with again := w.again ++ [⟨n, lcore⟩] } }
  | .matmul w => { i with retried := true, work := .matmul { w with again := w.again ++ [⟨n, lcore⟩] } }
  | _ => { i with retried := true }

/-- FAILED_CORE_LOST (14 R565, 09 R384). -/
def failLost (lcore : Nat) : Fail := ⟨0x12, lcore, none⟩

/-- An item none of whose cores runs any more is saved, and its queue is PREEMPTED when all are (09 R396). -/
def State.settleSave (s : State) (q k : Nat) : State :=
  if (s.queue q).st = .preempting ∧ (s.queue q).preReq = .now ∧ s.sitesOf q k = [] then
    let t := s.mapItem q k fun i => if i.phase = .running then { i with phase := .saved } else i
    t.putQueue q (t.queue q).settle
  else s

/-- The part of an item is taken from a lost core: retried elsewhere, or the item ends FAILED_CORE_LOST (14 R565, R566). A loss
while its queue is preempting leaves one save less to wait for. -/
def State.loseRun (s : State) (site lcore : Nat) (r : Run) : State :=
  let k := s.core site
  let s := s.leaveWait site
  let s := s.mapItem r.q r.k fun i => { i with fl := i.fl.or k.tile.flags }
  let s := s.putCore site (s.core site).freed
  match s.item? r.q r.k with
  | none => s
  | some i =>
    if s.mayRetry i r.q lcore then (s.mapItem r.q r.k (·.again r.inst lcore)).settleSave r.q r.k
    else if i.status = 0 then s.failItem r.q r.k (failLost lcore)
    else s.settleItem r.q r.k

/-- Every incomplete core-herd generation is looked at again (10 R431). -/
def State.checkCoreHerds (s : State) : State := s.sync.herds.foldl (fun t e => t.checkCoreHerd e.1) s

/-- A core is lost (14 R562 to R565, 01 R32): logged, its part of an item taken, and, where its rows cannot be replaced, its
site failed. -/
def State.loseCore (s : State) (site cause : Nat) (fails : Bool) : State :=
  let lc := (s.lcoreOf site).getD 0x7FF
  let t := s.logEvent 0x10 1 site 3 lc cause
  let t := match (t.core site).seq.run with
    | some r => t.loseRun site lc r
    | none => t
  (if fails then t.failSite site else t).checkCoreHerds

/-- After an audit the core is as after a drain: what waits in its queue is presented now, and a stop held off by the audit takes
effect, else queued instructions go on (03 R136, 06 R263). -/
def State.auditOver (s : State) (site : Nat) : State :=
  let k := s.core site
  let t := s.putCore site { k with
    arr := { k.arr with pipe := Pipe.drained s.aclk }
    tile := { k.tile with queue := k.tile.queue.map fun x => if x.unbegun then { x with cycI := s.aclk } else x } }
  match k.seq.run with
  | none => s.putCore site { k with arr := { k.arr with pipe := Pipe.drained s.aclk } }
  | some r => if k.seq.stop ≠ .none ∧ k.seq.phase ≠ .stopping then (t.stopNow site).settleItem r.q r.k else t.tilesOn site

/-- AUDIT_END: the audit ends and reports its failing physical rows. A spare row becomes a failed spare; a row in use is a
core fault (03 R137 to R142). -/
def execAuditEnd (c : Site) (rows : BitVec 100) (s : State) : Answer :=
  .next (let k := s.core c
    match k.arr.auditRun with
    | none => s
    | some began =>
      let fresh := rows &&& ~~~(k.arr.failed ||| k.arr.newFailed)
      let used := (rowsOf fresh).filter fun r => decide (k.arr.rowState r = 0)
      let usedMask := used.foldl (fun m r => m ||| (1#100 <<< r)) 0#100
      let first := (rowsOf fresh).head?.getD 0x7F
      let clean := decide (fresh = 0)
      let a := { k.arr with
        auditRun := none
        auditBad := !clean
        firstFail := first
        auditDtc := if clean then began else k.arr.auditDtc
        held := k.arr.held && !(clean && decide (k.arr.newFailed = 0))
        failed := k.arr.failed ||| (fresh &&& ~~~usedMask)
        newFailed := k.arr.newFailed ||| usedMask }
      let t := s.putCore c { k with arr := a }
      let t := (rowsOf fresh).foldl (fun t r => t.logAt began 0x11 1 c 3 k.arr.auditDtc.toNat r) t
      if used = [] then t.auditOver c
      else
        let healthy := 100 - (rowsOf (a.failed ||| a.newFailed)).length
        (t.putCore c { t.core c with arr := { (t.core c).arr with held := true } }).loseCore c 0 (decide (healthy < 96)))

/-- PROMOTION: at a core quiesce the failed rows are promoted round, profile and epoch change together, and a fresh audit
falls due (03 R123 to R125, R134, R140). -/
def execPromotion (c : Site) (s : State) : Answer :=
  .next (let k := s.core c
    let n := (rowsOf k.arr.newFailed).length
    if n = 0 ∨ k.seq.run.isSome ∨ k.arr.auditRun.isSome ∨ s.siteState c = 2 then s
    else
      let a := { k.arr.clearLatches with
        failed := k.arr.failed ||| k.arr.newFailed
        newFailed := 0
        epoch := k.arr.epoch + BitVec.ofNat 16 n
        held := true
        auditDue := true }
      (s.putCore c { k with arr := a }).tallyAdd (0x100 + 8 * (c.val / 64)) n)

/-- CORE_LOSS for a cause of 14 R563 other than an audit: an internal check, its power or clock, or no stop within 1,000
ticks of a stop request. An audit's loss is part of AUDIT_END. -/
def execCoreLoss (c : Site) (cause : Fin 4) (s : State) : Answer :=
  .next (if cause.val = 0 ∨ !s.serving ∨ s.siteState c = 2 ∨ (cause.val = 3 ∧ (s.core c).seq.phase ≠ .stopping) then s
    else s.loseCore c cause true)

/-! ## The start of an instance -/

/-- A core that may take a part of an item of a queue: active, enabled and unthrottled, placed in the queue's engine, free,
not held by a failing audit, with room in its outbox (03 R139, 06 R259, 09 R402, 15 R604, R609). -/
def State.coreFree (s : State) (q site : Nat) : Bool :=
  let k := s.core site
  s.serving && decide (s.siteState site = 0) && k.seq.run.isNone && !k.arr.held && decide (k.seq.outbox.length < 4) &&
    (match s.lcoreOf site with
     | some c => decide (s.engineOfCore c = some (engineOf q)) && s.coreRuns c
     | none => false)

/-- An extent field: 0 stands for the whole core memory (04 R152). -/
def extentOf (f : Nat) : Nat := if f = 0 then 24576 else f

/-- The run of a JOB's instance (06 R260, R265). -/
def Item.jobRun (i : Item) (q inst : Nat) : Run :=
  { q := q, k := i.k, ctx := i.ctx, extent := extentOf (i.fld 40 4), job := true, inst := inst, count := i.fld 24 4,
    vflags := (i.fld 8 1).testBit 0, seed := BitVec.ofNat 64 (i.fld 48 8), trap := i.trap, tag := i.tag,
    image := i.fld 16 8, ilen := i.fld 12 4 }

/-- Instruction memory from an image (06 R260). -/
def State.imemOf (s : State) (image ilen : Nat) : Table Word :=
  (List.range (ilen / 4)).foldl (fun t a => tput 0 t a (BitVec.ofNat 32 (s.num (image + 4 * a) 4))) []

/-- A failure to read the image when it is loaded: an address that does not exist, core memory of a site that has failed since among
them, a gated group, or an uncorrectable line (07 R268, R281, R297). -/
def State.imageFail (s : State) (image ilen : Nat) : Option Fail :=
  (linesOf image ilen).findSome? fun l =>
    if s.region l = .hole then some (failWindow l) else if s.gatedAt l then some (failGated l)
    else if s.isUe l then some (failEcc l) else none

/-- The scalar registers at the start of an instance (06 R260). -/
def startRegs (inst count : Nat) (arg : DWord) (lcore : Nat) : Vector DWord 32 :=
  (Vector.replicate 32 0).set 0 (BitVec.ofNat 64 inst) |>.set 1 (BitVec.ofNat 64 count) |>.set 2 arg
    |>.set 3 (BitVec.ofNat 64 lcore)

/-- A core at the start of an instance (06 R260, 10 R422). -/
def startCore (k : Core) (r : Run) (imem : Table Word) (entry : Nat) (arg : DWord) (lcore : Nat) : Core :=
  { arr := k.arr.clearLatches
    tile := TileState.reset
    seq := { SeqState.reset with phase := .running, halted := k.seq.halted, run := some r, imem := imem,
                                 pc := BitVec.ofNat 14 entry, s := startRegs r.inst r.count arg lcore,
                                 outbox := k.seq.outbox } }

/-- An instance of a JOB begins on a free core; an image that cannot be read fails the item, and so does an entry inside a tile
instruction's group (06 R230, R260). -/
def State.beginInstance (s : State) (q site inst : Nat) (i : Item) : State :=
  let r := i.jobRun q inst
  match s.imageFail r.image r.ilen with
  | some f => s.failItem q i.k f
  | none =>
    let t := s.putCore site (startCore (s.core site) r (s.imemOf r.image r.ilen) (i.fld 28 2) (BitVec.ofNat 64 (i.fld 32 8))
      ((s.lcoreOf site).getD 0x7FF))
    let x := (t.core site).seq
    if x.tileGroup x.pc.toNat ∧ x.pc.toNat % 4 ≠ 0 then t.malformedAt site else t

/-- Whether a queue hands out the work of accepted items: it runs or was stopped by a refusal, or goes on to its next PREEMPT_POINT
and with the items before it (09 R369, R396, R397). -/
def QueueSt.goes (x : QueueSt) : Bool :=
  decide (x.st = .running) || decide (x.st = .stopped) ||
    (decide (x.st = .preempting) && (match x.preReq with | .atPoint => true | .past _ => true | _ => false))

/-! ## The save area (04 R179 to R181, 06 R265) -/

/-- B(x) (04 R179, 16, section table CONTEXTS). -/
def State.saveBase (s : State) (x : Nat) : Nat :=
  match s.start.img.saveBase with
  | none => 0xD000000000 + x * 0xC0000000
  | some l => (l[x]?).getD 0
/-- The save region of a context on a logical core (04 R179). -/
def State.saveRegion (s : State) (x lcore : Nat) : Nat := s.saveBase x + lcore * 0x210000

/-- TS_XCAP0 (04 R193). -/
def xcapWord : Option XCap → Nat
  | none => 0
  | some x => 2 ^ 31 + x.kind * 2 ^ 29 + x.acc * 2 ^ 27 + x.m * 2 ^ 14 + x.n * 2 ^ 7 + x.k
/-- TS_FLAGS (04 R193). -/
def flagsWord (f : Flags) : Nat :=
  32 * b01 f.inv + 16 * b01 f.ovf + 8 * b01 f.unf + 4 * b01 f.nanIn + 2 * b01 f.nonfinite + b01 f.inexact
/-- TS_STATE (04 R193). -/
def TileState.stateWord (t : TileState) : Nat := b01 t.interrupted * 2 ^ 31 + t.lbank * 2 ^ 29 + b01 t.insnInv * 2 ^ 28

/-- The sixteen TS_ words in ascending register offset (04 R180, R193). -/
def TileState.words (t : TileState) : List Nat :=
  [t.rowStart, t.krowStart, t.stateWord, (t.stamp 0).word, (t.stamp 1).word, (t.stamp 2).word, (t.stamp 3).word,
   xcapWord t.xcap, (match t.xcap with | some x => x.tag.toNat | none => 0), t.xcount, flagsWord t.flags,
   twF t.insn 31 0, twF t.insn 63 32, twF t.insn 95 64, twF t.insn 127 96]

/-- A bank by logical row and column (04 R180, 03 R754). -/
def bankBytes (a : ArrayState) (bank : Nat) : List Byte :=
  ((List.range 9216).map fun i => natLe 2 (a.latch bank i).toNat).flatten
/-- The wide sign bits (04 R180). -/
def signBytes (a : ArrayState) : List Byte :=
  (List.range 1152).map fun b => BitVec.ofNat 8 ((List.range 8).map fun i => b01 (a.signBit (8 * b + i)) * 2 ^ i).sum

/-- The sequencer's part of the save area (06 R265). -/
def seqBytes (x : SeqState) (r : Run) : List Byte :=
  (x.s.toList.map fun v => natLe 8 v.toNat).flatten ++
    ((List.range 8).map fun i => natLe 8 (x.preg i).toNat).flatten ++ natLe 4 x.pc.toNat ++ natLe 4 (b01 r.vflags) ++
    natLe 8 (if r.job then r.inst + (r.count - 1) * 65536 else 0) ++ natLe 8 r.image ++ natLe 4 r.ilen

def padTo (n : Nat) (bs : List Byte) : List Byte := bs ++ List.replicate (n - bs.length) 0

/-- The save area's contents in order, each with its size (04 R180). -/
def saveParts (k : Core) (r : Run) : List (List Byte × Nat) :=
  [(tileElems k.tile 0, 0x1E000), (tileElems k.tile 1, 0x1E000), (tileElems k.tile 2, 0x1E000),
   (tileElems k.tile 3, 0x1E000), (bankBytes k.arr 1, 0x4800), (bankBytes k.arr 2, 0x4800),
   ((k.tile.words.map fun w => natLe 4 w).flatten, 0x40), (signBytes k.arr, 0xFC0),
   ((k.seq.v.toList.map fun v => (v.toList.map fun w => natLe 4 w.toNat).flatten).flatten, 0x2000),
   (seqBytes k.seq r, 0x1000), ((k.tile.masks.toList.map fun m => natLe 32 m.toNat).flatten, 0xB000)]

def saveArea (k : Core) (r : Run) : List Byte := ((saveParts k r).map fun p => padTo p.2 p.1).flatten

/-- The parts of a save area and its image whose contents a MATMUL's engine chooses (09 R749): tiles and banks, wide signs, vector,
scalar and predicate registers but p0, and core memory. -/
def matOpen (extent : Nat) : List (Nat × Nat) :=
  [(0, 0x81000), (0x81040, 0x814C0), (0x82000, 0x84100), (0x84108, 0x84140), (0x90000, 0x90000 + 64 * extent)]

/-- A core's context saved: the save area and the core-memory image (04 R178 to R182). -/
def State.saveCore (s : State) (site lcore : Nat) (k : Core) (r : Run) : State :=
  let base := s.saveRegion r.ctx lcore
  let t := (s.write base (saveArea k r)).write (base + 0x90000) (s.bytes (coreAddr site 0) (64 * r.extent))
  if r.job then t else (matOpen r.extent).foldl (fun t p => t.forget (base + p.1) (base + p.2)) t

/-! ## CONTEXT_SAVE -/

/-- The tile instructions still to do after a save: the oldest incomplete TMM with the keeper rows and runner rows that it has, a TACCRD
with its rows, and every later TMM to be issued again in full (04 R185 to R189). -/
def TileState.parked (t : TileState) : List Pass :=
  let old := (t.queue.find? Pass.unbegun).map Pass.issue
  t.queue.map fun (x : Pass) =>
    if !x.isTmm then { x with upto := none }
    else if some x.issue = old then
      { x with keeper := [], phase := if 96 ≤ x.krow then .loaded else .waiting, reuse := decide (96 ≤ x.krow) }
    else { x with phase := .waiting, reuse := false, bank := 0, row := 0, krow := 0, keeper := [], kscales := [], sums := [] }

/-- What a saved core carries beside its save area (log 18). -/
def savedRun (lcore : Nat) (r : Run) (k : Core) : SavedRun :=
  { lcore := lcore, run := r, issueNo := k.tile.issueNo, xcap := k.tile.xcap, xcount := k.tile.xcount, fl := k.tile.flags
    epoch := k.arr.epoch, queue := k.tile.parked, nans := k.tile.nans }

/-- An item with one more saved core; it is saved when none of its cores runs (09 R396). -/
def Item.addSaved (i : Item) (x : SavedRun) : Item :=
  match i.work with
  | .job w => { i with work := .job { w with saved := w.saved ++ [x] } }
  | .matmul w => { i with work := .matmul { w with saved := w.saved ++ [x] } }
  | _ => i

/-- CONTEXT_SAVE: a core that a preemption has stopped and that has drained saves its context, and is free (04 R178, 06 R263,
R265). -/
def execContextSave (c : Site) (s : State) : Answer :=
  .next (let k := s.core c
    match k.seq.run, s.lcoreOf c with
    | some r, some lc =>
      match s.item? r.q r.k with
      | none => s
      | some i =>
        if k.seq.phase ≠ .stopping ∨ !k.seq.slots.isEmpty ∨ (k.tile.queue.any fun x => !x.sums.isEmpty) ∨ i.status ≠ 0 ∨
            k.arr.auditRun.isSome ∨ (s.queue r.q).st ≠ .preempting then s
        else
          let t := (s.saveCore c lc k r).mapItem r.q r.k (·.addSaved (savedRun lc r k))
          ((t.putCore c { k.freed with arr := k.arr.clearLatches })).settleSave r.q r.k
    | _, _ => s)

/-! ## Restore -/

/-- A failure to read the save area or the image (04 R183). -/
def State.saveFail (s : State) (base extent : Nat) : Option Fail :=
  ((linesOf base 0x90000) ++ linesOf (base + 0x90000) (64 * extent)).findSome? fun l =>
    if s.isUe l then some (failEcc l) else none

/-- The instructions of a restored queue, presented in cycle `i`: the recorded one as TS_INSN and the other TS_ registers give it, and
none where they record none (04 R190). A TMM that an audit sent back to its keeper load keeps its own row (log 76). -/
def restoreQueue (t : TileState) (i : Int) (l : List Pass) : List Pass :=
  (l.filter fun x => !x.recorded || t.interrupted).map fun x =>
    let y := { x with cycI := i }
    if !x.recorded then y
    else if twTop t.insn = 1 then
      { y with word := t.insn, inv := t.insnInv, krow := t.krowStart, bank := t.lbank,
               row := if t.krowStart < 96 then x.row else t.rowStart,
               reuse := decide (96 ≤ t.krowStart), phase := if 96 ≤ t.krowStart then .loaded else .waiting }
    else { y with word := t.insn, inv := t.insnInv, row := t.rowStart }

/-- The tile state that a save area holds; the captured event keeps its issue number (04 R180, R190). The tiles of a MATMUL are its
engine's own (09 R749). -/
def State.readTile (s : State) (base : Nat) (x : SavedRun) : TileState :=
  let ts := fun i => s.num (base + 0x81000 + 4 * i) 4
  let t := (List.range 4).foldl (fun t a =>
    (if x.run.job then restoreElems t a fun i => s.num (base + 0x1E000 * a + 5 * i) 5 else t).setStamp a (stampOf (ts (3 + a))))
    TileState.reset
  let cap := ts 7
  let t := { t with
    nans := x.nans
    rowStart := bitsOf (ts 0) 8 0
    krowStart := bitsOf (ts 1) 6 0
    interrupted := (ts 2).testBit 31
    lbank := bitsOf (ts 2) 30 29
    insnInv := (ts 2).testBit 28
    xcap := if cap.testBit 31 then
      some ⟨(x.xcap.map XCap.issue).getD 0, bitsOf cap 21 14, bitsOf cap 13 7, bitsOf cap 6 0, bitsOf cap 30 29,
        bitsOf cap 28 27, BitVec.ofNat 32 (ts 8)⟩ else none
    xcount := bitsOf (ts 9) 15 0
    flags := { inv := (ts 10).testBit 5, ovf := (ts 10).testBit 4, unf := (ts 10).testBit 3, nanIn := (ts 10).testBit 2,
               nonfinite := (ts 10).testBit 1, inexact := (ts 10).testBit 0 }
    insn := BitVec.ofNat 128 (s.num (base + 0x8102C) 16)
    masks := Vector.ofFn fun i : Fin 16 => BitVec.ofNat 256 (s.num (base + 0x85000 + 32 * i.val) 32)
    issueNo := x.issueNo }
  { t with queue := restoreQueue t s.aclk x.queue }

/-- The keeper banks and sign bits that a save area holds (04 R180, 03 R133). -/
def State.readArray (s : State) (base : Nat) (a : ArrayState) : ArrayState :=
  let b := fun off i => s.num (base + off + 2 * i) 2
  (List.range 9216).foldl (fun a i =>
    { a with k0 := tput none a.k0 i (some (BitVec.ofNat 16 (b 0x78000 i)))
             k1 := tput none a.k1 i (some (BitVec.ofNat 16 (b 0x7C800 i)))
             wsign := tput none a.wsign i (some ((s.num (base + 0x81040 + i / 8) 1).testBit (i % 8))) })
    { a.clearLatches with pipe := Pipe.drained s.aclk }

/-- The sequencer's state that a save area holds, its image loaded again, its wake latch all ones (06 R263, R265, 10
R422). -/
def State.readSeq (s : State) (base : Nat) (x : SavedRun) (k : SeqState) : SeqState :=
  let at8 := fun off => s.num (base + off) 8
  let ins := at8 0x84148
  let r := { x.run with vflags := (s.num (base + 0x84144) 1).testBit 0, inst := ins % 65536, count := bitsOf ins 31 16 + 1,
                        image := at8 0x84150, ilen := s.num (base + 0x84158) 4 }
  { SeqState.reset with
    phase := .running, halted := k.halted, run := some r, imem := s.imemOf r.image r.ilen
    pc := BitVec.ofNat 14 (s.num (base + 0x84140) 4)
    s := Vector.ofFn fun i : Fin 32 => BitVec.ofNat 64 (at8 (0x84000 + 8 * i.val))
    p := Vector.ofFn fun i : Fin 8 => BitVec.ofNat 64 (at8 (0x84100 + 8 * i.val))
    v := Vector.ofFn fun i : Fin 32 => Vector.ofFn fun l : Fin 64 =>
      BitVec.ofNat 32 (s.num (base + 0x82000 + 256 * i.val + 4 * l.val) 4)
    wake := BitVec.allOnes 16, outbox := k.outbox }

/-- A core that works for a MATMUL: what its engine stages leaves its keeper banks and the extent in core memory open (09 R749).
CORE_SEQ_STATUS shows it as running, with PC 0, where the spec says nothing (DESIGN CHOICE, log 73). -/
def State.matCore (s : State) (site : Nat) (r : Run) (t : TileState) (wake : BitVec 16) : State :=
  let c := s.core site
  (s.putCore site { arr := { c.arr.clearLatches with base := some s.freeCount, k0 := [], k1 := [], wsign := [] }
                    tile := t
                    seq := { SeqState.reset with phase := .running, halted := c.seq.halted, run := some r, wake := wake,
                                                 outbox := c.seq.outbox } }).forget
    (coreAddr site 0) (coreAddr site (64 * r.extent))

/-- Why a saved core cannot be restored: its save area or image, or a JOB's program, cannot be read (04 R183, 06 R263). -/
def State.restoreFail (s : State) (x : SavedRun) : Option Fail :=
  let base := s.saveRegion x.run.ctx x.lcore
  match s.saveFail base x.run.extent with
  | some f => some f
  | none => if x.run.job then s.imageFail (s.num (base + 0x84150) 8) (s.num (base + 0x84158) 4) else none

/-- A saved JOB instance restored on its core (04 R183, R184, R190): its tile instructions go on by themselves. -/
def State.restoreJob (s : State) (site : Nat) (x : SavedRun) : State :=
  let base := s.saveRegion x.run.ctx x.lcore
  let c := s.core site
  let t := s.putCore site { arr := s.readArray base c.arr, tile := s.readTile base x, seq := s.readSeq base x c.seq }
  (t.write (coreAddr site 0) (s.bytes (base + 0x90000) (64 * x.run.extent))).tilesOn site

/-- A staged runner tile of a MATMUL that a promotion has made stale is restaged before its next pass, and counted; a transposed runner
is not staged (03 R128, 04 R192, 05 R198). -/
def State.restageMat (s : State) (site : Nat) (i : Item) (x : SavedRun) : State :=
  let k := s.core site
  match i.passes[x.run.done]? with
  | some p =>
    if p.use.tr ∨ x.epoch = k.arr.epoch ∨ i.regionRows x.run.inst = [] then s
    else (s.putCore site { k with arr := { k.arr with restages := sat32 k.arr.restages 1 } }).tallyAdd 0xA0 1
  | none => s

/-- A saved MATMUL core restored: its masks, stamps, flags and captured event, and its region in progress (04 R190, R192, 10 R422). -/
def State.restoreMat (s : State) (q k site : Nat) (x : SavedRun) : State :=
  let base := s.saveRegion x.run.ctx x.lcore
  let t := s.matCore site x.run (s.readTile base x) (BitVec.allOnes 16)
  match t.item? q k with
  | some i => t.restageMat site i x
  | none => t

/-- An item without one of its saved cores. -/
def Item.dropSaved (i : Item) (lcore : Nat) : Item :=
  match i.work with
  | .job w => { i with work := .job { w with saved := w.saved.filter fun x => decide (x.lcore ≠ lcore) } }
  | .matmul w => { i with work := .matmul { w with saved := w.saved.filter fun x => decide (x.lcore ≠ lcore) } }
  | _ => i

/-- A saved core that cannot be restored: as on a lost core (14 R565, R566, R569). -/
def State.loseSaved (s : State) (q k : Nat) (x : SavedRun) : State :=
  let t := s.mapItem q k fun i => { i.dropSaved x.lcore with fl := i.fl.or x.fl }
  match t.item? q k with
  | none => t
  | some i => if t.mayRetry i q x.lcore then t.mapItem q k (·.again x.run.inst x.lcore) else t.failItem q k (failLost x.lcore)

/-- One saved core of a resumed item: on its logical core when that is free, later when it is not free or throttled, and as on a
lost core when it is no longer present or not enabled (04 R184, 14 R569, 21 R740). One that cannot be read fails the item (04
R183). -/
def State.resumeRun (s : State) (q k : Nat) (x : SavedRun) : State :=
  match s.siteOf x.lcore with
  | none => s.loseSaved q k x
  | some site =>
    if !(s.enabledOn (x.lcore / 60)).elem x.lcore then s.loseSaved q k x
    else if !s.coreRuns x.lcore ∨ (s.core site).seq.run.isSome ∨ (s.core site).arr.held ∨ 4 ≤ (s.core site).seq.outbox.length then s
    else match s.restoreFail x with
      | some f => s.failItem q k f
      | none =>
        let t := s.mapItem q k (·.dropSaved x.lcore)
        if x.run.job then t.restoreJob site x else t.restoreMat q k site x

/-- Every saved core of an item, until one has failed it (04 R183, R184, 06 R262). -/
def State.resumeItem (s : State) (q k : Nat) : State :=
  match s.item? q k with
  | none => s
  | some i => i.savedRuns.foldl (fun t x =>
      match t.item? q k with
      | some j => if j.status = 0 then t.resumeRun q k x else t
      | none => t)
      (s.mapItem q k fun j => if j.phase = .saved then { j with phase := .running } else j)

/-- INSTANCE_START: the next instance of a JOB begins on a free core (06 R259, R260); a core whose saved part of the item
waits for it goes on with that part instead (04 R184, 21 R740). -/
def execInstanceStart (q : Queue) (k : Nat) (c : Site) (s : State) : Answer :=
  .next (match s.item? q k with
    | none => s
    | some i =>
      match i.work with
      | .job w =>
        if !i.live || decide (i.status ≠ 0) || !(s.queue q).goes || !s.coreFree q c then s
        else match w.saved.find? fun x => decide (s.siteOf x.lcore = some c.val) with
          | some x => s.resumeRun q k x
          | none =>
            if w.started < i.fld 24 4 then
              (s.mapItem q k fun j => { j with work := .job { w with started := w.started + 1 } }).beginInstance q c w.started i
            else s
      | _ => s)

/-! ## Regions of a MATMUL and the retry -/

/-- The mask that the engine loads for a region (05 R214). The bits of rows beyond the region have no effect (05 R209) and are
free. -/
def regionMask (i : Item) (r base : Nat) : BitVec 256 :=
  let rows := i.regionRows r
  let n := (i.area r).rows
  BitVec.ofNat 256 ((List.range 256).foldl (fun v m =>
    v + b01 (if m < n then rows.elem m else (Config.free base (8 + m)).testBit 0) * 2 ^ m) 0)

/-- The engine's staging of a region on the core: the stamps it leaves and the mask register that it loads are its own choice
(09 R749); what it loads there is the region's mask (05 R214). -/
def State.stageMarks (s : State) (site : Nat) (i : Item) (region : Nat) : State :=
  let k := s.core site
  let st := fun j : Fin 4 => stampOf (Config.free s.freeCount (2 + j.val))
  let masks := if i.matCmd.maskForm = 0 then k.tile.masks
    else vset k.tile.masks (Config.free s.freeCount 7 % 16) (regionMask i region s.freeCount)
  let run := k.seq.run.map fun r => { r with inst := region, done := 0, sums := [], base := s.freeCount }
  (s.putCore site { k with tile := { k.tile with stamps := Vector.ofFn st, masks := masks }
                           seq := { k.seq with run := run } }).setFreeCount (s.freeCount + 1)

/-- A core takes a region of a MATMUL: its run, with the region as instance, and the engine's staging (09 R356, R749). -/
def State.takeRegion (s : State) (q site region : Nat) (i : Item) : State :=
  let r : Run := { q := q, k := i.k, ctx := i.ctx, extent := extentOf (i.fld 20 4), job := false,
                   inst := region, count := 0, vflags := false, seed := BitVec.ofNat 64 (i.fld 48 8), trap := i.trap,
                   tag := i.tag, image := 0, ilen := 0 }
  (s.matCore site r TileState.reset 0).stageMarks site i region

/-- The lost work that a core may take over: the core is another one than the lost (14 R565). -/
def State.lostFor (s : State) (site : Nat) (l : List Lost) : Option Lost :=
  l.find? fun x => decide (s.lcoreOf site ≠ some x.lcore)

/-- ITEM_RETRY: the lost core's work restarts from its beginning on another free core, and is logged (14 R565, R567). -/
def execItemRetry (q : Queue) (k : Nat) (c : Site) (s : State) : Answer :=
  .next (match s.item? q k with
    | none => s
    | some i =>
      if !i.live || decide (i.status ≠ 0) || !(s.queue q).goes || !s.coreFree q c then s
      else match i.work with
        | .job w =>
          match s.lostFor c w.again with
          | none => s
          | some n =>
            ((s.mapItem q k fun j => { j with work := .job { w with again := w.again.erase n } }).logEvent 0x12 1 c 1 k q).beginInstance
              q c n.inst i
        | .matmul w =>
          match s.lostFor c w.again with
          | none => s
          | some n =>
            ((s.mapItem q k fun j => { j with work := .matmul { w with again := w.again.erase n } }).logEvent 0x12 1 c 1 k q).takeRegion
              q c n.inst i
        | _ => s)

end Sys2Proof.Machine
end

