-- ==== Sys2Proof/Machine/Queues.lean ====
section
/-!
DEFINITION. Queues: acceptance of a list (09 R364 to R373), which item starts next (R347, R374), the common part of a start
(R353, R354, R371), the items that only order others (R374: NOP, FENCE, SIGNAL, WAIT, BARRIER, PREEMPT_POINT), completion and
records (R376, R385 to R391), deadlines (R393, R394), and the queue commands (R364, R396 to R401, 14 R573, 07 R290).
-/
namespace Sys2Proof.Machine

/-! ## Acceptance -/

/-- The LENGTH that an opcode takes in 16-byte units (09, opcode table); a MATMUL takes 5 + 3U. -/
def lengthOk (op len : Nat) : Bool :=
  if op = 0x01 ∨ op = 0x05 ∨ op = 0x06 ∨ op = 0x22 ∨ (0x30 ≤ op ∧ op ≤ 0x33) ∨ op = 0x40 then len == 2
  else if op = 0x02 ∨ op = 0x03 ∨ op = 0x04 ∨ op = 0x07 ∨ op = 0x08 ∨ op = 0x41 then len == 1
  else if op = 0x10 then decide (8 ≤ len) && decide (len ≤ 53) && (len - 5) % 3 == 0
  else if op = 0x11 then len == 4
  else if op = 0x20 then len == 3
  else if op = 0x21 then len == 5
  else false

/-- Opcodes that an engine accepts (01 R37, 09, opcode table). -/
def opcodeOk (e op : Nat) : Bool :=
  (decide (1 ≤ op) && decide (op ≤ 8)) ||
  (if e < 8 then op == 0x10 || op == 0x11
   else if e = 8 then decide (0x20 ≤ op) && decide (op ≤ 0x22)
   else if e = 9 then decide (0x30 ≤ op) && decide (op ≤ 0x33)
   else op == 0x40 || op == 0x41)

/-- Whether a line of a list can be read under the context's active windows (check 0x04 of 09 R369). -/
def State.listLine (s : State) (ctx a : Nat) : Bool :=
  (s.checkLine (s.ctx ctx).active rightX a).isNone && !s.isUe a

/-- What one reading of a list found: failed checks with their offsets, its commands as offset and header, and the offset of
its LINK, and the lines that it read as uncorrectable. -/
structure Walk where
  fails : List (Nat × Nat)
  cmds : List (Nat × Nat)
  link : Option Nat
  ue : List Nat
  deriving DecidableEq, Repr

def Walk.fail (w : Walk) (reason off : Nat) : Walk := { w with fails := (reason, off) :: w.fails }
def Walk.failIf (w : Walk) (b : Bool) (reason off : Nat) : Walk := if b then w.fail reason off else w

/-- The uncorrectable lines among those of a reading, which are reported (07 R297, R307). -/
def State.listUe (s : State) (ctx : Nat) (as : List Nat) : List Nat :=
  (as.map lineOf).filter fun a => (s.checkLine (s.ctx ctx).active rightX a).isNone && s.isUe a
def Walk.met (w : Walk) (as : List Nat) : Walk := { w with ue := (w.ue ++ as).eraseDups }

/-- OPCODE, FLAGS, LENGTH and TAG of a header held as a number (09 R348). -/
def hdrOp (h : Nat) : Nat := bitsOf h 7 0
def hdrFlags (h : Nat) : Nat := bitsOf h 15 8
def hdrLen (h : Nat) : Nat := bitsOf h 31 16
def hdrTag (h : Nat) : Nat := bitsOf h 63 32

/-- Every line of a command but its first. -/
def State.restReadable (s : State) (ctx a len : Nat) : Bool :=
  (linesOf a (16 * len)).all fun l => decide (l = lineOf a) || s.listLine ctx l

/-- The walk over a list's commands after its LIST; `n` commands may still come (09 R349, R369). A command that cannot be
read, or whose LENGTH is 0 or above 256, ends it. -/
def walkList (s : State) (base ctx e : Nat) : Nat → Nat → Walk → Walk
  | 0, _, w => w
  | n + 1, off, w =>
    let a := base + 16 * off
    if !s.listLine ctx a then (w.met (s.listUe ctx [a])).fail 4 off
    else
      let h := s.num a 8
      let op := hdrOp h
      let len := hdrLen h
      let w := w.failIf (!opcodeOk e op || op == 1) 5 off
      let w := w.failIf (opcodeOk e op && !lengthOk op len || decide (256 < len)) 6 off
      let w := w.failIf (decide (bitsOf (hdrFlags h) 7 4 ≠ 0)) 9 off
      let w := (w.met (s.listUe ctx (linesOf a (16 * min len 256)))).failIf (!s.restReadable ctx a (min len 256)) 4 off
      if op = 2 then { w with link := some off }
      else if len = 0 ∨ 256 < len then w.fail 6 off
      else
        let w := { w with cmds := w.cmds ++ [(off, h)] }
        if n = 0 then w.fail 7 off else walkList s base ctx e n (off + len) w

/-- The checks of a LIST command at the list's start (09 R354, R369). -/
def State.listHead (s : State) (q base : Nat) : Walk :=
  let h := s.num base 8
  let c := s.num (base + 8) 1
  let w : Walk := ⟨[], [], none, []⟩
  let w := w.failIf (decide (hdrOp h ≠ 1)) 1 0
  let w := w.failIf (decide (BitVec.ofNat 64 (s.num (base + 16) 8) ≠ BitVec.ofNat 64 (s.queue q).lseq)) 2 0
  let w := w.failIf (decide (s.ctxOwner (c % 64) ≠ s.qOwner q)) 3 0
  let w := w.failIf (decide (hdrLen h ≠ 2)) 6 0
  w.failIf (decide (bitsOf (hdrFlags h) 7 4 ≠ 0 ∨ 64 ≤ c ∨ 2 ≤ s.num (base + 9) 1 ∨ 4096 ≤ s.num (base + 10) 2 ∨
    s.num (base + 12) 4 ≠ 0 ∨ s.num (base + 30) 2 ≠ 0)) 9 0

/-- A list address that R367 allows. -/
def listAddrOk (a : Nat) : Bool := decide (a % 64 = 0) && decide (a < 2 ^ 42)

/-- The walk after a LIST, which goes on behind the LENGTH that the LIST holds (09 R348, R369). -/
def State.walkFrom (s : State) (q base ctx : Nat) (w : Walk) : Walk :=
  let len := hdrLen (s.num base 8)
  let w := (w.met (s.listUe ctx (linesOf base (16 * min len 256)))).failIf (!s.restReadable ctx base (min len 256)) 4 0
  if len = 0 ∨ 256 < len then w else walkList s base ctx (engineOf q) 4097 len w

/-- A list read in full with every check made (09 R369): a first line that cannot be read, or a bad address, ends it at
once. -/
def State.readList (s : State) (q base : Nat) : Walk :=
  if !listAddrOk base then ⟨[(8, 0)], [], none, []⟩
  else if (match s.region base with | .hole => true | .control => true | _ => false) || s.gatedAt base || s.isUe base then
    ⟨[(4, 0)], [], none, if s.gatedAt base || !s.isUe base then [] else [base]⟩
  else
    let ctx := s.num (base + 8) 1 % 64
    let w := s.listHead q base
    if !s.listLine ctx base then ⟨[(4, 0)], [], none, []⟩
    else if hdrOp (s.num base 8) ≠ 1 then w
    else s.walkFrom q base ctx w

/-- The lowest reason, at its lowest offset (09 R369). -/
def worst : List (Nat × Nat) → Option (Nat × Nat)
  | [] => none
  | x :: l => match worst l with
    | none => some x
    | some y => if x.1 < y.1 ∨ (x.1 = y.1 ∧ x.2 ≤ y.2) then some x else some y

/-- The items of an accepted list (09 R368, R375, R393; 04 R176). -/
def State.newItems (s : State) (q base : Nat) (cmds : List (Nat × Nat)) : List Item :=
  let ctx := s.num (base + 8) 1 % 64
  let due := s.num (base + 24) 8
  let head := s.num base 8
  let x := s.queue q
  (cmds.zip (List.range cmds.length)).map fun p =>
    let h := p.1.2
    { k := x.aseq + 1 + p.2, op := hdrOp h, iflags := hdrFlags h, len := hdrLen h, tag := BitVec.ofNat 32 (hdrTag h),
      addr := base + 16 * p.1.1, lseq := x.lseq, ctx := ctx, wins := (s.ctx ctx).active, gen := (s.ctx ctx).gen.toNat,
      csig := if (s.num (base + 9) 1).testBit 0 then some (s.num (base + 10) 2 % 4096) else none,
      due := if due = 0 then none else some (s.now.toNat + due),
      trap := (hdrFlags head).testBit 2 || (hdrFlags h).testBit 2, acceptDtc := s.now, boundarySeen := false,
      phase := .notStarted, cmd := [], work := .none, status := 0, fl := {}, saturated := false, retried := false,
      progress := 0, detail := 0, startDtc := none, endDtc := 0 }

/-- The place after a LINK word is read: a watch on it while it is zero, else the list that it names, whatever is written to the word
later (09 R365, R367). -/
def State.linkPos (s : State) (a : Nat) : QPos := if s.num a 8 = 0 then .watch a else .list (s.num a 8)

/-- A list accepted: sequence numbers, items and one ACCEPT record, in one step (09 R368, R379). -/
def State.acceptList (s : State) (q base : Nat) (w : Walk) (link : Nat) : State :=
  let x := s.queue q
  let items := s.newItems q base w.cmds
  (s.putQueue q { x with aseq := x.aseq + items.length, lseq := x.lseq + 1, items := x.items ++ items,
                         pos := s.linkPos (base + 16 * link + 8) }).post q
    (mkRecord (x.aseq + 1) q 1 0 0 (hdrTag (s.num base 8)) 0 items.length (x.lseq % 2 ^ 32))

/-- A list refused (09 R369, R380, R386). The record waits for every earlier final record. -/
def State.refuseList (s : State) (q base reason off : Nat) : State :=
  let x := s.queue q
  let isList := decide (reason ≠ 8) && decide (reason ≠ 1) && !(reason == 4 && off == 0)
  let r := mkRecord (x.aseq + 1) q 2 0x20 0 (if isList then hdrTag (s.num base 8) else 0) 0
    (if isList then s.num (base + 16) 4 else 0) (reason * 2 ^ 24 + off)
  let keep := decide (x.st = .preempting) || decide (x.st = .preempted)
  let y := { x with refuse := BitVec.ofNat 32 (reason * 2 ^ 24 + off), pos := .none,
                    st := if keep then x.st else .stopped, stopNext := x.stopNext || keep }
  if x.items = [] ∧ x.held = [] ∧ x.refusals = [] then (s.putQueue q y).post q r
  else s.putQueue q { y with refusals := x.refusals ++ [r] }

/-- A list at an address is accepted, refused, or, for 0x0A alone, waits for records to be released (09 R368 to R370). -/
def State.takeList (s : State) (q base : Nat) : State :=
  let w := s.readList q base
  match worst w.fails, w.link with
  | some f, _ => (w.ue.foldl (fun t a => t.ueRead a 2) s).refuseList q base f.1 f.2
  | none, none => s
  | none, some link =>
    if 4096 < (s.queue q).items.length + w.cmds.length then s else s.acceptList q base w link

/-- LIST_ACCEPTANCE: the engine goes on at its place in the chain: it reads the list given by START, or the LINK word, and
takes the list that it names (09 R364 to R369). -/
def execListAcceptance (q : Queue) (s : State) : Answer :=
  .next (let x := s.queue q
    if !s.serving || s.fault.alwaysOn || s.draining || decide (x.st = .closed ∨ x.st = .idle ∨ x.st = .stopped) then s
    else match x.pos with
      | .none => s
      | .watch _ => s
      | .list a => s.takeList q a
      | .link a =>
        let t := s.putQueue q { x with pos := s.linkPos a }
        if s.num a 8 = 0 then t else t.takeList q (s.num a 8))

/-! ## Which item starts next -/

def Item.unordered (i : Item) : Bool := i.iflags.testBit 1
/-- An item that has started. -/
def Item.begun (i : Item) : Bool := decide (i.phase ≠ .notStarted)

/-- The order of starts within a queue: without UNORDERED every earlier item has started, and an earlier WAIT has completed;
nothing starts beyond the next PREEMPT_POINT while one is asked for (09 R351, R374, R397). -/
def QueueSt.inOrder (x : QueueSt) (i : Item) : Bool :=
  (i.unordered || x.items.all fun j => decide (i.k ≤ j.k) || (j.begun && (decide (j.op ≠ 6) || decide (j.phase = .ended)))) &&
  !(decide (x.st = .preempting) && x.items.any fun j => decide (j.k < i.k) && decide (j.op = 8) && !j.begun) &&
  (match x.preReq with | .past k => decide (i.k < k) | _ => true)

/-- Every earlier item of the queue has completed (09 R374). -/
def QueueSt.earlierEnded (x : QueueSt) (i : Item) : Bool :=
  x.items.all fun j => decide (i.k ≤ j.k) || decide (j.phase = .ended)

/-- A KE item that is to wait for its turn: its BSEQ lies above NEXT_BSEQ and is no other item's (12 R506, R507). -/
def State.keWaits (s : State) (q : Nat) (i : Item) : Bool :=
  let h := s.num (i.addr + 8) 1
  let b := s.num (i.addr + 16) 8
  decide (h < 64) && s.keMember h i.ctx && decide ((s.keHerd h).next.toNat < b) && !s.bseqTaken h b q i.k

/-- The condition of each kind (09 R374, 10 R432, R442, 12 R506, 01 R44). -/
def State.kindReady (s : State) (q : Nat) (i : Item) : Bool :=
  let x := s.queue q
  if i.op = 0x04 ∨ i.op = 0x05 then i.unordered || x.earlierEnded i
  else if i.op = 0x07 then (i.unordered || x.earlierEnded i) && (s.barriersOf (s.num (i.addr + 8) 1 % 64)).isEmpty
  else if i.op = 0x10 ∨ i.op = 0x11 then
    (s.engineCores (engineOf q)).any fun c => match s.siteOf c with | some site => s.coreFree q site | none => false
  else if 0x30 ≤ i.op ∧ i.op ≤ 0x33 then !s.keWaits q i
  else if i.op = 0x40 then i.boundarySeen
  else if i.op = 0x41 then (i.unordered || x.earlierEnded i) && s.sync.run.isNone
  else true

/-- An item of a queue that could start now. -/
def State.ready (s : State) (q : Nat) (i : Item) : Bool :=
  let x := s.queue q
  x.goes && decide (i.phase = .notStarted) && decide (i.status = 0) && !i.late s.now && x.inOrder i && s.kindReady q i

def State.queueReady (s : State) (q : Nat) : Bool := (s.queue q).items.any fun i => s.ready q i

/-- The queues of an engine with an item that could start, each with its priority. -/
def State.contenders (s : State) (e : Nat) : List (Nat × Nat) :=
  (s.queues.filter fun x => decide (engineOf x.1 = e) && s.queueReady x.1).map fun x => (x.1, x.2.prio.toNat)

/-- Strict priority, then round robin by queue number from the queue whose turn it is (09 R347). -/
def State.turn (s : State) (q : Nat) : Bool :=
  let l := s.contenders (engineOf q)
  let p := (s.queue q).prio.toNat
  let t := tget 0 s.turns (4 * engineOf q + p)
  let rank := fun x => (x + 176 - t) % 176
  l.all fun y => decide (y.2 < p) || (decide (y.2 = p) && decide (rank q ≤ rank y.1))

/-- The item when it is the one that starts now. -/
def State.startable (s : State) (q k : Nat) : Option Item :=
  match s.item? q k with
  | none => none
  | some i => if s.serving && !s.draining && s.ready q i && s.turn q then some i else none

/-! ## The common part of a start -/

/-- A failure to read the command's operands: an address that does not exist any more, core memory of a site that has failed since
among them, a gated group, or an uncorrectable line (09 R372, 07 R268, R281, R297). -/
def State.cmdFail (s : State) (i : Item) : Option Fail :=
  (linesOf i.addr (16 * i.len)).findSome? fun l =>
    if s.region l = .hole then some (failWindow l) else if s.gatedAt l then some (failGated l)
    else if s.isUe l then some (failEcc l) else none

/-- A counter that the item's list names but its context may not use (10 R410). -/
def State.csigFail (s : State) (i : Item) : Option Fail :=
  i.csig.bind fun c => if s.mayUse c i.ctx then none else some (failCounter c)

/-- The first broken field of a command, by byte offset (09 R353, R354, R384); SR_SEED_PRESENT belongs to MATMUL and JOB. -/
def Item.badField (i : Item) (l : List (Nat × Bool)) : Option Fail :=
  if i.iflags.testBit 3 ∧ i.op ≠ 0x10 ∧ i.op ≠ 0x11 then some (failField 1)
  else (l.find? (·.2)).map fun p => failField p.1

/-- A zero field. -/
def Item.zero (i : Item) (off n : Nat) : Nat × Bool := (off, decide (i.fld off n ≠ 0))

/-- The item is marked started, its command read, and the engine's turn moves on (09 R347, R372, R381). -/
def State.begin (s : State) (q k : Nat) : State :=
  let p := (s.queue q).prio.toNat
  let t := s.setTurns (tput 0 s.turns (4 * engineOf q + p) (q + 1))
  t.mapItem q k fun i => { i with phase := .running, startDtc := some (i.startDtc.getD s.now), cmd := s.bytes i.addr (16 * i.len) }

/-- The start of an item of a kind: when it is the one that starts, its checks by fields, then its effect; a failing check
ends it (09 R371, R374). -/
def State.startItem (s : State) (q k op : Nat) (fields : Item → List (Nat × Bool)) (go : State → Item → State) : State :=
  match s.startable q k with
  | none => s
  | some i =>
    if i.op ≠ op then s
    else
      let t := s.begin q k
      match s.cmdFail i with
      | some f => t.failItem q k f
      | none =>
        match t.item? q k with
        | none => s
        | some j =>
          match j.badField (fields j), s.csigFail j with
          | some f, _ => t.failItem q k f
          | none, some f => t.failItem q k f
          | none, none => go t j

/-- An item's own work is set. -/
def State.setWork (s : State) (q k : Nat) (w : Work) : State := s.mapItem q k fun i => { i with work := w }

/-! ## NOP, FENCE, SIGNAL, WAIT, BARRIER, PREEMPT_POINT -/

/-- NOP (09 R374). -/
def execNop (q : Queue) (k : Nat) (s : State) : Answer :=
  .next (s.startItem q k 0x03 (fun i => [i.zero 8 8]) fun t _ => t.finishNow q k 1)

/-- FENCE (09 R374). -/
def execFence (q : Queue) (k : Nat) (s : State) : Answer :=
  .next (s.startItem q k 0x04 (fun i => [i.zero 8 8]) fun t _ => t.finishNow q k 1)

/-- SIGNAL: the increment is applied at completion (09 R374, R376, 10 R408, R410). -/
def execSignal (q : Queue) (k : Nat) (s : State) : Answer :=
  .next (s.startItem q k 0x05
    (fun i => [(8, decide (4096 ≤ i.fld 8 2)), i.zero 10 6, (16, decide (i.fld 16 8 = 0)), i.zero 24 8])
    fun t i =>
      let c := i.fld 8 2
      if !t.mayUse c i.ctx then t.failItem q k (failCounter c)
      else
        let r := (t.mapItem q k fun j => { j with progress := 1 }).endNow q k none
        r.1.ops ((c, BitVec.ofNat 64 (i.fld 16 8)) :: r.2))

/-- WAIT: a watch is registered; its release completes the item (09 R374, 10 R412 to R418). -/
def execWait (q : Queue) (k : Nat) (s : State) : Answer :=
  .next (s.startItem q k 0x06
    (fun i =>
      let c := i.fld 10 1
      let claim := c.testBit 2
      [(8, decide (4096 ≤ i.fld 8 2)), (10, decide (8 ≤ c ∨ c % 4 = 3) || (claim && decide (c % 4 = 2))), i.zero 11 5,
       (24, claim == decide (i.fld 24 8 = 0))])
    fun t i =>
      let c := i.fld 8 2
      let cond := i.fld 10 1
      if !t.mayUse c i.ctx then t.failItem q k (failCounter c)
      else
        (t.setWork q k .wait).register
          ⟨c, .item q k, BitVec.ofNat 64 (i.fld 16 8), cond % 4,
           if cond.testBit 2 then some (BitVec.ofNat 64 (i.fld 24 8)) else none, 0⟩)

/-- BARRIER: the device arrives at a fabric herd; the release completes the item (09 R374, 10 R427, R430 to R434). -/
def execBarrier (q : Queue) (k : Nat) (s : State) : Answer :=
  .next (s.startItem q k 0x07 (fun i => [(8, decide (64 ≤ i.fld 8 1)), i.zero 9 7])
    fun t i =>
      let h := i.fld 8 1
      let x := t.herd h
      if x.kind ≠ 2 ∨ x.ctx ≠ i.ctx then t.failItem q k (failField 8)
      else if !t.reachable x.master then t.failItem q k (t.failLink x.master)
      else (t.setWork q k (.barrier h x.gen)).arriveFabric h)

/-- PREEMPT_POINT: a NOP, but while a request waits for it the queue starts nothing beyond it, whether it completes or fails (09
R397; QueueSt.atPoint). -/
def execPreemptPoint (q : Queue) (k : Nat) (s : State) : Answer :=
  .next (s.startItem q k 0x08 (fun i => [i.zero 8 8]) fun t _ => t.finishNow q k 1)

/-! ## Completion and records -/

/-- The collector takes a core's completion of an item (09 R402). -/
def State.take1 (s : State) (q k site : Nat) : State :=
  let c := s.core site
  s.putCore site { c with seq := { c.seq with outbox := c.seq.outbox.filter (· ≠ (q, k)) } }

/-- The order of draining: by die row, and within one in ascending logical core order, a site without a number last (09 R403). -/
def State.drainKey (s : State) (site : Nat) : Nat := site / 384 * 2048 + (s.lcoreOf site).getD 2047

/-- A site put in its place in the order. -/
def State.drainInsert (s : State) (x : Nat) : List Nat → List Nat
  | [] => [x]
  | y :: l => if s.drainKey x ≤ s.drainKey y then x :: y :: l else y :: s.drainInsert x l

/-- The cores that hold a completion of an item, in the order in which the collector drains them (09 R403). -/
def State.drainOrder (s : State) (q k : Nat) : List Nat :=
  ((s.cores.filter fun e => e.2.seq.outbox.elem (q, k)).map (·.1)).foldr s.drainInsert []

/-- The collector drains an item's completions, one core at a time (09 R402, R403). -/
def State.collect (s : State) (q k : Nat) : State := (s.drainOrder q k).foldl (fun t x => t.take1 q k x) s

/-- A bucket's flag word, written before its item completes unless the item fails (12 R503). -/
def State.flagWord (s : State) (i : Item) : State × Option Fail :=
  match i.work with
  | .ke w =>
    if w.flagw = 0 ∨ i.status ≠ 0 ∨ i.late s.now then (s, none)
    else s.writeFor i.wins w.flagw (natLe 8 (w.bseq % 2 ^ 32 * 2 ^ 32 + w.result.getD 0))
  | _ => (s, none)

/-- ITEM_COMPLETION: an item whose work has ended completes; its status is decided and its signal sent (09 R375, R376). -/
def execItemCompletion (q : Queue) (k : Nat) (s : State) : Answer :=
  .next (let t := s.collect q k
    match t.item? q k with
    | some i =>
      if i.phase = .workDone then
        let w := t.flagWord i
        match w.2 with
        | some f => w.1.failItem q k f
        | none => let r := w.1.endNow q k none
                  r.1.ops r.2
      else t
    | none => t)

/-- RECORD_RELEASE (09 R385, R386). -/
def execRecordRelease (q : Queue) (s : State) : Answer := .next (if s.started then s.releaseRecord q else s)

/-- COMPLETION_RING_RETRY: a held record is tried again every 100,000 ticks (09 R388). -/
def execCompletionRingRetry (q : Queue) (s : State) : Answer :=
  .next (let x := s.queue q
    if s.started ∧ x.ringHeld ∧ 100000 ≤ (s.now - x.heldAt).toNat then (s.putQueue q { x with heldAt := s.now }).drain q else s)

/-- IRQ_HOLD_EXPIRY: HOLD ticks after the first record since the last message (09 R391). -/
def execIrqHoldExpiry (q : Queue) (s : State) : Answer :=
  .next (let x := s.queue q
    let hold := bitsOf x.irq.toNat 11 0
    match x.irqFirst with
    | some t =>
      if x.irq.toNat.testBit 31 ∧ 0 < hold ∧ hold ≤ (s.now - t).toNat then
        (s.putQueue q { x with irqCount := 0, irqFirst := none }).msix (s.qOwner q) (bitsOf x.irq.toNat 30 20)
      else s
    | none => s)

/-- DEADLINE of list `l`: each of its items without a final status ends FAILED_DEADLINE, stopped at its stop point where it
runs; a STREAM item that runs is not stopped, and its completion is stamped too late (09 R393, R394, R400). -/
def execDeadline (q : Queue) (l : Nat) (s : State) : Answer :=
  .next (let late := (s.queue q).items.filter fun i =>
      decide (i.lseq = l) && i.undecided && i.late s.now && !(i.live && decide (i.op = 0x22))
    if s.serving then
      late.foldl (fun t i => t.failItem q i.k ⟨0x14, 0, none⟩) (s.withdrawAll (s.waitsFor (late.map fun i => (q, i.k))))
    else s)

/-! ## Queue commands -/

/-- The whole ring lies in HBM or LPDDR5X and bits [62:42] of its base are zero, or it lies with the host (09 R388, R404). -/
def State.ringOk (s : State) (x : QueueSt) : Bool :=
  let size := 32 * 2 ^ x.log2
  let base := x.cqBase.toNat % 2 ^ 63 / size * size
  x.hostRing || (decide (x.cqBase.toNat < 2 ^ 42) &&
    (decide (base + size ≤ hbmTop) || (decide (lpBase ≤ base) && decide (base + size ≤ localTop)))) &&
    (match s.region base with | .hole => false | _ => true)

/-- START, in IDLE or STOPPED (09 R364, R388, R389, R401). -/
def execStart (p : Port) (q : Queue) (s : State) : Answer :=
  .next (let x := s.queue q
    if s.commanding ∧ s.qOwner q = p ∧ (x.st = .idle ∨ x.st = .stopped) ∧ s.ringOk x then
      let y := if x.st = .idle then { x with head := 0, written := 0 } else x
      s.putQueue q { y with st := .running, pos := .list x.start.toNat }
    else s)

/-- PREEMPT_AT_POINT takes effect (09 R397). -/
def State.askPoint (s : State) (q : Nat) : State :=
  s.putQueue q { s.queue q with st := .preempting, preReq := .atPoint }

/-- PREEMPT_NOW takes effect on a compute-engine queue: every core that runs a MATMUL or JOB of it is stopped to be saved, and
an item that no core runs is saved at once (09 R396). -/
def State.askNow (s : State) (q : Nat) : State :=
  let s := s.putQueue q { s.queue q with st := .preempting, preReq := .now }
  let runs := (s.queue q).items.filter fun i => i.live && (decide (i.op = 0x10) || decide (i.op = 0x11))
  let s := s.withdrawAll (s.waitsFor (runs.map fun i => (q, i.k)))
  runs.foldl (fun t i => ((t.sitesOf q i.k).foldl (fun u c => u.stopSave c) t).settleSave q i.k)
    (s.putQueue q (s.queue q).settle)

/-- PREEMPT_NOW, in RUNNING or WAITING; at a point on XE, KE and UE (09 R396, R401). -/
def execPreemptNow (p : Port) (q : Queue) (s : State) : Answer :=
  .next (if s.serving ∧ s.qOwner q = p ∧ (s.queue q).st = .running then
      (if engineOf q < 8 then s.askNow q else s.askPoint q)
    else s)

/-- PREEMPT_AT_POINT, in RUNNING or WAITING (09 R397, R401). -/
def execPreemptAtPoint (p : Port) (q : Queue) (s : State) : Answer :=
  .next (if s.serving ∧ s.qOwner q = p ∧ (s.queue q).st = .running then s.askPoint q else s)

/-- RESUME, in PREEMPTED: saved items go on, and the queue runs, or stops where a refusal waited for it (09 R369, R398). -/
def execResume (p : Port) (q : Queue) (s : State) : Answer :=
  .next (let x := s.queue q
    if s.serving ∧ s.qOwner q = p ∧ x.st = .preempted then
      let t := s.putQueue q { x with st := if x.stopNext then .stopped else .running, stopNext := false, preReq := .none }
      (x.items.filter fun i => decide (i.phase = .saved)).foldl (fun u i => u.resumeItem q i.k) t
    else s)

/-- ABORT, in PREEMPTED: every saved item and every item not started ends FAILED_PREEMPT_ABORT; STOPPED (09 R369, R399). -/
def execAbort (p : Port) (q : Queue) (s : State) : Answer :=
  .next (let x := s.queue q
    if s.serving ∧ s.qOwner q = p ∧ x.st = .preempted then
      let t := s.putQueue q { x with st := .stopped, stopNext := false, preReq := .none, pos := .none }
      (x.items.filter fun i => decide (i.phase = .saved ∨ i.phase = .notStarted)).foldl
        (fun u i => u.failItem q i.k ⟨0x1C, 0, none⟩) t
    else s)

/-- CQ_HEAD_WRITE: HEAD taken unless it lies beyond TAIL or more than a ring behind it; records that wait are tried again (09
R388, R390, R404). -/
def execCqHeadWrite (p : Port) (q : Queue) (v : Word) (s : State) : Answer :=
  .next (let x := s.queue q
    if s.barOpen ∧ s.qOwner q = p then
      (if (BitVec.ofNat 32 x.written - v).toNat ≤ 2 ^ x.log2 then s.putQueue q { x with head := v } else s).drain q
    else s)

/-- Items of a context accepted under an earlier window set and not yet released (07 R291). -/
def State.commitBusy (s : State) (x : Nat) : Bool :=
  s.queues.any fun e => e.2.items.any fun i => decide (i.ctx = x) && decide (i.gen ≠ (s.ctx x).gen.toNat)

/-- QE_WIN_COMMIT_GO: the pending set becomes active (07 R289 to R291). -/
def execQeWinCommitGo (p : Port) (x : Ctx) (s : State) : Answer :=
  .next (if s.barOpen ∧ s.ctxOwner x = p ∧ !s.commitBusy x then
      s.putCtx x { s.ctx x with active := (s.ctx x).pending, gen := (s.ctx x).gen + 1 }
    else s)

/-- QE_Q_TAKE_GO: a rebase after a takeover (14 R573, R576). -/
def execQeQTakeGo (p : Port) (q : Queue) (s : State) : Answer :=
  .next (let x := s.queue q
    if s.barOpen ∧ s.qOwner q = p ∧ x.rebase then
      (s.putQueue q { x with rebase := false, head := 0, written := 0 }).drain q
    else s)

end Sys2Proof.Machine
end

