-- ==== Sys2Proof/Machine/VecMem.lean ====
section
/-!
DEFINITION. Vector memory, conversion and reduction instructions of a core program (06 R231, R234, R238 to R243, R252).
-/
namespace Sys2Proof.Machine

/-! ## Vector memory -/

/-- VLD: 256 bytes at s(A) + 64 IMM, lane l at offset 4l; its form has no predicate field, so p0 applies (06 R231, R252;
log 19). -/
def execVld (c : Site) (d a : Reg) (imm : BitVec 12) (s : State) : Answer :=
  .next (s.issueAt c (encRI 5 0x00 d a imm.toNat) fun k r =>
    let m := effAddr k.seq a 64 imm
    s.withMem c (s.coreCheck c r m 256 4 false)
      (s.writeV c d (k.seq.lanes d 0 fun l => BitVec.ofNat 32 (s.num (coreAddr c m + 4 * l) 4))))

/-- The bytes of a vector register. -/
def vecBytes (v : Vector Word 64) : List Byte := ((List.range 64).map fun l => natLe 4 (lane v l).toNat).flatten

/-- VST: 256 bytes at s(A) + 64 IMM (06 R231, R252). -/
def execVst (c : Site) (d a : Reg) (imm : BitVec 12) (s : State) : Answer :=
  .next (s.issueAt c (encRI 5 0x01 d a imm.toNat) fun k r =>
    let m := effAddr k.seq a 64 imm
    s.withMem c (s.coreCheck c r m 256 4 true) ((s.write (coreAddr c m) (vecBytes (k.seq.vreg d))).seqTo c k.seq))

/-- The address of a lane of VGATHER and VSCATTER: s(A) + 4 v(B)[l], the index unsigned (06 R231). -/
def laneAddr (k : Core) (a b : Reg) (l : Nat) : Nat :=
  (k.seq.sreg a + 4 * (lane (k.seq.vreg b) l).zeroExtend 64).toNat

/-- The active lanes in ascending order (06 R234). -/
def activeLanes (x : SeqState) (p : Nat) : List Nat := (List.range 64).filter fun l => (x.preg p).getLsbD l

/-- The first lane whose access does not pass decides (06 R234, R239, R252). -/
def lanesCheck (s : State) (site : Nat) (k : Core) (r : Run) (a b : Reg) (p : PReg) (write : Bool) : MemCheck :=
  if (k.seq.sreg a).toNat % 4 ≠ 0 then .malformed
  else (((activeLanes k.seq p).map fun l => s.coreCheck site r (laneAddr k a b l) 4 4 write).find? (· ≠ .ok)).getD .ok

/-- VGATHER (06 R231, R239). -/
def execVgather (c : Site) (d a b : Reg) (p : PReg) (s : State) : Answer :=
  .next (s.issueAt c (encRR 5 0x02 d a b p 0) fun k r =>
    s.withMem c (lanesCheck s c k r a b p false)
      (s.writeV c d (k.seq.lanes d p fun l => BitVec.ofNat 32 (s.num (coreAddr c (laneAddr k a b l)) 4))))

/-- VSCATTER; of two active lanes that name one word the higher writes it (06 R231, R239). -/
def execVscatter (c : Site) (d a b : Reg) (p : PReg) (s : State) : Answer :=
  .next (s.issueAt c (encRR 5 0x03 d a b p 0) fun k r =>
    s.withMem c (lanesCheck s c k r a b p true)
      (((activeLanes k.seq p).foldl (fun t l =>
        t.write (coreAddr c (laneAddr k a b l)) (natLe 4 (lane (k.seq.vreg d) l).toNat)) s).seqTo c k.seq))

/-! ## Conversion (06 R240 to R243) -/

/-- A conversion's fields that fail the item: FMT above 0xC, RND above 1, SR with RND 1 (02 R48, R70, R71). -/
def cvBad (fmt : BitVec 4) (rnd : BitVec 2) (sr : Bool) : Bool :=
  !fmtValid fmt.toNat || decide (1 < rnd.toNat) || (sr && rnd.toNat == 1)

/-- The rounding of lane l (06 R243). -/
def cvRnd (k : Core) (r : Run) (fmt : BitVec 4) (rnd : BitVec 2) (sr : Bool) (l : Nat) : Rnd :=
  let s30 := (k.seq.sreg 30).toNat
  rndOf sr rnd.toNat r.seed (s30 / 2 ^ 32) ((s30 % 2 ^ 32 + l) % 2 ^ 32) fmt.toNat

/-- The lanes of a 2,048-bit value. -/
def lanesOf (n : Nat) : Vector Word 64 := Vector.ofFn fun l : Fin 64 => BitVec.ofNat 32 (n >>> (32 * l.val))

/-- VCVTO: FP32 lanes packed in FMT, block scales to s29 (06 R231, R237, R240, R242). -/
def execVcvto (c : Site) (d a : Reg) (fmt : BitVec 4) (rnd : BitVec 2) (sat sr : Bool) (s : State) : Answer :=
  .next (s.issueAt c (encCV 0x00 d a fmt.toNat rnd.toNat (b01 sat) (b01 sr)) fun k r =>
    if cvBad fmt rnd sr then s.malformedAt c
    else
      let vs := (List.range 64).map fun l => (f32 (lane (k.seq.vreg a) l), cvRnd k r fmt rnd sr l)
      let row := convRow fmt.toNat sat vs
      let x := k.seq.setV d (lanesOf (packNat (fmtBits fmt.toNat) row.1))
      let x := if fmtScaled fmt.toNat then x.setS 29 (BitVec.ofNat 64 (packNat 8 row.2.1)) else x
      s.putCore c { k.raise row.2.2 with seq := x.next })

/-- VCVTI: packed FMT elements to FP32 lanes, block scales from s29 (06 R231, R237, R241, R242). -/
def execVcvti (c : Site) (d a : Reg) (fmt : BitVec 4) (rnd : BitVec 2) (sat sr : Bool) (s : State) : Answer :=
  .next (s.issueAt c (encCV 0x01 d a fmt.toNat rnd.toNat (b01 sat) (b01 sr)) fun k r =>
    if cvBad fmt rnd sr then s.malformedAt c
    else
      let f := fmt.toNat
      let bs := vecBytes (k.seq.vreg a)
      let es := (List.range 64).map fun l =>
        let v := elemVal f (elemBits bs (fmtBits f) l)
        let v := if fmtScaled f then scaleVal v (bitsOf (k.seq.sreg 29).toNat (8 * (l / 32) + 7) (8 * (l / 32))) else v
        convFloat fp32Fmt (cvRnd k r fmt rnd sr l) sat v
      let x := k.seq.setV d (lanesOf (packNat 32 (es.map (·.1))))
      s.putCore c { k.raise ((es.map (·.2)).foldl Flags.or {}) with seq := x.next })

/-! ## Reductions (06 R238) -/

/-- One level of the tree: neighbours paired. -/
def pairUp (f : Word → Word → Word) : List Word → List Word
  | x :: y :: t => f x y :: pairUp f t
  | l => l

/-- The fixed tree of 06 R238. -/
def treeReduce (f : Word → Word → Word) (l : List Word) : Word :=
  ((pairUp f (pairUp f (pairUp f (pairUp f (pairUp f (pairUp f l)))))).head?).getD 0

/-- A lane reduction into s(D)[31:0] (06 R238). -/
def vecReduce (op : Nat) (f : Word → Word → Word) (ident : Word) (c : Site) (d a : Reg) (p : PReg) (s : State) : State :=
  s.issueAt c (encRR 6 op d a 0 p 0) fun k _ =>
    let ls := (List.range 64).map fun l => if (k.seq.preg p).getLsbD l then lane (k.seq.vreg a) l else ident
    s.writeS c d ((treeReduce f ls).zeroExtend 64)

/-- VRSUM (06 R238). -/
def execVrsum (c : Site) (d a : Reg) (p : PReg) (s : State) : Answer := .next (vecReduce 0x08 fadd 0x80000000#32 c d a p s)
/-- VRMAX (06 R238). -/
def execVrmax (c : Site) (d a : Reg) (p : PReg) (s : State) : Answer := .next (vecReduce 0x09 fmax 0xFF800000#32 c d a p s)
/-- VRMIN (06 R238). -/
def execVrmin (c : Site) (d a : Reg) (p : PReg) (s : State) : Answer := .next (vecReduce 0x0A fmin 0x7F800000#32 c d a p s)

end Sys2Proof.Machine
end

