-- ==== Sys2Proof/Machine/Collective.lean ====
section
/-!
DEFINITION. The collective engine (12): rings (R493 to R495, R514), a bucket's descriptor and values (R489 to R492), the
reduce and gather phases line by line (R496 to R503), and the CHUNK message (R509 to R511, R516).
-/
namespace Sys2Proof.Machine

/-! ## Rings -/

/-- A herd's rings: the stage lengths and each member's positions (12 R493). -/
structure Rings where
  lens : List Nat
  pos : List (Nat × List Nat)
  deriving DecidableEq, Repr

/-- Members in one ring in the given order. -/
def lineRing (ds : List Nat) : Rings := ⟨[ds.length], ds.zip ((List.range ds.length).map fun i => [i])⟩

/-- The first coordinate of a run of consecutive coordinates modulo the extent; 0 for the whole dimension (12 R494). -/
def runFirst (e : Nat) (cs : List Nat) : Nat := (cs.find? fun c => !cs.elem ((c + e - 1) % e)).getD 0

/-- Whether coordinates form one run modulo the extent (12 R494). -/
def isRun (e : Nat) (cs : List Nat) : Bool :=
  (List.range cs.length).all fun i => cs.elem ((runFirst e cs + i) % e)

/-- The rings of a herd without a ring section: the dimensions of a box, else one ring by device number (12 R494). -/
def FabricImg.defaultRings (f : FabricImg) (ds : List Nat) : Rings :=
  let cs := (List.range 3).map fun dim => (ds.map fun d => f.coord d dim).eraseDups
  let box := ds.all (fun d => decide (d < f.members)) &&
    (List.range 3).all (fun dim => isRun (f.ext dim) (cs.getD dim [])) &&
    decide (ds.length = (cs.map List.length).foldl (· * ·) 1)
  if !box then lineRing ds
  else
    let dims := (List.range 3).filter fun dim => decide (1 < (cs.getD dim []).length)
    if dims = [] then lineRing ds
    else
      ⟨dims.map fun dim => (cs.getD dim []).length,
       ds.map fun d => (d, dims.map fun dim =>
         (f.coord d dim + f.ext dim - runFirst (f.ext dim) (cs.getD dim [])) % f.ext dim)⟩

/-- The rings of a herd that apply to a bucket that starts now (12 R493, R494, R514). -/
def State.rings (s : State) (h : Nat) : Rings :=
  match (s.keHerd h).order with
  | some ds => lineRing ds
  | none =>
    match s.start.img.rings.find? fun e => decide (e.herd = h) with
    | some e => ⟨e.lens, e.members⟩
    | none => s.fabImg.defaultRings (s.herd h).members

/-- A member's positions. -/
def Rings.posOf (r : Rings) (d : Nat) : List Nat := ((r.pos.find? fun e => decide (e.1 = d)).map (·.2)).getD []

/-- Stage `t`, from 0, as one device sees it: its ring holds the members whose other positions are its own (12 R493). -/
def Rings.stage (r : Rings) (d t : Nat) : KeStage :=
  let p := r.posOf d
  let n := r.lens.getD t 1
  { len := n, pos := p.getD t 0,
    devs := (List.range n).map fun x => ((r.pos.find? fun e => decide (e.2 = p.set t x)).map (·.1)).getD d }

def Rings.stages (r : Rings) (d : Nat) : List KeStage := (List.range r.lens.length).map fun t => r.stage d t

/-! ## The bucket descriptor -/

/-- The fields of a descriptor (12 R489). -/
structure Bucket where
  src : Nat
  dst : Nat
  flagw : Nat
  elems : Nat
  cstride : Nat
  n : Nat
  sfmt : Nat
  chunkLines : Nat
  root : Nat
  chan : Nat
  rest : Nat
  deriving DecidableEq, Repr

def readBucket (bs : List Byte) : Bucket :=
  let f := fun off n => leNat ((bs.drop off).take n)
  { src := f 0 8, dst := f 8 8, flagw := f 16 8, elems := f 24 4, cstride := f 28 4, n := f 32 1, sfmt := f 33 1,
    chunkLines := f 34 2, root := f 36 2, chan := f 38 1, rest := f 39 25 }

def Bucket.lines (b : Bucket) : Nat := b.elems / 32
/-- Bytes of a contribution. -/
def Bucket.size (b : Bucket) : Nat := if b.sfmt = 0 then 4 * b.elems else 2 * b.elems
/-- The root device of a BROADCAST (12 R498, R517). -/
def Bucket.rootOf (b : Bucket) (master : Nat) : Nat := if b.root.testBit 15 then master else b.root % 512
/-- A BROADCAST on a member that is not its root has no contribution (12 R489). -/
def Bucket.reads (b : Bucket) (op self master : Nat) : Bool := decide (op ≠ 0x33) || decide (b.rootOf master = self)

def spansMeet (a n b m : Nat) : Bool := decide (a < b + m) && decide (b < a + n)

/-- A descriptor that R489 or R490 refuses. -/
def Bucket.bad (b : Bucket) (op self master : Nat) (members : List Nat) : Bool :=
  let has := b.reads op self master
  let spans := if has then (List.range b.n).map fun i => b.src + i * b.cstride else []
  decide (b.elems < 32) || decide (b.elems % 32 ≠ 0) || decide (b.n = 0) || decide (64 < b.n) || decide (1 < b.sfmt) ||
  decide (b.chunkLines = 0) || decide (4096 < b.chunkLines) || decide (b.chan = 0) || decide (4 < b.chan) ||
  decide (b.rest ≠ 0) ||
  (if b.n = 1 then decide (b.cstride ≠ 0) else decide (b.cstride % 64 ≠ 0) || decide (b.cstride < b.size)) ||
  (if op = 0x33 then decide (bitsOf b.root 14 9 ≠ 0) || (!b.root.testBit 15 && !members.elem (b.root % 512))
   else decide (b.root ≠ 0)) ||
  ((decide (op = 0x31) || decide (op = 0x33)) && (decide (b.sfmt ≠ 1) || decide (b.n ≠ 1))) ||
  decide (b.dst % 64 ≠ 0) || decide (b.flagw % 8 ≠ 0) || decide (b.src % 64 ≠ 0) || (!has && decide (b.src ≠ 0)) ||
  (spans.any fun a => spansMeet a b.size b.dst (64 * b.lines) && !(decide (b.dst = b.src) && decide (b.n = 1) && decide (b.sfmt = 1))) ||
  (decide (b.flagw ≠ 0) && (spansMeet b.flagw 8 b.dst (64 * b.lines) || spans.any fun a => spansMeet b.flagw 8 a b.size))

/-! ## Values -/

/-- The 16-bit elements of a line, and a line of them. -/
def lineElems (v : Line) : List Nat := (List.range 32).map fun i => bitsOf v.toNat (16 * i + 15) (16 * i)
def elemsLine (es : List Nat) : Line := BitVec.ofNat 512 (packNat 16 es)

def bf16Special (e : Nat) : Bool := decide (0x7F80 ≤ e % 0x8000)

/-- Rounding to BF16 with nearest even and SAT = 0 (02 R77 to R79). -/
def toBf16 (w : Word) : Nat × Flags := convFloat bf16Fmt .rne false (f32 w)

/-- An element of a contribution in FP32 (12 R492 step 1). -/
def State.contribution (s : State) (src cstride sfmt j i e : Nat) : Word :=
  if sfmt = 0 then BitVec.ofNat 32 (s.num (src + i * cstride + 128 * j + 4 * e) 4)
  else BitVec.ofNat 32 (s.num (src + i * cstride + 64 * j + 2 * e) 2 * 65536)

/-- The smallest power of two that is at least `n`, for n ≤ 64. -/
def treeSize (n : Nat) : Nat := ((List.range 7).map (2 ^ ·)).find? (fun p => decide (n ≤ p)) |>.getD 64

/-- The local value of an element: the tree of R238 over the contributions, padded with −0, and one rounding (12 R492). -/
def localElem (cs : List Word) : Nat × Flags :=
  toBf16 (treeReduce fadd (cs ++ List.replicate (treeSize cs.length - cs.length) 0x80000000#32))

/-- A sum of two BF16 values on the ring (12 R496, R501). A finite sum beyond the range overflows as R77 says, even where FP32 has no
room for it either (log 62). -/
def ringAdd (x v : Nat) : Nat × Flags :=
  let a := BitVec.ofNat 32 (x * 65536)
  let b := BitVec.ofNat 32 (v * 65536)
  let r := toBf16 (fadd a b)
  if (f32 a).isFinite && (f32 b).isFinite && !(f32 (fadd a b)).isFinite then (r.1, { r.2 with ovf := true, inexact := true }) else r

/-! ## The path of a chunk -/

def KeWork.stage (w : KeWork) (t : Nat) : KeStage := w.stages.getD t ⟨1, 0, []⟩
def KeWork.lineCount (w : KeWork) : Nat := w.elems / 32
/-- The chunk of a line; the flag line takes chunk 0's path (12 R495, R502). -/
def KeWork.chunkOf (w : KeWork) (j : Nat) : Nat := if j = flagIdx then 0 else j / w.chunkLines
/-- q_s(c), for stage `t` from 0 (12 R495). -/
def KeWork.startPos (w : KeWork) (t c : Nat) : Nat :=
  c / ((List.range t).map fun u => (w.stage u).len).foldl (· * ·) 1 % (w.stage t).len
/-- The owner position in a stage; in a BROADCAST it is the root's own (12 R495, R498). -/
def KeWork.ownerPos (w : KeWork) (t c : Nat) : Nat :=
  match w.root with
  | some r => r / 512 ^ t % 512
  | none => (w.startPos t c + (w.stage t).len - 1) % (w.stage t).len
/-- Whether this member is at the owner position of stage `t`. -/
def KeWork.owns (w : KeWork) (t c : Nat) : Bool := decide ((w.stage t).pos = w.ownerPos t c)
/-- The lowest stage in which this member is not at the owner position: there the gather brings it the chunk. -/
def KeWork.gatherStage (w : KeWork) (c : Nat) : Option Nat := (List.range w.stages.length).find? fun t => !w.owns t c

/-- What a line's move brings: a message to the next position of a stage, or the line's result here. -/
inductive KeAct where
  | send (gather : Bool) (stage : Nat) (v : Line)
  | result (v : Line)
  deriving DecidableEq, Repr

/-- The owner after stage `t` − 1 spreads its value down the stages (12 R497). -/
def KeWork.spread (w : KeWork) (v : Line) : Nat → List KeAct
  | 0 => [.result v]
  | t + 1 => (if 1 < (w.stage t).len then [.send true t v] else []) ++ w.spread v t

/-- After a member's last reduce step for a line it does not own: it awaits the gather, or is done (12 R498). -/
def keAfterSend (op j t : Nat) : KeWait := if op = 0x30 ∧ j ≠ flagIdx then .done else .gather t

/-- A line with value `v` enters the reduce stages from `t` on; `n` stages remain (12 R496). -/
def KeWork.enterReduce (w : KeWork) (op j : Nat) (v : Line) : Nat → Nat → KeLine × List KeAct
  | 0, _ => (⟨0, .done⟩, if op = 0x30 ∧ j ≠ flagIdx then [.result v] else w.spread v w.stages.length)
  | n + 1, t =>
    let g := w.stage t
    if g.len = 1 then w.enterReduce op j v n (t + 1)
    else if g.pos = w.startPos t (w.chunkOf j) then (⟨0, keAfterSend op j t⟩, [.send false t v])
    else (⟨v, .reduce t⟩, [])

/-- A partial reaches the member that awaits it at stage `t`; `y` is its sum (12 R496). -/
def KeWork.takePartial (w : KeWork) (op j t : Nat) (y : Line) : KeLine × List KeAct :=
  let g := w.stage t
  let k := (g.pos + g.len - w.startPos t (w.chunkOf j)) % g.len
  if k + 1 < g.len then (⟨0, keAfterSend op j t⟩, [.send false t y])
  else w.enterReduce op j y (w.stages.length - (t + 1)) (t + 1)

/-- A gather value reaches the member that awaits it at stage `t` (12 R497). -/
def KeWork.takeGather (w : KeWork) (j t : Nat) (v : Line) : KeLine × List KeAct :=
  let g := w.stage t
  let last := decide (g.pos = (w.ownerPos t (w.chunkOf j) + g.len - 1) % g.len)
  (⟨0, .done⟩, (if last then [] else [.send true t v]) ++ w.spread v t)

def keDone : KeLine := ⟨0, .done⟩

/-! ## The bucket at work on this device -/

def Item.ke? (i : Item) : Option KeWork := match i.work with | .ke w => some w | _ => none
def State.ke? (s : State) (q k : Nat) : Option (Item × KeWork) :=
  (s.item? q k).bind fun i => if i.live then i.ke?.map fun w => (i, w) else none
def State.setKeWork (s : State) (q k : Nat) (w : KeWork) : State := s.setWork q k (.ke w)

/-- The hub whose HVE handles a line: that of its DST address; the flag line goes with line 0 (12 R491). -/
def State.keHub (s : State) (w : KeWork) (j : Nat) : Nat := s.hubOf (w.dst + (if j = flagIdx then 0 else 64 * j))

/-- Additions counted at a HVE (12 R519). -/
def State.keAdds (s : State) (hub n : Nat) : State :=
  s.putHub hub { s.hub hub with hveAdds := BitVec.ofNat 64 (satAdd (2 ^ 64 - 1) (s.hub hub).hveAdds.toNat n) }

/-- The port that a message of a channel takes: the ring section's port of its stage where every condition of R516 holds, or
the route. -/
def State.chanPort (s : State) (h ch t next : Nat) : Option Nat :=
  if ch = 0 then none
  else match s.start.img.rings.find? fun e => decide (e.herd = h) with
    | none => none
    | some e =>
      let p := e.chans.getD (3 * (ch - 1) + t) 0xFF
      if p < 16 ∧ s.linkUp p ∧ (s.link p).expect = next then some p else none

/-- One CHUNK message of a line to the next position of a stage (12 R496, R497, R511, R512, R516); a message that route
cannot send fails the item. -/
def State.keSend (s : State) (q k op : Nat) (w : KeWork) (j : Nat) (gather : Bool) (t : Nat) (v : Line) : State :=
  let g := w.stage t
  let next := g.devs.getD ((g.pos + 1) % g.len) 0
  let ch := w.chunkOf j % w.chan
  let m : MsgHead := ⟨0, Fin.ofNat 512 s.device, Fin.ofNat 512 next,
    BitVec.ofNat 16 (w.herd + 64 * t + 256 * b01 gather + 512 * ch + 2048 * (op - 0x30)),
    BitVec.ofNat 64 (w.bseq % 2 ^ 32 * 2 ^ 32 + j)⟩
  match s.chanPort w.herd ch t next with
  | some p => s.sendOn p 0x20 m [v]
  | none => if s.reachable next then s.sendTo 0x20 m [v] else s.failItem q k (s.failLink next)

/-- A result line written to DST, or the flag line's bits taken (12 R498, R502, R504). -/
def State.keResult (s : State) (q k : Nat) (i : Item) (w : KeWork) (j : Nat) (v : Line) : State :=
  if j = flagIdx then
    let b := v.toNat % 8
    (s.setKeWork q k { w with result := some b }).mapItem q k fun x =>
      { x with detail := b, fl := { x.fl with nonfinite := b.testBit 1, ovf := b.testBit 2 } }
  else
    let r := s.writeFor i.wins (w.dst + 64 * j) (natLe 64 v.toNat)
    match r.2 with
    | some f => r.1.failItem q k f
    | none =>
      let h := s.keHub w j
      ((r.1.setKeWork q k { w with written := w.written + 1 }).mapItem q k fun x =>
        { x with progress := w.written + 1 }).putHub h { r.1.hub h with hveLines := sat32 (r.1.hub h).hveLines 1 }

/-- The acts of a line's move, up to one that fails the item. -/
def keActs (q k op j : Nat) : List KeAct → State → State
  | [], s => s
  | a :: l, s =>
    match s.ke? q k with
    | none => s
    | some (i, w) =>
      keActs q k op j l (match a with
        | .send g t v => s.keSend q k op w j g t v
        | .result v => s.keResult q k i w j v)

/-- The OUT bit of a line that this member finally owns (12 R502). -/
def outBit (acts : List KeAct) (op j : Nat) (reduced : Bool) (v : Line) : Nat :=
  if reduced && decide (j ≠ flagIdx) && (decide (op = 0x30) || decide (op = 0x32)) &&
      acts.any (fun a => match a with | .result _ => true | _ => false) && (lineElems v).any bf16Special then 2 else 0

/-- A line moves to its new place, with the OUT bit where its reduction ends here, and its acts follow. -/
def State.keMove (s : State) (q k op j : Nat) (r : KeLine × List KeAct) (reduced : Bool) (v : Line) : State :=
  match s.ke? q k with
  | none => s
  | some (_, w) =>
    keActs q k op j r.2 (s.setKeWork q k { w with lines := tput keDone w.lines j r.1,
                                                  bits := w.bits ||| outBit r.2 op j reduced v })

/-- A partial added at its line (12 R496), or ORed into the flag line (R502). -/
def State.kePartial (s : State) (q k op j t : Nat) (x : Line) : State :=
  match s.ke? q k with
  | none => s
  | some (_, w) =>
    let v := (tget keDone w.lines j).val
    if j = flagIdx then s.keMove q k op j (w.takePartial op j t (x ||| v)) true 0
    else
      let es := (lineElems x).zip (lineElems v) |>.map fun p => ringAdd p.1 p.2
      let fl := (es.map (·.2)).foldl Flags.or {}
      let y := elemsLine (es.map (·.1))
      let s := (s.keAdds (s.keHub w j) 32).mapItem q k fun i =>
        { i with fl := { i.fl with unf := i.fl.unf || fl.unf, inexact := i.fl.inexact || fl.inexact } }
      (s.setKeWork q k { w with bits := w.bits ||| 4 * b01 fl.ovf }).keMove q k op j (w.takePartial op j t y) true y

/-- A waiting line's place matches a message. -/
def KeLine.awaits (l : KeLine) (e : KeEarly) : Bool :=
  decide (l.wait = if e.gather then .gather e.stage else .reduce e.stage)

/-- Messages that have come are taken as their lines reach the places that await them; the flag line enters once this
member's reduce steps have ended; and the work ends when no line is left (12 R496 to R503). -/
def keRun (q k op : Nat) : Nat → State → State
  | 0, s => s
  | n + 1, s =>
    match s.ke? q k with
    | none => s
    | some (_, w) =>
      match w.early.find? fun e => (tget keDone w.lines e.idx).awaits e with
      | some e =>
        let s := s.setKeWork q k { w with early := w.early.erase e }
        keRun q k op n (if e.gather then s.keMove q k op e.idx (w.takeGather e.idx e.stage e.val) false e.val
                        else s.kePartial q k op e.idx e.stage e.val)
      | none =>
        if (tget keDone w.lines flagIdx).wait = .own ∧
            w.lines.all (fun l => match l.2.wait with | .reduce _ => false | _ => true) then
          let v := BitVec.ofNat 512 w.bits
          keRun q k op n (s.keMove q k op flagIdx (w.enterReduce op flagIdx v w.stages.length 0) true 0)
        else if w.lines = [] then s.workDone q k
        else s

/-! ## The start of a bucket -/

/-- The local value of a line with its roundings' flags and its IN bit, or the failure of reading it (12 R492, R502). -/
def State.localLine (s : State) (ws : WinSet) (w : KeWork) (j : Nat) : Fail ⊕ (Line × Flags × Bool) :=
  let n := if w.sfmt = 0 then 128 else 64
  match (List.range w.ncontrib).findSome? fun i => s.checkReads ws (w.src + i * w.cstride + n * j) n with
  | some f => .inl f
  | none =>
    let cs := fun e => (List.range w.ncontrib).map fun i => s.contribution w.src w.cstride w.sfmt j i e
    let es := (List.range 32).map fun e => localElem (cs e)
    .inr (elemsLine (es.map (·.1)), (es.map (·.2)).foldl Flags.or {},
          (List.range 32).any fun e => (cs e).any fun x => !(f32 x).isFinite)

/-- One line at the start of its bucket (12 R492, R496 to R498). -/
def State.keLineStart (s : State) (q k op j : Nat) : State :=
  match s.ke? q k with
  | none => s
  | some (i, w) =>
    if op = 0x30 ∨ op = 0x32 then
      match s.localLine i.wins w j with
      | .inl f => s.failItem q k f
      | .inr (v, fl, isIn) =>
        let s := (s.keAdds (s.keHub w j) (32 * (treeSize w.ncontrib - 1))).mapItem q k fun x =>
          { x with fl := { x.fl with unf := x.fl.unf || fl.unf, inexact := x.fl.inexact || fl.inexact } }
        (s.setKeWork q k { w with bits := w.bits ||| b01 isIn ||| 4 * b01 fl.ovf }).keMove q k op j
          (w.enterReduce op j v w.stages.length 0) true v
    else
      match w.gatherStage (w.chunkOf j) with
      | some t => s.setKeWork q k { w with lines := tput keDone w.lines j ⟨0, .gather t⟩ }
      | none =>
        match s.checkRead i.wins (w.src + 64 * j) with
        | some f => s.failItem q k f
        | none => let v := s.line (w.src + 64 * j)
                  s.keMove q k op j (keDone, w.spread v w.stages.length) false v

/-- Messages held for the bucket pass to its lines (12 R509). -/
def State.heldFor (s : State) (h b : Nat) : List HeldChunk := ((List.range 8).map fun n => (s.hub n).chunks.filter fun c => c.of h b).flatten
def State.dropHeld (s : State) (h b : Nat) : State :=
  (List.range 8).foldl (fun t n => let x := t.hub n
                                   t.putHub n { x with chunks := x.chunks.filter fun c => !c.of h b }) s

/-- The lines of a message, each with its index. -/
def chunkLines (c : HeldChunk) : List KeEarly :=
  let m := c.head.mtag.toNat
  let j := c.head.arg.toNat % 2 ^ 32
  (c.data.zip (List.range c.data.length)).map fun p => ⟨m.testBit 8, bitsOf m 7 6, j + p.2, p.1⟩

/-- A line of a message that R510 discards. -/
def KeWork.badLine (w : KeWork) (op mop : Nat) (e : KeEarly) : Bool :=
  let c := w.chunkOf e.idx
  let sums := decide (op = 0x30) || decide (op = 0x32)
  !(decide (e.idx < w.lineCount) || (decide (e.idx = flagIdx) && sums)) || decide (mop ≠ op) || decide (w.stages.length ≤ e.stage) ||
  (if e.gather then w.owns e.stage c || (decide (op = 0x30) && decide (e.idx ≠ flagIdx))
   else !sums || decide ((w.stage e.stage).pos = w.startPos e.stage c))

/-- The lines of one message join those that have come; a message with a bad line is discarded and logged at the hub that
would handle it (12 R510, R519). -/
def State.keTake (s : State) (q k op hub : Nat) (c : HeldChunk) : State :=
  match s.ke? q k with
  | none => s
  | some (_, w) =>
    let ls := chunkLines c
    if ls.any fun e => w.badLine op (bitsOf c.head.mtag.toNat 12 11 + 0x30) e then
      (s.putHub hub { s.hub hub with hveBad := sat16 (s.hub hub).hveBad 1 }).logEvent 0x34 2 hub 0 0 0
    else s.setKeWork q k { w with early := w.early ++ ls }

/-- Enough steps for every message line, the flag line, and the end. -/
def State.keSteps (s : State) (q k : Nat) : Nat := match s.ke? q k with | some (_, w) => w.early.length + 3 | none => 0

/-- The bucket begins: NEXT_BSEQ counts on, the lines start, held messages are taken, or discarded where the item has failed at its
lines (12 R506, R509). -/
def State.keBegin (s : State) (q k op : Nat) (h b : Nat) (w : KeWork) : State :=
  let x := s.keHerd h
  let s := s.putKeHerd h (KeHerd.sweep (x.gone.length + 1) { x with next := x.next + 1 })
  let s := s.setKeWork q k w
  let s := (List.range w.lineCount).foldl (fun t j => t.keLineStart q k op j) s
  if (s.ke? q k).isNone then s.dropChunks h b
  else
  let held := s.heldFor h b
  let s := held.foldl (fun t c => t.keTake q k op (t.keHub w (c.head.arg.toNat % 2 ^ 32)) c) (s.dropHeld h b)
  keRun q k op (s.keSteps q k) s

/-- The fields of a KE item (09, layouts; 12 R488, R490, R507). -/
def keFields (s : State) (q : Nat) (i : Item) : List (Nat × Bool) :=
  let h := i.fld 8 1
  let b := i.fld 16 8
  [(8, decide (64 ≤ h) || !s.keMember h i.ctx), i.zero 9 7,
   (16, decide (b = 0) || decide (b < (s.keHerd h).next.toNat) || s.bseqTaken h b q i.k),
   (24, decide (i.fld 24 8 % 64 ≠ 0))]

/-- The first line of the bucket whose HVE is gated (15 R596). -/
def State.keGated (s : State) (b : Bucket) : Option Fail :=
  ((List.range b.lines).find? fun j => !s.power.gate0.toNat.testBit (s.hubOf (b.dst + 64 * j))).map
    fun j => failGated (b.dst + 64 * j)

/-- The start of a KE item whose turn has come (12 R488 to R490, R506). -/
def State.keStart (q k op : Nat) (s : State) (i : Item) : State :=
  let h := i.fld 8 1
  let a := i.fld 24 8
  let master := (s.herd h).master
  if 2 ^ 42 ≤ a then s.failItem q k (failWindow a)
  else match s.checkRead i.wins a with
    | some f => s.failItem q k f
    | none =>
      let b := readBucket (s.bytes a 64)
      if b.bad op s.device master (s.herd h).members then s.failItem q k (failField 24)
      else match (failFar [b.src, b.dst, b.flagw]).orElse fun _ => s.keGated b with
        | some f => s.failItem q k f
        | none =>
          let r := s.rings h
          let sums := decide (op = 0x30) || decide (op = 0x32)
          let root := if op = 0x33 then
            some (((r.posOf (b.rootOf master)).zip (List.range 3)).foldl (fun n p => n + p.1 * 512 ^ p.2) 0) else none
          s.keBegin q k op h (i.fld 16 8)
            { herd := h, bseq := i.fld 16 8, begun := true, stages := r.stages s.device, chan := b.chan, elems := b.elems,
              chunkLines := b.chunkLines, src := b.src, dst := b.dst, flagw := b.flagw, cstride := b.cstride,
              ncontrib := b.n, sfmt := b.sfmt, root := root,
              lines := if sums then [(flagIdx, ⟨0, .own⟩)] else [], early := [], bits := 0, result := none, written := 0 }

/-- An item that waits for its BSEQ, holding nothing (12 R506). -/
def keWaiting (h b : Nat) : KeWork :=
  { herd := h, bseq := b, begun := false, stages := [], chan := 1, elems := 0, chunkLines := 1, src := 0, dst := 0, flagw := 0,
    cstride := 0, ncontrib := 0, sfmt := 0, root := none, lines := [], early := [], bits := 0, result := none,
    written := 0 }

/-- A KE item reached by its engine: it waits while its BSEQ lies above NEXT_BSEQ, else starts (12 R506). -/
def State.keItem (s : State) (q k op : Nat) : State :=
  match s.item? q k with
  | none => s
  | some i =>
    let x := s.queue q
    if s.serving && x.goes && decide (i.op = op) && decide (i.phase = .notStarted) && decide (i.status = 0) && !i.late s.now &&
        x.inOrder i && s.keWaits q i then
      if i.bucket.isSome then s
      else (s.setKeWork q k (keWaiting (s.num (i.addr + 8) 1) (s.num (i.addr + 16) 8))).mapItem q k fun j =>
        { j with startDtc := some s.now }
    else s.startItem q k op (keFields s q) (State.keStart q k op)

/-- REDUCE_SCATTER (12 R498). -/
def execReduceScatter (q : Queue) (k : Nat) (s : State) : Answer := .next (s.keItem q k 0x30)
/-- ALL_GATHER (12 R498). -/
def execAllGather (q : Queue) (k : Nat) (s : State) : Answer := .next (s.keItem q k 0x31)
/-- ALL_REDUCE (12 R498). -/
def execAllReduce (q : Queue) (k : Nat) (s : State) : Answer := .next (s.keItem q k 0x32)
/-- BROADCAST (12 R498). -/
def execBroadcast (q : Queue) (k : Nat) (s : State) : Answer := .next (s.keItem q k 0x33)

/-! ## CHUNK -/

/-- The running bucket of a message. -/
def State.bucketOf (s : State) (c : HeldChunk) : Option (Nat × Nat × Nat) :=
  s.queues.findSome? fun e => (e.2.items.find? fun i => i.live && (match i.work with
    | .ke w => w.begun && c.of w.herd w.bseq
    | _ => false)).map fun i => (e.1, i.k, i.op)

/-- A message's bucket has not started and its item has not ended: its BSEQ, by its low bits, is NEXT_BSEQ or above and not
used (12 R508, R509). -/
def State.chunkEarly (s : State) (c : HeldChunk) : Bool :=
  let x := s.keHerd (bitsOf c.head.mtag.toNat 5 0)
  let d := (BitVec.ofNat 32 (c.head.arg.toNat / 2 ^ 32) - BitVec.ofNat 32 x.next.toNat).toNat
  decide (d < 2 ^ 31) && !x.gone.elem (x.next.toNat + d)

/-- A CHUNK message at its destination (12 R509, R510); at 8 MiB the hub takes no more early data. -/
def State.chunkHere (s : State) (l : Nat) (c : HeldChunk) : State :=
  let hub := portHub l
  match s.bucketOf c with
  | some (q, k, op) =>
    match s.ke? q k with
    | none => s
    | some (_, w) =>
      let t := (s.takeMsg l 0x20 c.head c.data).keTake q k op (s.keHub w (c.head.arg.toNat % 2 ^ 32)) c
      keRun q k op (t.keSteps q k) t
  | none =>
    if s.chunkEarly c then
      if 8192 ≤ (s.hub hub).heldKib then s
      else
        let t := s.takeMsg l 0x20 c.head c.data
        t.putHub hub { t.hub hub with chunks := (t.hub hub).chunks ++ [c] }
    else
      let t := s.takeMsg l 0x20 c.head c.data
      t.putHub hub { t.hub hub with hveEarly := sat16 (t.hub hub).hveEarly 1 }

/-- CHUNK (12 R496, R497, R509 to R511), or one in transit (11 R480). -/
def execChunk (l : Link) (m : MsgHead) (data : List Line) (s : State) : Answer :=
  if data.length = 0 ∨ 4 < data.length then .refused .illFormed
  else .next (if s.serving && s.hears l then
      if m.dst.toNat = s.device then s.chunkHere l ⟨m, data⟩
      else (s.takeMsg l 0x20 m data).transit 0x20 m data
    else s)

end Sys2Proof.Machine
end

