-- ==== Sys2Proof/Machine/Keccak.lean ====
section
/-!
DEFINITION. SHAKE256 and KMAC256 (13 R522, 17 R657): the published standards that the spec names, computed (log 9).
-/
namespace Sys2Proof.Machine

/-- The 25 lanes of the permutation, lane x + 5 y. -/
abbrev Lanes := Vector (BitVec 64) 25

def laneAt (a : Lanes) (i : Nat) : BitVec 64 := a[i]?.getD 0

/-- Rotation amounts by lane. -/
def rhoBy : List Nat := [0, 1, 62, 28, 27, 36, 44, 6, 55, 20, 3, 10, 43, 25, 39, 41, 45, 15, 21, 8, 18, 2, 61, 56, 14]

/-- Round constants. -/
def roundConsts : List (BitVec 64) :=
  [0x0000000000000001, 0x0000000000008082, 0x800000000000808A, 0x8000000080008000, 0x000000000000808B, 0x0000000080000001,
   0x8000000080008081, 0x8000000000008009, 0x000000000000008A, 0x0000000000000088, 0x0000000080008009, 0x000000008000000A] ++
  [0x000000008000808B, 0x800000000000008B, 0x8000000000008089, 0x8000000000008003, 0x8000000000008002, 0x8000000000000080,
   0x000000000000800A, 0x800000008000000A, 0x8000000080008081, 0x8000000000008080, 0x0000000080000001, 0x8000000080008008]

/-- One round of the permutation. -/
def keccakRound (a : Lanes) (rc : BitVec 64) : Lanes :=
  let c : Vector (BitVec 64) 5 := Vector.ofFn fun x =>
    laneAt a x.val ^^^ laneAt a (x.val + 5) ^^^ laneAt a (x.val + 10) ^^^ laneAt a (x.val + 15) ^^^ laneAt a (x.val + 20)
  let cx := fun (i : Nat) => (c.toList[i % 5]?).getD 0
  let t : Lanes := Vector.ofFn fun i => laneAt a i.val ^^^ cx (i.val + 4) ^^^ (cx (i.val + 1)).rotateLeft 1
  let b : Lanes := Vector.ofFn fun i =>
    let x := (i.val + 3 * (i.val / 5)) % 5
    let j := x + 5 * (i.val % 5)
    (laneAt t j).rotateLeft (rhoBy.getD j 0)
  Vector.ofFn fun i =>
    let y := i.val / 5 * 5
    let r := laneAt b i.val ^^^ (~~~(laneAt b (y + (i + 1) % 5)) &&& laneAt b (y + (i + 2) % 5))
    if i.val = 0 then r ^^^ rc else r

def keccakF (a : Lanes) : Lanes := roundConsts.foldl keccakRound a

/-- A block of 136 bytes into the lanes. -/
def absorb (a : Lanes) (bs : List Byte) : Lanes :=
  keccakF (Vector.ofFn fun i => laneAt a i.val ^^^ BitVec.ofNat 64 (leNat ((bs.drop (8 * i.val)).take 8)))

/-- Blocks of 136 bytes absorbed in order; the fuel is their number. -/
def absorbAll : Nat → Lanes → List Byte → Lanes
  | 0, a, _ => a
  | n + 1, a, bs => absorbAll n (absorb a (bs.take 136)) (bs.drop 136)

/-- A message padded to whole blocks, with its domain's first byte. -/
def padBlocks (d : Byte) (bs : List Byte) : List Byte :=
  let k := 135 - bs.length % 136
  if k = 0 then bs ++ [d ^^^ 0x80] else bs ++ d :: List.replicate (k - 1) 0 ++ [0x80]

def squeeze : Nat → Lanes → List Byte
  | 0, _ => []
  | n + 1, a => (((List.range 17).map fun i => natLe 8 (laneAt a i).toNat).flatten) ++ squeeze n (keccakF a)

/-- The sponge of rate 136 bytes. -/
def sponge (d : Byte) (bs : List Byte) (n : Nat) : List Byte :=
  let p := padBlocks d bs
  (squeeze ((n + 135) / 136) (absorbAll (p.length / 136) (Vector.replicate 25 0) p)).take n

/-- SHAKE256 with `n` bytes of output. -/
def shake256 (bs : List Byte) (n : Nat) : List Byte := sponge 0x1F bs n

/-- A nonnegative number in the fewest bytes, highest first. -/
def beBytes (n : Nat) : List Byte :=
  let k := if n = 0 then 1 else Nat.log2 n / 8 + 1
  (natLe k n).reverse

def leftEncode (n : Nat) : List Byte := let b := beBytes n
                                        BitVec.ofNat 8 b.length :: b
def rightEncode (n : Nat) : List Byte := let b := beBytes n
                                         b ++ [BitVec.ofNat 8 b.length]
def encodeString (bs : List Byte) : List Byte := leftEncode (8 * bs.length) ++ bs
def bytePad (bs : List Byte) : List Byte :=
  let x := leftEncode 136 ++ bs
  x ++ List.replicate ((136 - x.length % 136) % 136) 0

/-- The bytes of an ASCII text. -/
def ascii (t : String) : List Byte := t.toList.map fun c => BitVec.ofNat 8 c.toNat

/-- KMAC256 with a customisation text and `n` bytes of output. -/
def kmac256 (key msg : List Byte) (n : Nat) (custom : String) : List Byte :=
  sponge 0x04 (bytePad (encodeString (ascii "KMAC") ++ encodeString (ascii custom)) ++
    bytePad (encodeString key) ++ msg ++ rightEncode (8 * n)) n

end Sys2Proof.Machine
end

