-- ==== Sys2Proof/Machine/Tally.lean ====
section
/-!
DEFINITION. The lifetime Tally (19): the record (R700), when its samples are due (R701), its writes to flash (R705 to R708), the
snapshots (R713), and the telemetry windows (R710, 16 R639).
-/
namespace Sys2Proof.Machine

/-! ## The record -/

/-- Bytes of the record before CHECK, and after it (19 R700). -/
def recordHead (t : Table Nat) : List Byte :=
  natLe 4 0x594C4C54 ++ natLe 2 1 ++ natLe 2 0 ++ natLe 8 (tget 0 t 8) ++ natLe 8 (tget 0 t 0x10) ++ natLe 8 (tget 0 t 0x18)
def recordTail (t : Table Nat) : List Byte :=
  (((List.range 88).map fun i => natLe 8 (tget 0 t (0x40 + 8 * i))).flatten ++
    ((List.range 1792).map fun i => natLe 4 (tget 0 t (0x300 + 4 * i))).flatten ++ natLe 32 (tget 0 t tallyOverflow)) ++
    List.replicate 224 0
/-- The whole record of 8,192 bytes. -/
def recordBytes (t : Table Nat) : List Byte := recordHead t ++ natLe 32 (tget 0 t 0x20) ++ recordTail t
/-- CHECK of a record. -/
def recordCheck (t : Table Nat) : Nat := leNat (shake256 (recordHead t ++ recordTail t) 32)

/-- The bin of a temperature in quarter degrees (19, histogram bins). -/
def tempBin (t : BitVec 12) : Nat := if t.toInt < 140 then 0 else min 15 ((t.toInt.toNat - 120) / 20)
/-- The bin of an input voltage in 10 mV. -/
def vinBin (v : BitVec 16) : Nat := if v.toNat < 4500 then 0 else min 15 (v.toNat / 100 - 44)
/-- The bin of a lane's corrected symbols in a second. -/
def laneBin (n : Nat) : Nat := if n = 0 then 0 else min 11 (Nat.log2 n / 2 + 1)

def State.alwaysOnPowered (s : State) : Bool := decide (s.power.phase ≠ .off)

/-- The seconds counter that a second adds to (19 R700). -/
def State.secsOffset (s : State) : Nat := if s.start.step = 11 ∧ s.power.phase = .on then 0x50 + 8 * s.profile else 0x48

/-- A second's sample is due: 100,000,000 ticks since the last; the RC oscillator times it before start-up step 4 and without
the reference (19 R701). -/
def State.sampleDue (s : State) : Bool :=
  decide (100000000 ≤ (s.now - s.tally.sampled).toNat) || decide (s.start.step < 4) || !s.power.refOk

/-! ## Flash -/

/-- A copy's WSEQ, below every count where the copy is not good (19 R705, R708). -/
def copySeq (c : Option (Table Nat)) : Int := match c with | some t => (tget 0 t 8 : Nat) | none => -1

/-- A write is due (19 R706). -/
def State.writeDue (s : State) : Bool :=
  s.tally.writeDue || (s.power.stat1.toNat.testBit 10 && decide (6000000000 ≤ (s.now - s.tally.tried).toNat))

/-- One write of the record at this tick; the older copy takes it, or is lost where the write fails (19 R705, R707). -/
def State.tallyFlash (s : State) (ok : Bool) : State :=
  let y := s.tally
  let old0 := decide (copySeq y.copy0 ≤ copySeq y.copy1)
  if ok then
    let r := tput 0 (tput 0 (tput 0 y.live 8 (tget 0 y.live 8 + 1)) 0x10 s.now.toNat) 0x18 s.sync.bcnt.toNat
    let r := tput 0 r 0x20 (recordCheck r)
    s.setTally { y with live := r, copy0 := if old0 then some r else y.copy0, copy1 := if old0 then y.copy1 else some r,
                        wdtc := s.now, tried := s.now, writeDue := false, flashFail := false }
  else
    s.setTally { y with copy0 := if old0 then none else y.copy0, copy1 := if old0 then y.copy1 else none,
                        tried := s.now, writeDue := false, flashFail := true }

/-- TALLY_WRITE: Nimtia writes the record to module flash, `ok` when the write succeeds (19 R705 to R707). -/
def execTallyWrite (ok : Bool) (s : State) : Answer :=
  .next (if s.alwaysOnPowered && s.writeDue then s.tallyFlash ok else s)

/-- The live record at a start of Nimtia (19 R708). -/
def State.tallyLoad (s : State) : State :=
  let y := s.tally
  let best := if copySeq y.copy0 < copySeq y.copy1 then y.copy1 else y.copy0
  s.setTally { y with live := best.getD [], restarted := best.isNone }

/-- SNAP: the live record into the writing port's snapshot (19 R713). -/
def execSnap (p : Port) (s : State) : Answer :=
  .next (if !s.barOpen then s
    else s.setTally { s.tally with snap0 := if p = 0 then some s.tally.live else s.tally.snap0
                                   snap1 := if p = 0 then s.tally.snap1 else some s.tally.live })

/-- WRITE_NOW: a write is requested, whether or not the writer is gated (19 R706, R714). -/
def execWriteNow (s : State) : Answer :=
  .next (if s.barOpen then s.setTally { s.tally with writeDue := true } else s)

/-! ## Telemetry windows -/

/-- A roll (19 R710). -/
def State.rollWindow (s : State) : State :=
  let w := s.tally.cur
  s.setTally { s.tally with last := { w with stop := s.now }, cur := { TeleWin.reset with index := w.index + 1, start := s.now } }

/-- TELEMETRY_ROLL: the tick limit has passed without a roll (16 R639). -/
def execTelemetryRoll (s : State) : Answer :=
  .next (let n := s.start.img.twTicks
    if n ≠ 0 ∧ n ≤ (s.now - s.tally.cur.start).toNat then s.rollWindow else s)

/-- The window's block of 64 bytes (19 R710). -/
def TeleWin.bytes (w : TeleWin) : List Byte :=
  natLe 8 w.index.toNat ++ natLe 8 w.start.toNat ++ natLe 8 w.stop.toNat ++ natLe 4 w.bounds.toNat ++ natLe 2 w.peakW.toNat ++
    natLe 2 w.peakT.toNat ++ natLe 8 w.hbmCE.toNat ++ natLe 4 w.replays.toNat ++ natLe 4 w.throttle.toNat ++ List.replicate 16 0

/-- An HBM3E correction (19 R700, R710). -/
def State.tallyHbm (s : State) (n bits : Nat) : State :=
  let t := s.tallyBin (0xE00 + 64 * n + 4 * tempBin (vget s.power.temps (32 + n) 0)) (41 + n) bits
  t.setTally { t.tally with cur := { t.tally.cur with
    hbmCE := BitVec.ofNat 64 (satAdd (2 ^ 64 - 1) t.tally.cur.hbmCE.toNat bits) } }

/-- A replay on a link port (19 R710). -/
def State.tallyReplay (s : State) : State :=
  s.setTally { s.tally with cur := { s.tally.cur with replays := sat32 s.tally.cur.replays 1 } }

end Sys2Proof.Machine
end

