-- ==== Sys2Proof/Machine/Transfer.lean ====
section
/-!
DEFINITION. Items of the transfer engine: COPY, plain and transposed, between local memory and another device (09 R360 to
R362, 11 R464), GATHER (09 R363, 08 R338 to R341) and STREAM (08 R313 to R319).
-/
namespace Sys2Proof.Machine

/-! ## COPY -/

/-- The fields of a COPY (09, layouts); addresses are local addresses on the devices named (07 R271). -/
structure CopyCmd where
  trans : Bool
  w : Nat
  rows : Nat
  src : Nat
  sdev : Nat
  dst : Nat
  ddev : Nat
  rowBytes : Nat
  sstride : Nat
  dstride : Nat
  deriving DecidableEq, Repr

def Item.copyCmd (i : Item) : CopyCmd :=
  let a := i.fld 16 8
  let b := i.fld 24 8
  { trans := (i.fld 8 1).testBit 0, w := fmtBits (bitsOf (i.fld 8 1) 7 4) / 8, rows := i.fld 12 4, src := a % 2 ^ 42,
    sdev := bitsOf a 50 42, dst := b % 2 ^ 42, ddev := bitsOf b 50 42, rowBytes := i.fld 32 4, sstride := i.fld 36 4,
    dstride := i.fld 40 4 }

/-- Rows of the destination and bytes of each (09 R360, R361). -/
def CopyCmd.dRows (c : CopyCmd) : Nat := if c.trans then c.rowBytes / c.w else c.rows
def CopyCmd.dLen (c : CopyCmd) : Nat := if c.trans then c.rows * c.w else c.rowBytes

/-- The source address of byte `t` of destination row `row`. -/
def CopyCmd.srcByte (c : CopyCmd) (row t : Nat) : Nat :=
  if c.trans then c.src + t / c.w * c.sstride + row * c.w + t % c.w else c.src + row * c.sstride + t
/-- The destination address of byte `t` of destination row `row`. -/
def CopyCmd.dstByte (c : CopyCmd) (row t : Nat) : Nat := c.dst + row * c.dstride + t

/-- Bytes of the next piece: to the end of the destination line or row; a transposed piece from another device is one
element. -/
def CopyCmd.piece (c : CopyCmd) (row t : Nat) (far : Bool) : Nat :=
  let n := min (64 - c.dstByte row t % 64) (c.dLen - t)
  if c.trans && far then min n (c.w - t % c.w) else n

/-- Fields of a COPY that fail it (09 R354, R360 to R362, 07 R272, R273). -/
def copyFields (dev : Nat) (i : Item) : List (Nat × Bool) :=
  let c := i.copyCmd
  let m := i.fld 8 1
  let fmt := m / 16
  [(8, decide (2 ≤ m % 16) || (!c.trans && decide (fmt ≠ 0)) ||
      (c.trans && (!fmtValid fmt || (decide (fmtBits fmt ≠ 8) && decide (fmtBits fmt ≠ 16) && decide (fmtBits fmt ≠ 32))))),
   i.zero 9 3, (12, decide (c.rows = 0)),
   (16, decide (2 ^ 51 ≤ i.fld 16 8) || (decide (c.sdev ≠ dev) && decide (c.ddev ≠ dev))), (24, decide (2 ^ 51 ≤ i.fld 24 8)),
   (32, decide (c.rowBytes = 0) || (c.trans && decide (c.rowBytes % c.w ≠ 0))), i.zero 44 4]

/-- A request tag of 13 bits not in use, if there is one. -/
def State.freeTag (s : State) : Option Nat :=
  ((List.range 8192).map fun i => (s.fab.nextTag + i) % 8192).find? fun t => s.fab.out.all fun r => decide (r.tag ≠ t)

/-- A request of an item is noted until its response. -/
def State.noteReq (s : State) (r : OutReq) : State :=
  s.setFab { s.fab with out := s.fab.out ++ [r], nextTag := (r.tag + 1) % 8192 }

/-- A line's bytes with a piece at its place. -/
def lineWith (a : Nat) (bs : List Byte) : Line :=
  BitVec.ofNat 512 (leNat (List.replicate (a % 64) 0 ++ bs))
/-- The byte mask line of a WRITE_MASKED (11 R462). -/
def maskLine (a n : Nat) : Line := BitVec.ofNat 512 ((2 ^ n - 1) * 2 ^ (a % 64))

/-- Rows of an item whose every byte has been written: those handed out in full without a request that waits (09 R383). -/
def State.rowsDone (s : State) (q k row : Nat) : Nat :=
  row - (((s.fab.out.filter fun r => decide (r.q = q) && decide (r.k = k) && decide (r.row < row)).map (·.row)).eraseDups).length

/-- PROGRESS of a COPY that goes on, and its end when every piece has been written (09 R374, R383, 11 R464). -/
def State.settleCopy (s : State) (q k : Nat) : State :=
  match s.item? q k with
  | none => s
  | some i =>
    match i.work with
    | .copy row _ =>
      if !i.live then s
      else
        let t := s.mapItem q k fun j => { j with progress := s.rowsDone q k row }
        if decide (row = i.copyCmd.dRows) && t.fab.out.all fun r => decide (r.q ≠ q) || decide (r.k ≠ k) then
          t.workDone q k
        else t
    | _ => s

/-- The place after a piece. -/
def CopyCmd.after (c : CopyCmd) (row t n : Nat) : Work := if t + n = c.dLen then .copy (row + 1) 0 else .copy row (t + n)

/-- One piece read locally: its bytes, or the failure at the first byte that fails. -/
def State.pieceBytes (s : State) (ws : WinSet) (c : CopyCmd) (row t n : Nat) : Fail ⊕ List Byte :=
  let as := (List.range n).map fun x => c.srcByte row (t + x)
  match as.findSome? fun a => s.checkRead ws a with
  | some f => .inl f
  | none => .inr (as.map s.byte)

/-- One piece of a COPY (09 R360 to R362, 07 R274, 11 R464, R484). -/
def State.copyPiece (s : State) (q : Nat) (i : Item) (row t : Nat) : State :=
  let c := i.copyCmd
  let k := i.k
  let d := c.dstByte row t
  if c.sdev ≠ s.device then
    let n := c.piece row t true
    let a := c.srcByte row t
    let lines := (a + n - 1) / 64 + 1 - a / 64
    match (linesOf a n).find? fun l => !i.wins.grants rightR true (max l a) with
    | some l => s.failItem q k (failWindow (max l a))
    | none =>
    if !s.reachable c.sdev then s.failItem q k (s.failLink c.sdev)
    else match s.freeTag with
      | none => s
      | some tag =>
        ((s.noteReq ⟨tag, q, k, c.sdev, true, row, d, a % 64, n, s.now⟩).originate 0x01 c.sdev (tag + (lines - 1) * 2 ^ 13)
          (c.sdev * 2 ^ 42 + lineOf a) []).setWork q k (c.after row t n)
  else
    let n := c.piece row t false
    match s.pieceBytes i.wins c row t n with
    | .inl f => s.failItem q k f
    | .inr bs =>
      if c.ddev ≠ s.device then
        if !i.wins.grants rightW true d then s.failItem q k (failWindow d)
        else if !s.reachable c.ddev then s.failItem q k (s.failLink c.ddev)
        else match s.freeTag with
          | none => s
          | some tag =>
            let far := c.ddev * 2 ^ 42 + lineOf d
            let t' := s.noteReq ⟨tag, q, k, c.ddev, false, row, d, 0, n, s.now⟩
            (if n = 64 then t'.originate 0x02 c.ddev tag far [lineWith d bs]
             else t'.originate 0x03 c.ddev tag far [lineWith d bs, maskLine d n]).setWork q k (c.after row t n)
      else
        let r := s.writeFor i.wins d bs
        match r.2 with
        | some f => r.1.failItem q k f
        | none => r.1.setWork q k (c.after row t n)

/-- Up to `n` pieces of a COPY that goes on, PROGRESS kept after each. -/
def copyPieces (q k : Nat) : Nat → State → State
  | 0, s => s
  | n + 1, s =>
    match s.item? q k with
    | none => s
    | some i =>
      match i.work with
      | .copy row t => if i.live && decide (row < i.copyCmd.dRows) then copyPieces q k n ((s.copyPiece q i row t).settleCopy q k) else s
      | _ => s

/-- COPY: started when it can start; then up to `n` destination lines of it (09 R360 to R362, R374). -/
def execCopy (q : Queue) (k : Nat) (n : Nat) (s : State) : Answer :=
  .next (
    let t := s.startItem q k 0x20 (copyFields s.device) fun t _ => t.setWork q k (.copy 0 0)
    if t.serving then copyPieces q k n t else t)

/-! ## GATHER -/

/-- An address inside a present core's stride of the core memory aperture, its hole included (07 R268, 09 R363). -/
def State.inStride (s : State) (a : Nat) : Bool :=
  decide (coreBase ≤ a) && decide (a < coreTop) && decide (s.siteState ((a - coreBase) / 0x200000) = 0)

/-- Fields of a GATHER (09 R354, R363, 08 R308, R309, R338). -/
def gatherFields (s : State) (i : Item) : List (Nat × Bool) :=
  let d := readDesc (i.cmd.drop 16)
  let dst := i.fld 8 8
  [(8, decide (dst % 64 ≠ 0) || (d.layout == 1 && !s.inStride dst)),
   (match d.bad with
    | some off => if off ≤ 29 then (16 + off, true) else if d.gather then (16 + off, true) else (45, true)
    | none => (45, !d.gather))]

/-- The array of the core that a GATHER's destination lies in (09 R363). -/
def State.gatherArray (s : State) (dst : Nat) : ArrayState :=
  match s.region dst with
  | .core site => (s.core site).arr
  | _ => ArrayState.reset

/-- Up to `n` destination lines of a GATHER, from line `j` (08 R338 to R341). -/
def gatherLines (q k : Nat) : Nat → State → State
  | 0, s => s
  | n + 1, s =>
    match s.item? q k with
    | none => s
    | some i =>
      match i.work with
      | .gather j lay =>
        let d := readDesc (i.cmd.drop 16)
        let dst := i.fld 8 8
        let a := d.layFor lay j (s.gatherArray dst) j
        if !i.live || decide (d.length ≤ j) then s
        else match d.checkLines s (fun _ => a) i.wins none j 1 with
          | some f => s.failItem q k f
          | none =>
            let r := s.writeFor i.wins (dst + 64 * j) (d.lineBytes s a j)
            match r.2 with
            | some f => r.1.failItem q k f
            | none =>
              let t := (r.1.setWork q k (.gather (j + 1) (d.layAfter lay j a (j + 1)))).mapItem q k fun x => { x with progress := j + 1 }
              gatherLines q k n (if j + 1 = d.length then t.workDone q k else t)
      | _ => s

/-- GATHER: started when it can start; then up to `n` destination lines of it (09 R363, R374). -/
def execGather (q : Queue) (k : Nat) (n : Nat) (s : State) : Answer :=
  .next (
    let t := s.startItem q k 0x21 (gatherFields s) fun t i =>
      let d := readDesc (i.cmd.drop 16)
      match failFar [i.fld 8 8, d.base, d.ibase] with
      | some f => t.failItem q k f
      | none => t.setWork q k (.gather 0 none)
    if t.serving then gatherLines q k n t else t)

/-! ## STREAM -/

/-- Fields of a STREAM (09, layouts). -/
def streamFields (i : Item) : List (Nat × Bool) :=
  [(8, decide (2 ≤ i.fld 8 1)), i.zero 9 1, (10, decide (16384 ≤ i.fld 10 2)), i.zero 12 4,
   (16, decide (i.fld 8 1 = 1) && decide (i.fld 16 8 ≠ 0)), i.zero 24 8]

/-- STREAM with the OPEN operation (08 R308, R309, R314, R315, 07 R272). No rule fails a DESC that is not 64-byte aligned: the 64 bytes are
read as they lie (DESIGN CHOICE, log 73). -/
def execStreamOpen (q : Queue) (k : Nat) (s : State) : Answer :=
  .next (match s.item? q k with
    | none => s
    | some i0 =>
      if s.num (i0.addr + 8) 1 = 1 then s
      else s.startItem q k 0x22 streamFields fun t i =>
        let n := i.fld 10 2
        let a := i.fld 16 8
        if (t.stream n).phase ≠ StreamPhase.free then t.failItem q k (failField 10)
        else if 2 ^ 42 ≤ a then t.failItem q k (failWindow a)
        else match t.checkReads i.wins a 64 with
          | some f => t.failItem q k f
          | none =>
            let bs := t.bytes a 64
            let d := readDesc bs
            if d.bad.isSome then t.failItem q k (failField 16)
            else match failFar [d.base, d.ibase] with
            | some f => t.failItem q k f
            | none => (((t.putStream n ⟨.active, i.ctx, 0, bs, none⟩).mapItem q k fun j => { j with progress := 1 })).workDone q k)

/-- Whether a consuming read of a stream is in progress (08 R319). -/
def State.streamRead (s : State) (n : Nat) : Bool :=
  s.cores.any fun e => e.2.seq.slots.any fun o => match o with | .srd _ _ st _ => decide (st = n) | _ => false

/-- A stream discarded: its buffered lines go, and it is FREE; a fetch in flight for it returns to nothing (08 R319). -/
def State.freeStream (s : State) (n : Nat) : State :=
  let t := s.putStream n Stream.free
  t.setMem { t.mem with hubs := t.mem.hubs.map fun h =>
    { h with buf := h.buf.filter fun b => decide (b.stream ≠ n)
             fetches := h.fetches.map fun f => if f.stream = n then { f with stale := true } else f } }

/-- STREAM with the CLOSE operation; it completes once no consuming read of the stream is in progress (08 R319). -/
def execStreamClose (q : Queue) (k : Nat) (s : State) : Answer :=
  .next (
    let t := match s.item? q k with
      | none => s
      | some i0 =>
        if s.num (i0.addr + 8) 1 = 0 then s
        else s.startItem q k 0x22 streamFields fun t i =>
          let n := i.fld 10 2
          if (t.stream n).phase = StreamPhase.free ∨ (t.stream n).ctx ≠ i.ctx then t.failItem q k (failField 10)
          else t.setWork q k (.close n)
    match t.item? q k with
    | none => t
    | some i =>
      match i.work with
      | .close n =>
        if i.live && !t.streamRead n then
          ((t.freeStream n).mapItem q k fun j => { j with progress := 1 }).workDone q k
        else t
      | _ => t)

end Sys2Proof.Machine
end

