-- ==== Sys2Proof/WellFormed.lean ====
section
/-!
DEFINITION. Which commands are well-formed: the lists they carry have a length that their transport can carry, and an
unknown KIND is not one of the table of kinds. Every other operand is of a type that admits no ill-formed value.
-/
namespace Sys2Proof

/-- The message kinds of 11 R462. -/
def knownKinds : List Nat :=
  [0x01, 0x02, 0x03, 0x11, 0x12, 0x13, 0x14, 0x15, 0x16, 0x20, 0x30, 0x31, 0x32, 0x33]

/-- A write of BAR4 lies within its window of 1 MiB (18 R683); a WRITE, READ_DATA or CHUNK
carries 1 to 4 lines and a WRITE_MASKED 2 (11 R462); a KIND outside the table, with up to 7 lines, is what UNKNOWN_KIND_MESSAGE
brings. -/
def Instr.wellFormed : Instr → Bool
  | .hostBar4Write _ off bytes => decide (off.toNat + bytes.length ≤ 2 ^ 20)
  | .write _ _ data => decide (1 ≤ data.length) && decide (data.length ≤ 4)
  | .writeMasked _ _ data => decide (data.length = 2)
  | .readData _ _ data => decide (1 ≤ data.length) && decide (data.length ≤ 4)
  | .chunk _ _ data => decide (1 ≤ data.length) && decide (data.length ≤ 4)
  | .unknownKindMessage _ _ kind _ data => decide (kind.toNat ∉ knownKinds) && decide (data.length ≤ 7)
  | _ => true

end Sys2Proof
end

