-- ==== Sys2Proof/Machine/Links.lean ====
section
/-!
DEFINITION. The link ports (11): flits, replay and credits (R459 to R469), training, lane faults and sparing (R471 to R475),
the samples of lanes in the Tally (R486, 19 R700 to R704), lost devices (R483), requests from other devices and their responses
(R462 to R464, R484, R485), and the herd messages (10 R434, R435, R751).
-/
namespace Sys2Proof.Machine

/-! ## Messages out of bytes -/

/-- A message read from the front of bytes: its kind, header and lines (11 R462). -/
def readMsg (bs : List Byte) : Nat × MsgHead × List Line :=
  let f := fun off n => leNat ((bs.drop off).take n)
  let lines := min 4 (f 1 1 % 8)
  (f 0 1, ⟨Fin.ofNat 32 (f 1 1 / 8), Fin.ofNat 512 (f 2 2), Fin.ofNat 512 (f 4 2), BitVec.ofNat 16 (f 6 2), BitVec.ofNat 64 (f 8 8)⟩,
   (List.range lines).map fun i => BitVec.ofNat 512 (f (16 + 64 * i) 64))

/-- The whole messages among waiting flits: a first flit, with the next of its VC where it is longer than one. -/
def waitingMsgs : List TxFlit → List (Nat × MsgHead × List Line)
  | [] => []
  | e :: l =>
    (if e.first then
      let rest := match l.find? fun x => decide (x.vc = e.vc) with
        | some x => if x.first then [] else flitPayload x.flit
        | none => []
      [readMsg (flitPayload e.flit ++ rest)]
    else []) ++ waitingMsgs l

/-! ## Flits in -/

/-- What every good flit carries: the ASEQ covers sent flits, and credits come back (11 R465, R467 to R469). -/
def LinkSt.covered (l : LinkSt) (aseq credit vc : Nat) (now : DWord) : LinkSt :=
  let keep := l.replay.filter fun f => decide (0x8000 ≤ (BitVec.ofNat 16 aseq - BitVec.ofNat 16 (readHead f).fseq).toNat)
  let l := { l with credits := vset l.credits vc (vget l.credits vc 0 + credit) }
  if keep.length < l.replay.length then { l with replay := keep, lastAseq := now, replaysInRow := 0 } else l

/-- A NAK for the expected FSEQ, once (11 R466). -/
def State.sendNak (s : State) (p : Nat) : State :=
  let l := s.link p
  if l.nakFor = some l.rxSeq then s
  else
    let c := l.creditField (s.withheld p)
    (s.putLink p { c.2 with nakFor := some l.rxSeq }).emit (.flit p (mkFlit 2 0 0 l.rxSeq.toNat c.1 []))

/-- A flit that R461 discards; a bad CRC brings a NAK (R466). -/
def State.badFlit (s : State) (p : Nat) (h : FlitHead) : State :=
  let t := s.putLink p { s.link p with crc := sat32 (s.link p).crc 1 }
  if h.crcOk then t else t.sendNak p

/-- A good flit's ASEQ and credits, and what can be sent for them. -/
def State.flitCover (s : State) (p : Nat) (h : FlitHead) : State :=
  let aseq := if h.type = 2 then (BitVec.ofNat 16 h.aseq - 1).toNat else h.aseq
  s.putLink p ((s.link p).covered aseq h.credit h.creditVc s.now)

/-- The buffered flits from an FSEQ on, sent again with the port's current ASEQ (11 R467, R468). -/
def State.resend (s : State) (p : Nat) (seq : Nat) : State :=
  let l := s.link p
  let fs := (l.replay.filter fun f => decide ((BitVec.ofNat 16 (readHead f).fseq - BitVec.ofNat 16 seq).toNat < 0x8000)).map
    fun f => mkFlit 1 (readHead f).vc (readHead f).fseq l.aseq 0 (flitPayload f)
  s.emitFlits p fs

/-- One replay counted (11 R467, R486, 19 R710). -/
def State.countReplay (s : State) (p : Nat) : State :=
  (s.putLink p { s.link p with replays := sat16 (s.link p).replays 1 }).tallyReplay

/-- A port spares: data is held while it trains again (11 R473). -/
def State.spare (s : State) (p : Nat) : State :=
  let x := s.link p
  s.putLink p { x with phase := .sparing, sparings := satAdd 255 x.sparings 1, replaysInRow := 0, since := s.now }

/-- A replay has been sent: it counts, and the eighth in a row without progress is followed by a retrain (11 R467). -/
def State.replayed (s : State) (p : Nat) : State :=
  let t := s.countReplay p
  let n := (t.link p).replaysInRow + 1
  let u := t.putLink p { t.link p with replaysInRow := n }
  if 8 ≤ n then u.spare p else u

/-- A flit of one type arrives at a port: one that an uncorrectable codeword touches is discarded, and each such codeword counts once
(11 R459); one that R461 discards counts; a good one of the type is taken by `take`. -/
def State.flitIn (s : State) (l : Nat) (fec : Option Nat) (f : Flit) (type : Nat) (take : FlitHead → State) : State :=
  let h := readHead f
  if !s.hears l then s
  else match fec with
    | some n => s.putLink l { s.link l with fecUE := sat32 (s.link l).fecUE n }
    | none =>
      if !h.good then s.badFlit l h
      else if h.type ≠ type then s
      else take h

/-- DATA_FLIT: a flit of the data type arrives (11 R466, R468 to R470). -/
def execDataFlit (l : Link) (fec : Option Nat) (f : Flit) (s : State) : Answer :=
  .next (s.flitIn l fec f 1 fun h =>
    let t := s.flitCover l h
    let x := t.link l
    let d := (BitVec.ofNat 16 h.fseq - x.rxSeq).toNat
    (if d = 0 then
      t.putLink l { x with rxSeq := x.rxSeq + 1, nakFor := none, rx := vset x.rx h.vc (vget x.rx h.vc [] ++ flitPayload f) }
    else if d < 0x8000 then t.sendNak l else t).pumpLink l)

/-- IDLE_FLIT: only its ASEQ and credits count (11 R460, R468, R469). -/
def execIdleFlit (l : Link) (fec : Option Nat) (f : Flit) (s : State) : Answer :=
  .next (s.flitIn l fec f 0 fun h => (s.flitCover l h).pumpLink l)

/-- NAK: the sender sends again from the FSEQ that it names, and goes on with new flits (11 R467). -/
def execNak (l : Link) (fec : Option Nat) (f : Flit) (s : State) : Answer :=
  .next (s.flitIn l fec f 2 fun h => (((s.flitCover l h).resend l h.aseq).replayed l).pumpLink l)

/-! ## Port states -/

/-- The lanes in use: the four lowest healthy (11 R455). -/
def LinkSt.inUse (l : LinkSt) : List Nat := ((List.range 5).filter fun i => l.healthy.getLsbD i).take 4
def LinkSt.healthyCount (l : LinkSt) : Nat := ((List.range 5).filter fun i => l.healthy.getLsbD i).length

/-- A port's sender and receiver at the start of service: FSEQ 0, full credits, empty buffers (11 R469, R475). -/
def LinkSt.fresh (l : LinkSt) (now : DWord) : LinkSt :=
  { l with txSeq := 0, replay := [], credits := #v[1024, 1024, 1536, 512], txq := [], rxSeq := 0, nakFor := none,
           rxFree := Vector.replicate 4 0, rx := Vector.replicate 4 [], lastAseq := now, replaysInRow := 0 }

/-- A LOST notice to every UP port; on a SPARING one it waits (11 R474, R483). -/
def State.floodLost (s : State) (m : MsgHead) : State :=
  (List.range 16).foldl (fun t p =>
    if (t.link p).carries then t.sendOn p 0x33 { m with dst := Fin.ofNat 512 (t.link p).peer } [] else t) s

/-- A device marked LOST, once (11 R483). -/
def State.markLost (s : State) (e : Nat) : State :=
  if s.fab.lost.getLsbD e then s
  else (s.setFab { s.fab with lost := s.fab.lost ||| 1#512 <<< e }).logEvent 0x33 0 0 3 e 0

/-- Every port whose expected peer is e is DOWN: this device declares e lost (11 R483). -/
def State.checkLost (s : State) (e : Nat) : State :=
  let ps := (List.range 16).filter fun p => decide ((s.link p).role ≠ 0) && decide ((s.link p).expect = e)
  if ps.all fun p => decide ((s.link p).phase = .down) then
    let n := s.fab.notice + 1
    let m : MsgHead := ⟨0, Fin.ofNat 512 s.device, 0, BitVec.ofNat 16 e, n⟩
    let t := (s.setFab { s.fab with notice := n, seen := s.fab.seen ++ [(s.device, n)] }).markLost e
    t.floodLost m
  else s

/-- The request that a response answers. -/
def State.outReq (s : State) (m : MsgHead) : Option OutReq :=
  s.fab.out.find? fun r => decide (r.tag = m.mtag.toNat) && decide (r.dev = m.src.toNat)
def State.dropReq (s : State) (r : OutReq) : State := s.setFab { s.fab with out := s.fab.out.filter (· ≠ r) }

/-- The tag of a request's MTAG (11 R462). -/
def reqTag (kind : Nat) (m : MsgHead) : Nat := if kind = 1 then m.mtag.toNat % 2 ^ 13 else m.mtag.toNat

/-- The request of a tag fails its item with FAILED_LINK (11 R484, R485). -/
def State.failReq (s : State) (tag : Nat) : State :=
  match s.fab.out.find? fun r => decide (r.tag = tag) with
  | none => s
  | some r => (s.dropReq r).failItem r.q r.k (s.failLink r.dev)

/-- A waiting message takes the path that route now gives. One without a path is discarded, and where it is a request, this device's
own item fails, or its source is answered UNREACHABLE (11 R482, R484). -/
def State.reroute (s : State) (kind : Nat) (m : MsgHead) (data : List Line) : State :=
  match s.route m.src m.dst m.hops with
  | .port p => s.sendOn p kind m data
  | _ =>
    if kindVc kind ≠ 0 then s
    else if m.src.toNat = s.device then s.failReq (reqTag kind m)
    else s.originate 0x16 m.src (reqTag kind m) 0 []

/-- A port becomes DOWN: its replay buffer goes, waiting messages take the path that route then gives, and a neighbour whose
every port is DOWN is lost (11 R475, R482, R483). -/
def State.linkDown (s : State) (p : Nat) : State :=
  let x := s.link p
  let msgs := waitingMsgs x.txq
  let t := (s.putLink p { x.fresh s.now with phase := .down, routed := false, failsInRow := 0,
                                             downs := satAdd 255 x.downs 1 }).logEvent 0x31 3 p 3 0 0
  (msgs.foldl (fun u m => u.reroute m.1 m.2.1 m.2.2) t).checkLost x.expect

/-- A port's enable (15 R599). -/
def State.linkGate (s : State) (p : Nat) : Bool := s.power.gate0.toNat.testBit (16 + p)
/-- The image gives the port a role, and its enable is 1 (11 R476, 15 R599). -/
def State.linkEnabled (s : State) (p : Nat) : Bool := decide ((s.link p).role ≠ 0) && s.linkGate p

/-- TRAINING: a port begins or joins a training (11 R471); an UP port follows its peer into a sparing (R473). -/
def execTraining (l : Link) (s : State) : Answer :=
  .next (let x := s.link l
    if s.power.phase = .on ∧ s.linkEnabled l ∧ (x.phase = .down ∨ x.phase = .disabled) then
      s.putLink l { x with phase := .training }
    else if s.power.phase = .on ∧ x.phase = .up then s.spare l
    else s)

/-- The identity and the lanes that a training found (11 R471). -/
def LinkSt.trained (x : LinkSt) (r : TrainFact) : LinkSt :=
  { x with healthy := r.lanes, peerValid := x.peerValid || r.locked, peer := if r.locked then r.peer else x.peer }

/-- The end of a training on a port (11 R471, R475). -/
def State.endTraining (s : State) (l : Nat) (r : TrainFact) : State :=
  let x := s.link l
  let y := x.trained r
  let s := if r.locked ∧ r.peer.toNat ≠ x.expect then s.logEvent 0x32 3 l 0 r.peer.toNat 0 else s
  if r.locked ∧ r.peer.toNat = x.expect ∧ 4 ≤ y.healthyCount then
    s.putLink l { y.fresh s.now with phase := .up, failsInRow := 0 }
  else
    let z := { y with trainFails := satAdd 255 y.trainFails 1, failsInRow := y.failsInRow + 1 }
    if z.healthyCount < 4 ∨ 3 ≤ z.failsInRow then (s.putLink l z).linkDown l else s.putLink l z

/-- TRAINING_END: a training succeeds and the port is UP, or it fails; the third failure in a row makes it DOWN (11 R471,
R475). -/
def execTrainingEnd (l : Link) (r : TrainFact) (s : State) : Answer :=
  .next (if (s.link l).phase = .training then s.endTraining l r else s)

/-- A lane of an UP port fails and is retired; a lane in use is replaced by the spare, and with fewer than four the port is DOWN (11
R472, R473, R475). -/
def State.failLane (s : State) (l i : Nat) : State :=
  let x := s.link l
  if x.phase = .up ∧ x.healthy.getLsbD i then
    let y := { x with healthy := x.healthy &&& ~~~(1#5 <<< i) }
    let t := (s.putLink l y).logEvent 0x30 3 l 3 i 0
    if y.healthyCount < 4 then t.linkDown l
    else if i ∈ x.inUse then t.spare l else t
  else s

/-- LANE_FAIL: a lane of an UP port loses signal or PAM4 lock, the DC monitor finds it open or short, or its corrected symbols reach
the limit in a window that is no second of the Tally (11 R472). -/
def execLaneFail (l : Link) (i : Fin 5) (s : State) : Answer := .next (s.failLane l i)

/-- FEC-corrected symbols of a lane in a second that fail it (11 R472). -/
def laneLimit : Nat := 1048576

/-- A second's corrected symbols of a lane: the port's own counter; on an UP port the lane's histogram, and the limit of R472 (11 R472,
R486, 19 R700). -/
def State.laneSample (s : State) (e : Fin 80 × BitVec 32) : State :=
  let p := e.1.val / 5
  let l := e.1.val % 5
  let t := s.putLink p { s.link p with laneCE := vset (s.link p).laneCE l (sat32 (vget (s.link p).laneCE l 0) e.2.toNat) }
  if (s.link p).phase = .up then
    let u := t.tallyBin (0x1000 + 48 * e.1.val + 4 * laneBin e.2.toNat) (49 + e.1.val) 1
    if laneLimit ≤ e.2.toNat then u.failLane p l else u
  else t

/-- TALLY_SAMPLE: one second's samples (19 R700, R701, R704); a lane that is not listed corrected nothing. -/
def execTallySample (lanes : List (Fin 80 × BitVec 32)) (s : State) : Answer :=
  .next (if !s.alwaysOnPowered || !s.sampleDue then s
    else
      let t := s.setTally { s.tally with sampled := s.now }
      let t := t.tallyAdd t.secsOffset 1
      let t := t.tallyBin (0x300 + 4 * vinBin t.power.vin) 0 1
      if t.power.phase = .on then
        let t := (List.range 40).foldl (fun u i => u.tallyBin (0x400 + 64 * i + 4 * tempBin (vget u.power.temps i 0)) (1 + i) 1) t
        let idle := (List.finRange 80).filter fun i => !lanes.any fun e => decide (e.1 = i)
        (lanes ++ idle.map fun i => (i, 0)).foldl State.laneSample t
      else t)

/-- SPARING_END: the senders replay, and the port is UP (11 R473). -/
def execSparingEnd (l : Link) (s : State) : Answer :=
  .next (let x := s.link l
    if x.phase = .sparing then
      let t := s.putLink l { x with phase := .up, lastAseq := s.now }
      (t.emitFlits l (x.replay.map fun f => mkFlit 1 (readHead f).vc (readHead f).fseq x.aseq 0 (flitPayload f))).pumpLink l
    else s)

/-- SPARING_TIMEOUT: a sparing that has not ended within 200,000 ticks makes the port DOWN (11 R473, R475). -/
def execSparingTimeout (l : Link) (s : State) : Answer :=
  .next (let x := s.link l
    if x.phase = .sparing ∧ 200000 ≤ (s.now - x.since).toNat then s.linkDown l else s)

/-- REPLAY_TIMEOUT: no progress for 1,000 ticks while flits are buffered: a replay from the oldest; the eighth in a row without
progress is followed by a retrain (11 R467). -/
def execReplayTimeout (l : Link) (s : State) : Answer :=
  .next (let x := s.link l
    if x.phase = .up ∧ x.replay ≠ [] ∧ 1000 ≤ (s.now - x.lastAseq).toNat then
      let t := s.emitFlits l (x.replay.map fun f => mkFlit 1 (readHead f).vc (readHead f).fseq x.aseq 0 (flitPayload f))
      (t.putLink l { t.link l with lastAseq := s.now }).replayed l
    else s)

/-- RETRAIN: a write of LP_CTL.RETRAIN (11 R473, R486). -/
def execRetrain (l : Link) (s : State) : Answer :=
  .next (if !s.barOpen ∨ !s.linkGate l then s else match (s.link l).phase with
    | .up => s.spare l
    | .down => if s.linkEnabled l then s.putLink l { s.link l with phase := .training } else s
    | _ => s)

/-! ## Requests of another device -/

/-- The local address of a request's line i. -/
def msgLine (m : MsgHead) (i : Nat) : Nat := m.arg.toNat % 2 ^ 42 / 64 * 64 + 64 * i

/-- The response of a KIND to a request. -/
def State.respond (s : State) (kind : Nat) (m : MsgHead) (tag arg : Nat) (data : List Line) : State :=
  s.originate kind m.src tag arg data

/-- What the target finds at one line of a request: the failing response's KIND, if any (07 R268, R274, R292, 11 R462). -/
def State.peerLine (s : State) (right a n : Nat) : Option Nat :=
  match s.region a with
  | .hole => some 0x13
  | .control => some 0x13
  | _ =>
    if !s.mem.peer.grants right false a then some 0x13
    else if s.gatedAt a then some 0x14
    else if s.isUe a && (decide (right = rightR) || decide (n < 64)) then some 0x15
    else none

/-- The first failing line of a request, with its response. -/
def State.peerFail (s : State) (right : Nat) (m : MsgHead) (count n : Nat) : Option (Nat × Nat) :=
  (List.range count).findSome? fun i => (s.peerLine right (msgLine m i) n).map fun k => (k, msgLine m i)

/-- The failing response to a request (11 R464). -/
def State.refuse (s : State) (m : MsgHead) (tag : Nat) (f : Nat × Nat) : State :=
  (if f.1 = 0x15 then s.ueRead f.2 2 else s).respond f.1 m tag (s.device * 2 ^ 42 + f.2) []

/-- Room for a request's lines in the sort queues of the hubs that own them (07 R302). -/
def State.room (s : State) (m : MsgHead) (count : Nat) : Bool :=
  (List.range count).all fun i => decide ((s.hub (s.hubOf (msgLine m i))).sorted.length < 65536)

/-- A request for this device waits, where it stands in its port's buffer, for room at its hub (07 R302). -/
def State.mustWait (s : State) (m : MsgHead) (count : Nat) : Bool := decide (m.dst.toNat = s.device) && !s.room m count

/-- A message at this device, or in transit (11 R480). -/
def State.receive (s : State) (l kind : Nat) (m : MsgHead) (data : List Line) (here : State → State) : State :=
  if !s.hears l then s
  else
    let t := s.takeMsg l kind m data
    if m.dst.toNat = s.device then here t else t.transit kind m data

/-- READ: the lines, or the outcome that stops it (11 R462). -/
def execRead (l : Link) (m : MsgHead) (s : State) : Answer :=
  .next (let n := bitsOf m.mtag.toNat 15 13 + 1
    if s.mustWait m n then s else s.receive l 0x01 m [] fun t =>
    let tag := m.mtag.toNat % 2 ^ 13
    if 4 < n then t
    else match t.peerFail rightR m n 64 with
      | some f => t.refuse m tag f
      | none => t.respond 0x11 m tag 0 ((List.range n).map fun i => t.line (msgLine m i)))

/-- WRITE: every line is checked before any is written, then accepted (07 R274, 11 R462). -/
def execWrite (l : Link) (m : MsgHead) (data : List Line) (s : State) : Answer :=
  if data.length = 0 ∨ 4 < data.length then .refused .illFormed
  else .next (if s.mustWait m data.length then s else s.receive l 0x02 m data fun t =>
    match t.peerFail rightW m data.length 64 with
    | some f => t.refuse m m.mtag.toNat f
    | none =>
      ((data.zip (List.range data.length)).foldl (fun u p => u.writeLine (msgLine m p.2) (natLe 64 p.1.toNat)) t).respond
        0x12 m m.mtag.toNat 0 [])

/-- WRITE_MASKED: only the bytes of the mask change, atomically within their line (11 R462). -/
def execWriteMasked (l : Link) (m : MsgHead) (data : List Line) (s : State) : Answer :=
  match data with
  | [d, mask] =>
    .next (if s.mustWait m 1 then s else s.receive l 0x03 m data fun t =>
      let bits := BitVec.ofNat 64 (mask.toNat % 2 ^ 64)
      let a := msgLine m 0
      match t.peerFail rightW m 1 (if bits = BitVec.allOnes 64 then 64 else 0) with
      | some f => t.refuse m m.mtag.toNat f
      | none =>
        (if bits = 0 then t
         else t.writeLine a ((List.range 64).map fun i =>
          if bits.getLsbD i then BitVec.ofNat 8 (bitsOf d.toNat (8 * i + 7) (8 * i)) else t.byte (a + i))).respond 0x12 m m.mtag.toNat 0 [])
  | _ => .refused .illFormed

/-! ## Responses -/

/-- A failing response fails its item; in one tick the lowest line address decides (11 R464). -/
def State.respFail (s : State) (r : OutReq) (a : Nat) (f : Fail) : State :=
  let mark := fun (t : State) => t.setFab { t.fab with lastFail := some (r.q, r.k, a, s.now) }
  match s.item? r.q r.k with
  | none => s
  | some i =>
    if i.undecided then mark (s.failItem r.q r.k f)
    else match s.fab.lastFail with
      | some (q, k, b, t) =>
        if q = r.q ∧ k = r.k ∧ t = s.now ∧ a < b then
          mark (s.mapItem r.q r.k fun j => { j with status := f.status, detail := f.detail })
        else s
      | none => s

/-- DETAIL of a failing response (11 R464). -/
def respDetail (a : Nat) : Nat := if ctlBase ≤ a ∧ a < ctlTop then 0x60000000 else addrDetail a

/-- A failing response of a KIND with its status (11 R464). -/
def State.failResp (s : State) (l kind status : Nat) (m : MsgHead) : State :=
  s.receive l kind m [] fun t =>
    match t.outReq m with
    | none => t
    | some r => let a := m.arg.toNat % 2 ^ 42
                (t.dropReq r).respFail r a ⟨status, respDetail a, none⟩

/-- READ_DATA: the bytes asked for are written at the requester (11 R464, 09 R360). -/
def execReadData (l : Link) (m : MsgHead) (data : List Line) (s : State) : Answer :=
  if data.length = 0 ∨ 4 < data.length then .refused .illFormed
  else .next (s.receive l 0x11 m data fun t =>
    match t.outReq m with
    | none => t
    | some r =>
      let u := t.dropReq r
      match u.item? r.q r.k with
      | none => u
      | some i =>
        if !r.read || !i.undecided then u
        else
          let bs := (((data.map fun x => natLe 64 x.toNat).flatten).drop r.skip).take r.len
          let w := u.writeFor i.wins r.dst bs
          match w.2 with
          | some f => w.1.failItem r.q r.k f
          | none => w.1.settleCopy r.q r.k)

/-- WRITE_DONE: the write counts as accepted (11 R464). -/
def execWriteDone (l : Link) (m : MsgHead) (s : State) : Answer :=
  .next (s.receive l 0x12 m [] fun t =>
    match t.outReq m with
    | none => t
    | some r => (t.dropReq r).settleCopy r.q r.k)

/-- REFUSED (11 R464). -/
def execRefused (l : Link) (m : MsgHead) (s : State) : Answer := .next (s.failResp l 0x13 0x10 m)
/-- GATED (11 R464). -/
def execGated (l : Link) (m : MsgHead) (s : State) : Answer := .next (s.failResp l 0x14 0x19 m)
/-- ECC_FAIL (11 R464). -/
def execEccFail (l : Link) (m : MsgHead) (s : State) : Answer := .next (s.failResp l 0x15 0x11 m)

/-- UNREACHABLE: the request's item fails with FAILED_LINK (11 R484). -/
def execUnreachable (l : Link) (m : MsgHead) (s : State) : Answer :=
  .next (s.receive l 0x16 m [] fun t => t.failReq m.mtag.toNat)

/-- REQUEST_TIMEOUT: no response within 1,000,000 ticks (11 R485). -/
def execRequestTimeout (tag : Nat) (s : State) : Answer :=
  .next (match s.fab.out.find? fun r => decide (r.tag = tag) with
    | none => s
    | some r => if 1000000 ≤ (s.now - r.sent).toNat then s.failReq tag else s)

/-- UNKNOWN_KIND_MESSAGE: discarded and logged (11 R463); its flits are freed on the channel that brought it (R469). -/
def execUnknownKindMessage (l : Link) (vc : Fin 4) (kind : Byte) (m : MsgHead) (data : List Line) (s : State) : Answer :=
  if kind.toNat ∈ knownKinds ∨ 7 < data.length then .refused .illFormed
  else .next (if s.hears l then (s.putLink l ((s.link l).take vc kind.toNat m data)).logEvent 0x34 3 l 0 0 0 else s)

/-! ## Herd messages -/

def msgHerd (m : MsgHead) : Nat := m.mtag.toNat % 64

/-- A herd message that R751 discards and logs. -/
def State.strayHerd (s : State) (m : MsgHead) : Bool :=
  let h := s.herd (msgHerd m)
  decide (h.kind ≠ 2) || !h.mask.getLsbD m.src

/-- ARRIVE: counted by the master, held elsewhere (10 R431, R434, R751). -/
def execArrive (l : Link) (m : MsgHead) (s : State) : Answer :=
  .next (s.receive l 0x30 m [] fun t =>
    let h := t.herd (msgHerd m)
    if t.strayHerd m then t.logEvent 0x34 3 l 0 0 0
    else if h.master ≠ t.device then
      t.putHerd (msgHerd m) { h with held := (h.held.filter fun e => decide (e.1 ≠ m.src.toNat)) ++ [(m.src.toNat, m.arg)] }
    else if m.arg = h.gen ∧ !h.arrived.elem m.src.toNat then
      (t.putHerd (msgHerd m) { h with arrived := h.arrived ++ [m.src.toNat] }).checkFabricHerd (msgHerd m)
    else t)

/-- An armed member takes the count that a RELEASE carries, and its activation is scheduled (18 R690). -/
def State.takeCount (s : State) (h k : Nat) : State :=
  if k ≠ 0 ∧ s.fwu.actState = 1 ∧ s.fwu.actHerd = h then
    s.setFwu { s.fwu with actState := 2, actTarget := s.sync.bcnt + BitVec.ofNat 64 k }
  else s

/-- RELEASE: the member takes the GEN and its BARRIER item is released (10 R434, R751, 18 R690). -/
def execRelease (l : Link) (m : MsgHead) (s : State) : Answer :=
  .next (s.receive l 0x31 m [] fun t =>
    let h := t.herd (msgHerd m)
    if h.kind ≠ 2 ∨ h.master ≠ m.src.toNat then t.logEvent 0x34 3 l 0 0 0
    else
      ((t.putHerd (msgHerd m) { h with gen := m.arg, held := h.held.filter fun e => decide (m.arg ≤ e.2) }).takeCount (msgHerd m)
        (bitsOf m.mtag.toNat 15 8)).releaseBarriers (msgHerd m))

/-- CANCEL: the arrival is withdrawn, unless its generation has completed (10 R433, R435, R751). -/
def execCancel (l : Link) (m : MsgHead) (s : State) : Answer :=
  .next (s.receive l 0x32 m [] fun t =>
    let h := t.herd (msgHerd m)
    if t.strayHerd m then t.logEvent 0x34 3 l 0 0 0
    else if h.master ≠ t.device then
      t.putHerd (msgHerd m) { h with held := h.held.filter fun e => decide (e.1 ≠ m.src.toNat) }
    else if m.arg = h.gen then t.putHerd (msgHerd m) { h with arrived := h.arrived.filter (· ≠ m.src.toNat) }
    else t)

/-- LOST: forwarded once to every UP port, and the device marked (11 R483). -/
def execLost (l : Link) (m : MsgHead) (s : State) : Answer :=
  .next (if !s.hears l then s
    else
      let t := s.takeMsg l 0x33 m []
      if t.fab.seen.elem (m.src.toNat, m.arg) then t
      else
        ((t.setFab { t.fab with seen := t.fab.seen ++ [(m.src.toNat, m.arg)] }).markLost (m.mtag.toNat % 512)).floodLost (hopOn m))

end Sys2Proof.Machine
end

