-- ==== Sys2Proof/Machine/Update.lean ====
section
/-!
DEFINITION. The update units (13): the descriptor (R526, R527), the check pass (R529 to R533), the main pass block by block
(R534 to R540), the two rules (R541, R542), the NaN policies (R543, R544), and the counts (R545 to R550).
-/
namespace Sys2Proof.Machine

/-! ## The descriptor -/

structure Upd where
  hbase : Nat
  pbase : Nat
  mbase : Nat
  vbase : Nat
  gbase : Nat
  first : Nat
  nblk : Nat
  t : Nat
  eta : Word
  lambda : Word
  eps : Word
  rule : Nat
  beta : Nat
  policy : Nat
  opt : Nat
  frzFirst : Nat
  frzCount : Nat
  fbseq : Nat
  flagw : Nat
  report : Nat
  rest : Nat
  deriving DecidableEq, Repr

def readUpd (bs : List Byte) : Upd :=
  let f := fun off n => leNat ((bs.drop off).take n)
  { hbase := f 0 8, pbase := f 8 8, mbase := f 16 8, vbase := f 24 8, gbase := f 32 8, first := f 40 4, nblk := f 44 4,
    t := f 48 4, eta := BitVec.ofNat 32 (f 52 4), lambda := BitVec.ofNat 32 (f 56 4), eps := BitVec.ofNat 32 (f 60 4),
    rule := f 64 1, beta := f 65 1, policy := f 66 1, opt := f 67 1, frzFirst := f 68 4, frzCount := f 72 4,
    fbseq := f 76 4, flagw := f 80 8, report := f 88 8, rest := f 96 32 }

def Upd.allowSkew (u : Upd) : Bool := u.opt.testBit 0
def Upd.resume (u : Upd) : Bool := u.opt.testBit 1
def Upd.verify (u : Upd) : Bool := u.opt.testBit 2
def Upd.betaFromHdr (u : Upd) : Bool := u.opt.testBit 3
def Upd.adapt (u : Upd) : Bool := decide (u.rule = 2)
/-- The last step: stamps are no longer compared (13 R533). -/
def Upd.last (u : Upd) : Bool := decide (u.t = 0xFFFFFFFF)

/-- A usable β value: finite, 0 ≤ β < 1 (13 R525). -/
def betaOk (w : Word) : Bool := (f32 w).isFinite && (Val.fin false 0 0).le (f32 w) && (f32 w).lt (.fin false 1 0)
def pairUsable (b : Vector (Word × Word) 16) (i : Nat) : Bool :=
  let p := vget b i (0, 0)
  betaOk p.1 && betaOk p.2

/-- A descriptor that R527 refuses by its own fields and the β entry it names. -/
def Upd.bad (u : Upd) (betas : Vector (Word × Word) 16) : Bool :=
  decide (u.hbase % 64 ≠ 0) || decide (u.pbase % 2048 ≠ 0) || decide (u.mbase % 1024 ≠ 0) || decide (u.gbase % 1024 ≠ 0) ||
  (if u.adapt then decide (u.vbase % 1024 ≠ 0) else decide (u.vbase ≠ 0)) ||
  decide (u.nblk = 0) || decide (2 ^ 32 < u.first + u.nblk) || decide (u.t = 0) || !(f32 u.eta).isFinite ||
  !(f32 u.lambda).isFinite ||
  (if u.adapt then !(f32 u.eps).isFinite || (f32 u.eps).lt (.fin false 0 0) else decide (u.eps ≠ 0)) ||
  (decide (u.rule ≠ 1) && decide (u.rule ≠ 2)) || decide (16 ≤ u.beta) || decide (3 ≤ u.policy) || decide (16 ≤ u.opt) ||
  decide (2 ^ 32 < u.frzFirst + u.frzCount) ||
  (if u.policy = 1 then decide (u.flagw = 0) || decide (u.flagw % 8 ≠ 0) else decide (u.fbseq ≠ 0) || decide (u.flagw ≠ 0)) ||
  decide (u.report % 64 ≠ 0) || decide (u.rest ≠ 0) || (!u.betaFromHdr && !pairUsable betas u.beta)

/-- The descriptor's local addresses in their order (13 R526). -/
def Upd.addresses (u : Upd) : List Nat := [u.hbase, u.pbase, u.mbase, u.vbase, u.gbase, u.flagw, u.report]

/-- Addresses of a block's header and arrays (13 R520). -/
def Upd.hdr (u : Upd) (b : Nat) : Nat := u.hbase + 64 * b
def Upd.par (u : Upd) (b : Nat) : Nat := u.pbase + 2048 * b
def Upd.mom1 (u : Upd) (b : Nat) : Nat := u.mbase + 1024 * b
def Upd.mom2 (u : Upd) (b : Nat) : Nat := u.vbase + 1024 * b
def Upd.grad (u : Upd) (b : Nat) : Nat := u.gbase + 1024 * b
/-- The unit that handles a block (13 R528). -/
def State.oxOf (s : State) (u : Upd) (b : Nat) : Nat := s.hubOf (u.par b)
def Upd.blocks (u : Upd) : List Nat := (List.range u.nblk).map (u.first + ·)

/-! ## Headers and the check pass -/

/-- A block header (13 R521). -/
structure BlockHdr where
  stamp : Nat
  flags : Nat
  rule : Nat
  beta : Nat
  check : Nat
  zeros : Bool
  deriving DecidableEq, Repr

def State.blockHdr (s : State) (a : Nat) : BlockHdr :=
  let f := fun off n => s.num (a + off) n
  { stamp := f 0 4, flags := f 4 1, rule := f 5 1, beta := f 6 1, check := f 8 4,
    zeros := decide (f 4 1 < 4) && decide (f 6 1 < 16) && decide (f 7 1 = 0) && decide (f 12 52 = 0) }

/-- A header that R521 calls malformed, or whose rule is another (13 R529). -/
def BlockHdr.bad (h : BlockHdr) (u : Upd) : Bool := !h.zeros || decide (h.rule ≠ u.rule)

/-- Classes 2 to 6 of 13 R530; at the last step only 4 to 6. -/
def Upd.classOf (u : Upd) (flagWord : Nat) (h : BlockHdr) (b : Nat) : Nat :=
  if !u.last && u.resume && decide (h.stamp = u.t) then 2
  else if !u.last && decide (h.stamp + 1 ≠ u.t) then 3
  else if h.flags.testBit 0 || (decide (u.frzFirst ≤ b) && decide (b < u.frzFirst + u.frzCount)) then 4
  else if u.policy = 1 ∧ flagWord % 4 ≠ 0 then 5
  else 6

/-- A skewed block counted, the lowest kept (13 R547). -/
def UpdWork.skew (w : UpdWork) (b stamp : Nat) : UpdWork :=
  { w with skewed := w.skewed + 1
           firstSkewed := match w.firstSkewed with
             | some p => if b < p.1 then some (b, stamp) else some p
             | none => some (b, stamp) }

/-- One block in the check pass (13 R529, R530). -/
def UpdWork.check1 (w : UpdWork) (u : Upd) (h : BlockHdr) (b : Nat) : UpdWork :=
  let c := u.classOf w.flagWord h b
  let w := { w with found := tput (0, 0) w.found b (h.stamp, c) }
  let w := if h.bad u then { w with fault := true, firstBad := some (w.firstBad.getD b) }
           else if u.betaFromHdr && !pairUsable w.betas h.beta then { w with fault := true } else w
  if c = 3 then w.skew b h.stamp else w

def Item.upd? (i : Item) : Option UpdWork := match i.work with | .update w => some w | _ => none
def State.upd? (s : State) (q k : Nat) : Option (Item × UpdWork) :=
  (s.item? q k).bind fun i => if i.live then i.upd?.map fun w => (i, w) else none
def State.setUpd (s : State) (q k : Nat) (w : UpdWork) : State := s.setWork q k (.update w)

/-- Blocks of one unit counted since start-up (13 R550). -/
def State.oxCount (s : State) (h : Nat) (f : HubSt → HubSt) : State := s.putHub h (f (s.hub h))

/-- The check pass over a list of blocks (13 R529); a header that cannot be read fails the item. -/
def checkPass (q k : Nat) (u : Upd) : List Nat → State → State
  | [], s => s
  | b :: bs, s =>
    match s.upd? q k with
    | none => s
    | some (i, w) =>
      match s.checkRead i.wins (u.hdr b) with
      | some f => s.failItem q k f
      | none =>
        let h := s.blockHdr (u.hdr b)
        let t := s.setUpd q k (w.check1 u h b)
        let n := s.oxOf u b
        checkPass q k u bs
          (if u.classOf w.flagWord h b = 3 then t.oxCount n fun x => { x with oxSkewed := sat32 x.oxSkewed 1 } else t)

/-- The first block of the range whose unit is gated (15 R596). -/
def State.oxGated (s : State) (u : Upd) : Option Fail :=
  (u.blocks.find? fun b => !s.power.gate1.toNat.testBit (s.oxOf u b)).map fun b => failGated (u.par b)

/-- The flag word of SKIP_STEP, or the failure of reading it (13 R527, R544). -/
def State.updFlag (s : State) (ws : WinSet) (u : Upd) : Fail ⊕ Nat :=
  if u.policy = 1 then
    match s.checkRead ws u.flagw with
    | some f => .inl f
    | none => let v := s.num u.flagw 8
              if v / 2 ^ 32 ≠ u.fbseq then .inl (failField 8) else .inr v
  else .inr 0

/-- The start of an UPDATE and its check pass (13 R526 to R530). -/
def State.updStart (q k : Nat) (s : State) (i : Item) : State :=
  let a := i.fld 8 8
  if 2 ^ 42 ≤ a then s.failItem q k (failWindow a)
  else match s.checkReads i.wins a 128 with
    | some f => s.failItem q k f
    | none =>
      let bs := s.bytes a 128
      let u := readUpd bs
      if u.bad s.betas then s.failItem q k (failField 8)
      else match failFar u.addresses with
      | some f => s.failItem q k f
      | none =>
        match s.updFlag i.wins u, (if u.report = 0 then none else s.checkLine i.wins rightW u.report), s.oxGated u with
        | .inl f, _, _ => s.failItem q k f
        | .inr _, some f, _ => s.failItem q k f
        | .inr _, none, some f => s.failItem q k f
        | .inr v, none, none =>
          checkPass q k u u.blocks ((s.setUpd q k
            { desc := bs, betas := s.betas, flagWord := v, checked := true, main := false, found := [], fault := false,
              finished := [], updated := 0, frozen := 0, skewed := 0, passed := 0, skipped := 0, firstSkewed := none,
              firstBad := none }).mapItem q k fun x => { x with saturated := u.last })

/-- UPDATE: it starts after its boundary, reads its descriptor and runs the check pass (13 R526 to R530, 01 R44). -/
def execUpdate (q : Queue) (k : Nat) (s : State) : Answer :=
  .next (s.startItem q k 0x40
    (fun i => [(8, decide (i.fld 8 8 % 64 ≠ 0)), i.zero 16 16]) (State.updStart q k))

/-- UPDATE_MAIN_PASS: the item ends on a fault of R529 or a skew, or its main pass begins (13 R529, R531, R532). -/
def execUpdateMainPass (q : Queue) (k : Nat) (s : State) : Answer :=
  .next (match s.upd? q k with
    | none => s
    | some (_, w) =>
      let u := readUpd w.desc
      if !s.serving || w.main then s
      else if w.fault then s.failItem q k (failField 8)
      else match w.firstSkewed with
        | some p => if u.allowSkew then s.setUpd q k { w with main := true } else s.failItem q k ⟨0x17, p.1, none⟩
        | none => s.setUpd q k { w with main := true })

/-! ## The rules -/

/-- One FP32 operation with its flags (13 R545): the exact value of the operation and whether it is invalid. -/
def stepF (v : Val) (inv : Bool) : Word × Flags :=
  let r := toF32 v
  (r, { inv := inv, ovf := v.isFinite && (f32 r).isInf })

def mulF (a b : Word) : Word × Flags := stepF ((f32 a).mul (f32 b)) (((f32 a).isZero && (f32 b).isInf) || ((f32 a).isInf && (f32 b).isZero))
def addF (a b : Word) : Word × Flags :=
  stepF ((f32 a).add (f32 b)) ((f32 a).isInf && (f32 b).isInf && (f32 a).sign != (f32 b).sign)
def subF (a b : Word) : Word × Flags := addF a (fneg b)
def divF (a b : Word) : Word × Flags :=
  stepF ((f32 a).div (f32 b)) (((f32 a).isZero && (f32 b).isZero) || ((f32 a).isInf && (f32 b).isInf))
def sqrtF (a : Word) : Word × Flags := stepF (f32 a).sqrt ((f32 a).lt (.fin false 0 0))
/-- Rounding to BF16 with the flags that R545 counts. -/
def bfF (a : Word) : Nat × Flags := let r := toBf16 a
                                    (r.1, { ovf := r.2.ovf })

/-- Constants of an item and a β pair (13 R541, R542). -/
structure RuleConst where
  b1 : Word
  b2 : Word
  c1 : Word
  c2 : Word
  f1 : Word
  f2 : Word
  eta : Word
  lambda : Word
  eps : Word
  deriving DecidableEq, Repr

def one32 : Word := 0x3F800000#32
def rne64 (v : Val) : Val := fp64Fmt.read (fp64Fmt.rne v)

/-- β^t in binary64 over the low `n` bits of t, from the highest (13 R542 step 1). -/
def betaPow (b : Val) (t : Nat) : Nat → Val → Val
  | 0, r => r
  | n + 1, r =>
    let r := rne64 (r.mul r)
    betaPow b t n (if t.testBit n then rne64 (r.mul b) else r)

/-- 1 / (1 − β^t) (13 R542). -/
def biasFactor (b : Word) (t : Nat) : Word :=
  let one := Val.fin false 1 0
  toF32 (rne64 (one.div (rne64 (one.add (betaPow (f32 b) t 32 one).neg))))

def Upd.consts (u : Upd) (p : Word × Word) : RuleConst :=
  { b1 := p.1, b2 := p.2, c1 := fsub one32 p.1, c2 := fsub one32 p.2,
    f1 := if u.adapt then biasFactor p.1 u.t else 0, f2 := if u.adapt then biasFactor p.2 u.t else 0,
    eta := u.eta, lambda := u.lambda, eps := u.eps }

/-- An element's new state: parameter, first and second moment, and flags. -/
structure NewElem where
  p : Word
  m : Nat
  v : Nat
  fl : Flags
  deriving DecidableEq, Repr

def bf32 (e : Nat) : Word := BitVec.ofNat 32 (e * 65536)
def orAll (l : List Flags) : Flags := l.foldl Flags.or {}

/-- SIGNMOM for one element (13 R541). -/
def signmom (k : RuleConst) (p : Word) (m g : Word) : NewElem :=
  let a1 := mulF k.b1 m
  let a2 := mulF k.c1 g
  let s := addF a1.1 a2.1
  let z := Val.fin false 0 0
  let u : Word := if z.lt (f32 s.1) then one32 else if (f32 s.1).lt z then 0xBF800000#32
    else if (f32 s.1).eqv z then 0 else 0x7FC00000#32
  let lp := mulF k.lambda p
  let d := addF u lp.1
  let e := mulF k.eta d.1
  let p' := subF p e.1
  let m1 := mulF k.b2 m
  let m2 := mulF k.c2 g
  let ms := addF m1.1 m2.1
  let m' := bfF ms.1
  ⟨p'.1, m'.1, 0, orAll [a1.2, a2.2, s.2, lp.2, d.2, e.2, p'.2, m1.2, m2.2, ms.2, m'.2]⟩

/-- ADAPT for one element (13 R542). -/
def adaptStep (k : RuleConst) (p : Word) (m v g : Word) : NewElem :=
  let a1 := mulF k.b1 m
  let a2 := mulF k.c1 g
  let m1 := addF a1.1 a2.1
  let b1 := mulF k.b2 v
  let gg := mulF g g
  let b2 := mulF k.c2 gg.1
  let v1 := addF b1.1 b2.1
  let n := mulF m1.1 k.f1
  let vf := mulF v1.1 k.f2
  let r := sqrtF vf.1
  let dn := addF r.1 k.eps
  let q := divF n.1 dn.1
  let lp := mulF k.lambda p
  let d := addF q.1 lp.1
  let e := mulF k.eta d.1
  let p' := subF p e.1
  let m' := bfF m1.1
  let v' := bfF v1.1
  ⟨p'.1, m'.1, v'.1, orAll [a1.2, a2.2, m1.2, b1.2, gg.2, b2.2, v1.2, n.2, vf.2, r.2, dn.2, q.2, lp.2, d.2, e.2, p'.2, m'.2, v'.2]⟩

/-! ## A block in the main pass -/

/-- The block check (13 R522). -/
def blockCheck (rule : Nat) (state : List Byte) : Nat := leNat (shake256 (BitVec.ofNat 8 rule :: state) 4)

/-- A header as written: STAMP := t, FLAGS, RULE and BETA as read, CHECK, and zeros (13 R534). -/
def hdrBytes (t flags : Nat) (h : BlockHdr) (check : Nat) : List Byte :=
  natLe 4 t ++ natLe 1 flags ++ natLe 1 h.rule ++ natLe 1 h.beta ++ [0] ++ natLe 4 check ++ List.replicate 52 0

/-- 16-bit elements of an array's bytes. -/
def halves (bs : List Byte) : List Nat := (List.range (bs.length / 2)).map fun i => leNat ((bs.drop (2 * i)).take 2)
def words32 (bs : List Byte) : List Nat := (List.range (bs.length / 4)).map fun i => leNat ((bs.drop (4 * i)).take 4)

/-- The addresses and sizes of a block's arrays in their order. -/
def Upd.arrays (u : Upd) (b : Nat) : List (Nat × Nat) :=
  [(u.par b, 2048), (u.mom1 b, 1024)] ++ (if u.adapt then [(u.mom2 b, 1024)] else [])

/-- A class-6 block's new elements (13 R541, R542). -/
def Upd.newElems (u : Upd) (k : RuleConst) (ps ms vs gs : List Nat) : List NewElem :=
  (List.range 512).map fun j =>
    let p := BitVec.ofNat 32 (ps.getD j 0)
    let m := bf32 (ms.getD j 0)
    let g := bf32 (gs.getD j 0)
    if u.adapt then adaptStep k p m (bf32 (vs.getD j 0)) g else signmom k p m g

/-- The bytes of the new state, array by array. -/
def Upd.newBytes (u : Upd) (es : List NewElem) : List (List Byte) :=
  [(es.map fun e => natLe 4 e.p.toNat).flatten, (es.map fun e => natLe 2 e.m).flatten] ++
    (if u.adapt then [(es.map fun e => natLe 2 e.v).flatten] else [])

/-- A block's writes in order. Every line is checked before any is written, so that state is never written without its header (13
R534). -/
def State.writeAll (s : State) (ws : WinSet) (l : List (Nat × List Byte)) : State × Option Fail :=
  let lines := (l.map fun w => cutLines w.2.length w.1 w.2).flatten
  match lines.findSome? fun w => s.checkWrite ws w.1 w.2.length with
  | some f => (s, some f)
  | none => (lines.foldl (fun t w => t.writeLine w.1 w.2) s, none)

/-- The block's outcome is final: it is counted, and the work ends with the last block (13 R546). -/
def State.blockDone (s : State) (q k b : Nat) (f : UpdWork → UpdWork) (fl : Flags) : State :=
  match s.upd? q k with
  | none => s
  | some (_, w) =>
    let w := { f w with finished := b :: w.finished }
    let t := (s.setUpd q k w).mapItem q k fun i =>
      { i with progress := w.finished.length, detail := w.skipped, fl := i.fl.or fl }
    if w.finished.length = (readUpd w.desc).nblk then t.workDone q k else t

/-- Writes and then the outcome, or the failure of a write. -/
def State.blockWrites (s : State) (q k b : Nat) (ws : WinSet) (l : List (Nat × List Byte)) (hub : Nat)
    (f : UpdWork → UpdWork) (g : HubSt → HubSt) (fl : Flags) : State :=
  let r := s.writeAll ws l
  match r.2 with
  | some x => (r.1.mapItem q k fun i => { i with fl := i.fl.or fl }).failItem q k x
  | none => (r.1.oxCount hub g).blockDone q k b f fl

def countSkipped (w : UpdWork) : UpdWork := { w with skipped := w.skipped + 1 }
def hubSkipped (x : HubSt) : HubSt := { x with oxSkipped := sat32 x.oxSkipped 1 }

/-- A class-6 block (13 R534, R535, R541 to R545). -/
def State.blockNormal (s : State) (q k b : Nat) (i : Item) (w : UpdWork) (u : Upd) (h : BlockHdr) : State :=
  let hub := s.oxOf u b
  let arrs : List (Nat × Nat) := u.arrays b
  match (arrs ++ [(u.grad b, 1024)]).findSome? fun (a : Nat × Nat) => s.checkReads i.wins a.1 a.2 with
  | some f => s.failItem q k f
  | none =>
    let state : List Byte := (arrs.map fun (a : Nat × Nat) => s.bytes a.1 a.2).flatten
    let gs := halves (s.bytes (u.grad b) 1024)
    if u.verify ∧ blockCheck u.rule state ≠ h.check then s.failItem q k ⟨0x11, addrDetail (u.hdr b), none⟩
    else
      let odd := gs.any bf16Special
      let nan : Flags := { nanIn := gs.any fun g => decide (0x7F80 < g % 0x8000) }
      let seen := h.flags ||| (if odd then 2 else 0)
      if odd ∧ u.policy ≠ 2 then
        s.blockWrites q k b i.wins [(u.hdr b, hdrBytes u.t seen h h.check)] hub countSkipped hubSkipped
          { nan with nonfinite := true }
      else
        let c := u.consts (vget w.betas (if u.betaFromHdr then h.beta else u.beta) (0, 0))
        let es : List NewElem := u.newElems c (words32 (state.take 2048)) (halves ((state.drop 2048).take 1024)) (halves (state.drop 3072)) gs
        let out := u.newBytes es
        let fl := (orAll (es.map NewElem.fl)).or nan
        let fl := { fl with nonfinite := es.any fun e => !(f32 e.p).isFinite || bf16Special e.m || (u.adapt && bf16Special e.v) }
        s.blockWrites q k b i.wins
          ((arrs.map Prod.fst).zip out ++ [(u.hdr b, hdrBytes u.t seen h (blockCheck u.rule out.flatten))]) hub
          (fun w => { w with updated := w.updated + 1 }) (fun x => { x with oxUpdated := sat32 x.oxUpdated 1 }) fl

/-- A block taken by its unit in the main pass (13 R530, R534 to R537, R539). -/
def State.mainBlock (s : State) (q k b : Nat) (i : Item) (w : UpdWork) (u : Upd) : State :=
  let hub := s.oxOf u b
  match s.checkRead i.wins (u.hdr b) with
  | some f => s.failItem q k f
  | none =>
    let h := s.blockHdr (u.hdr b)
    let p := tget (0, 0) w.found b
    let moved := !u.last && decide (h.stamp ≠ p.1)
    if p.2 = 2 ∧ !moved ∨ (moved ∧ u.resume ∧ h.stamp = u.t) then
      s.blockDone q k b (fun w => { w with passed := w.passed + 1 }) {}
    else if p.2 = 3 then s.blockDone q k b id {}
    else if moved then
      let t := (s.setUpd q k (w.skew b h.stamp)).oxCount hub fun x => { x with oxSkewed := sat32 x.oxSkewed 1 }
      if u.allowSkew then t.blockDone q k b id {} else t.failItem q k ⟨0x17, b, none⟩
    else if p.2 = 4 then
      s.blockWrites q k b i.wins [(u.hdr b, hdrBytes u.t h.flags h h.check)] hub
        (fun w => { w with frozen := w.frozen + 1 }) (fun x => { x with oxFrozen := sat32 x.oxFrozen 1 }) {}
    else if p.2 = 5 then
      s.blockWrites q k b i.wins [(u.hdr b, hdrBytes u.t h.flags h h.check)] hub countSkipped hubSkipped { nonfinite := true }
    else s.blockNormal q k b i w u h

/-- UPDATE_BLOCK: a unit takes its next block (13 R528, R534 to R545); the block is read and written in one step (R538). -/
def execUpdateBlock (q : Queue) (k : Nat) (b : BitVec 32) (s : State) : Answer :=
  .next (match s.upd? q k with
    | none => s
    | some (i, w) =>
      let u := readUpd w.desc
      let n := b.toNat
      if s.serving && w.main && decide (u.first ≤ n) && decide (n < u.first + u.nblk) && !w.finished.elem n &&
          ((List.range (n - u.first)).all fun x =>
            decide (s.oxOf u (u.first + x) ≠ s.oxOf u n) || w.finished.elem (u.first + x)) then
        s.mainBlock q k n i w u
      else s)

end Sys2Proof.Machine
end

