-- ==== Sys2Proof/Machine/Faults.lean ====
section
/-!
DEFINITION. Resets and faults (14): how every item ends at once (R554, R564), the warm reset with its triggers (R551 to R561,
R756, R757), core sites at start-up (01 R29 to R31, 03 R125, R143), device faults (R562), lost host ports, and the host
takeover (R571 to R576).
-/
namespace Sys2Proof.Machine

/-! ## Ending every item -/

/-- Every accepted item that has not completed, by queue and number. -/
def State.openItems (s : State) : List (Nat × Nat) :=
  (s.queues.map fun e => (e.2.items.filter fun i => decide (i.phase ≠ .ended)).map fun i => (e.1, i.k)).flatten

/-- Every item without a final status gets one, and stops; their watches go together, so that none takes a claim that another leaves (14
R553, R554, R570, 15 R611). -/
def State.failAll (s : State) (f : Fail) : State :=
  s.openItems.foldl (fun t e => t.failItem e.1 e.2 f) (s.withdrawAll (s.waitsFor s.openItems))

/-- The writes that a stopped core still has in its slots are made (06 R263). -/
def State.finishWrites (s : State) (site : Nat) : State :=
  (s.core site).seq.slots.foldl (fun t o => match o with
    | .swr line count addr => t.write addr (t.bytes (coreAddr site (64 * line)) (64 * count))
    | .srd _ _ _ _ => t) s

/-- The sites that run a part of an item. -/
def State.busySites (s : State) : List Nat := (s.cores.filter fun e => e.2.seq.run.isSome).map (·.1)

/-- Every open item ends now with the status that it has. -/
def State.endOpen (s : State) : State := s.openItems.foldl (fun t e => (t.endNow e.1 e.2 none).1) s

/-- Every core reaches its stop point and is free, and every item ends (14 R553 steps 2 and 3, 15 R611). -/
def State.endAll (s : State) (f : Fail) : State :=
  let t := s.failAll f
  (t.busySites.foldl (fun u c => (u.finishWrites c).releaseCore c) t).endOpen

/-- Every item without a final status ends FAILED_RESET without a stop point: PROGRESS 0, DETAIL bit 0 (15 R616). -/
def Item.cutOff (i : Item) : Item :=
  if i.undecided then { i with status := 0x13, detail := 1, progress := 0 } else i

def State.cutAll (s : State) : State :=
  let t := s.openItems.foldl (fun t e => t.mapItem e.1 e.2 Item.cutOff) s
  (t.busySites.foldl (fun u c => u.putCore c (u.core c).freed) t).endOpen

/-- The next records of a queue, as many as can be. -/
def releaseMany : Nat → State → Nat → State
  | 0, s, _ => s
  | n + 1, s, q => releaseMany n (s.releaseRecord q) q

/-- Final records released in order into every ring that can take them (14 R553 step 3, R556). -/
def State.releaseAll (s : State) : State :=
  s.queues.foldl (fun t e => releaseMany (e.2.items.length + e.2.refusals.length + 1) t e.1) s

/-! ## The warm domain -/

/-- A hub in the warm reset: sort queue, prefetch buffer and held CHUNKs are empty (14 R551, R553, 08 R320, 12 R509). Counts since
start-up stand. -/
def HubSt.warm (h : HubSt) : HubSt :=
  { h with reqs := [], runs := [], openRow := [], buf := [], fetches := [], chunks := [] }

/-- A host watch withdrawn: EN is 0, FIRED is kept (14 R553, R572, 10 R453). -/
def HostWatch.off (h : HostWatch) : HostWatch := { h with ctl := h.ctl &&& 0x7FFFFFFF#32 }

/-- Every watch of the device is withdrawn (14 R553 step 4). -/
def State.dropWatches (s : State) : State :=
  let hosts := s.sync.host.foldl (fun t e => tput ⟨0, 0⟩ t e.1 e.2.off) []
  s.setSync { s.sync with watches := [], waiting := [], host := hosts }

/-- A herd's arrivals are lost, at its master those of other members too (14 R551, R553 step 4). -/
def Herd.warm (h : Herd) : Herd := { h with arrived := [], held := [] }

/-- A firmware unit whose other slot was being staged (18 R682). -/
def FwUnit.unstage (u : FwUnit) : FwUnit := if u.other = 1 then { u with other := 0, oth := ⟨[], []⟩ } else u

/-- The warm domain is reset: streams, watches, update units and engines (14 R551, R553 step 4); debug is locked (17 R677), and the
firmware session ends (18 R682). -/
def State.resetDomain (s : State) : State :=
  let t := s.setMem { s.mem with streams := [], hubs := s.mem.hubs.map HubSt.warm }
  let t := (t.dropWatches.mapHerds Herd.warm).setBetas (Vector.replicate 16 (0x3F666666, 0x3F7D70A4))
  let t := t.setFab { t.fab with out := [], lastFail := none }
  let t := t.setSync { t.sync with run := none }
  (t.setSec { t.sec with unlocked := false }).setFwu
    { t.fwu with isOpen := false, busy := false, units := t.fwu.units.map FwUnit.unstage }

/-! ## Core sites at start-up -/

/-- The rows that the audit found at a site, and whether its self-test failed. -/
def siteRows (l : List SiteFact) (site : Nat) : BitVec 100 :=
  l.foldl (fun m f => if f.site.val = site then m ||| f.rows else m) 0
def siteBad (l : List SiteFact) (site : Nat) : Bool := l.any fun f => decide (f.site.val = site) && f.selfTestFailed

/-- How start-up step 8 runs: at a start-up, with the row map new, or in a warm reset (14 R553 step 5). -/
structure SiteRun where
  warm : Bool
  now : DWord
  base : Nat
  deriving DecidableEq, Repr

/-- A core site after its row audit: its failed rows, its epoch one on for each row promoted and for a warm reset, and its banks
overwritten (03 R94, R125, R137, R143). -/
def Core.restart (c : Core) (r : SiteRun) (site : Nat) (rows : BitVec 100) : Core :=
  let a := c.arr
  let was := if r.warm then a.failed else 0
  let known := if r.warm then a.failed ||| a.newFailed else 0
  let newly := rows &&& ~~~known
  let b := { ArrayState.reset with failed := known ||| rows }
  let promoted := b.promoted { ArrayState.reset with failed := was }
  { Core.reset with arr := { b with
      epoch := a.epoch + BitVec.ofNat 16 (promoted + b01 r.warm)
      auditBad := decide (newly ≠ 0)
      firstFail := (rowsOf newly).head?.getD 0x7F
      auditDtc := if newly = 0 then r.now else a.auditDtc
      restages := if r.warm then a.restages else 0
      base := some (r.base + site) } }

/-- A site that passed both its row audit and its self-test (01 R29, 03 R96). -/
def Core.healthy (c : Core) (bad : Bool) : Bool := !bad && decide ((rowsOf c.arr.failed).length ≤ 4)

/-- Logical core numbers of one die from its healthy sites in ascending order (01 R29 to R31). -/
def numberDie (d : Nat) (sites : List Nat) : Table (Option (Option Nat)) :=
  (List.range 60).filterMap fun i =>
    if sites[i]? = some (64 * d + i) then none else some (60 * d + i, some sites[i]?)

/-- One log entry for each row newly failed (03 R142). -/
def State.logRows (s : State) (site : Nat) (rows : BitVec 100) (last : DWord) : State :=
  (rowsOf rows).foldl (fun t r => t.logEvent 0x11 1 site 3 last.toNat r) s

/-- Row audit, self-test, promotions, spare-site selection and numbering; core memory reads zero (16 R619 step 8, 14 R553 step 5, 07
R750). -/
def State.startSites (s : State) (facts : List SiteFact) (warm : Bool) : State :=
  let r : SiteRun := ⟨warm, s.now, s.freeCount⟩
  let all := (List.range 1536).map fun x => (x, (s.core x).restart r x (siteRows facts x))
  let good := (all.filter fun e => e.2.healthy (siteBad facts e.1)).map (·.1)
  let t := facts.foldl (fun t f =>
    let a := (s.core f.site).arr
    t.logRows f.site (f.rows &&& ~~~(if warm then a.failed ||| a.newFailed else 0)) a.auditDtc) s
  let t := (t.setCores (all.filter fun e => decide (e.2 ≠ Core.reset))).setFreeCount (s.freeCount + 1536)
  let t := t.setStart { t.start with
    siteFailed := (List.range 1536).filter fun x => !good.elem x
    lmap := ((List.range 24).map fun d => numberDie d (good.filter fun x => decide (x / 64 = d))).flatten }
  t.zeroLoc coreBase coreTop

/-! ## Queues open -/

/-- A queue as it returns: CLOSED without an enabled core, IDLE where it was IDLE or CLOSED, else STOPPED (14 R560, 16 R622, 15
R605). -/
def QueueSt.reopen (x : QueueSt) (engine : Bool) : QueueSt :=
  { x with st := if !engine then .closed else if x.st = .idle ∨ x.st = .closed then .idle else .stopped,
           refuse := 0, pos := .none, preReq := .none, stopNext := false }

def State.reopen (s : State) : State :=
  let opens := (List.range 11).filter s.engineOpen
  s.setQueues ((List.range 176).foldl (fun t q =>
    tput QueueSt.reset t q ((tget QueueSt.reset t q).reopen (opens.elem (engineOf q)))) s.queues)

/-! ## The warm reset -/

/-- A die or stack at or above its release temperature, 90 °C (15 R608, R612). -/
def State.hot (s : State) : Bool := s.power.temps.toList.any fun t => decide (360 ≤ t.toInt)

/-- What happens at a given tick. -/
def State.atTick (s : State) (tk : DWord) (f : State → State) : State :=
  let t := f (s.setSync { s.sync with dtc := tk })
  t.setSync { t.sync with dtc := s.sync.dtc }

/-- A reset request is taken: logged and counted, and every item without a final status ends FAILED_RESET at its stop point (14
R553 steps 1 to 3, R554, R570, R580, 19 R700). -/
def State.beginReset (s : State) (trigger : Nat) : State :=
  let t := s.setFault { s.fault with pending := some (trigger, s.now), wanted := none }
  ((t.logEvent 1 0 0 4 trigger 0).tallyAdd 0x70 1).failAll ⟨0x13, 0, none⟩

/-- A trigger: absorbed by a running warm reset, held while a firmware activation runs or the module is hot, else taken (14 R552,
R756, 15 R612, 18 R695). -/
def State.requestReset (s : State) (trigger : Nat) (tk : DWord) : State :=
  if !s.commanding then s
  else if s.draining || s.hot then s.setFault { s.fault with wanted := some (s.fault.wanted.getD trigger) }
  else s.atTick tk fun t => t.beginReset trigger

/-- A trigger that waited is taken when nothing holds it any more (15 R612, 18 R695). -/
def State.takeWanted (s : State) : State :=
  match s.fault.wanted with
  | some g => if s.commanding && !s.draining && !s.hot then s.beginReset g else s
  | none => s

/-- The steps of a warm reset up to the opening of the queues (14 R553, R556, R560). -/
def State.warmReset (s : State) (sites : List SiteFact) : State :=
  let t := ((s.endAll ⟨0x13, 0, none⟩).releaseAll.resetDomain).startSites sites true
  let t := (t.setFault { t.fault with pending := none }).setPower { t.power with tripped := false }
  t.reopen.releaseAll

/-- WARM_RESET: the reset that was asked for runs, unless the reference is lost (14 R553, 15 R590, R612). -/
def execWarmReset (sites : List SiteFact) (s : State) : Answer :=
  .next (if s.fault.pending.isSome ∧ !s.fault.hold ∧ s.started then s.warmReset sites else s)

/-- MOD_RESET_N held low for 10 ticks (14 R552). -/
def execModResetN (s : State) : Answer := .next (s.requestReset 1 s.now)

/-- DEVICE_FAULT: logged, and Nimtia requests a warm reset (14 R552, R562). -/
def execDeviceFault (s : State) : Answer :=
  .next (if s.commanding then (s.logEvent 4 0 0 4 0 0).requestReset 2 s.now else s)

/-- ALWAYS_ON_FAULT: the device accepts no list until a power cycle (14 R562). -/
def execAlwaysOnFault (s : State) : Answer :=
  .next (if s.alwaysOnPowered ∧ !s.fault.alwaysOn then
      (s.logEvent 5 0 0 3 0 0).setFault { (s.logEvent 5 0 0 3 0 0).fault with alwaysOn := true }
    else s)

/-! ## Host ports -/

/-- A port's link goes down (14 R562, 20 R735). -/
def State.portDown (s : State) (p : Nat) : State :=
  (s.putPcie p { s.pcie p with speed := 0, width := 0, reversed := false }).logEvent 3 4 p 3 0 0

/-- HOST_PORT_LOST: the PCIe link of a port goes down; its records wait (14 R556, R562, 15 R586). -/
def execHostPortLost (p : Port) (s : State) : Answer :=
  .next (if (s.pcie p).speed = 0 then s else s.portDown p)

/-- PERST_N: the port's endpoint alone is reset (14 R552, 16 R628); ID_BAR2_BASE is no part of it (log 30). -/
def execPerstN (p : Port) (s : State) : Answer :=
  .next (let t := if (s.pcie p).speed = 0 then s else s.portDown p
    t.putPcie p { PcieSt.reset with laneFault := (s.pcie p).laneFault, bar2Base := (s.pcie p).bar2Base })

/-- The records of a port's queues that waited for its link are written (14 R556). -/
def State.drainPort (s : State) (p : Nat) : State :=
  s.queues.foldl (fun t e => if e.2.hostRing && decide (s.qOwner e.1 = p) then t.drain e.1 else t) s

/-- The widest width whose lanes are all healthy, and whether lanes are reversed (20 R726, R728). -/
def trainWidth (faults : BitVec 16) : Nat × Bool :=
  let n := faults.toNat
  if n = 0 then (16, false)
  else if bitsOf n 7 0 = 0 then (8, false)
  else if bitsOf n 15 8 = 0 then (8, true)
  else if bitsOf n 3 0 = 0 then (4, false)
  else if bitsOf n 15 12 = 0 then (4, true)
  else (0, false)

/-- A host port's endpoint can train: start-up step 5 has begun, or the ROMs serve in recovery (16 R625, 18 R698). -/
def State.endpointReady (s : State) : Bool :=
  (decide (s.power.phase = .on) && decide (4 ≤ s.start.step)) || (s.fwu.recovery && decide (s.power.phase = .ready))

/-- HOST_PORT_LINK_UP: the link trains at its widest healthy width once start-up step 5 has begun, and waiting records are written
(16 R625, R628, 20 R728, 15 R596). -/
def execHostPortLinkUp (p : Port) (speed : Fin 6) (faults : BitVec 16) (s : State) : Answer :=
  .next (if speed.val = 0 ∨ (s.pcie p).speed ≠ 0 ∨ !s.endpointReady ∨ !s.power.gate1.toNat.testBit (8 + p.val)
    then s
    else
      let w := trainWidth faults
      let x := { s.pcie p with laneFault := faults, width := w.1, reversed := w.2, speed := if w.1 = 0 then 0 else speed.val }
      let t := s.putPcie p x
      if w.1 = 0 then t.logEvent 3 4 p 3 0 0
      else (if w.1 < 16 then t.logEvent 3 4 p 1 0 0 else t).drainPort p)

/-! ## Host takeover -/

/-- The queues that a port does not own. -/
def State.othersQueues (s : State) (p : Nat) : List Nat := (List.range 176).filter fun q => decide (s.qOwner q ≠ p)

/-- The host watches of a port are withdrawn, their FIRED bits kept (14 R572). -/
def State.dropHostWatches (s : State) (p : Nat) : State :=
  (List.range 64).foldl (fun t i =>
    let h := tget (⟨0, 0⟩ : HostWatch) t.sync.host (64 * p + i)
    if h.ctl.getLsbD 31 then
      let u := t.withdraw (.host p i)
      u.setSync { u.sync with host := tput ⟨0, 0⟩ u.sync.host (64 * p + i) h.off }
    else t) s

/-- A port takes every queue and context of the other (14 R571 to R576, 18 R682). -/
def State.takeover (s : State) (p : Nat) : State :=
  let moved := s.othersQueues p
  let t := s.setQueues (moved.foldl (fun t q =>
    let x := tget QueueSt.reset t q
    tput QueueSt.reset t q { x with rebase := x.rebase || x.hostRing }) s.queues)
  let t := t.setStart { t.start with qOwner := if p = 0 then 0 else BitVec.allOnes 176,
                                     ctxOwner := if p = 0 then 0 else BitVec.allOnes 64 }
  let t := (t.dropHostWatches (1 - p)).setTakeLast (BitVec.ofNat 32 (2 ^ 31 + p * 2 ^ 30 + moved.length))
  (t.setFwu { t.fwu with port := if t.fwu.isOpen then p else t.fwu.port }).logEvent 2 4 p 0 0 0

end Sys2Proof.Machine
end

