-- ==== Sys2Proof/Machine/Xmss.lean ====
section
/-!
DEFINITION. Verification of an XMSS-SHAKE256_20_256 signature (17 R648), the published standard that the spec names (NIST SP
800-208 with RFC 8391), computed for a tree of any height (log 9); and the vendor keys (R649, R650).
-/
namespace Sys2Proof.Machine

/-- A number in `n` bytes, highest first. -/
def natBe (n v : Nat) : List Byte := (natLe n v).reverse
/-- The number that bytes spell, highest first. -/
def beNat (bs : List Byte) : Nat := leNat bs.reverse

/-- The hash functions F, H, H_msg and PRF, by number 0 to 3. -/
def xHash (kind : Nat) (key m : List Byte) : List Byte := shake256 (natBe 32 kind ++ key ++ m) 32

/-- A hash address: type, and the words of its position. -/
structure XAdrs where
  type : Nat
  a : Nat
  b : Nat
  c : Nat
  deriving DecidableEq, Repr

def XAdrs.bytes (x : XAdrs) (mask : Nat) : List Byte :=
  natBe 4 0 ++ natBe 8 0 ++ natBe 4 x.type ++ natBe 4 x.a ++ natBe 4 x.b ++ natBe 4 x.c ++ natBe 4 mask

def xorBytes (x y : List Byte) : List Byte := List.zipWith (· ^^^ ·) x y

/-- A one-time chain from step `i` for `n` steps. -/
def xChain (seed : List Byte) (ots chain : Nat) : Nat → Nat → List Byte → List Byte
  | 0, _, x => x
  | n + 1, i, x =>
    let ad : XAdrs := ⟨0, ots, chain, i⟩
    xChain seed ots chain n (i + 1) (xHash 0 (xHash 3 seed (ad.bytes 0)) (xorBytes x (xHash 3 seed (ad.bytes 1))))

/-- A node of a tree from its two children. -/
def xNode (seed : List Byte) (ad : XAdrs) (l r : List Byte) : List Byte :=
  xHash 1 (xHash 3 seed (ad.bytes 0)) (xorBytes l (xHash 3 seed (ad.bytes 1)) ++ xorBytes r (xHash 3 seed (ad.bytes 2)))

/-- One level of an L-tree; a last node without a sibling moves up. -/
def xLevel (seed : List Byte) (ltree height : Nat) : Nat → List (List Byte) → List (List Byte)
  | i, l :: r :: rest => xNode seed ⟨1, ltree, height, i⟩ l r :: xLevel seed ltree height (i + 1) rest
  | _, rest => rest

/-- The root of an L-tree; the fuel is its height. -/
def xLtree (seed : List Byte) (ltree : Nat) : Nat → Nat → List (List Byte) → List Byte
  | 0, _, l => l.head?.getD []
  | n + 1, h, l => if l.length ≤ 1 then l.head?.getD [] else xLtree seed ltree n (h + 1) (xLevel seed ltree h 0 l)

/-- The root from a leaf and its authentication path. -/
def xRoot (seed : List Byte) : Nat → Nat → List Byte → List (List Byte) → List Byte
  | _, _, node, [] => node
  | h, i, node, a :: path =>
    let ad : XAdrs := ⟨2, 0, h, i / 2⟩
    xRoot seed (h + 1) (i / 2) (if i % 2 = 0 then xNode seed ad node a else xNode seed ad a node) path

/-- The 67 digits of a 32-byte message hash with its checksum. -/
def xDigits (m : List Byte) : List Nat :=
  let ds := (m.map fun b => [b.toNat / 16, b.toNat % 16]).flatten
  let sum := (ds.map fun d => 15 - d).sum
  ds ++ [sum / 256 % 16, sum / 16 % 16, sum % 16]

/-- Pieces of 32 bytes. -/
def pieces32 : Nat → List Byte → List (List Byte)
  | 0, _ => []
  | n + 1, bs => bs.take 32 :: pieces32 n (bs.drop 32)

/-- A signature verifies under a public key: OID, root and seed (17 R648). -/
def xmssVerify (height : Nat) (key msg sig : List Byte) : Bool :=
  let root := (key.drop 4).take 32
  let seed := (key.drop 36).take 32
  let idx := beNat (sig.take 4)
  let digest := xHash 2 ((sig.drop 4).take 32 ++ root ++ natBe 32 idx) msg
  let ots := pieces32 67 (sig.drop 36)
  let ends := ((ots.zip (xDigits digest)).zip (List.range 67)).map fun p => xChain seed idx p.2 (15 - p.1.2) p.1.2 p.1.1
  let leaf := xLtree seed idx 7 0 ends
  decide (sig.length = 2180 + 32 * height) && decide (idx < 2 ^ height) &&
    decide (xRoot seed 0 idx leaf (pieces32 height (sig.drop 2180)) = root)

/-- The parameter set's OID (17 R648, NIST SP 800-208). -/
def xmssOid : List Byte := natBe 4 0x12

/-- A stored vendor key that hashes to its fused value (17 R649). -/
def vendorKeyGood (i : Nat) : Bool := decide (shake256 (Config.vendorKey i) 32 = Config.vendorHash i)

/-- A vendor signature verifies under a usable slot, slot 0 first (17 R649, R650). -/
def vendorVerifies (rev0 rev1 : Bool) (msg sig : List Byte) : Bool :=
  let slot := fun i rev => vendorKeyGood i && !rev && decide ((Config.vendorKey i).take 4 = xmssOid) &&
    xmssVerify 20 (Config.vendorKey i) msg sig
  slot 0 rev0 || slot 1 rev1

end Sys2Proof.Machine
end

