-- ==== Sys2Proof/Machine/Image.lean ====
section
/-!
DEFINITION. The configuration image (16 R629 to R640): its header, its sections with their checks and defaults, and its
signature.
-/
namespace Sys2Proof.Machine

/-! ## Bytes and sections -/

/-- A field of some bytes. -/
def fieldOf (bs : List Byte) (off n : Nat) : Nat := leNat ((bs.drop off).take n)
/-- Bytes `lo` to `hi − 1` are zero. -/
def zeroIn (bs : List Byte) (lo hi : Nat) : Bool := ((bs.drop lo).take (hi - lo)).all fun b => decide (b = 0)
/-- A size padded to a multiple of 16. -/
def pad16 (n : Nat) : Nat := (n + 15) / 16 * 16

/-- A section: TYPE, COUNT and body (16 R633). -/
structure Section where
  type : Nat
  count : Nat
  body : List Byte
  deriving DecidableEq, Repr

/-- The sections of the bytes after the header, `n` of them, which end exactly there, with ascending TYPEs (16 R633). -/
def readSections : Nat → Nat → List Byte → Option (List Section)
  | 0, _, bs => if bs = [] then some [] else none
  | n + 1, last, bs =>
    let type := fieldOf bs 0 2
    let slen := fieldOf bs 4 4
    if bs.length < 16 ∨ type ≤ last ∨ 14 < type ∨ slen % 16 ≠ 0 ∨ slen < 16 ∨ bs.length < slen ∨
        !zeroIn bs 2 4 ∨ !zeroIn bs 12 16 then none
    else (readSections n type (bs.drop slen)).map fun l => ⟨type, fieldOf bs 8 4, (bs.take slen).drop 16⟩ :: l

/-- A section of fixed entries: COUNT `n` of `size` bytes, zeros after them. -/
def Section.fixed (x : Section) (n size : Nat) : Bool :=
  decide (x.count = n) && decide (x.body.length = pad16 (n * size)) && zeroIn x.body (n * size) x.body.length

/-- The entries of a section. -/
def Section.entries (x : Section) (size : Nat) : List (List Byte) :=
  (List.range x.count).map fun i => (x.body.drop (size * i)).take size

/-! ## Section bodies (16 R634) -/

/-- ENGINES. -/
def Section.engines (x : Section) : Option (List Nat) :=
  let l := (x.body.take 1440).map (·.toNat)
  if x.fixed 1440 1 && l.all fun e => decide (e < 8) || decide (e = 0xFF) then some l else none

/-- Bit i of entry i's byte 0 as a mask. -/
def bitMask (l : List Nat) : Nat := (l.zip (List.range l.length)).foldl (fun m e => m + e.1 % 2 * 2 ^ e.2) 0

/-- QUEUES. -/
def Section.owners (x : Section) : Option (BitVec 176) :=
  let l := (x.body.take 176).map (·.toNat)
  if x.fixed 176 1 && l.all fun e => decide (e < 2) then some (BitVec.ofNat 176 (bitMask l)) else none

/-- B(x) is 64 KiB aligned, and its regions lie in HBM (04 R179). -/
def saveOk (b : Nat) : Bool := decide (b % 65536 = 0) && decide (b + 1440 * 0x210000 ≤ 0x10000000000)

/-- CONTEXTS: owners and save bases. -/
def Section.contexts (x : Section) : Option (BitVec 64 × List Nat) :=
  let l := x.entries 16
  if x.fixed 64 16 && l.all fun e => decide (fieldOf e 0 1 < 2) && zeroIn e 1 8 && saveOk (fieldOf e 8 8) then
    some (BitVec.ofNat 64 (bitMask (l.map fun e => fieldOf e 0 1)), l.map fun e => fieldOf e 8 8) else none

/-- MEMORY: the interleave modes. -/
def Section.modes (x : Section) : Option (BitVec 2 × BitVec 2) :=
  if x.fixed 1 16 && decide (fieldOf x.body 0 1 < 4) && decide (fieldOf x.body 1 1 < 4) && zeroIn x.body 2 16 then
    some (BitVec.ofNat 2 (fieldOf x.body 0 1), BitVec.ofNat 2 (fieldOf x.body 1 1)) else none

/-- One window entry: context, or 64 for a peer window, and window. -/
def readWindow (e : List Byte) : Option (Nat × Nat × Window) :=
  let c := fieldOf e 0 1
  let ctl := fieldOf e 2 1
  if c ≤ 64 ∧ fieldOf e 1 1 < 16 ∧ ctl < 32 ∧ zeroIn e 3 4 ∧ fieldOf e 4 4 < 2 ^ 30 ∧ fieldOf e 8 4 < 2 ^ 30 ∧ zeroIn e 12 16 ∧
      (c < 64 ∨ ctl < 8) then
    some (c, fieldOf e 1 1, ⟨BitVec.ofNat 30 (fieldOf e 4 4), BitVec.ofNat 30 (fieldOf e 8 4), BitVec.ofNat 5 ctl⟩)
  else none

/-- Every answer of a list, or none. -/
def allSome {α : Type} : List (Option α) → Option (List α)
  | [] => some []
  | none :: _ => none
  | some a :: l => (allSome l).map (a :: ·)

/-- No window is named twice. -/
def windowsOnce : List (Nat × Nat × Window) → Bool
  | [] => true
  | e :: l => (l.all fun x => decide (x.1 ≠ e.1) || decide (x.2.1 ≠ e.2.1)) && windowsOnce l

/-- WINDOWS. -/
def Section.windows (x : Section) : Option (List (Nat × Nat × Window)) :=
  if 1040 < x.count ∨ !x.fixed x.count 16 then none
  else (allSome ((x.entries 16).map readWindow)).bind fun l => if windowsOnce l then some l else none

/-- The member one or two steps from this device in a direction (11 R477, R479). -/
def FabricImg.step (f : FabricImg) (dir n : Nat) : Nat :=
  let dim := dir / 2
  let e := f.ext dim
  let same := fun k => f.coord f.device k
  let moved := (f.coord f.device dim + (if dir % 2 = 0 then n % e else e - n % e)) % e
  let c := fun k => if k = dim then moved else same k
  c 0 + f.x * (c 1 + f.y * c 2)

/-- The direction of a torus port (11 R476). -/
def torusDir (p : Nat) : Nat := ([0, 0, 2, 2, 1, 1, 3, 3, 4, 4, 5, 5].getD p 0)

/-- The direction whose detour a port is, if any. -/
def detourDir (detours : List Nat) (p : Nat) : Option Nat := (List.range 6).find? fun d => decide (detours.getD d 0xFF = p)

/-- The rules of R636 and R477 for one port with its role, DIR and EXPECT field. -/
def portOk (f : FabricImg) (detours : List Nat) (inside : Bool) (p role dir expect : Nat) : Bool :=
  let torus := role == 1
  let free := role == 3 || (role == 2 && (detourDir detours p).isNone)
  decide (role < 4) && decide (expect < 512) && (free || expect == 0) &&
  (if p < 12 then (torus || role == 0) && (!torus || (dir == torusDir p && decide (f.ext (torusDir p / 2) ≠ 1) && inside))
   else !torus) && (torus || dir == 0)

/-- FABRIC, with the device number of R635 (16 R635, R636). -/
def Section.fabric (x : Section) (slot : Nat) : Option FabricImg :=
  let b := x.body
  let dev := fieldOf b 0 2 + (if fieldOf b 2 1 = 1 then slot else 0)
  let port := fun p i n => fieldOf b (16 + 4 * p + i) n
  let detours := (List.range 6).map fun d => fieldOf b (80 + d) 1
  let casc := (List.range 4).map fun i => (fieldOf b (88 + 4 * i) 2, fieldOf b (90 + 4 * i) 1)
  let f : FabricImg :=
    { device := dev, x := fieldOf b 3 1 + 1, y := fieldOf b 4 1 + 1, z := fieldOf b 5 1 + 1,
      roles := Vector.ofFn fun p : Fin 16 => port p 0 1, dirs := Vector.ofFn fun p : Fin 16 => port p 1 1,
      expects := Vector.replicate 16 0, detours := Vector.ofFn fun d : Fin 6 => detours.getD d 0xFF,
      cascade := (casc.filter fun e => decide (0x8000 ≤ e.1)).map fun e => (e.1 % 512, e.2) }
  let inside := decide (dev < f.members)
  let ok := x.fixed 1 176 && decide (dev < 512) && decide (fieldOf b 2 1 < 2) && decide (f.x ≤ 8) && decide (f.y ≤ 8) && decide (f.z ≤ 8) &&
    zeroIn b 6 16 && zeroIn b 86 88 && zeroIn b 104 112 &&
    ((List.range 16).all fun p => portOk f detours inside p (port p 0 1) (port p 1 1) (port p 2 2)) &&
    (detours.all fun d => d == 0xFF || (decide (12 ≤ d) && decide (d < 16) && port d 0 1 == 2 && inside)) &&
    ((List.range 6).all fun d => (List.range d).all fun e => detours.getD d 0 == 0xFF || detours.getD d 0 != detours.getD e 0) &&
    (casc.all fun e => decide (e.1 % 0x8000 < 512) &&
      (decide (e.1 < 0x8000) || (decide (12 ≤ e.2) && decide (e.2 < 16) && port e.2 0 1 == 3))) &&
    ((List.range 4).all fun i => zeroIn b (91 + 4 * i) (92 + 4 * i))
  let expects : Vector Nat 16 := Vector.ofFn fun p : Fin 16 =>
    if port p 0 1 = 1 then f.step (torusDir p) 1
    else match detourDir detours p with
      | some d => f.step d 2
      | none => port p 2 2
  if ok then some { f with expects := expects } else none

/-- HERDS: entries one after another. -/
def readHerds : Nat → List Byte → Option (List HerdEntry)
  | 0, bs => if bs = [] then some [] else none
  | n + 1, bs =>
    let kind := fieldOf bs 1 1
    let size := if kind = 1 then 208 else 80
    let mask : BitVec 1536 := BitVec.ofNat 1536 (leNat ((bs.take size).drop 16))
    let master := fieldOf bs 4 2
    if bs.length < size ∨ 64 ≤ fieldOf bs 0 1 ∨ (kind ≠ 1 ∧ kind ≠ 2) ∨ 64 ≤ fieldOf bs 2 1 ∨ 2 ≤ fieldOf bs 3 1 ∨ 512 ≤ master ∨
        !zeroIn bs 6 16 ∨ (kind = 1 ∧ fieldOf bs 3 1 = 1) ∨ (kind = 2 ∧ !mask.getLsbD master) then none
    else (readHerds n (bs.drop size)).map fun l =>
      ⟨fieldOf bs 0 1, kind, fieldOf bs 2 1, fieldOf bs 3 1 == 1, if kind = 2 then master else 0, mask⟩ :: l

def Section.herds (x : Section) : Option (List HerdEntry) :=
  (readHerds x.count x.body).bind fun l => if (l.filter (·.step)).length ≤ 1 then some l else none

/-- A ring obeys R493: lengths whose product is the number of members, positions in range, and no two members alike. -/
def RingEntry.ok (r : RingEntry) : Bool :=
  decide (r.lens.foldl (· * ·) 1 = r.members.length) && r.lens.all (fun n => decide (1 ≤ n)) &&
  (r.members.all fun m => (m.2.zip r.lens).all fun e => decide (e.1 < e.2)) &&
  decide ((r.members.map (·.2)).Nodup)

/-- Device numbers ascend. -/
def ascending : List Nat → Bool
  | a :: b :: l => decide (a < b) && ascending (b :: l)
  | _ => true

/-- RINGS: entries one after another. -/
def readRings : Nat → List Byte → Option (List RingEntry)
  | 0, bs => if bs = [] then some [] else none
  | n + 1, bs =>
    let stages := fieldOf bs 1 1
    let count := fieldOf bs 20 4
    let size := pad16 (32 + 8 * count)
    let two := fun off k => (List.range k).map fun i => fieldOf bs (off + 2 * i) 2
    let chans := (List.range 9).map fun i => fieldOf bs (8 + i) 1
    let members := (List.range count).map fun i => (fieldOf bs (32 + 8 * i) 2, two (34 + 8 * i) stages)
    let r : RingEntry := ⟨fieldOf bs 0 1, two 2 stages, chans, members⟩
    if 1440 < count ∨ bs.length < size ∨ stages = 0 ∨ 3 < stages ∨ !zeroIn bs (2 + 2 * stages) 8 ∨ !zeroIn bs 17 20 ∨
        !zeroIn bs 24 32 ∨ !zeroIn bs (32 + 8 * count) size ∨ !(chans.all fun c => c == 0xFF || (decide (12 ≤ c) && decide (c < 16))) ∨
        !((List.range count).all fun i => zeroIn bs (34 + 8 * i + 2 * stages) (40 + 8 * i)) ∨
        !ascending (members.map (·.1)) ∨ !r.ok then none
    else (readRings n (bs.drop size)).map fun l => r :: l

/-- Each ring's herd is a fabric herd of the image with the ring's members (16 R637). -/
def ringsFit (herds : List HerdEntry) (rings : List RingEntry) : Bool :=
  rings.all fun r => herds.any fun h => decide (h.herd = r.herd) && decide (h.kind = 2) &&
    decide (((List.range 512).filter fun d => h.mask.getLsbD d) = r.members.map (·.1))

/-- SYNC: STEP_WIN and the counter groups as SU_GROUP. -/
def Section.sync (x : Section) : Option (BitVec 16 × Table (BitVec 8)) :=
  let l := ((x.body.drop 16).take 64).map (·.toNat)
  if x.fixed 1 80 && zeroIn x.body 2 16 && l.all fun g => decide (g / 64 < 3) && (g / 64 == 1 || g % 64 == 0) then
    some (BitVec.ofNat 16 (fieldOf x.body 0 2),
      (l.zip (List.range 64)).foldl (fun t e => tput 0x80 t e.2 (BitVec.ofNat 8 e.1)) [])
  else none

/-- TELEMETRY: TW_BOUND and TW_TICKS. -/
def Section.telemetry (x : Section) : Option (Nat × Nat) :=
  let b := fieldOf x.body 0 2
  let t := fieldOf x.body 8 8
  if x.fixed 1 16 && zeroIn x.body 2 8 && decide (1 ≤ b) && (t == 0 || (decide (100000 ≤ t) && decide (t < 2 ^ 48))) then
    some (b, t) else none

/-! ## The image -/

/-- One section taken into the image; a section that breaks its table gives none. -/
def Image.take (m : Image) (slot : Nat) (x : Section) : Option Image :=
  match x.type with
  | 1 => x.engines.map fun l => { m with engines := some l }
  | 2 => x.owners.map fun o => { m with qOwner := o }
  | 3 => x.contexts.map fun c => { m with ctxOwner := c.1, saveBase := some c.2 }
  | 4 => x.modes.map fun c => { m with hbmMode := c.1, lpMode := c.2 }
  | 5 => x.windows.map fun l => { m with windows := some l }
  | 6 => (x.fabric slot).map fun f => { m with fab := f }
  | 7 => (readRings x.count x.body).map fun l => { m with rings := l }
  | 8 => x.herds.map fun l => { m with herds := l }
  | 9 =>
    let a := fieldOf x.body 0 1
    let b := fieldOf x.body 1 1
    if x.fixed 1 16 && decide (a < 4) && decide (b < 4) && zeroIn x.body 2 16 then
      some { m with profile := BitVec.ofNat 2 a, sris := BitVec.ofNat 2 b } else none
  | 10 =>
    let a := fieldOf x.body 0 4
    let b := fieldOf x.body 4 4
    if x.fixed 1 16 && zeroIn x.body 8 16 && decide (b < 4096) && decide (b / 256 % 4 ≠ 0) then
      some { m with gate0 := BitVec.ofNat 32 a, gate1 := BitVec.ofNat 12 b } else none
  | 11 => x.sync.map fun c => { m with stepWin := c.1, groups := c.2 }
  | 12 => x.telemetry.map fun c => { m with twBound := c.1, twTicks := c.2 }
  | 13 =>
    let a := fieldOf x.body 0 1
    if x.fixed 1 16 && decide (a < 4) && zeroIn x.body 1 8 then
      some { m with requireSig := a.testBit 0, allowDebug := a.testBit 1, minVer := BitVec.ofNat 64 (fieldOf x.body 8 8) } else none
  | 14 =>
    let a := fieldOf x.body 0 1
    if x.fixed 1 16 && decide (a < 2) && zeroIn x.body 1 16 then some { m with safe := a == 1 } else none
  | _ => none

/-- Every section in turn. -/
def takeSections (slot : Nat) : List Section → Image → Option Image
  | [], m => some m
  | x :: l, m => (m.take slot x).bind (takeSections slot l)

/-- Why an image is refused. -/
inductive BadImage where
  | malformed
  | signature
  deriving DecidableEq, Repr

/-- What the image is checked against: SLOT_ID, the serial, the floors and the revoked slots (16 R632, R635, R640, 17 R650). -/
structure ImageEnv where
  slot : Nat
  serial : DWord
  sigFloor : Bool
  verFloor : DWord
  rev0 : Bool
  rev1 : Bool
  deriving DecidableEq, Repr

/-- The header obeys its table and the digest agrees (16 R632). -/
def imageHead (e : ImageEnv) (bs : List Byte) : Bool :=
  let len := fieldOf bs 8 4
  let sig := fieldOf bs 12 4
  let serial := fieldOf bs 16 8
  decide (64 ≤ bs.length) && fieldOf bs 0 4 == 0x57525542 && fieldOf bs 4 2 == 1 && decide (fieldOf bs 6 2 ≤ 14) && decide (len % 16 = 0) &&
    decide (64 ≤ len) && (sig == 0 || sig == 2820) && decide (len + sig ≤ 1048576) && decide (bs.length = len + sig) &&
    (serial == 0 || decide (serial = e.serial.toNat)) &&
    decide (shake256 ((bs.take len).drop 64) 32 = (bs.drop 32).take 32) && !(e.sigFloor && sig == 0) &&
    decide (e.verFloor.toNat ≤ fieldOf bs 24 8)

/-- An image of bytes: every check of R632 to R638, then its signature (16 R632 to R638, 17 R650). -/
def readImage (e : ImageEnv) (source : BitVec 2) (live : Bool) (bs : List Byte) : Image ⊕ BadImage :=
  let len := fieldOf bs 8 4
  let signed := fieldOf bs 12 4 ≠ 0
  if !imageHead e bs then .inr .malformed
  else match readSections (fieldOf bs 6 2) 0 ((bs.take len).drop 64) with
    | none => .inr .malformed
    | some l =>
      if live && l.any fun x => decide (x.type ≠ 7) && decide (x.type ≠ 8) then .inr .malformed
      else match takeSections e.slot l { Image.builtIn with
          raw := bs, ver := BitVec.ofNat 64 (fieldOf bs 24 8), digest := (bs.drop 32).take 32, safe := false, source := source,
          signed := signed } with
        | none => .inr .malformed
        | some m =>
          if !ringsFit m.herds m.rings then .inr .malformed
          else if signed ∧ !vendorVerifies e.rev0 e.rev1 (bs.take len) (bs.drop len) then .inr .signature
          else .inl m

/-- What images are checked against now. -/
def State.imageEnv (s : State) : ImageEnv :=
  { slot := s.start.slotId.toNat, serial := s.start.serial, sigFloor := s.start.sigFloor, verFloor := s.start.verFloor,
    rev0 := s.sec.rev0, rev1 := s.sec.rev1 }

/-- A slot's image, its bytes trimmed to LENGTH and SIGLEN. -/
def slotImage (e : ImageEnv) (source : BitVec 2) (bs : List Byte) : Option Image :=
  match readImage e source false (bs.take (fieldOf bs 8 4 + fieldOf bs 12 4)) with
  | .inl m => some m
  | .inr _ => none

/-- The image that step 9 loads from flash: the preferred slot, the other, or the built-in image (16 R629). -/
def State.flashImage (s : State) : Image :=
  let e := s.imageEnv
  let w0 := slotImage e 0 s.start.slot0
  let w1 := slotImage e 1 s.start.slot1
  let first := if s.start.preferred then w1 else w0
  let second := if s.start.preferred then w0 else w1
  first.getD (second.getD Image.builtIn)

end Sys2Proof.Machine
end

