-- ==== Sys2Proof/Machine/Firmware.lean ====
section
/-!
DEFINITION. Field update of firmware (18): the session and its package (R682, R683), staging (R684 to R686), activation (R687 to
R696), commit and revert (R697), and ROM recovery (R698).
-/
namespace Sys2Proof.Machine

/-! ## Units and manifests -/

def State.unit (s : State) (u : Nat) : FwUnit := vget s.fwu.units u (FwUnit.reset 0)
def State.putUnit (s : State) (u : Nat) (x : FwUnit) : State := s.setFwu { s.fwu with units := vset s.fwu.units u x }
/-- The units in a state of their other slot. -/
def State.unitsIn (s : State) (st : Nat) : List Nat := (List.range 4).filter fun u => decide ((s.unit u).other = st)

/-- A unit's largest image (18 R680). -/
def unitMax (u : Nat) : Nat := if u = 1 then 0x800000 else if u = 2 then 0x200000 else 0x400000

def FwImage.version (x : FwImage) : Nat := fieldOf x.manifest 8 8
def FwImage.floor (x : FwImage) : Nat := fieldOf x.manifest 24 8
/-- The COMPAT entry for a unit admits a version (18 R684, R687). -/
def FwImage.admits (x : FwImage) (w v : Nat) : Bool :=
  decide (fieldOf x.manifest (72 + 16 * w) 8 ≤ v) && decide (v ≤ fieldOf x.manifest (80 + 16 * w) 8)
/-- The layout of record r that the image writes, and the lowest that it can migrate (18 R684). -/
def FwImage.writes (x : FwImage) (r : Nat) : Nat := fieldOf x.manifest (136 + 4 * r) 2
def FwImage.readsMin (x : FwImage) (r : Nat) : Nat := fieldOf x.manifest (138 + 4 * r) 2

/-- A manifest obeys its table (18 R684). -/
def manifestOk (m : List Byte) : Bool :=
  let unit := fieldOf m 6 1
  let kind := fieldOf m 7 1
  let version := fieldOf m 8 8
  let ilen := fieldOf m 32 4
  let plen := fieldOf m 36 4
  fieldOf m 0 4 == 0x4D575546 && fieldOf m 4 2 == 1 && decide (unit < 4) && decide (kind < 2) && decide (1 ≤ version) &&
    (kind == 1 || fieldOf m 16 8 == 0) && decide (fieldOf m 24 8 ≤ version) && decide (ilen % 16 = 0) && decide (16 ≤ ilen) &&
    decide (ilen ≤ unitMax unit) && decide (16 ≤ plen) && decide (plen ≤ 16773120) &&
    zeroIn m (72 + 16 * unit) (88 + 16 * unit) && zeroIn m 152 256

/-! ## Deltas (18 R685) -/

/-- The output of a delta's operations from the rest of its payload, or none where one breaks R685 or the output passes its
length. -/
def runDelta (base : List Byte) (limit : Nat) : Nat → List Byte → List Byte → Option (List Byte)
  | 0, _, _ => none
  | n + 1, bs, out =>
    let op := fieldOf bs 0 1
    let len := fieldOf bs 4 4
    let off := fieldOf bs 8 8
    if bs.length < 16 ∨ !zeroIn bs 1 4 then none
    else if op = 0xFF then
      (if len = 0 ∧ off = 0 ∧ zeroIn bs 16 bs.length then some out else none)
    else if limit < out.length + len then none
    else if op = 1 then
      (if off + len ≤ base.length then runDelta base limit n (bs.drop 16) (out ++ (base.drop off).take len) else none)
    else if op = 2 then
      (if off = 0 ∧ 16 + pad16 len ≤ bs.length ∧ zeroIn bs (16 + len) (16 + pad16 len) then
        runDelta base limit n (bs.drop (16 + pad16 len)) (out ++ (bs.drop 16).take len)
      else none)
    else none

/-! ## A command's end -/

/-- FWU commands are taken in recovery, and from the end of start-up step 6 on (16 R624, 18 R698). -/
def State.fwuReady (s : State) : Bool :=
  (s.fwu.recovery && (decide (s.power.phase = .on) || decide (s.power.phase = .ready))) ||
    (decide (s.power.phase = .on) && decide (6 ≤ s.start.step))

/-- The end of a command (18 R699). -/
def State.fwuEnd (s : State) (cmd : Byte) (status reason : Byte) : State :=
  s.setFwu { s.fwu with cmd := cmd, status := status, reason := reason }

/-- A command with no session of its port, or in a state that its rule forbids (18 R699). -/
def State.fwuForbidden (s : State) (cmd : Byte) : State := s.fwuEnd cmd 0x16 0x0C

/-- A command other than BEGIN: ignored while BUSY or under a session of the other port, forbidden without a session (18 R682,
R699). -/
def State.fwuDo (s : State) (p : Nat) (cmd : Byte) (f : State → State) : State :=
  if !s.fwuReady ∨ s.fwu.busy ∨ (s.fwu.isOpen ∧ s.fwu.port ≠ p) then s
  else if !s.fwu.isOpen then s.fwuForbidden cmd
  else f s

/-- BEGIN: opens a session with an empty package buffer (18 R682). -/
def execFwuBegin (p : Port) (s : State) : Answer :=
  .next (if !s.fwuReady ∨ s.fwu.busy ∨ (s.fwu.isOpen ∧ s.fwu.port ≠ p) then s
    else if s.fwu.isOpen then s.fwuForbidden 1
    else (s.setFwu { s.fwu with isOpen := true, port := p.val, package := [] }).fwuEnd 1 0 0)

/-- HOST_BAR4_WRITE: bytes of the window, from the port with the session (18 R682, R683). -/
def execHostBar4Write (p : Port) (off : BitVec 20) (bytes : List Byte) (s : State) : Answer :=
  if 2 ^ 20 < off.toNat + bytes.length then .refused .illFormed
  else .next (if !s.fwuReady ∨ s.fwu.busy ∨ !s.fwu.isOpen ∨ s.fwu.port ≠ p.val then s
    else s.setFwu { s.fwu with bar4 := (bytes.zip (List.range bytes.length)).foldl (fun t e => tput 0 t (off.toNat + e.2) e.1) s.fwu.bar4 })

/-- WRITE_BLOCK: bytes of BAR4 into the package buffer (18 R683, R699). -/
def execWriteBlock (p : Port) (s : State) : Answer :=
  .next (s.fwuDo p 2 fun t =>
    let n := t.fwu.len.toNat
    let lo := 16 * t.fwu.off.toNat
    if n = 0 ∨ 65536 < n ∨ 1048576 < t.fwu.off.toNat + n then t.fwuEnd 2 0x1D 0x0C
    else
      let b := (t.fwu.bar4.filter fun e => decide (e.1 < 16 * n)).map fun e => (lo + e.1, e.2)
      let pk := (t.fwu.package.filter fun e => decide (e.1 < lo)) ++ b ++ t.fwu.package.filter fun e => decide (lo + 16 * n ≤ e.1)
      (t.setFwu { t.fwu with package := pk }).fwuEnd 2 0 0)

/-! ## Staging -/

/-- Bytes of the package buffer. -/
def State.pkg (s : State) (off n : Nat) : List Byte :=
  let l := s.fwu.package.filter fun e => decide (off ≤ e.1) && decide (e.1 < off + n)
  (List.range n).map fun i => tget 0 l (off + i)

/-- The resulting image of the package's payload, for a unit with an active image (18 R684, R685). -/
def State.payloadImage (s : State) (m : List Byte) (base : List Byte) : Option (List Byte) :=
  let body := s.pkg 4096 (fieldOf m 36 4)
  if fieldOf m 7 1 = 0 then some body else runDelta base (fieldOf m 32 4) (body.length / 16 + 1) body []

/-- The staging checks in order: the status and reason of the first that fails, or the resulting image (18 R686, R698). -/
def State.stageChecks (s : State) (m : List Byte) : (Byte × Byte) ⊕ List Byte :=
  let x := s.unit (fieldOf m 6 1)
  let version := fieldOf m 8 8
  if !manifestOk m then .inl (0x1D, 0x01)
  else if !vendorVerifies s.sec.rev0 s.sec.rev1 m (s.pkg 256 2820) then .inl (0x18, 0x02)
  else if version < x.floor.toNat then .inl (0x1D, 0x03)
  else if s.fwu.actState ≠ 0 ∨ (x.other ≠ 0 ∧ x.other ≠ 2) then .inl (0x16, 0x0B)
  else if fieldOf m 7 1 = 1 ∧ (fieldOf m 16 8 ≠ x.act.version ∨ s.fwu.recovery) then .inl (0x1D, 0x04)
  else match s.payloadImage m x.act.bytes with
    | none => .inl (0x1D, 0x05)
    | some b =>
      if b.length ≠ fieldOf m 32 4 ∨ shake256 b 32 ≠ (m.drop 40).take 32 then .inl (0x1D, 0x06)
      else if (List.range 4).any fun r =>
          let v := (vget s.fwu.records r 0).toNat
          decide (v < FwImage.readsMin ⟨m, []⟩ r) || decide (FwImage.writes ⟨m, []⟩ r < v) then .inl (0x1D, 0x08)
      else .inr b

/-- The other slot is left empty; one that holds the image that ran before takes no stage, and stands (18 R681, R686). -/
def FwUnit.empty (x : FwUnit) : FwUnit := if x.other = 3 then x else { x with other := 0, oth := ⟨[], []⟩ }

/-- A staged image; in recovery the unit's active pointer goes to it (18 R686, R698). -/
def State.staged (s : State) (u : Nat) (i : FwImage) : State :=
  let x := s.unit u
  if s.fwu.recovery then
    let t := s.putUnit u { x with slotB := !x.slotB, act := i, oth := ⟨[], []⟩, other := 0 }
    t.setFwu { t.fwu with bad := t.fwu.bad &&& ~~~(1#4 <<< u) }
  else s.putUnit u { x with oth := i, other := 2 }

/-- STAGE (18 R686). -/
def execFwuStage (p : Port) (s : State) : Answer :=
  .next (s.fwuDo p 3 fun t =>
    let m := t.pkg 0 256
    let u := fieldOf m 6 1
    match t.stageChecks m with
    | .inr b => (t.staged u ⟨m, b⟩).fwuEnd 3 0 0
    | .inl f => (if u < 4 then t.putUnit u (t.unit u).empty else t).fwuEnd 3 f.1 f.2)

/-- ABORT: the session ends, and an activation that has not begun is dropped (18 R699). -/
def execFwuAbort (p : Port) (s : State) : Answer :=
  .next (s.fwuDo p 4 fun t =>
    let t := if t.draining then t else t.setFwu { t.fwu with actState := 0, actHerd := 0, actTarget := 0, carry := false }
    (t.setFwu { t.fwu with isOpen := false, units := t.fwu.units.map FwUnit.unstage }).fwuEnd 4 0 0)

/-! ## Commit and revert (18 R697) -/

/-- A unit committed. -/
def FwUnit.commit (x : FwUnit) : FwUnit :=
  if x.other = 3 then { x with other := 0, oth := ⟨[], []⟩, floor := BitVec.ofNat 64 (max x.floor.toNat x.act.floor) } else x

/-- COMMIT. -/
def execFwuCommit (p : Port) (s : State) : Answer :=
  .next (s.fwuDo p 5 fun t =>
    if t.unitsIn 3 = [] ∨ t.draining then t.fwuForbidden 5
    else (t.setFwu { t.fwu with units := t.fwu.units.map FwUnit.commit, backups := [] }).fwuEnd 5 0 0)

/-- REVERT. -/
def execFwuRevert (p : Port) (s : State) : Answer :=
  .next (s.fwuDo p 6 fun t =>
    if t.unitsIn 3 = [] ∨ t.unitsIn 2 ≠ [] then t.fwuForbidden 6
    else (t.setFwu { t.fwu with units := t.fwu.units.map fun x => if x.other = 3 then { x with other := 2 } else x
                                reversion := true }).fwuEnd 6 0 0)

/-- RESTART: recovery ends, and start-up runs again from step 3 (18 R698). -/
def execFwuRestart (p : Port) (s : State) : Answer :=
  .next (s.fwuDo p 7 fun t =>
    if !t.fwu.recovery ∨ t.fwu.bad ≠ 0 then t.fwuForbidden 7
    else
      let t := (t.setPower { t.power with phase := .ready }).setStart { t.start with step := 2, result := 0 }
      (t.setFwu { t.fwu with recovery := false }).fwuEnd 7 0 0)

/-! ## Activation -/

/-- The image of a unit in the after-set (18 R687). -/
def State.afterImage (s : State) (u : Nat) : FwImage := if (s.unit u).other = 2 then (s.unit u).oth else (s.unit u).act

/-- The after-set is compatible (18 R687). -/
def State.compatible (s : State) : Bool :=
  (List.range 4).all fun u => (List.range 4).all fun w =>
    decide (u = w) || (s.afterImage u).admits w (s.afterImage w).version

/-- TARGET and herd obey the last two rows of R688. -/
def State.targetOk (s : State) (target herd : Nat) (noHerd : Bool) : Bool :=
  let b := s.sync.bcnt.toNat
  if noHerd then decide (herd = 0) && decide (b < target)
  else
    let h := s.herd herd
    h.step && decide (h.kind = 2) && h.mask.getLsbD s.device &&
      (if h.master = s.device then decide (b + 3 ≤ target) && decide (target ≤ b + 255) else decide (target = 0))

/-- The activation checks in order: status and reason of the first that fails (18 R688). -/
def State.activateCheck (s : State) (target herd : Nat) (noHerd : Bool) : Option (Byte × Byte) :=
  if s.draining then some (0x16, 0x0B)
  else if s.unitsIn 2 = [] then some (0x1D, 0x0A)
  else if !s.compatible then some (0x1D, 0x09)
  else if !s.targetOk target herd noHerd then some (0x1D, 0x0D)
  else none

/-- An accepted activation is scheduled, or armed on a member that is not the master (18 R689). -/
def State.activate (s : State) (target herd : Nat) (noHerd : Bool) : State :=
  let own := noHerd || decide ((s.herd herd).master = s.device)
  s.setFwu { s.fwu with actState := if own then 2 else 1, actHerd := herd, actTarget := BitVec.ofNat 64 (if own then target else 0),
                        carry := own && !noHerd }

/-- Records migrate to the layouts that the active images write; the layout before the first migration is kept as backup (18
R696). -/
def State.migrate (s : State) : State :=
  (List.range 4).foldl (fun t u => (List.range 4).foldl (fun t r =>
    let v := vget t.fwu.records r 0
    let w := (t.unit u).act.writes r
    if v.toNat < w then
      t.setFwu { t.fwu with records := vset t.fwu.records r (BitVec.ofNat 16 w)
                            backups := if t.fwu.backups.any fun e => decide (e.1 = r) then t.fwu.backups
                                       else t.fwu.backups ++ [(r, v)] }
    else t) t) s

/-- Records restored from their backups (18 R697). -/
def State.restoreRecords (s : State) : State :=
  s.setFwu { s.fwu with records := s.fwu.backups.foldl (fun v e => vset v e.1 e.2) s.fwu.records, backups := [] }

/-- Every item has ended or has not started: the drain of step 2 is over (18 R692, 21 R742). -/
def State.drained (s : State) : Bool :=
  s.queues.all fun e => e.2.items.all fun i => decide (i.phase ≠ .running) && decide (i.phase ≠ .workDone)

/-- The activation begins at the boundary of its target (18 R692). -/
def State.beginActivation (s : State) : State :=
  if s.fwu.actState = 2 ∧ s.fwu.actTarget = s.sync.bcnt then s.setFwu { s.fwu with actState := 3, actDtc := s.now, carry := false } else s

/-- The end of an activation; a warm reset that waited is taken (18 R692 to R695). -/
def State.endActivation (s : State) (result : Nat) (reason : Byte) : State :=
  (s.setFwu { s.fwu with actState := 0, actResult := result, actReason := reason, actHerd := 0, actTarget := 0, reversion := s.fwu.reversion && decide (result ≠ 1) }).takeWanted

/-- A unit switched to its staged image (18 R692). -/
def FwUnit.switch (x : FwUnit) : FwUnit :=
  if x.other = 2 then { x with slotB := !x.slotB, act := x.oth, oth := x.act, other := 3 } else x

/-- ACTIVATION_SWITCH: the pointers move, the units restart, and records migrate; the queues resume (18 R692, R696, R697). -/
def execActivationSwitch (s : State) : Answer :=
  .next (if !s.draining || !s.drained then s
    else
      let t := s.setFwu { s.fwu with units := s.fwu.units.map FwUnit.switch }
      (if t.fwu.reversion then t.restoreRecords else t.migrate).endActivation 1 0)

/-- ACTIVATION_CANCEL: an item still runs at the end of step 2 (18 R693). -/
def execActivationCancel (s : State) : Answer :=
  .next (if s.draining ∧ !s.drained ∧ 150000000 ≤ (s.now - s.fwu.actDtc).toNat then s.endActivation 2 0x0E else s)

/-- ACTIVATION_REVERT: a unit is not ready within step 3, and every switched unit moves back (18 R694). -/
def execActivationRevert (s : State) : Answer :=
  .next (if s.draining && s.drained then s.endActivation 3 0x0F else s)

end Sys2Proof.Machine
end

