-- ==== Sys2Proof/Machine/Power.lean ====
section
/-!
DEFINITION. Clocks and power (15): the reference (R587 to R591), CLKOBS (R592, R593), gating (R594 to R601), the limiter and the
thermal trip (R607 to R612), the input and the eFuse (R613 to R616), power-on, shutdown and restart (14 R557, R558, 16 R618),
and the straps (20 R725).
-/
namespace Sys2Proof.Machine

/-! ## Power down and up -/

/-- A core whose die has lost power: its epoch and its row map stand until the next start-up (14 R558). -/
def Core.unpowered (c : Core) : Core := { Core.reset with arr := { c.arr with auditDue := false, auditRun := none, held := false } }

/-- Clocks and gates while the warm and kept domains are off (15 R589, R590, 14 R558). -/
def PowerSt.down (p : PowerSt) (phase : PowerPhase) : PowerSt :=
  { p with phase := phase, holdover := true, tripped := false, byTemp := false, byPower := false, steps := 0, sensors := 0 }

/-- The warm and kept domains power down: memory contents are lost, links and endpoints go, and the registers that no rule keeps are as
after start-up (14 R551, R557, R558, 07 R750, 10 R451, R453, 14 R582). -/
def State.powerDown (s : State) (phase : PowerPhase) : State :=
  let t := s.resetDomain
  let t := t.setCores (t.cores.foldl (fun l e => tput Core.reset l e.1 e.2.unpowered) [])
  let t := (t.forgetLoc 0 hbmTop).forgetLoc lpBase localTop
  let t := t.setMem { t.mem with ue := [], hubs := Vector.replicate 8 HubSt.reset }
  let t := t.setFab { t.fab with links := Vector.replicate 16 LinkSt.reset, lost := 0, seen := [], out := [] }
  let t := t.setPins { t.pins with pcie := Vector.replicate 2 PcieSt.reset, stepOut := false }
  let t := t.setSync { t.sync with pulse := none, outEnd := none, lastResult := 0, lastOffset := 0, host := [] }
  let t := t.setFault { t.fault with pending := none, wanted := none, hold := false, irq := FaultSt.reset.irq }
  let t := t.setFwu { t.fwu with actState := if t.draining then 0 else t.fwu.actState }
  (t.setPower (t.power.down phase)).setStart { t.start with step := 2, result := 0, timeMs := 0 }

/-- An orderly shutdown: steps 1 to 3 of the warm reset, every record that can be written, a write of the Tally, and power down (14
R557, R580, 19 R706). -/
def State.orderly (s : State) : State :=
  let t := (s.logEvent 1 0 0 4 3 0).endAll ⟨0x13, 0, none⟩
  let t := t.releaseAll
  (t.setTally { t.tally with writeDue := true }).powerDown .standby

/-- PWR_EN_DEASSERT: an orderly shutdown, or the end of a latch-off or of waiting retries (14 R557, 15 R616). -/
def execPwrEnDeassert (s : State) : Answer :=
  .next (if !s.power.pwrEn then s
    else
      let t := s.setPower { s.power with pwrEn := false }
      match t.power.phase with
      | .on => t.orderly
      | .ready => t.setPower { t.power with phase := .standby }
      | .tripped => t.setPower { t.power with phase := .standby, openings := [] }
      | .latched => t.setPower { t.power with phase := .standby, openings := [] }
      | _ => t)

/-- VIN_UNDERVOLTAGE: below 43 V for 1 ms (15 R615). -/
def execVinUndervoltage (vin : BitVec 16) (s : State) : Answer :=
  .next (if vin.toNat < 4300 ∧ s.power.phase = .on then
      ((s.setPower { s.power with vin := vin }).logEvent 0x51 0 0 3 0 0).orderly
    else s)

/-- VIN_OVERVOLTAGE: above 61 V for 1 ms (15 R615). -/
def execVinOvervoltage (vin : BitVec 16) (s : State) : Answer :=
  .next (if 6100 < vin.toNat ∧ s.power.phase = .on then
      ((s.setPower { s.power with vin := vin, overVolt := true }).logEvent 0x51 0 0 3 0 0).orderly
    else s)

/-- EFUSE_TRIP: the load switch opens; items end without a stop point, and the fourth opening within 10 s of the first latches (15
R616, 19 R700). -/
def execEfuseTrip (s : State) : Answer :=
  .next (if s.power.phase ≠ .on then s
    else
      let opens := (s.power.openings.filter fun t => decide ((s.now - t).toNat ≤ 1000000000)) ++ [s.now]
      let t := ((s.logEvent 0x51 0 0 3 0 0).tallyAdd 0x68 1).cutAll
      let t := t.powerDown (if 4 ≤ opens.length then .latched else .tripped)
      t.setPower { t.power with openings := opens })

/-- EFUSE_RETRY: 100 ms after the last opening the switch closes, and the module restarts (15 R616, 14 R558). -/
def execEfuseRetry (s : State) : Answer :=
  .next (match s.power.phase, s.power.openings.getLast? with
    | .tripped, some t =>
      if 10000000 ≤ (s.now - t).toNat then s.setPower { s.power with phase := .ready } else s
    | _, _ => s)

/-- What the always-on domain loses with its power; flash and fuses keep theirs (14 R551, R557, R558, 17 R662, R669, 18 R699, 19
R708, R710). -/
def Mailbox.powerOff (m : Mailbox) : Mailbox := { Mailbox.reset with key := m.key, ctr := m.ctr }

/-- ALWAYS_ON_POWER_LOSS: the standby converter loses its input (14 R557). -/
def execAlwaysOnPowerLoss (s : State) : Answer :=
  .next (if s.power.phase = .off then s
    else
      let t := s.powerDown .off
      let t := (((t.setCores []).setQueues []).setTakeLast 0).setTurns []
      let t := ((t.setSync SyncSt.reset).setKe []).setFault FaultSt.reset
      let t := (t.setMem { t.mem with wins := [], peer := Vector.replicate 16 Window.off }).setFab FabricSt.reset
      let t := t.setPower { PowerSt.reset with phase := .off, pwrEn := t.power.pwrEn, vin := 0, cold := true, holdover := true,
                                               stat0 := 0, stat1 := 0 }
      let t := t.setStart { t.start with step := 0, loads := 0, changed := false, live := none, lag := [] }
      let t := t.setSec { t.sec with box := t.sec.box.map Mailbox.powerOff, order := [], next := t.sec.block, unlocked := false }
      let t := t.setFwu { t.fwu with off := 0, len := 0, cmd := 0, status := 0, reason := 0, bar4 := [], actState := 0,
                                     actResult := 0, actReason := 0, actHerd := 0, actTarget := 0, actDtc := 0,
                                     carry := false }
      let t := t.setTally { t.tally with live := [], snap0 := none, snap1 := none, wdtc := 0, tried := 0, sampled := 0, writeDue := false,
                                         flashFail := false, cur := TeleWin.reset, last := TeleWin.reset }
      t.setPins PinSt.reset)

/-- POWER_ON: VIN_54 rises to 36 V from no input, and the always-on domain starts (14 R558, 15 R614). -/
def execPowerOn (vin : BitVec 16) (s : State) : Answer :=
  .next (if s.power.phase = .off ∧ 3600 ≤ vin.toNat then s.setPower { s.power with phase := .booting, vin := vin } else s)

/-- PWR_EN may start the module at an input voltage (15 R613, R615, 16 R618). -/
def PowerSt.startable (p : PowerSt) (vin : Nat) : Bool := decide (4400 ≤ vin) && (!p.overVolt || decide (vin ≤ 6000))

/-- NIMTIA_BOOT: Nimtia has booted: it loads the Tally, samples the straps, and sets T0 where PWR_EN is asserted; firmware that does
not verify puts the device into recovery (16 R618, R623, 18 R698, 19 R700, R708, 20 R725, R729). -/
def execNimtiaBoot (cool : Fin 4) (slot : Fin 64) (cfg fwOk : Bool) (s : State) : Answer :=
  .next (if s.power.phase ≠ .booting then s
    else
      let t := s.tallyLoad.tallyAdd 0x40 1
      let t := t.setPower { t.power with phase := if t.power.pwrEn && t.power.startable t.power.vin.toNat then .ready else .standby,
                                         strapCool := BitVec.ofNat 2 cool }
      let t := t.setPins { t.pins with transport := 0, address := 0x34 }
      let t := t.setFwu { t.fwu with recovery := !fwOk, bad := if fwOk then 0 else 1 }
      t.setStart { t.start with step := if fwOk then 2 else 1, result := if fwOk then 0 else 2, cool := BitVec.ofNat 2 cool,
                                slotId := BitVec.ofNat 6 slot, cfgSrc := cfg })

/-- PWR_EN_ASSERT: T0, or the restart of the module (14 R558, 15 R615, R616, 16 R618). -/
def execPwrEnAssert (vin : BitVec 16) (s : State) : Answer :=
  .next (if s.power.pwrEn then s
    else
      let t := s.setPower { s.power with pwrEn := true, vin := vin }
      if t.power.phase = .standby ∧ t.power.startable vin.toNat then
        t.setPower { t.power with phase := .ready, overVolt := false }
      else t)

/-- STRAP_CHANGE: a strap reads differently from its sampled value (15 R602, 20 R725). -/
def execStrapChange (cool : Fin 4) (slot : Fin 64) (cfg : Bool) (s : State) : Answer :=
  .next (if s.power.phase = .off ∨ s.power.phase = .booting ∨
      (s.start.cool.toNat = cool.val ∧ s.start.slotId.toNat = slot.val ∧ s.start.cfgSrc = cfg) then s
    else (s.setStart { s.start with changed := true }).logEvent 0x51 0 0 0 0 0)

/-! ## The reference -/

/-- REFERENCE_LOSS: SCLK moves to the RC oscillator, the PLL holds over, and steps 1 to 3 of a warm reset run (15 R588, R589, 19
R700). -/
def execReferenceLoss (s : State) : Answer :=
  .next (if s.power.phase ≠ .on ∨ !s.power.refOk ∨ s.start.step < 4 then s
    else
      let t := s.setPower { s.power with refOk := false, holdover := true, losses := satAdd 255 s.power.losses 1 }
      let t := (t.tallyAdd 0xA8 1).logEvent 0x52 0 0 3 0 0
      let t := if t.commanding then t.beginReset 4 else t
      t.setFault { t.fault with hold := true })

/-- REFERENCE_RETURN: the reference is counted again, SCLK returns to the root, and the warm reset may go on (15 R587, R590). -/
def execReferenceReturn (s : State) : Answer :=
  .next (if s.power.refOk ∨ s.power.phase ≠ .on then s
    else (s.setPower { s.power with refOk := true, holdover := false }).setFault { s.fault with hold := false })

/-- HOLDOVER_END: the compute dies stop at once; items not yet recorded get FAILED_RESET (15 R591). -/
def execHoldoverEnd (s : State) : Answer :=
  .next (if s.power.refOk ∨ !s.fault.hold ∨ s.fault.pending.isNone then s
    else
      let t := s.failAll ⟨0x13, 0, none⟩
      (t.busySites.foldl (fun u c => u.putCore c (u.core c).freed) t).endOpen)

/-! ## CLKOBS -/

/-- The smallest N of a source (15 R593). -/
def obsMin (src : Nat) : Nat := if src = 1 ∨ src = 8 then 4 else 3
/-- Instances of a source; those that ignore SEL take any (15 R593). -/
def obsCount (src : Nat) : Nat :=
  if src = 0 then 24 else if src = 2 ∨ src = 6 ∨ src = 7 then 8 else if src = 8 then 16 else if src = 9 then 2 else 32

/-- CLK_OBS_WRITE: source, instance and division; N is taken as R593 clamps it (15 R592, R593, R617). -/
def execClkObsWrite (v : Word) (s : State) : Answer :=
  .next (let src := bitsOf v.toNat 15 12
    let sel := bitsOf v.toNat 20 16
    let n := min 16 (max (obsMin src) (bitsOf v.toNat 4 0))
    if !s.barOpen ∨ !s.power.stat1.toNat.testBit 11 ∨ 9 < src ∨ obsCount src ≤ sel then s
    else s.setPower { s.power with obs := BitVec.ofNat 32 (sel * 65536 + src * 4096 + n) })

/-! ## Gates -/

/-- UPDATE items with a block of a gated unit still to do stop (15 R597, 21 R741). -/
def State.gateUpdates (s : State) : State :=
  s.openItems.foldl (fun t e =>
    match t.upd? e.1 e.2 with
    | none => t
    | some (_, w) =>
      let u := readUpd w.desc
      match (u.blocks.filter fun b => !w.finished.elem b).find? fun b => !t.power.gate1.toNat.testBit (t.oxOf u b) with
      | some b => t.failItem e.1 e.2 (failGated (u.par b))
      | none => t) s

/-- Ports whose enable is 0 carry no routed traffic (15 R597, R599). -/
def State.gateLinks (s : State) : State :=
  (List.range 16).foldl (fun t p =>
    if t.power.gate0.toNat.testBit (16 + p) then t else t.putLink p { t.link p with routed := false }) s

/-- Held records are tried again at a change of a gate enable (09 R388). -/
def State.drainAll (s : State) : State := s.queues.foldl (fun t e => t.drain e.1) s

/-- New enables: a block switched on is on at once, but for an LPDDR5X group, which is on when it is ready; the Tally writer and
CLKOBS follow at once (15 R594, R597, R598, R601). -/
def State.setGates (s : State) (g : Word) (g1 : BitVec 12) : State :=
  let p := s.power
  let due := g1.toNat.testBit 10 && !p.gate1.toNat.testBit 10
  let t := s.setPower { p with gate0 := g, gate1 := g1, stat0 := p.stat0 ||| (g &&& 0xFFFF00FF#32),
                               stat1 := ((p.stat1 ||| g1) &&& 0x3FF#12) ||| (g1 &&& 0xC00#12) }
  let t := t.setTally { t.tally with writeDue := t.tally.writeDue || due }
  t.gateLinks.gateUpdates.drainAll

/-- PWR_GATE_WRITE: PWR_GATE0, or with `hi` PWR_GATE1; a port cannot gate itself (15 R597, R600, R617). -/
def execPwrGateWrite (p : Port) (hi : Bool) (v : Word) (s : State) : Answer :=
  .next (if !s.barOpen then s
    else if hi then s.setGates s.power.gate0 (v.setWidth 12 ||| (1#12 <<< (8 + p.val))) else s.setGates v s.power.gate1)

/-- A KE item whose bucket has begun and has a line of a hub under way (12 R519). -/
def State.hveBusy (s : State) (h : Nat) : Bool :=
  s.queues.any fun e => e.2.items.any fun i => i.live && (match i.work with
    | .ke w => w.begun && w.lines.any fun l => decide (s.hubOf (w.dst + (if l.1 = flagIdx then 0 else 64 * l.1)) = h)
    | _ => false)

/-- The work that a block still has in it has ended (15 R597). -/
def State.blockIdle (s : State) (b : Nat) : Bool :=
  if b < 8 then !s.hveBusy b
  else if b < 16 then (s.hub (b - 8)).reqs.all fun r => decide (64 * r.line < lpBase)
  else if b < 32 then decide ((s.link (b - 16)).replay = []) && decide ((s.link (b - 16)).txq = [])
  else true

/-- A port that is switched off: DISABLED (15 R596, R599). -/
def State.linkOff (s : State) (p : Nat) : State :=
  s.putLink p { (s.link p).fresh s.now with phase := .disabled, routed := false }

/-- GATE_OFF: a block whose enable is 0 switches off; bits 0 to 31 are PWR_GATE0's and the rest PWR_GATE1's (15 R597). -/
def execGateOff (b : Fin 44) (s : State) : Answer :=
  .next (let n := b.val
    let p := s.power
    let enabled := if n < 32 then p.gate0.toNat.testBit n else p.gate1.toNat.testBit (n - 32)
    let on := if n < 32 then p.stat0.toNat.testBit n else p.stat1.toNat.testBit (n - 32)
    if enabled || !on || !s.blockIdle n then s
    else
      let t := s.setPower (if n < 32 then { p with stat0 := p.stat0 &&& ~~~(1#32 <<< n) }
        else { p with stat1 := p.stat1 &&& ~~~(1#12 <<< (n - 32)) })
      if 16 ≤ n ∧ n < 32 then t.linkOff (n - 16)
      else if n = 40 ∨ n = 41 then
        (if (t.pcie (n - 40)).speed = 0 then t else t.portDown (n - 40))
      else t)

/-- LPDDR5X_GROUP_READY: a group enabled again serves accesses (15 R598); one that start-up could not train does not (log 51). -/
def execLpddr5xGroupReady (h : Hub) (s : State) : Answer :=
  .next (if !s.lpGated h then s.setPower { s.power with stat0 := s.power.stat0 ||| (1#32 <<< (8 + h.val)) }
    else s)

/-! ## Sensors and the limiter -/

/-- A unit's throttle, release and trip thresholds in quarter degrees: logic dies 0 to 31, stacks 32 to 39 (15 R608). -/
def tripAt (i : Nat) : Int := if i < 32 then 440 else 420
def throttleAt : Int := 380
def releaseAt : Int := 360

/-- SENSOR_FAULT: sensor i of logic die u reads open or shorted; with both failed the die is at its trip temperature (15 R607). -/
def execSensorFault (u : Fin 32) (i : Fin 2) (s : State) : Answer :=
  .next (if s.power.phase ≠ .on ∨ s.sensorBad u i then s
    else
      let t := s.setPower { s.power with sensors := s.power.sensors ||| (1#64 <<< (2 * u.val + i.val)) }
      let t := if t.sensorBad u 0 && t.sensorBad u 1 then t.setPower { t.power with temps := vset t.power.temps u 440 } else t
      if u.val < 24 then t.logEvent 0x50 5 u 3 0 0 else t.logEvent 0x50 2 (u.val - 24) 3 0 0)

/-- What the limiter reads: a die with both sensors failed is at its trip temperature (15 R607, R617). -/
def State.measured (s : State) (m : Measures) : State :=
  let temps := Vector.ofFn fun i : Fin 40 =>
    if i.val < 32 ∧ s.sensorBad i 0 ∧ s.sensorBad i 1 then 440#12 else m.temps[i]
  s.setPower { s.power with vin := m.vin, iin := m.iin, watts := m.watts, temps := temps, limitAt := s.now }

/-- The limiter's period in the current telemetry window (19 R710). -/
def State.limitWindow (s : State) : State :=
  let w := s.tally.cur
  let peak := s.power.temps.toList.foldl (fun (a b : BitVec 12) => if a.toInt < b.toInt then b else a) 0x800#12
  let pt := if (w.peakT.setWidth 12).toInt < peak.toInt then peak.setWidth 16 else w.peakT
  s.setTally { s.tally with cur := { w with
    peakW := if w.peakW.toNat < s.power.watts.toNat then s.power.watts else w.peakW
    peakT := pt
    throttle := if s.power.steps = 0 then w.throttle else sat32 w.throttle 1 } }

/-- A thermal trip (15 R611, 19 R700). -/
def State.trip (s : State) : State :=
  let t := (s.setPower { s.power with tripped := true }).endAll ⟨0x1E, 0, none⟩
  let t := t.releaseAll
  let t := t.setQueues ((List.range 176).foldl (fun l q =>
    tput QueueSt.reset l q { tget QueueSt.reset l q with st := .stopped, pos := .none, preReq := .none, stopNext := false }) t.queues)
  (t.logEvent 0x50 0 0 3 0 0).tallyAdd 0x78 1

/-- THERM_ALERT_N is asserted (15 R610). -/
def State.thermAlert (s : State) : Bool := decide (0 < s.power.steps) || s.power.tripped

/-- The most throttle steps that take a core from some die (15 R609). -/
def State.stepLimit (s : State) : Nat :=
  (List.range 24).foldl (fun m d => max m (((s.dieMembers d).take (s.dieCores d)).length - 4)) 0

/-- One period's action: the first row of R608 that matches. -/
def State.limit (s : State) : State :=
  let p := s.power
  let t := p.temps.toList.zip (List.range 40)
  let any := fun (f : Nat → Int) => t.any fun e => decide (f e.2 ≤ e.1.toInt)
  let w := p.watts.toNat
  let top := profWatts s.profile
  let warm := any fun _ => throttleAt
  if any tripAt then (if p.tripped then s else s.trip)
  else if warm ∨ top < w then
    (if p.steps < s.stepLimit then
      s.setPower { p with steps := p.steps + 1, byTemp := warm, byPower := decide (top < w) } else s)
  else if !(any fun _ => releaseAt) ∧ 100 * w < 95 * top ∧ 0 < p.steps then s.setPower { p with steps := p.steps - 1 }
  else s

/-- LIMITER_PERIOD: every 10,000 ticks (15 R608 to R612, R617, 19 R710). -/
def execLimiterPeriod (m : Measures) (s : State) : Answer :=
  .next (if s.power.phase ≠ .on ∨ (s.now - s.power.limitAt).toNat < 10000 then s
    else (s.measured m).limit.limitWindow.takeWanted)

end Sys2Proof.Machine
end

