-- ==== Sys2Proof/Machine/StartUp.lean ====
section
/-!
DEFINITION. Start-up (16 R618 to R624) and the image in force: what an image sets (R631 to R640), a full load (R643, R644), and
a live load (R645, R646).
-/
namespace Sys2Proof.Machine

/-! ## What an image sets -/

/-- The windows that an image gives a context, or under number 64 the peer windows (16 R634 WINDOWS). -/
def Image.ctxWins (m : Image) (x : Nat) : WinSet :=
  match m.windows with
  | none => if x < 64 then defaultWins else Vector.replicate 16 Window.off
  | some l => Vector.ofFn fun i : Fin 16 =>
      match l.find? fun (e : Nat × Nat × Window) => decide (e.1 = x) && decide (e.2.1 = i.val) with
      | some e => e.2.2
      | none => Window.off

/-- A herd under a list of entries: no arrivals, and its generation stands (10 R437, 16 R644). -/
def herdUnder (l : List HerdEntry) (h : Nat) (old : Herd) : Herd :=
  match l.find? fun e => decide (e.herd = h) with
  | some e => { kind := e.kind, step := e.step, ctx := e.ctx, master := e.master, mask := e.mask, arrived := [], gen := old.gen, held := [] }
  | none => { Herd.none with gen := old.gen }

/-- Every herd under a list of entries. -/
def State.setHerds (s : State) (l : List HerdEntry) : State :=
  s.setSync { s.sync with herds := (List.range 64).foldl (fun t h =>
    tput Herd.none t h (herdUnder l h (tget Herd.none t h))) s.sync.herds }

/-- A port under the image: its role, direction and peer; routed traffic again where it has a role and its enable; a training where
its role or peer is new (11 R471, R475, R476, 15 R599, 16 R644). -/
def State.linkUnder (s : State) (p : Nat) : State :=
  let f := s.start.img.fab
  let x := s.link p
  let role := vget f.roles p 0
  let expect := vget f.expects p 0
  let on := s.linkGate p
  let y := { x with role := role, dir := vget f.dirs p 0, expect := expect, routed := decide (role ≠ 0) && on }
  s.putLink p (if role = 0 then { y.fresh s.now with phase := .disabled, failsInRow := 0 }
    else if !on then y
    else if x.role ≠ role ∨ x.expect ≠ expect ∨ x.phase = .disabled then { y.fresh s.now with phase := .training, failsInRow := 0 }
    else y)

/-- An image comes into force, with its gates' second word as given (16 R629, R634 to R640, R644). -/
def State.applyImage (s : State) (m : Image) (gate1 : BitVec 12) : State :=
  let t := s.setStart { s.start with
    img := m, live := none, lag := [], loads := sat16 s.start.loads 1, sigFloor := s.start.sigFloor || m.requireSig
    verFloor := if s.start.verFloor.toNat < m.minVer.toNat then m.minVer else s.start.verFloor }
  let wins := (List.range 64).foldl (fun l x =>
    let w := m.ctxWins x
    tput CtxWins.reset l x { tget CtxWins.reset l x with active := w, pending := w }) t.mem.wins
  let t := t.setMem { t.mem with wins := wins, peer := m.ctxWins 64 }
  let t := (t.setSync { t.sync with groups := m.groups, stepWin := m.stepWin }).setHerds m.herds
  let t := (t.setPower { t.power with profImage := m.profile, sris := m.sris }).setGates m.gate0 gate1
  let t := t.setFab { t.fab with lost := 0, seen := [] }
  (List.range 16).foldl State.linkUnder t

/-- The owners that an image gives (16 R634 QUEUES, CONTEXTS). -/
def State.setOwners (s : State) (m : Image) : State := s.setStart { s.start with qOwner := m.qOwner, ctxOwner := m.ctxOwner }

/-! ## Start-up -/

/-- One log entry for each stored vendor key whose hash differs from its fuse (17 R651). -/
def State.logKeys (s : State) : State :=
  let t := if vendorKeyGood 0 then s else s.logEvent 0x60 0 0 2 0 0
  if vendorKeyGood 1 then t else t.logEvent 0x60 0 0 2 0 0

/-- Start-up stops after a step with a failure (16 R623). -/
def State.startFailed (s : State) (step : Nat) : State := s.setStart { s.start with step := step, result := 2 }

/-- Steps 3 to 5: the rails rise with every gate open but CLKOBS; the reference is present, and at a power-on the DTC starts; the
step pins serve again (16 R619, 15 R587, 10 R450). -/
def State.rails (s : State) : State :=
  let p := s.power
  let t := s.setPower { p with phase := .on, refOk := true, holdover := false, cold := false, lpBad := 0, gate0 := 0xFFFFFFFF,
                               gate1 := 0x7FF, stat0 := 0xFFFFFFFF, stat1 := 0x7FF }
  let t := t.setSync { t.sync with dtc := if p.cold then 0 else t.sync.dtc, inIgnored := false, outDisabled := false, unaligned := 0 }
  t.logKeys.setStart { t.logKeys.start with step := 5, result := 0 }

/-- A pseudo-channel that training puts on a spare, while the stack has one (07 R307). -/
def State.spareAt (s : State) (p : Hub × Fin 32) : State :=
  let x := s.hub p.1
  if 2 ≤ x.used then s
  else s.putHub p.1 { x with used := x.used + 1, pc0 := if x.used = 0 then p.2 else x.pc0, pc1 := if x.used = 0 then x.pc1 else p.2 }

/-- Step 7: memories trained; a group that cannot be is gated (16 R623). -/
def State.trainMemory (s : State) (lp : BitVec 8) (spares : List (Hub × Fin 32)) : State :=
  let off : Word := lp.setWidth 32 <<< 8
  let t := s.setPower { s.power with lpBad := lp, stat0 := s.power.stat0 &&& ~~~off }
  spares.foldl State.spareAt (t.setStart { t.start with step := 7 })

/-- The image that start-up takes: windows count no commit yet, rings stand as the image gives them, and owners are kept at a restart
(16 R629, 07 R293, 14 R558, R559; log 27). -/
def State.startImage (s : State) (m : Image) : State :=
  let t := if s.start.loads = 0 then s.setOwners m else s
  let t := t.setMem { t.mem with wins := [] }
  let t := t.setKe (t.ke.foldl (fun l e => tput KeHerd.reset l e.1 { e.2 with order := none, flat := false }) [])
  let t := t.applyImage m m.gate1
  t.setStart { t.start with step := 9, result := 0 }

/-- The first training of a port with a role at start-up; one of which nothing is told fails (16 R621, 11 R471). -/
def State.firstTraining (l : List (Link × TrainFact)) (s : State) (p : Nat) : State :=
  if (s.link p).phase = .training then
    match l.find? fun e => decide (e.1.val = p) with
    | some e => s.endTraining p e.2
    | none => s.endTraining p ⟨0x1F, false, 0, 0⟩
  else s

/-- Steps 10 and 11: the ports train, the queues open, and records kept from before are written (16 R621, R622, 14 R558). -/
def State.finishStart (s : State) (f : StartFacts) : State :=
  let t := (List.range 16).foldl (State.firstTraining f.links) s
  let t := t.reopen
  (t.setStart { t.start with step := 11, result := 1, timeMs := f.timeMs }).releaseAll

/-- Steps 3 to 9, as far as they come; with CFG_SRC high step 9 waits for a host's image (16 R619, R620, R623, R630). -/
def State.startUp (s : State) (f : StartFacts) : State :=
  let t := s.rails
  if f.fwBad ≠ 0 then (t.setFwu { t.fwu with recovery := true, bad := f.fwBad }).startFailed 5
  else
    let t := t.migrate
    if f.hbmFailed ≠ 0 then t.startFailed 6
    else
      let t := (t.trainMemory f.lpFailed f.spares).startSites f.sites false
      let t := t.setStart { t.start with step := 8 }
      if t.start.cfgSrc then t.setStart { t.start with result := 3 }
      else (t.startImage t.flashImage).finishStart f

/-- EXTEST, CLAMP or HIGHZ is loaded: start-up begins no further step (17 R674). -/
def State.tapHolds (s : State) : Bool :=
  decide (s.pins.tap = .extest) || decide (s.pins.tap = .clamp) || decide (s.pins.tap = .highz)

/-- START_UP: from T0, or from the end of step 9 after a host's image (16 R619, R620). -/
def execStartUp (f : StartFacts) (s : State) : Answer :=
  .next (if s.tapHolds then s
    else if s.power.phase = .ready ∧ s.start.step = 2 ∧ !s.fwu.recovery then s.startUp f
    else if s.power.phase = .on ∧ s.start.step = 9 then s.finishStart f
    else s)

/-! ## Loads -/

/-- Every accepted item of every queue has its final record released, and start-up is not in steps 1 to 8 (16 R643). -/
def State.quiet (s : State) : Bool :=
  (s.queues.all fun e => e.2.items.isEmpty && e.2.held.all fun r => decide (recordType r ≠ 0)) && decide (s.power.phase = .on) &&
    (decide (9 ≤ s.start.step) || decide (s.start.result = 3))

/-- A queue under a full load: its engine stops reading (16 R644). -/
def QueueSt.reload (x : QueueSt) (engine : Bool) : QueueSt :=
  { x with st := if engine then .stopped else .closed, pos := .none, preReq := .none, stopNext := false }

/-- Every stream is FREE, and every prefetch buffer is empty (16 R644, 08 R320). -/
def State.freeStreams (s : State) : State :=
  s.setMem { s.mem with streams := [], hubs := s.mem.hubs.map fun h => { h with buf := [], fetches := [] } }

/-- A host link whose clock mode changed trains again (16 R644, 15 R586). -/
def State.reclock (s : State) (old : BitVec 2) (p : Nat) : State :=
  if old.getLsbD p = s.power.sris.getLsbD p ∨ (s.pcie p).speed = 0 then s
  else s.putPcie p { s.pcie p with speed := 0, width := 0, reversed := false }

/-- The image is written to the slot that is not preferred, which becomes preferred (16 R631, R644). -/
def State.persist (s : State) (raw : List Byte) : State :=
  s.setStart { s.start with slot0 := if s.start.preferred then raw else s.start.slot0
                            slot1 := if s.start.preferred then s.start.slot1 else raw
                            preferred := !s.start.preferred }

/-- A full load through a port, whose own gate stays open (16 R638, R644). -/
def State.fullLoad (s : State) (p : Nat) (m : Image) (keep : Bool) : State :=
  let sris := s.power.sris
  let t := ((s.setOwners m).applyImage m (m.gate1 ||| (1#12 <<< (8 + p)))).freeStreams
  let t := (t.dropHostWatches 0).dropHostWatches 1
  let t := t.setKe []
  let opens := (List.range 11).filter t.engineOpen
  let t := t.setQueues ((List.range 176).foldl (fun l q =>
    tput QueueSt.reset l q ((tget QueueSt.reset l q).reload (opens.elem (engineOf q)))) t.queues)
  let t := ((t.reclock sris 0).reclock sris 1).rollWindow
  let t := t.setSec { t.sec with unlocked := t.sec.unlocked && m.allowDebug }
  if keep then t.persist m.raw else t

/-- A live load is held pending for the next boundary (16 R646). -/
def State.liveLoad (s : State) (m : Image) : State :=
  s.setStart { s.start with live := some (m.herds, m.rings), loads := sat16 s.start.loads 1 }

end Sys2Proof.Machine
end

