-- ==== Sys2Proof/Machine/Sync.lean ====
section
/-!
DEFINITION. The sync unit's commands from the host (10 R411, R414, R453), the step pins (R444, R447, R450), and the start of a
BOUNDARY (R442 to R446).
-/
namespace Sys2Proof.Machine

/-- SU_CTR_ADD: a signal from a host port, where the port may add to the counter (10 R408, R411). -/
def execSuCtrAdd (p : Port) (n : Counter) (v : Word) (s : State) : Answer :=
  .next (if v = 0 ∨ !s.barOpen then s
    else if s.portMayUse p n then s.signal n (v.zeroExtend 64)
    else s.logEvent 0x44 4 p 0 0 0)

/-- WATCH_GRANT: the oldest waiting registration takes a free watch (10 R414). -/
def execWatchGrant (s : State) : Answer :=
  .next (match s.sync.waiting with
    | [] => s
    | w :: ws =>
      if s.sync.watches.length < sharedWatches then (s.setSync { s.sync with waiting := ws }).place w else s)

/-! ## Host watches -/

def State.hostWatch (s : State) (p i : Nat) : HostWatch := tget ⟨0, 0⟩ s.sync.host (64 * p + i)
def State.putHostWatch (s : State) (p i : Nat) (x : HostWatch) : State :=
  s.setSync { s.sync with host := tput ⟨0, 0⟩ s.sync.host (64 * p + i) x }

/-- The fields of a write of SU_HW_CTL, EN aside: FIRED is cleared by writing 1 (10 R453). -/
def hwFields (old v : Word) : Word :=
  (v &&& 0x37FF0FFF#32) ||| (if v.getLsbD 30 then 0 else old &&& 0x40000000#32)

/-- HOST_WATCH_REGISTER: a write of EN = 1 (10 R415, R453). -/
def execHostWatchRegister (p : Port) (i : Fin 64) (v : Word) (s : State) : Answer :=
  .next (if !v.getLsbD 31 ∨ !s.barOpen then s
    else
      let t := s.withdraw (.host p i)
      let h := t.hostWatch p i
      let ctl := hwFields h.ctl v
      let c := bitsOf v.toNat 11 0
      let cond := bitsOf v.toNat 29 28
      if cond = 3 ∨ !s.portMayUse p c then (t.putHostWatch p i { h with ctl := ctl }).logEvent 0x44 4 p 0 0 0
      else (t.putHostWatch p i { h with ctl := ctl ||| 0x80000000#32 }).register ⟨c, .host p i, h.thr, cond, none, 0⟩)

/-- HOST_WATCH_WITHDRAW: a write of EN = 0 (10 R453). -/
def execHostWatchWithdraw (p : Port) (i : Fin 64) (v : Word) (s : State) : Answer :=
  .next (if v.getLsbD 31 ∨ !s.barOpen then s
    else
      let t := s.withdraw (.host p i)
      let h := t.hostWatch p i
      t.putHostWatch p i { h with ctl := hwFields h.ctl v })

/-! ## The step pins -/

/-- STEP_SYNC_IN_PULSE: a pulse stamped now; a kept one that no boundary has used is discarded and logged; an ignored input
keeps none (10 R444, R446, R450). -/
def execStepSyncInPulse (s : State) : Answer :=
  .next (if s.sync.inIgnored then s.logEvent 0x41 0 0 0 0 0
    else
      let t := if s.sync.pulse.isSome then s.logEvent 0x41 0 0 0 0 0 else s
      t.setSync { t.sync with pulse := some s.now })

/-- STEP_SYNC_OUT_END: ten ticks after its boundary the output falls (10 R447). -/
def execStepSyncOutEnd (s : State) : Answer :=
  .next (match s.sync.outEnd with
    | some t => if t ≤ s.now then (s.setSync { s.sync with outEnd := none }).setPins { s.pins with stepOut := false } else s
    | none => s)

/-- STEP_SYNC_OUT_DISABLE: the read-back differs for 2 ticks (10 R450). -/
def execStepSyncOutDisable (s : State) : Answer :=
  .next (if s.sync.outDisabled then s
    else (((s.setSync { s.sync with outDisabled := true, outEnd := none }).setPins { s.pins with stepOut := false }).logEvent
      0x43 0 0 0 0 0).tallyAdd 0x88 1)

/-- REARM: the ignoring of both pins ends (10 R450, R451). -/
def execRearm (s : State) : Answer :=
  .next (if s.barOpen then s.setSync { s.sync with inIgnored := false, outDisabled := false, unaligned := 0 } else s)

/-! ## BOUNDARY -/

/-- The step herd, if the image names one (10 R443). -/
def State.stepHerd (s : State) : Option Herd := (s.sync.herds.find? fun e => e.2.step && decide (e.2.kind = 2)).map (·.2)

/-- Whether this device waits for the pulse (10 R443). -/
def State.stepWaits (s : State) : Bool :=
  match s.stepHerd with
  | some h => h.mask.getLsbD s.device && decide (h.master ≠ s.device) && decide (0 < s.sync.stepWin.toNat) && !s.sync.inIgnored
  | none => false

/-- BOUNDARY: it starts and fixes B; a pulse stamped before B − STEP_WIN is discarded and logged, whether the device waits or not (10
R442 to R446). -/
def execBoundary (q : Queue) (k : Nat) (s : State) : Answer :=
  .next (s.startItem q k 0x41 (fun i => [i.zero 8 8]) fun t _ =>
    let win := t.sync.stepWin.toNat
    let t := (t.setWork q k (.boundary t.now win t.stepWaits)).setSync
      { t.sync with run := some ⟨q, k, t.now, win, t.stepWaits⟩ }
    match t.sync.pulse with
    | some p => if p.toNat + win < t.now.toNat then
                  (t.setSync { t.sync with pulse := none }).logEvent 0x41 0 0 0 0 0
                else t
    | none => t)

end Sys2Proof.Machine
end

