-- ==== Sys2Proof/Machine/Boundary.lean ====
section
/-!
DEFINITION. The step boundary as it is raised (10 R445 to R450, R755): what it does in its order (R448), with live reloads (R437,
16 R646), master takeovers (R436, 12 R514), and the ignoring of STEP_SYNC_IN (R450).
-/
namespace Sys2Proof.Machine

/-! ## When, and with what result -/

/-- A pulse lies in a boundary's window (10 R445). -/
def BoundaryRun.holds (r : BoundaryRun) (p : DWord) : Bool :=
  decide (r.b.toNat ≤ p.toNat + r.win) && decide (p.toNat < r.b.toNat + r.win)

/-- How a boundary is raised: its RESULT, its OFFSET, and whether it uses the pulse (10 R451). -/
structure Raise where
  result : BitVec 2
  offset : BitVec 18
  used : Bool
  deriving DecidableEq, Repr

/-- The boundary in progress is due now (10 R443, R445, R755). -/
def State.raiseDue (s : State) (r : BoundaryRun) : Option Raise :=
  if s.sync.inIgnored then some ⟨3, 0, false⟩
  else if !r.waits then some ⟨0, 0, false⟩
  else
    let late : Option Raise := if r.b.toNat + r.win ≤ s.now.toNat then some ⟨2, 0, false⟩ else none
    match s.sync.pulse with
    | some p => if r.holds p then (if p.toNat < s.now.toNat then some ⟨1, (p - r.b).setWidth 18, true⟩ else none) else late
    | none => late

/-! ## Live reloads -/

/-- One herd with its ring takes its pending definition, or waits for its arrivals (10 R437, 16 R646). -/
def State.reloadHerd (s : State) (e : Nat × Option HerdEntry × Option RingEntry) : State :=
  let x := s.herd e.1
  if x.arrived ≠ [] then s.setStart { s.start with lag := s.start.lag ++ [e] }
  else
    let t := s.putHerd e.1 { herdUnder e.2.1.toList e.1 x with held := x.held }
    let t := t.putKeHerd e.1 { t.keHerd e.1 with order := none, flat := false }
    t.setStart { t.start with img := { t.start.img with
      rings := (t.start.img.rings.filter fun r => decide (r.herd ≠ e.1)) ++ e.2.2.toList } }

/-- What is pending of live loads (16 R646). -/
def StartSt.pendingHerds (x : StartSt) : List (Nat × Option HerdEntry × Option RingEntry) :=
  match x.live with
  | some l => (List.range 64).map fun h => (h, l.1.find? fun e => decide (e.herd = h), l.2.find? fun r => decide (r.herd = h))
  | none => x.lag

/-- Pending live reloads are applied at a boundary. -/
def State.applyLive (s : State) : State :=
  s.start.pendingHerds.foldl State.reloadHerd (s.setStart { s.start with live := none, lag := [] })

/-! ## Master takeovers -/

/-- The members of a herd that the routing can reach (10 R436, 11 R484). -/
def State.reachMask (s : State) (m : BitVec 1536) : BitVec 1536 :=
  (List.range 512).foldl (fun a d => if a.getLsbD d && !s.reachable d then a &&& ~~~(1#1536 <<< d) else a) m

/-- The members in the order of their positions, stage 1 fastest (12 R514). -/
def Rings.inOrder (r : Rings) : List Nat :=
  let key := fun (p : List Nat) => (p.zip r.lens).foldr (fun e n => e.1 + e.2 * n) 0
  (List.range (r.lens.foldl (· * ·) 1)).filterMap fun k => (r.pos.find? fun e => decide (key e.2 = k)).map (·.1)

/-- The ring after members were dropped (12 R514). -/
def State.dropMembers (s : State) (h : Nat) (mask : BitVec 1536) : State :=
  let r := s.rings h
  let x := s.keHerd h
  s.putKeHerd h { x with order := some (r.inOrder.filter fun d => mask.getLsbD d), flat := x.flat || decide (1 < r.lens.length) }

/-- A new master counts the held arrivals of its own generation, and discards the others (10 R751). -/
def Herd.takeHeld (x : Herd) : Herd :=
  { x with arrived := (x.held.filter fun e => decide (e.2 = x.gen) && x.mask.getLsbD e.1).map (·.1), held := [] }

/-- A herd whose master is lost (10 R436). -/
def State.masterLost (s : State) (h : Nat) : Bool :=
  let x := s.herd h
  decide (x.kind = 2) && x.mask.getLsbD s.device && !s.reachable x.master

/-- The takeover of one herd: the lowest member in reach is master, the others out of reach are dropped, and this device's pending
arrival goes to the new master (10 R436, R751, 12 R514, 18 R690). -/
def State.takeoverHerd (s : State) (h : Nat) : State :=
  if !s.masterLost h then s
  else
    let x := s.herd h
    let mask := s.reachMask x.mask
    let master := ((List.range 512).find? fun d => mask.getLsbD d).getD s.device
    let t := (s.dropMembers h mask).logEvent 0x40 0 0 1 master 0
    let y := { x with master := master, mask := mask }
    let t := t.putHerd h (if master = s.device then y.takeHeld else y)
    let t := t.setFwu { t.fwu with carry := t.fwu.carry && decide (t.fwu.actHerd ≠ h) }
    if t.barriersOf h ≠ [] then t.arriveFabric h else if master = s.device then t.checkFabricHerd h else t

/-! ## The boundary -/

/-- UPDATE items accepted before this tick may start (10 R448, 01 R44). -/
def QueueSt.seeBoundary (x : QueueSt) (now : DWord) : QueueSt :=
  { x with items := x.items.map fun i => if i.acceptDtc.toNat < now.toNat then { i with boundarySeen := true } else i }

def State.seeBoundary (s : State) : State :=
  s.setQueues (tmap (fun x => x.seeBoundary s.now) s.queues)

/-- A roll at every TW_BOUND-th boundary; the boundary counts in the window that stands after it (16 R639, 19 R710). -/
def State.boundaryWindow (s : State) : State :=
  let t := if s.sync.bcnt.toNat % s.start.img.twBound = 0 then s.rollWindow else s
  t.setTally { t.tally with cur := { t.tally.cur with bounds := sat32 t.tally.cur.bounds 1 } }

/-- Steps 1 to 6 of R448. -/
def State.boundarySteps (s : State) : State :=
  let t := s.setSync { s.sync with bcnt := s.sync.bcnt + 1 }
  let t := t.seeBoundary.boundaryWindow.beginActivation.applyLive
  (List.range 64).foldl State.takeoverHerd t

/-- STEP_SYNC_IN is ignored from now on (10 R450). -/
def State.ignoreIn (s : State) : State :=
  ((s.setSync { s.sync with inIgnored := true }).logEvent 0x43 0 0 0 0 0).tallyAdd 0x80 1

/-- How the boundary was raised: SU_STEP_LAST, a used pulse gone, an unaligned boundary logged, and the input ignored after four in a
row (10 R445, R450, R451). -/
def State.noteRaise (s : State) (x : Raise) : State :=
  let n := if x.result = 2 then s.sync.unaligned + 1 else 0
  let t := s.setSync { s.sync with run := none, lastResult := x.result, lastOffset := x.offset, unaligned := n,
                                   pulse := if x.used then none else s.sync.pulse }
  let t := if x.result = 2 then t.logEvent 0x42 0 0 0 0 0 else t
  if 4 ≤ n then t.ignoreIn else t

/-- The step herd's master drives STEP_SYNC_OUT high for 10 ticks (10 R447). -/
def State.stepMaster (s : State) : Bool :=
  match s.stepHerd with
  | some h => h.mask.getLsbD s.device && decide (h.master = s.device)
  | none => false
def State.driveOut (s : State) : State :=
  if s.stepMaster ∧ !s.sync.outDisabled then
    (s.setSync { s.sync with outEnd := some (s.now + 10) }).setPins { s.pins with stepOut := true }
  else s

/-- The boundary is raised, and its BOUNDARY item completes with PROGRESS 1 (10 R448). -/
def State.raise (s : State) (r : BoundaryRun) (x : Raise) : State :=
  ((s.driveOut.noteRaise x).boundarySteps).finishNow r.q r.k 1

/-- The deadline of a boundary that waits has come: it is not raised, and its item ends FAILED_DEADLINE (10 R449). -/
def State.raiseLate (s : State) (r : BoundaryRun) : Bool :=
  r.waits && (match s.item? r.q r.k with | some i => i.late s.now | none => false)

/-- A boundary that is due is raised, or its item stopped where its deadline has come (10 R448, R449). -/
def State.raiseOr (s : State) (r : BoundaryRun) (x : Raise) : State :=
  if s.raiseLate r then s.failItem r.q r.k ⟨0x14, 0, none⟩ else s.raise r x

/-- BOUNDARY_RAISE: the boundary in progress is raised when it is due (10 R445, R448, R449). -/
def execBoundaryRaise (s : State) : Answer :=
  .next (match s.sync.run with
    | some r => (match s.raiseDue r with
      | some x => s.raiseOr r x
      | none => s)
    | none => s)

/-- STEP_SYNC_IN_IGNORE: the pin has read high for more than 1,000 ticks, or four boundaries in a row were unaligned; a BOUNDARY
that waits is raised in that tick (10 R450, R755). -/
def execStepSyncInIgnore (pin : Bool) (s : State) : Answer :=
  .next (if s.sync.inIgnored || (!pin && decide (s.sync.unaligned < 4)) then s
    else
      let t := s.ignoreIn
      match t.sync.run with
      | some r => t.raiseOr r ⟨3, 0, false⟩
      | none => t)

end Sys2Proof.Machine
end

