-- ==== Sys2Proof/Machine/Hubs.lean ====
section
/-!
DEFINITION. The hubs: the request path (07 R302 to R306), corrections and pseudo-channel sparing (R294 to R301), the
prefetcher's fetches (08 R321 to R326, R334), and the host's accesses through BAR2 and the configuration space (07 R282 to
R285, 16 R624, R626, 20 R726, R727).
-/
namespace Sys2Proof.Machine

/-! ## Corrections -/

/-- An uncorrectable read counted at its hub (07 R307). -/
def State.countUe (s : State) (a : Nat) : State :=
  let h := s.hubOf a
  match s.region a with
  | .hbm => s.putHub h { s.hub h with ueHbm := sat16 (s.hub h).ueHbm 1 }
  | .lp => s.putHub h { s.hub h with ueLp := sat16 (s.hub h).ueLp 1 }
  | _ => s

/-- Ticks of an hour. -/
def hourTicks : Nat := 360000000000

/-- A pseudo-channel beyond its limit starts copying to a spare, or stays in service where none is left (07 R300, R301). -/
def State.retirePc (s : State) (h pc : Nat) : State :=
  let x := s.hub h
  if x.copying.elem pc then s
  else if x.used + x.copying.length < 2 then
    (s.putHub h { x with copying := x.copying ++ [pc], corr := tput [] x.corr pc [] }).logEvent 0x21 2 h 3 pc 0
  else (s.putHub h { x with corr := tput [] x.corr pc [] }).logEvent 0x22 2 h 3 pc 0

/-- A correction of `bits` bits in a read of an address: counted, written back without any other effect, and for HBM held
against the limits of R300 (07 R296, R300, 19 R700). -/
def State.correction (s : State) (a bits : Nat) : State :=
  let h := s.hubOf a
  let x := s.hub h
  match s.region a with
  | .lp => s.putHub h { x with lpCE := sat32 x.lpCE 1 }
  | .hbm =>
    let pc := s.pseudo a
    let recent := ((tget [] x.corr pc).filter fun t => decide ((s.now - t).toNat < hourTicks)) ++ [s.now]
    let t := (s.putHub h { x with hbmCE := sat32 x.hbmCE 1, corr := tput [] x.corr pc recent }).tallyHbm h 1
    if 64 ≤ recent.length ∨ 8 < bits then t.retirePc h pc else t
  | _ => s

/-- What SECDED or the symbol code met in the end: of a read that the link ECC had repeated, the second reading (07 R295). -/
def readCode : ReadFact → EccFact
  | .once e => e
  | .repeated e => e

/-- Whether a read of a line meets an error that the code cannot correct, one that stands there included (07 R297). -/
def State.meetsUe (s : State) (a : Nat) (e : ReadFact) : Bool := s.isUe a || decide (readCode e = .uncorrectable)

/-- One read of a line by its controller: a correction, or an uncorrectable read, which is counted and marks its line unless a later
write of the whole line is on its way behind it (07 R295 to R297, R304, R307). -/
def State.readFact (s : State) (a : Nat) (e : ReadFact) (mended : Bool) : State :=
  if s.meetsUe a e then (if mended then s else s.markUe a).countUe a
  else match readCode e with
    | .corrected n => s.correction a n
    | _ => s

/-- SPARE_COPY_END: the copied pseudo-channel is served by the spare (07 R300, R307). -/
def execSpareCopyEnd (h : Hub) (s : State) : Answer :=
  .next (let x := s.hub h
    match x.copying with
    | [] => s
    | pc :: rest =>
      s.putHub h { x with used := x.used + 1, copying := rest, pc0 := if x.used = 0 then pc else x.pc0,
                          pc1 := if x.used = 0 then x.pc1 else pc })

/-- PATROL_SCRUB: a line of the hub read, corrected and written back; an uncorrectable one is logged, and one found before too (07
R299, R307). -/
def execPatrolScrub (h : Hub) (a : BitVec 42) (e : ReadFact) (s : State) : Answer :=
  .next (let n := a.toNat
    let mine := match s.region n with | .hbm => true | .lp => !s.gatedAt n | _ => false
    if mine && decide (s.hubOf n = h) then
      let t := s.readFact n e false
      if s.meetsUe n e then t.logEvent 0x20 2 h 0 (lineOf n) 0 else t
    else s)

/-! ## The request path -/

/-- Whether a request can take a slot among those held: 16,384 in all, 8,192 of them for prefetch, 1,024 for a bank (07
R303, 08 R325). -/
def State.canSlot (s : State) (held : List HubReq) (r : HubReq) : Bool :=
  decide (held.length < 16384) &&
  decide ((held.filter fun x => decide (s.bankOf (64 * x.line) = s.bankOf (64 * r.line))).length < 1024) &&
  (!r.prefetch || decide ((held.filter (·.prefetch)).length < 8192))

/-- Slots given in order of arrival (07 R303). -/
def giveSlots (s : State) : List HubReq → List HubReq → List HubReq
  | _, [] => []
  | held, r :: rs =>
    if !r.slot && s.canSlot held r then { r with slot := true } :: giveSlots s (held ++ [{ r with slot := true }]) rs
    else r :: giveSlots s held rs

/-- The hub's requests after slots are given, with the most held at once (07 R303, R307). -/
def State.slotsAt (s : State) (h : Nat) : State :=
  let x := s.hub h
  let rs := giveSlots s x.inSlots x.reqs
  s.putHub h { x with reqs := rs, high := max x.high (rs.filter (·.slot)).length }

/-- A request enters the sort queue of a hub (07 R302, R303). -/
def State.enterHub (s : State) (h line : Nat) (write whole prefetch : Bool) : State :=
  let x := s.hub h
  (s.putHub h { x with reqs := x.reqs ++ [⟨x.nextReq, line, write, whole, prefetch, false⟩], nextReq := x.nextReq + 1 }).slotsAt h

/-- The bytes of a masked write: runs of set mask bits from byte `i`, each a write of its own bytes in the line. -/
def maskedBytes (s : State) (a : Nat) (mask : BitVec 64) (data : Line) : List Byte :=
  (List.range 64).map fun i => if mask.getLsbD i then BitVec.ofNat 8 (bitsOf data.toNat (8 * i + 7) (8 * i)) else s.byte (a + i)

/-- A write accepted by its hub (07 R298, R304, 08 R331, R333); one smaller than a line on an uncorrectable line changes
nothing. -/
def State.acceptWrite (s : State) (a : Nat) (mask : BitVec 64) (data : Line) : State :=
  if mask = 0 then s
  else if mask = BitVec.allOnes 64 then s.writeLine a (natLe 64 data.toNat)
  else if s.isUe a then s.countUe a
  else s.writeLine a (maskedBytes s a mask data)

/-- HUB_REQUEST_ARRIVAL: a request arrives at the hub that owns its line, while its sort queue has room (07 R302 to R304). -/
def execHubRequestArrival (h : Hub) (r : MemReq) (s : State) : Answer :=
  .next (let a := 64 * r.line.toNat
    let mine := match s.region a with | .hbm => true | .lp => !s.gatedAt a | _ => false
    if mine && decide (s.hubOf a = h) && decide ((s.hub h).sorted.length < 65536) then
      let t := match r.write with | some (m, d) => s.acceptWrite a m d | none => s
      let whole := match r.write with | some (m, _) => decide (m = BitVec.allOnes 64) | none => false
      t.enterHub h r.line.toNat r.write.isSome whole (r.prefetch && r.write.isNone)
    else s)

/-- Whether the bank may perform a request now: the oldest of the hub to its line; in the open row unless 16 in a row have gone before
an older request to another row; in another row only as the oldest of the bank in slots, when no request to the open row goes ahead
(07 R304, R305). -/
def State.mayPerform (s : State) (x : HubSt) (r : HubReq) : Bool :=
  let bank := s.bankOf (64 * r.line)
  let mine := x.inSlots.filter fun y => decide (s.bankOf (64 * y.line) = bank)
  let open_ := tget none x.openRow bank
  let inRow := fun (y : HubReq) => decide (open_ = some (s.rowOf (64 * y.line)))
  let runs := tget 0 x.runs bank
  let older := mine.filter fun y => decide (y.id < r.id)
  x.reqs.all (fun y => decide (r.id ≤ y.id) || decide (y.line ≠ r.line)) &&
  (if inRow r then decide (runs < 16) || older.all inRow
   else older.isEmpty && (!mine.any inRow || decide (16 ≤ runs)))

/-- The requests in a row that the bank has performed ahead of an older one to another row in a slot, after this one (07 R305). -/
def State.runsAfter (s : State) (x : HubSt) (r : HubReq) : Nat :=
  let bank := s.bankOf (64 * r.line)
  if tget none x.openRow bank ≠ some (s.rowOf (64 * r.line)) then 0
  else if x.inSlots.any fun y => decide (y.id < r.id) && decide (s.bankOf (64 * y.line) = bank) &&
      decide (s.rowOf (64 * y.line) ≠ s.rowOf (64 * r.line)) then tget 0 x.runs bank + 1
  else tget 0 x.runs bank

/-- REQUEST_PERFORMED: a request in a slot is performed; its slot goes to the oldest that can take it (07 R303 to R306), and a
read may meet a correction or an error (R296, R297). -/
def execRequestPerformed (h : Hub) (i : Nat) (e : ReadFact) (s : State) : Answer :=
  .next (let x := s.hub h
    match x.inSlots.find? fun r => decide (r.id = i) with
    | none => s
    | some r =>
      if !s.mayPerform x r then s
      else
        let a := 64 * r.line
        let bank := s.bankOf a
        let t := s.putHub h { x with reqs := x.reqs.filter fun y => decide (y.id ≠ i),
                                     openRow := tput none x.openRow bank (some (s.rowOf a)),
                                     runs := tput 0 x.runs bank (s.runsAfter x r) }
        let t := t.slotsAt h
        if r.write then t
        else t.readFact a e (x.reqs.any fun y => decide (i < y.id) && decide (y.line = r.line) && y.whole))

/-! ## Prefetch -/

/-- The core for which the prefetcher orders a RUNNER stream's source lines, before it knows the receiver: one without a bypassed row
(DESIGN CHOICE, log 73; no delivered value depends on it, 08 R329). -/
def anyCore : ArrayState := ArrayState.reset

/-- The source lines of a stream's window: the first not yet delivered and up to LEAD beyond it, in order of first use; none where LEAD
is 0 (08 R308, R322). -/
def State.leadLines (s : State) (x : Stream) : List SrcLine :=
  let d := readDesc x.desc
  let all := ((List.range (d.length - x.pos)).map fun i => d.srcLines s anyCore (x.pos + i)).flatten
  let firsts := all.foldl (fun l e => if l.any fun y => decide (y.line = e.line) then l else l ++ [e]) []
  if d.lead = 0 then [] else firsts.take (d.lead + 1)

/-- A line that a fetch may be made of: the hub's own, granted R by the context's active windows, not gated, and neither buffered nor in
flight for the stream; a row line that an index names, only once its index line is buffered (08 R326, R339). -/
def State.fetchable (s : State) (n h : Nat) (x : Stream) (e : SrcLine) : Bool :=
  (match s.region e.line with | .hbm => true | .lp => !s.gatedAt e.line | _ => false) && decide (s.hubOf e.line = h) &&
  (s.ctx x.ctx).active.grants rightR false e.line && !s.buffered n e.line &&
  (match e.index with | some l => s.buffered n l | none => true) &&
  !(s.hub h).fetches.any fun f => decide (f.stream = n) && decide (f.line = e.line) && !f.stale

/-- PREFETCH_FETCH: the stream's home hub has the next fetch made at a hub, while its buffer has room (08 R322 to R326). -/
def execPrefetchFetch (n : StreamNo) (h : Hub) (s : State) : Answer :=
  .next (let x := s.stream n
    let y := s.hub h
    if x.phase ≠ StreamPhase.active ∨ 524288 ≤ y.buf.length + y.fetches.length ∨ 65536 ≤ y.sorted.length then s
    else match (s.leadLines x).find? fun e => s.fetchable n h x e with
      | none => s
      | some e =>
        (s.putHub h { y with fetches := y.fetches ++ [⟨n, e.line, s.line e.line, false, e.index, y.nextReq⟩] }).enterHub h
          (e.line / 64) false false true)

/-- FETCH_RETURN: fetch i of a hub returns once its read has been performed; a stale or uncorrectable copy, or one that no later
line uses, is not buffered (08 R323, R326, R334). -/
def execFetchReturn (h : Hub) (i : Nat) (s : State) : Answer :=
  .next (let y := s.hub h
    match y.fetches[i]? with
    | none => s
    | some f =>
      if y.reqs.any fun r => decide (r.id = f.req) then s
      else
        let t := s.putHub h { y with fetches := y.fetches.eraseIdx i }
        let x := t.stream f.stream
        let d := readDesc x.desc
        if f.stale || t.isUe f.line || decide (x.phase ≠ StreamPhase.active) ||
            !d.usedFrom t (fun _ => anyCore) x.pos f.line then t
        else t.putHub h { t.hub h with buf := (t.hub h).buf ++ [⟨f.stream, f.line, f.data, f.index⟩] })

/-! ## The host's accesses -/

/-- A host port's requests reach the device: link up, in D0, start-up past step 6 (16 R624, 20 R727). -/
def State.hostReach (s : State) (p : Nat) : Bool := s.portUp p && decide (6 ≤ s.start.step) && decide (s.power.phase = .on)

/-- The local address of a BAR2 offset (07 R285). -/
def State.bar2Addr (s : State) (p off : Nat) : Nat :=
  let x := s.pcie p
  x.bar2Base.toNat / 2 ^ x.bar2Size * 2 ^ x.bar2Size * 2 ^ 30 + off

/-- Bytes of the port's BAR2. -/
def State.bar2Bytes (s : State) (p : Nat) : Nat := 2 ^ ((s.pcie p).bar2Size + 30)

/-- Whether a line reached through BAR2 gives data (07 R284): none for zero, or whether it is poisoned. -/
inductive BarLine where
  | zero
  | gated
  | bad
  | data
  deriving DecidableEq, Repr

def State.barLine (s : State) (a : Nat) : BarLine :=
  if s.start.step < 7 then .zero
  else match s.region a with
    | .hole => .zero
    | .control => .zero
    | _ => if s.gatedAt a then .gated else if s.isUe a then .bad else .data

/-- One line of a read: its bytes, none where it is poisoned, and the state after its record. -/
def State.barRead (s : State) (p a n : Nat) : State × List Byte × Bool :=
  match s.barLine a with
  | .zero => (s, List.replicate n 0, false)
  | .data => (s, s.bytes a n, false)
  | .gated => (s.logEvent 0x23 4 p 0 0 0, [], true)
  | .bad => ((s.countUe a).logEvent 0x23 4 p 0 0 0, [], true)

/-- The lines of a read in order. -/
def barReads (p : Nat) : List (Nat × Nat) → State → State × List Byte × List Bool
  | [], s => (s, [], [])
  | (a, n) :: l, s =>
    let r := s.barRead p a n
    let t := barReads p l r.1
    (t.1, r.2.1 ++ t.2.1, r.2.2 :: t.2.2)

/-- HOST_BAR2_READ: the lines of the read, each completed, zero or poisoned (07 R284). -/
def execHostBar2Read (p : Port) (off : BitVec 42) (len : Nat) (s : State) : Answer :=
  .next (if !s.hostReach p || decide (s.bar2Bytes p < off.toNat + len) then s
    else
      let a := s.bar2Addr p off.toNat
      let r := barReads p ((linesOf a len).map fun l => (max l a, min (l + 64) (a + len) - max l a)) s
      r.1.emit (.completion p r.2.1 r.2.2))

/-- One line of a host write (07 R284, R298). -/
def State.barWrite (s : State) (p a : Nat) (bs : List Byte) : State :=
  match s.barLine a with
  | .zero => s
  | .gated => s.logEvent 0x23 4 p 0 0 0
  | .data => s.writeLine a bs
  | .bad => if bs.length = 64 then s.writeLine a bs else (s.countUe a).logEvent 0x23 4 p 0 0 0

/-- HOST_BAR2_WRITE: the lines of the write (07 R284, R285). -/
def execHostBar2Write (p : Port) (off : BitVec 42) (bytes : List Byte) (s : State) : Answer :=
  .next (if !s.hostReach p || decide (s.bar2Bytes p < off.toNat + bytes.length) then s
    else (cutLines bytes.length (s.bar2Addr p off.toNat) bytes).foldl (fun t c => t.barWrite p c.1 c.2) s)

/-- Configuration registers whose contents the spec gives: identity, class and revision, and subsystem (20 R726). -/
def State.configRead (s : State) (p reg : Nat) : Word :=
  if reg = 0 then 0x14401F6C#32
  else if reg = 2 then BitVec.ofNat 32 (0x12000000 + s.start.rev.toNat)
  else if reg = 11 then 0x00541F6C#32
  else Config.pcieConfig p reg

/-- PCIE_CONFIG_REQUEST: retried until step 6 ends; then completed (16 R626, 20 R726, R727, 07 R282). -/
def execPcieConfigRequest (p : Port) (r : CfgReq) (s : State) : Answer :=
  .next (if (s.pcie p).speed = 0 then s
    else if s.start.step < 6 ∧ !s.fwu.recovery then s.emit (.config p true 0)
    else match r with
      | .read reg => s.emit (.config p false (s.configRead p reg))
      | .write _ _ => s.emit (.config p false 0)
      | .powerState d => (s.putPcie p { s.pcie p with d3hot := d }).emit (.config p false 0)
      | .bar2Size n => (s.putPcie p { s.pcie p with bar2Size := n }).emit (.config p false 0))

end Sys2Proof.Machine
end

