-- ==== Sys2Proof/Machine/Matmul.lean ====
section
/-!
DEFINITION. MATMUL (09 R355 to R359, 05 R212 to R221) and JOB (06 R258, R259). A region of a MATMUL is computed with the
chunk sums and tile additions of the tile instructions; how the engine stages it is not specified (09 R749).
-/
namespace Sys2Proof.Machine

/-- The stream of a KSTREAM use does not serve it (09 R358, 08 R318). -/
def State.badKStream (s : State) (i : Item) (c : MatCmd) (x : MatUse) : Bool :=
  let st := s.stream x.ksrc
  let d := readDesc st.desc
  decide (st.phase ≠ StreamPhase.active) || decide (st.ctx ≠ i.ctx) || decide (d.layout ≠ 0) || decide (d.e0 ≠ 96) ||
    decide (d.fmt ≠ c.kfmt ∧ ¬ (c.kconv ∧ d.fmt = 0)) || decide (c.n % 96 ≠ 0) || fmtScaled c.kfmt

/-- Fields of one use that fail the item (09 R355 to R359, 04 R149, 05 R217). -/
def useFields (s : State) (i : Item) (c : MatCmd) (u : Nat) : List (Nat × Bool) :=
  let x := i.matUse u
  let e := 80 + 48 * u
  [(e, decide (x.k = 0) || decide (2 ^ 31 ≤ x.k)),
   (e + 4, decide (8 ≤ i.fld (e + 4) 1) || (x.tk && decide (c.kfmt = 0)) || (x.tr && decide (c.rfmt = 0)) || (x.tk && x.kstream)),
   i.zero (e + 5) 3, (e + 20, x.kstream && decide (x.kstride ≠ 0)),
   (e + 24, x.kstream && (decide (16384 ≤ x.ksrc) || s.badKStream i c x)),
   (e + 32, fmtScaled c.rfmt == decide (x.rscale = 0)), (e + 40, fmtScaled c.kfmt == decide (x.kscale = 0))]

/-- Fields of a MATMUL that fail it, by offset (09 R353, R354, R359, 02 R49, R50, 04 R149). -/
def matFields (s : State) (i : Item) : List (Nat × Bool) :=
  let c := i.matCmd
  [(2, decide (i.len ≠ 5 + 3 * c.u)), (8, decide (c.u = 0 ∨ 16 < c.u)),
   (9, !pairOk c.rfmt c.kfmt), (10, !fmtValid c.ofmt || decide (2 ≤ c.rnd) || (c.sr && decide (c.rnd = 1))),
   (11, decide (32 ≤ i.fld 11 1) || decide (c.maskForm = 3) || ((c.rfmt == 0) != (c.passes != 0)) ||
      (c.kconv && decide (c.kfmt ≠ 1 ∧ c.kfmt ≠ 2))),
   (12, decide (c.m = 0) || decide (2 ^ 31 ≤ c.m)), (16, decide (c.n = 0) || decide (2 ^ 31 ≤ c.n)),
   (20, decide (c.f ≠ 0 ∧ c.f < 8192) || decide (24576 < c.f)),
   (32, decide (c.ostride < rowBytes c.n (fmtBits c.ofmt))), i.zero 44 4,
   (48, !i.iflags.testBit 3 && decide (c.seed ≠ 0)), (56, fmtScaled c.ofmt == decide (c.oscale = 0)),
   (64, decide (c.maskForm = 0) && decide (c.mask ≠ 0)), i.zero 72 8] ++
  ((List.range (min c.u 16)).map (useFields s i c)).flatten

/-- A local-address field with bits [63:42] set (07 R272). -/
def badLocal (l : List Nat) : Option Fail := (l.find? fun a => decide (2 ^ 42 ≤ a)).map failWindow

/-- Local addresses of a MATMUL in order. -/
def Item.matLocals (i : Item) : List Nat :=
  let c := i.matCmd
  [c.out, c.oscale, c.mask] ++
    (i.uses.map fun x => [x.rsrc, if x.kstream then 0 else x.ksrc, x.rscale, x.kscale]).flatten

/-- An element of packed rows in memory. -/
def State.packed (s : State) (row b j : Nat) : Nat := s.elemAt row b j
/-- An element of a byte list. -/
def packedIn (bs : List Byte) (off b j : Nat) : Nat := (leNat ((bs.drop (off + b * j / 8)).take 5) >>> (b * j % 8)) % 2 ^ b

/-- The runner value of row `m` of a region at `k` of a pass (09 R355). -/
def MatPass.runner (p : MatPass) (s : State) (c : MatCmd) (a : Area) (m k : Nat) : Val :=
  let b := fmtBits c.rfmt
  let x := p.use
  let bits := if x.tr then s.packed (x.rsrc + (p.k0 + k) * x.rstride) b (a.r0 + m)
    else s.packed (x.rsrc + (a.r0 + m) * x.rstride) b (p.k0 + k)
  let e := if fmtScaled c.rfmt then (s.byte (x.rscale + (a.r0 + m) * ((x.k + 31) / 32) + (p.k0 + k) / 32)).toNat else 127
  scaleVal (elemVal c.rfmt bits) e

/-- The keeper value of column `n` of a region at `k` of a pass, as its latch holds it (09 R355, R358, 03 R754). -/
def MatPass.keeper (p : MatPass) (s : State) (c : MatCmd) (a : Area) (k n : Nat) : Val :=
  let b := keeperBits p.conv c.kfmt
  let x := p.use
  let bits := if x.kstream then packedIn p.data (k * rowBytes 96 b) b n
    else if x.tk then s.packed (x.ksrc + (a.c0 + n) * x.kstride) b (p.k0 + k)
    else s.packed (x.ksrc + (p.k0 + k) * x.kstride) b (a.c0 + n)
  let e := if fmtScaled c.kfmt then (s.byte (x.kscale + (a.c0 + n) * ((x.k + 31) / 32) + (p.k0 + k) / 32)).toNat else 127
  scaleVal (if c.kfmt = 0 then fp32Fmt.read bits else latchVal c.kfmt (latchOf c.kfmt p.conv bits)) e

/-- The chunk sum of a pass for one element. -/
def MatPass.sum (p : MatPass) (s : State) (c : MatCmd) (a : Area) (m n : Nat) : ChunkSum :=
  chunkSum m n ((List.range p.kn).map fun k => (k, product c.passes (p.keeper s c a k n) (p.runner s c a m k)))

/-- What one pass leaves in one element: its value, the KIND and k code of each invalid event, and whether a NaN entered. -/
structure ElemOut where
  v : BitVec 34
  evs : List (Nat × Nat)
  nanIn : Bool
  deriving DecidableEq, Repr

/-- A chunk sum added into an element: the region's first pass is under ZERO (05 R218, 03 R111 to R113, 04 R173). -/
def passElem (first : Bool) (old : BitVec 34) (cs : ChunkSum) : ElemOut :=
  let r := addTile first old cs
  ⟨r.1, (match cs.prodInv with | some k => [(0, k)] | none => []) ++ r.2.toList, cs.nanIn⟩

/-- The elements of a region's streamed rows after its next pass. -/
def passOuts (s : State) (i : Item) (r : Run) (p : MatPass) : List (Nat × List ElemOut) :=
  let c := i.matCmd
  let a := i.area r.inst
  let rows := i.regionRows r.inst
  (rows.zip (List.range rows.length)).map fun mj => (mj.1, (List.range a.cols).map fun n =>
    passElem (r.done == 0) ((r.sums.getD mj.2 []).getD n 0) (p.sum s c a mj.1 n))

/-! ## Operands of a region -/

/-- Byte ranges that a pass reads (09 R356): runner rows that are trained, keeper rows, and scales. -/
def MatPass.reads (p : MatPass) (c : MatCmd) (a : Area) (rows : List Nat) : List (Nat × Nat) :=
  let x := p.use
  let b := fmtBits c.rfmt
  let kb := keeperBits p.conv c.kfmt
  let span := fun (base w lo n : Nat) => (base + w * lo / 8, (w * (lo + n) + 7) / 8 - w * lo / 8)
  (if x.tr then (List.range p.kn).map fun k => span (x.rsrc + (p.k0 + k) * x.rstride) b a.r0 a.rows
   else rows.map fun m => span (x.rsrc + (a.r0 + m) * x.rstride) b p.k0 p.kn) ++
  (if x.kstream then []
   else if x.tk then (List.range a.cols).map fun n => span (x.ksrc + (a.c0 + n) * x.kstride) kb p.k0 p.kn
   else (List.range p.kn).map fun k => span (x.ksrc + (p.k0 + k) * x.kstride) kb a.c0 a.cols) ++
  (if fmtScaled c.rfmt then rows.map fun m =>
    (x.rscale + (a.r0 + m) * ((x.k + 31) / 32) + p.k0 / 32, (p.kn + 31) / 32) else []) ++
  (if fmtScaled c.kfmt then (List.range a.cols).map fun n =>
    (x.kscale + (a.c0 + n) * ((x.k + 31) / 32) + p.k0 / 32, (p.kn + 31) / 32) else [])

/-- A pass with its keeper rows, which a KSTREAM use takes from its stream (09 R358). With KCONV = 1 and a stream whose FMT is KFMT,
which R358 admits, the elements are in KFMT already and are not converted (DEDUCED, log 73). -/
def takeKeeper (s : State) (i : Item) (c : MatCmd) (p : MatPass) (es : List (BitVec 42 × EccFact)) : State × (Fail ⊕ MatPass) :=
  if p.use.kstream then
    let conv := c.kconv && decide ((readDesc (s.stream p.use.ksrc).desc).fmt = 0)
    let r := s.consume p.use.ksrc i.ctx i.wins ArrayState.reset (p.kn * (rowBytes 96 (keeperBits conv c.kfmt) / 64))
      (failField 24) es
    (r.1, r.2.map id fun bs => { p with conv := conv, data := bs })
  else (s, .inr p)

/-! ## The region -/

/-- The codes, scales and flags of an output row (04 R157, 09 R357). -/
def outRow (c : MatCmd) (a : Area) (m : Nat) (vals : List (BitVec 34)) : List Nat × List Nat × Flags :=
  convRow c.ofmt c.sat ((vals.zip (List.range a.cols)).map fun p =>
    (f34 p.1, rndOf c.sr c.rnd (BitVec.ofNat 64 c.seed) ((c.orgM + a.r0 + m) % 2 ^ 32) ((c.orgN + a.c0 + p.2) % 2 ^ 32)
      c.ofmt))

/-- The writes of an output row and of its scales (09 R355). -/
def MatCmd.rowWrites (c : MatCmd) (a : Area) (m : Nat) (r : List Nat × List Nat × Flags) : List (Nat × List Byte) :=
  let b := fmtBits c.ofmt
  [(c.out + (a.r0 + m) * c.ostride + a.c0 * b / 8, natLe ((a.cols * b + 7) / 8) (packNat b r.1))] ++
    (if fmtScaled c.ofmt then [(c.oscale + (a.r0 + m) * ((c.n + 31) / 32) + a.c0 / 32, r.2.1.map (BitVec.ofNat 8))] else [])

/-- Writes on behalf of the item up to the first that fails. -/
def writeRows (ws : WinSet) : List (Nat × List Byte) → State → State × Option Fail
  | [], s => (s, none)
  | (a, bs) :: l, s =>
    let r := s.writeFor ws a bs
    match r.2 with
    | some f => (r.1, some f)
    | none => writeRows ws l r.1

/-- The invalid events of a pass's elements (04 R173). -/
def passEvents (issue acc : Nat) (tag : Word) (outs : List (Nat × List ElemOut)) : List XCap :=
  (outs.map fun r => ((r.2.zip (List.range r.2.length)).map fun p =>
    p.1.evs.map fun e => (⟨issue, r.1, p.2, e.2, e.1, acc, tag⟩ : XCap)).flatten).flatten

/-- The NaNs that a write-out to an integer format meets (02 R77, 04 R173). -/
def outEvents (issue acc : Nat) (tag : Word) (c : MatCmd) (outs : List (Nat × List (BitVec 34))) : List XCap :=
  if c.ofmt = 10 ∨ c.ofmt = 11 then
    (outs.map fun r => ((r.2.zip (List.range r.2.length)).filter fun p => (f34 p.1).isNan).map fun p =>
      (⟨issue, r.1, p.2, 0x7F, 3, acc, tag⟩ : XCap)).flatten
  else []

/-- The core's tile state after one instruction of a region: its events, its flags, its count when it raised INV (04 R173, R175). -/
def TileState.matDone (t : TileState) (evs : List XCap) (fl : Flags) : TileState :=
  let t := evs.foldl (fun t e => t.invalid e) t
  { t with flags := t.flags.or fl, xcount := if evs = [] then t.xcount else satAdd 0xFFFF t.xcount 1, issueNo := t.issueNo + 1 }

/-- FAILED_INVALID for a MATMUL's core (04 R176, 09 R384). -/
def State.failInv (s : State) (site : Nat) : Fail := ⟨0x1B, ((s.lcoreOf site).getD 0x7FF) * 65536, none⟩

/-! ## Running a MATMUL -/

/-- The core's region is final: it takes the next one, or its part of the item is complete, with a completion in its outbox; the
item's work ends with its last region (05 R214, R220, 09 R356, R402). -/
def State.nextRegion (s : State) (q site : Nat) (i : Item) : State :=
  match i.work with
  | .matmul w =>
    let s := s.mapItem q i.k fun j => { j with progress := j.progress + 1 }
    let s :=
      if w.next < w.total then
        (s.mapItem q i.k fun j => { j with work := .matmul { w with next := w.next + 1 } }).stageMarks site i w.next
      else
        let c := s.core site
        (s.putCore site { c with seq := { c.seq with outbox := c.seq.outbox ++ [(q, i.k)] } }).releaseCore site
    if i.progress + 1 = w.total then s.workDone q i.k else s
  | _ => s

/-- One pass of a region: its operands checked, its keeper taken, and its chunk sums added (09 R356, 05 R218). Under TRAP_INV an
INV ends the item (04 R176). -/
def State.matPass (s : State) (q site : Nat) (i : Item) (r : Run) (p : MatPass) (es : List (BitVec 42 × EccFact)) : State :=
  let c := i.matCmd
  match (p.reads c (i.area r.inst) (i.regionRows r.inst)).findSome? fun x => s.checkReads i.wins x.1 x.2 with
  | some f => s.failItem q i.k f
  | none =>
    let kt := takeKeeper s i c p es
    let s := kt.1
    match kt.2 with
    | .inl f => s.failItem q i.k f
    | .inr p =>
      let k := s.core site
      let outs := passOuts s i r p
      let evs := passEvents k.tile.issueNo (Config.free r.base 1 % 4) i.tag outs
      let nanIn := outs.any fun o => o.2.any (·.nanIn)
      let t := s.putCore site
        { arr := { k.arr with passes := min 0x100000 (k.arr.passes + 1) }
          tile := k.tile.matDone evs { nanIn := nanIn }
          seq := { k.seq with run := some { r with done := r.done + 1, sums := outs.map fun o => o.2.map (·.v) } } }
      if i.trap && !evs.isEmpty then t.failItem q i.k (s.failInv site) else t

/-- A region's write-out, after which it is final (05 R214, R220, 09 R356). A NaN in the tile comes from a product that raised NAN_IN,
or from INV, whose NaN never raises it (02 R87): so the write-out adds none. -/
def State.matOut (s : State) (q site : Nat) (i : Item) (r : Run) : State :=
  let c := i.matCmd
  let a := i.area r.inst
  let k := s.core site
  let outs := (i.regionRows r.inst).zip r.sums
  let conv := outs.map fun o => (o.1, outRow c a o.1 o.2)
  let fl := { conv.foldl (fun f o => f.or o.2.2.2) ({} : Flags) with nanIn := false }
  let evs := outEvents k.tile.issueNo (Config.free r.base 1 % 4) i.tag c outs
  let w := writeRows i.wins ((conv.map fun o => c.rowWrites a o.1 o.2).flatten) s
  let t := w.1.putCore site { w.1.core site with tile := (w.1.core site).tile.matDone evs fl }
  match w.2 with
  | some f => t.failItem q i.k f
  | none =>
    let u := t.nextRegion q site i
    if i.trap && !evs.isEmpty then u.failItem q i.k (s.failInv site) else u

/-- The next step of a core that works for the item: a pass, a write-out, or a region with no set bit passed over. With a streamed
keeper regions are computed in their order (09 R358); while an audit is due or runs, none goes on (03 R136). -/
def State.matStep (s : State) (q k site : Nat) (es : List (BitVec 42 × EccFact)) : State :=
  match s.item? q k, (s.core site).seq.run with
  | some i, some r =>
    let c := s.core site
    let turn := !(i.uses.any (·.kstream)) || decide (r.inst = i.progress)
    if !i.live || decide (i.status ≠ 0) || r.q != q || r.k != k || r.job || decide (c.seq.phase ≠ .running) ||
        c.arr.audits || !turn || c.seq.halted then s
    else if i.regionRows r.inst = [] then s.nextRegion q site i
    else match i.passes[r.done]? with
      | some p => s.matPass q site i r p es
      | none => s.matOut q site i r
  | _, _ => s

def matSteps (q k site : Nat) (es : List (BitVec 42 × EccFact)) : Nat → State → State
  | 0, s => s
  | n + 1, s => matSteps q k site es n (s.matStep q k site es)

/-- A free core joins a MATMUL that has a region to hand out, or goes on with a region saved there (09 R356, 04 R184). -/
def State.matJoin (s : State) (q k site : Nat) : State :=
  match s.item? q k with
  | none => s
  | some i =>
    match i.work with
    | .matmul w =>
      if !i.live || decide (i.status ≠ 0) || !(s.queue q).goes || !s.coreFree q site then s
      else match w.saved.find? fun x => decide (s.siteOf x.lcore = some site) with
        | some x => s.resumeRun q k x
        | none =>
          if w.next < w.total then
            (s.mapItem q k fun j => { j with work := .matmul { w with next := w.next + 1 } }).takeRegion q site w.next i
          else s
    | _ => s

/-- The start of a MATMUL (05 R213, R221, 07 R272). -/
def State.startMat (s : State) (q k : Nat) (i : Item) : State :=
  let c := i.matCmd
  if s.start.img.safe ∧ 1 < c.u then s.failItem q k ⟨0x16, 0, none⟩
  else match badLocal i.matLocals with
    | some f => s.failItem q k f
    | none =>
      match s.checkReads i.wins c.mask c.maskBytes with
      | some f => s.failItem q k f
      | none => s.setWork q k (.matmul ⟨i.regions, 0, [], [], 0, s.bytes c.mask c.maskBytes⟩)

/-- MATMUL: started when it can start; core `c` takes a region when it is free, and then takes `n` steps of its regions, each a pass or
a write-out (09 R355 to R359). -/
def execMatmul (q : Queue) (k : Nat) (c : Site) (n : Nat) (es : List (BitVec 42 × EccFact)) (s : State) : Answer :=
  .next (
    let t := s.startItem q k 0x10 (matFields s) fun t i => t.startMat q k i
    if t.serving then matSteps q k c es n (t.matJoin q k c) else t)

/-! ## JOB -/

/-- Fields of a JOB that fail it (06 R258, 09 R353, R354). -/
def jobFields (i : Item) : List (Nat × Bool) :=
  let ilen := i.fld 12 4
  let entry := i.fld 28 2
  [(8, decide (2 ≤ i.fld 8 1)), i.zero 9 3, (12, decide (ilen % 16 ≠ 0) || decide (ilen < 16) || decide (65536 < ilen)),
   (16, decide (i.fld 16 8 % 16 ≠ 0)), (24, decide (i.fld 24 4 = 0) || decide (65536 < i.fld 24 4)),
   (28, decide (16384 ≤ entry) || decide (ilen ≤ 4 * entry)), i.zero 30 2, (40, decide (24576 < i.fld 40 4)), i.zero 44 4,
   (48, !i.iflags.testBit 3 && decide (i.fld 48 8 ≠ 0)), i.zero 56 8]

/-- The first address of an image that no window with execute-as-list right holds together with its start; none where one holds the
whole image (06 R258, 09 R384). -/
def WinSet.imageMiss (ws : WinSet) (a n : Nat) : Option Nat :=
  ((linesOf a n).find? fun l => !ws.toList.any fun w => w.grants rightX false a && w.grants rightX false (max l a)).map (max a)

/-- JOB: its checks before any instance starts; instances start by INSTANCE_START (06 R258, R259). -/
def execJob (q : Queue) (k : Nat) (s : State) : Answer :=
  .next (s.startItem q k 0x11 jobFields fun t i =>
    let a := i.fld 16 8
    if 2 ^ 42 ≤ a then t.failItem q k (failWindow a)
    else match i.wins.imageMiss a (i.fld 12 4) with
    | some x => t.failItem q k (t.failAddr x)
    | none =>
    match (linesOf a (i.fld 12 4)).findSome? fun l => t.checkLine i.wins rightX l with
      | some f => t.failItem q k f
      | none => t.setWork q k (.job ⟨0, 0, [], 0, []⟩))

end Sys2Proof.Machine
end

