-- ==== Sys2Proof/Machine/Time.lean ====
section
/-!
DEFINITION. Device time (10 R438): one tick of the DTC.
-/
namespace Sys2Proof.Machine

/-- One SCLK tick: the DTC counts on, and wraps at its top (10 R438, 00 R13); before start-up step 4 of a power-on there is no
device time (16 R619). -/
def tick (s : State) : State := if s.power.cold then s else s.setSync { s.sync with dtc := s.sync.dtc + 1 }

end Sys2Proof.Machine
end

