-- ==== Sys2Proof/Machine/Security.lean ====
section
/-!
DEFINITION. Security (17): the mailboxes with their check order (R652 to R662), the authenticated commands (R663 to R667, R675 to
R677, with 15 R603, 14 R571, 16 R643 and 18 R688), identity and attestation (R668 to R672).
-/
namespace Sys2Proof.Machine

/-! ## A mailbox and its command -/

/-- The 64 bytes of a mailbox's command (17 R653, R656). -/
def Mailbox.bytes (m : Mailbox) : List Byte := (m.cmd.toList.map fun w => natLe 4 w.toNat).flatten
/-- The opcode of a mailbox's command. -/
def Mailbox.op (m : Mailbox) : Nat := fieldOf m.bytes 0 1
/-- An operand field of the command. -/
def Mailbox.field (m : Mailbox) (off n : Nat) : Nat := fieldOf m.bytes off n
/-- The COUNTER of the command. -/
def Mailbox.counter (m : Mailbox) : Nat := m.field 8 8
/-- Operand bytes `lo` to 47 are zero (17 R656). -/
def Mailbox.zeroFrom (m : Mailbox) (lo : Nat) : Bool := zeroIn m.bytes lo 48

/-- The opcode table (17 R657). -/
def secOpcodes : List Nat := [0x01, 0x02, 0x03, 0x04, 0x05, 0x06, 0x07, 0x08, 0x09, 0x10, 0x11]
/-- The commands that carry a tag. -/
def secTagged (op : Nat) : Bool := decide (op < 0x10)

/-- The port is in backoff: 1,000,000 ticks from a tag that did not verify (17 R662). -/
def State.inBackoff (s : State) (p : Nat) : Bool :=
  match (s.box p).backoff with
  | some t => decide ((s.now - t).toNat < 1000000)
  | none => false

/-- A key as bytes, zeros while it is unset (17 R663). -/
def Mailbox.keyBytes (m : Mailbox) : List Byte := match m.key with | some k => natLe 32 k.toNat | none => List.replicate 32 0

/-- The tag of a command (17 R657). -/
def State.secTag (s : State) (p : Nat) : List Byte :=
  kmac256 (s.box p).keyBytes (natLe 8 s.start.serial.toNat ++ (s.box p).bytes.take 48) 16 "IFESIA RSD1440 CMD"

/-- A port's counter is exhausted (17 R661). -/
def Mailbox.exhausted (m : Mailbox) : Bool := decide (m.ctr.toNat = 2 ^ 64 - 1)

/-- What ends a command: its status and the reason of FAILED_AUTH. -/
structure SecEnd where
  status : Nat
  reason : Nat
  out : List Byte
  deriving DecidableEq, Repr

def secDone : SecEnd := ⟨0, 0, []⟩
def secBad : SecEnd := ⟨0x1D, 0, []⟩
def secMode : SecEnd := ⟨0x16, 0, []⟩
def secAuth (reason : Nat) : SecEnd := ⟨0x18, reason, []⟩

/-- Step 2 of the check order: the form of a command. -/
def Mailbox.formed (m : Mailbox) : Bool :=
  secOpcodes.elem m.op && zeroIn m.bytes 2 4 && (secTagged m.op || (zeroIn m.bytes 8 16 && zeroIn m.bytes 48 64))

/-- Steps 1 to 7 of the check order: the first that fails (17 R658, R661). -/
def State.secCheck (s : State) (p : Nat) : Option SecEnd :=
  let m := s.box p
  let roll := decide (m.op = 6)
  if s.inBackoff p then some (secAuth 0x0A)
  else if !m.formed then some secBad
  else if m.field 1 1 ≠ p then some (secAuth 0x05)
  else if !secTagged m.op then none
  else if m.key.isNone && !roll then some (secAuth 0x04)
  else if s.secTag p ≠ m.bytes.drop 48 then some (secAuth 0x01)
  else if m.counter ≤ m.ctr.toNat ∧ !(m.exhausted && roll && decide (m.counter = 2 ^ 64 - 1)) then some (secAuth 0x02)
  else if m.exhausted && !roll then some (secAuth 0x03)
  else none

/-- Commands are taken from the end of start-up step 6 on, and not during a warm reset (17 R654). -/
def State.secReady (s : State) : Bool := decide (s.power.phase = .on) && decide (6 ≤ s.start.step) && s.fault.pending.isNone

/-- A FAILED_AUTH is logged and counted, and a bad tag begins the port's backoff (17 R660, R662, 19 R700). -/
def State.secFailed (s : State) (p : Nat) (reason : Nat) : State :=
  let t := (s.logEvent 0x60 4 p 2 0 0).tallyAdd (0x90 + 8 * p) 1
  if reason = 1 then t.putBox p { t.box p with backoff := some t.now } else t

/-- The completion of the command in a mailbox (17 R655, R660). -/
def State.secEnd (s : State) (p : Nat) (e : SecEnd) : State :=
  let t := s.setSec { s.sec with order := s.sec.order.filter (· ≠ p) }
  let m := t.box p
  let t := t.putBox p { m with busy := false, opcode := BitVec.ofNat 8 m.op, status := BitVec.ofNat 8 e.status,
                               detail := BitVec.ofNat 32 e.reason, htag := BitVec.ofNat 32 (m.field 4 4), out := e.out }
  let t := if e.status = 0x18 then t.secFailed p e.reason else t
  if m.irqEn then t.msix p m.vector.toNat else t

/-- The command at the front is one that no row of its own takes: its opcode is not in the table (17 R658). -/
def State.secStray (s : State) : Option Nat :=
  match s.sec.order with
  | p :: _ => if s.secReady && !secOpcodes.elem (s.box p).op then some p else none
  | [] => none

/-- Commands at the front with an unknown opcode end when they are taken (17 R654, R658); at most one waits behind another. -/
def State.secNext1 (s : State) : State :=
  match s.secStray with
  | some p => s.secEnd p ((s.secCheck p).getD secBad)
  | none => s
def State.secNext (s : State) : State := s.secNext1.secNext1

/-- The block idles for one SCLK tick; a mailbox command with an unknown opcode that had to wait ends once it can be taken (log 3). -/
def State.idle (s : State) : State := (tick s).secNext

/-- SEC_CTL_GO: the command is sent; one sent during backoff fails at once, and one with an unknown opcode when it is taken (17
R653, R654, R658, R662). -/
def execSecCtlGo (p : Port) (s : State) : Answer :=
  .next (if (s.box p).busy ∨ !s.barOpen then s
    else
      let t := (s.putBox p { s.box p with busy := true })
      let t := t.setSec { t.sec with order := t.sec.order ++ [p.val] }
      if t.secReady && t.inBackoff p then t.secEnd p (secAuth 0x0A) else t.secNext)

/-- The command with an opcode is at the front and is taken: its checks, its counter, then what it does (17 R654, R658, R659). -/
def State.secTake (s : State) (p op : Nat) (f : State → Mailbox → State × SecEnd) : State :=
  if !s.secReady ∨ !(s.box p).busy ∨ s.sec.order.head? ≠ some p ∨ (s.box p).op ≠ op then s
  else match s.secCheck p with
    | some e => (s.secEnd p e).secNext
    | none =>
      let m := s.box p
      let t := if secTagged op then s.putBox p { m with ctr := BitVec.ofNat 64 m.counter } else s
      let r := f t (t.box p)
      (r.1.secEnd p r.2).secNext

/-- BACKOFF_END: 1,000,000 ticks after the failure (17 R662). -/
def execBackoffEnd (p : Port) (s : State) : Answer :=
  .next (if (s.box p).backoff.isSome && !s.inBackoff p then s.putBox p { s.box p with backoff := none } else s)

/-! ## LOAD_CONFIG -/

/-- The operands of LOAD_CONFIG obey their layout, and the image lies wholly in HBM or LPDDR5X (17 R657, R665). -/
def Mailbox.loadForm (m : Mailbox) : Bool :=
  let a := m.field 16 8
  let n := m.field 24 4
  let o := m.field 28 1
  decide (a % 64 = 0) && decide (64 ≤ n) && decide (n ≤ 1048576) && decide (o < 3) && m.zeroFrom 29 &&
    (decide (a + n ≤ hbmTop) || (decide (lpBase ≤ a) && decide (a + n ≤ localTop)))

/-- The first line of the image that cannot be read (17 R665). -/
def State.loadRead (s : State) (a n : Nat) : Option Fail :=
  (linesOf a n).findSome? fun l => if s.gatedAt l then some (failGated l) else if s.isUe l then some (failEcc l) else none

/-- Step 9 of start-up waits for a host's image (16 R630). -/
def State.waitsImage (s : State) : Bool := decide (s.start.step = 8) && decide (s.start.result = 3)

/-- An image that passed its checks takes effect: as start-up's image, as a full load, or as a live load pending (16 R630, R638, R643
to R646). -/
def State.loaded (s : State) (p : Nat) (i : Image) (live keep : Bool) : State :=
  if live then s.liveLoad i
  else if s.waitsImage then
    let t := s.startImage { i with gate1 := i.gate1 ||| (1#12 <<< (8 + p)) }
    if keep then t.persist i.raw else t
  else s.fullLoad p i keep

/-- What LOAD_CONFIG does when it is taken (16 R643 to R646, 17 R665). -/
def State.loadConfig (s : State) (p : Nat) (m : Mailbox) : State × SecEnd :=
  let a := m.field 16 8
  let n := m.field 24 4
  let live := (m.field 28 1).testBit 0
  let keep := (m.field 28 1).testBit 1
  if !m.loadForm then (s, secBad)
  else if !live && !s.waitsImage && !s.quiet then (s, secMode)
  else match s.loadRead a n with
    | some f => ((match f.ue with | some l => s.ueRead l 0 | none => s), ⟨f.status, 0, []⟩)
    | none =>
      match readImage s.imageEnv 2 live (s.bytes a n) with
      | .inr .malformed => (s, secBad)
      | .inr .signature => (s, secAuth 0x06)
      | .inl i => (s.loaded p i live keep, secDone)

/-- LOAD_CONFIG; while the test port holds the pins, start-up's step 9 does not begin (17 R674). -/
def execLoadConfig (p : Port) (s : State) : Answer :=
  .next (if s.tapHolds && s.waitsImage then s else s.secTake p 1 fun t m => t.loadConfig p m)

/-! ## The other tagged commands -/

/-- ACTIVATE_FIRMWARE (18 R688, R689). -/
def execActivateFirmware (p : Port) (s : State) : Answer :=
  .next (s.secTake p 2 fun t m =>
    let o := m.field 24 1
    if !m.zeroFrom 25 || o.testBit 6 then (t, secBad)
    else
      let noHerd := o.testBit 7
      match t.activateCheck (m.field 16 8) (o % 64) noHerd with
      | some f => (t.setFwu { t.fwu with actReason := f.2 }, ⟨f.1.toNat, 0, []⟩)
      | none => (t.activate (m.field 16 8) (o % 64) noHerd, secDone))

/-- SET_POWER_PROFILE (15 R603, R606). -/
def execSetPowerProfile (p : Port) (s : State) : Answer :=
  .next (s.secTake p 3 fun t m =>
    if !m.zeroFrom 17 ∨ 4 ≤ m.field 16 1 then (t, secBad)
    else (t.setPower { t.power with profCmd := BitVec.ofNat 2 (m.field 16 1) }, secDone))

/-- TAKEOVER_QUEUES (14 R571 to R575). -/
def execTakeoverQueues (p : Port) (s : State) : Answer :=
  .next (s.secTake p 4 fun t m => if m.zeroFrom 16 then (t.takeover p, secDone) else (t, secBad))

/-- DEBUG_UNLOCK (17 R675). -/
def execDebugUnlock (p : Port) (s : State) : Answer :=
  .next (s.secTake p 5 fun t m =>
    if !m.zeroFrom 17 ∨ 2 ≤ m.field 16 1 then (t, secBad)
    else if m.field 16 1 = 1 then (t.setSec { t.sec with unlocked := false }, secDone)
    else if !t.start.img.allowDebug then (t, secAuth 0x08)
    else if t.sec.debugOff then (t, secAuth 0x09)
    else (t.setSec { t.sec with unlocked := true }, secDone))

/-- The key that a KEY_ROLL gives (17 R663). -/
def State.rolledKey (s : State) (m : Mailbox) : BitVec 256 :=
  let mask := kmac256 m.keyBytes (natLe 8 s.start.serial.toNat ++ natLe 8 m.counter) 32 "IFESIA RSD1440 ROLL"
  BitVec.ofNat 256 (m.field 16 32) ^^^ BitVec.ofNat 256 (leNat mask)

/-- KEY_ROLL (17 R663). -/
def execKeyRoll (p : Port) (s : State) : Answer :=
  .next (s.secTake p 6 fun t m =>
    let k := t.rolledKey m
    if k = 0 then (t, secBad) else (t.putBox p { t.box p with key := some k, ctr := 0 }, secDone))

/-- FUSE_COMMIT (17 R666). -/
def execFuseCommit (p : Port) (s : State) : Answer :=
  .next (s.secTake p 7 fun t m =>
    let o := m.field 16 1
    let r0 := t.sec.rev0 || o.testBit 0
    let r1 := t.sec.rev1 || o.testBit 1
    if !m.zeroFrom 17 ∨ o = 0 ∨ 8 ≤ o ∨ (r0 ∧ r1) then (t, secBad)
    else (t.setSec { t.sec with rev0 := r0, rev1 := r1, debugOff := t.sec.debugOff || o.testBit 2 }, secDone))

/-- RESET_DEVICE: it completes, and the reset is taken in the next tick (14 R552, 17 R657). -/
def execResetDevice (p : Port) (s : State) : Answer :=
  .next (let ok := s.secReady && (s.box p).busy && decide (s.sec.order.head? = some p.val) && decide ((s.box p).op = 8) &&
      (s.secCheck p).isNone && (s.box p).zeroFrom 16
    let t := s.secTake p 8 fun t m => if m.zeroFrom 16 then (t, secDone) else (t, secBad)
    if ok then t.requestReset 0 (t.now + 1) else t)

/-- What ZEROIZE clears: memory, the image slots, the floors, and both keys; debug is locked (17 R667, R677). -/
def State.zeroized (s : State) : State :=
  let t := s.setMem { s.mem with cells := [], unset := [], ue := [],
                                 hubs := s.mem.hubs.map fun h => { h with buf := [], fetches := h.fetches.map fun f => { f with stale := true } } }
  let t := t.setStart { t.start with slot0 := [], slot1 := [], preferred := false, sigFloor := false, verFloor := 0 }
  t.setSec { t.sec with box := t.sec.box.map fun m => { m with key := none, ctr := 0 }, unlocked := false }

/-- The conditions of ZEROIZE hold at its step 8 (17 R667). -/
def State.zeroizeEnd (s : State) (m : Mailbox) : SecEnd :=
  if m.field 16 1 ≠ 0xA5 ∨ !m.zeroFrom 17 then secBad else if !s.quiet then secMode else secDone

/-- ZEROIZE: it completes, and a warm reset follows (17 R667). -/
def execZeroize (p : Port) (s : State) : Answer :=
  .next (let ok := s.secReady && (s.box p).busy && decide (s.sec.order.head? = some p.val) && decide ((s.box p).op = 9) &&
      (s.secCheck p).isNone && decide (s.zeroizeEnd (s.box p) = secDone)
    let t := s.secTake p 9 fun t m => (if t.zeroizeEnd m = secDone then t.zeroized else t, t.zeroizeEnd m)
    if ok then t.requestReset 0 t.now else t)

/-! ## Identity and attestation -/

/-- A list of exactly `n` bytes. -/
def fitBytes (n : Nat) (l : List Byte) : List Byte := (l ++ List.replicate n 0).take n

/-- The device certificate (17 R671). -/
def State.certificate (s : State) : List Byte :=
  (natLe 4 1 ++ natLe 4 0 ++ natLe 8 s.start.serial.toNat ++ fitBytes 68 Config.deviceKey ++
    [if Config.certSlot then 1 else 0]) ++ List.replicate 43 0 ++ fitBytes 2820 Config.certSignature

/-- GET_IDENTITY (17 R671). -/
def execGetIdentity (p : Port) (s : State) : Answer :=
  .next (s.secTake p 0x10 fun t m => if m.zeroFrom 16 then (t, ⟨0, 0, t.certificate⟩) else (t, secBad))

/-- ID_REV (00 R9). -/
def State.idRev (s : State) : Nat := s.start.rev.toNat * 256 + s.start.assembly.toNat

/-- The flags word of the evidence (17 R672). -/
def State.evidenceFlags (s : State) : Nat :=
  b01 s.start.img.safe + 2 * b01 s.start.img.signed + 4 * b01 s.sec.unlocked + 8 * b01 s.start.sigFloor +
    16 * b01 (decide (1047552 ≤ s.sec.next)) + 32 * b01 s.sec.rev0 + 64 * b01 s.sec.rev1 + 128 * b01 s.sec.debugOff

/-- The digest over the digests of the active firmware images (17 R672). -/
def State.firmwareDigest (s : State) : List Byte :=
  shake256 (s.fwu.units.toList.map fun u => shake256 u.act.bytes 32).flatten 32

/-- The evidence (17 R672). -/
def State.evidence (s : State) (nonce : List Byte) : List Byte :=
  fitBytes 256 ((natLe 8 s.start.serial.toNat ++ natLe 4 s.idRev ++ natLe 4 s.evidenceFlags ++ nonce) ++
    (natLe 8 s.now.toNat ++ natLe 8 s.sync.bcnt.toNat ++ natLe 8 s.start.img.ver.toNat ++ s.start.img.digest) ++
    s.firmwareDigest ++ natLe 4 s.sec.next ++ natLe 4 (1048575 - s.sec.next))

/-- The next signature index is used; a block of 1,024 is reserved before its first (17 R668, R669). -/
def SecSt.useIndex (x : SecSt) : SecSt :=
  { x with next := x.next + 1, block := if x.block ≤ x.next then x.next / 1024 * 1024 + 1024 else x.block }

/-- ATTEST (17 R670, R672). -/
def execAttest (p : Port) (s : State) : Answer :=
  .next (s.secTake p 0x11 fun t m =>
    if 1048576 ≤ t.sec.next then (t, secAuth 0x07)
    else
      let e := t.evidence ((m.bytes.drop 16).take 32)
      (t.setSec t.sec.useIndex, ⟨0, 0, e ++ fitBytes 2820 (Config.deviceSignature t.sec.next e)⟩))

end Sys2Proof.Machine
end

