-- ==== Sys2Proof/Machine/Registers.lean ====
section
/-!
DEFINITION. What BAR0 reads (07 R283): every register table of the spec by its block, with gating (15 R595) and the access rules of
00 R14 to R17. The management transports read the same words (20 R730).
-/
namespace Sys2Proof.Machine

/-- Bits [31:0] or [63:32] of a 64-bit value (09 R405). -/
def half (v : Nat) (hi : Bool) : Nat := if hi then v / 2 ^ 32 % 2 ^ 32 else v % 2 ^ 32
/-- A 32-bit word of some bytes. -/
def wordAt (bs : List Byte) (off : Nat) : Nat := fieldOf bs off 4

/-! ## ID_ -/

def State.presentOn (s : State) (d : Nat) : Nat := (s.dieMembers d).length
/-- Spare sites of a die: sites that passed start-up and serve no logical core (01 R29, R31). -/
def State.sparesOn (s : State) (d : Nat) : Nat :=
  64 - (s.start.siteFailed.filter fun x => decide (x / 64 = d)).length - s.presentOn d

/-- ID_CORES (01 R34). -/
def State.idCores (s : State) : Nat :=
  let l := (List.range 24).map s.presentOn
  let spares := (List.range 24).foldl (fun m d => min m (s.sparesOn d)) 4
  l.sum * 2 ^ 16 + spares * 2 ^ 8 + (l.filter fun n => decide (n < 60)).length

/-- An entry of ID_SITE_MAP (01 R34). -/
def State.idSite (s : State) (x : Nat) : Nat :=
  let st := s.siteState x
  st * 2 ^ 30 + (if st = 0 then (s.lcoreOf x).getD 0x7FF else 0x7FF)

/-- An entry of ID_LCORE_MAP (01 R34). -/
def State.idLcore (s : State) (c : Nat) : Nat := match s.siteOf c with | some x => 2 ^ 31 + x | none => 0x7FF

/-- ID_FABRIC and ID_REACH (11 R487). -/
def State.idFabric (s : State) : Nat :=
  let f := s.fabImg
  (f.z - 1) * 2 ^ 15 + (f.y - 1) * 2 ^ 12 + (f.x - 1) * 2 ^ 9 + f.device
def State.idReach (s : State) (i : Nat) : Nat :=
  (List.range 32).foldl (fun n b => n + b01 (s.reachable (32 * i + b)) * 2 ^ b) 0

/-- ID_STARTUP, with what a warm reset makes of it (16 R647, 14 R757). -/
def State.idStartup (s : State) : Nat :=
  let x := s.start
  (if s.fault.pending.isSome then 7 else x.step) * 2 ^ 28 + (if s.fault.pending.isSome then 0 else x.result.toNat) * 2 ^ 26 +
    b01 x.img.safe * 2 ^ 25 + x.img.source.toNat * 2 ^ 23 + b01 x.img.signed * 2 ^ 22 + b01 x.preferred * 2 ^ 21 + x.timeMs.toNat

/-- ID_CFG_STATE (16 R647). -/
def State.idCfg (s : State) : Nat :=
  b01 s.start.live.isSome * 2 ^ 31 + b01 s.start.sigFloor * 2 ^ 30 + s.start.loads.toNat

/-- ID_STRAPS (20 R735). -/
def State.idStraps (s : State) : Nat :=
  s.start.cool.toNat * 2 ^ 30 + s.start.slotId.toNat * 2 ^ 24 + b01 s.start.cfgSrc * 2 ^ 23 + b01 s.start.changed * 2 ^ 22
/-- ID_MGMT (20 R735). -/
def State.idMgmt (s : State) : Nat :=
  s.pins.transport.toNat * 2 ^ 30 + b01 s.pins.isolated * 2 ^ 29 + s.pins.address.toNat * 2 ^ 22 + s.pins.recoveries.toNat
/-- ID_PCIE_Hk (20 R735). -/
def State.idPcie (s : State) (p : Nat) : Nat :=
  let x := s.pcie p
  x.speed * 2 ^ 29 + x.width * 2 ^ 24 + b01 x.reversed * 2 ^ 23 + x.laneFault.toNat

/-- The ID_ block. -/
def State.regId (s : State) (o : Nat) : Nat :=
  if o = 0 then 0x14405400 else if o = 4 then s.idRev
  else if o = 8 then half s.start.serial.toNat false else if o = 0xC then half s.start.serial.toNat true
  else if o = 0x10 then s.idCores
  else if 0x1000 ≤ o ∧ o < 0x2800 then s.idSite ((o - 0x1000) / 4)
  else if 0x3000 ≤ o ∧ o < 0x4680 then s.idLcore ((o - 0x3000) / 4)
  else if o = 0x5000 then (s.pcie 0).bar2Base.toNat else if o = 0x5004 then (s.pcie 1).bar2Base.toNat
  else if o = 0x6000 then s.idFabric
  else if 0x6040 ≤ o ∧ o < 0x6080 then s.idReach ((o - 0x6040) / 4)
  else if o = 0x7000 then s.idStartup else if o = 0x7004 then s.idCfg
  else if o = 0x7008 then half s.start.img.ver.toNat false else if o = 0x700C then half s.start.img.ver.toNat true
  else if o = 0x7100 then s.idStraps else if o = 0x7104 then s.idMgmt
  else if o = 0x7108 then s.idPcie 0 else if o = 0x710C then s.idPcie 1
  else 0

/-! ## CLK_ and PWR_ -/

def State.enabledCores (s : State) : Nat := ((List.range 24).map fun d => (s.enabledOn d).length).sum
def State.runningCores (s : State) : Nat := ((List.range 24).map fun d => (s.runningOn d).length).sum

/-- CLK_STATUS (15 R617). -/
def State.clkStatus (s : State) : Nat := b01 s.power.refOk * 2 ^ 31 + b01 s.power.holdover * 2 ^ 30 + s.power.losses
/-- PWR_PROFILE (15 R617). -/
def State.pwrProfile (s : State) : Nat :=
  let p := s.power
  p.strapCool.toNat * 2 ^ 30 + p.profImage.toNat * 2 ^ 28 + p.profCmd.toNat * 2 ^ 26 + s.profile * 2 ^ 24 + s.enabledCores
/-- PWR_LIMIT (15 R617). -/
def State.pwrLimit (s : State) : Nat :=
  let p := s.power
  b01 p.tripped * 2 ^ 31 + b01 p.byTemp * 2 ^ 30 + b01 p.byPower * 2 ^ 29 + p.steps * 2 ^ 16 + s.runningCores
/-- PWR_TEMP_i (15 R617). -/
def State.pwrTemp (s : State) (i : Nat) : Nat :=
  (if i < 32 then b01 (s.sensorBad i 0) * 2 ^ 31 + b01 (s.sensorBad i 1) * 2 ^ 30 else 0) + (vget s.power.temps i 0).toNat

/-- The CLK_ and PWR_ block. -/
def State.regClk (s : State) (o : Nat) : Nat :=
  let p := s.power
  if o = 0 then s.clkStatus else if o = 4 then p.sris.toNat
  else if o = 0x10 then (if p.stat1.toNat.testBit 11 then p.obs.toNat else 0)
  else if o = 0x100 then s.pwrProfile
  else if o = 0x110 then p.gate0.toNat else if o = 0x114 then p.gate1.toNat
  else if o = 0x118 then p.stat0.toNat else if o = 0x11C then p.stat1.toNat
  else if o = 0x120 then s.pwrLimit
  else if o = 0x130 then p.vin.toNat * 2 ^ 16 + p.iin.toNat else if o = 0x134 then p.watts.toNat
  else if 0x200 ≤ o ∧ o < 0x2A0 then s.pwrTemp ((o - 0x200) / 4)
  else 0

/-! ## SEC_ -/

/-- A port's mailbox (17 R679). -/
def State.regBox (s : State) (p o : Nat) : Nat :=
  let m := s.box p
  if o < 0x40 then (vget m.cmd (o / 4) 0).toNat
  else if o = 0x40 then b01 m.irqEn * 2 ^ 31 + m.vector.toNat * 2 ^ 20
  else if o = 0x44 then b01 m.busy * 2 ^ 31 + b01 (s.inBackoff p) * 2 ^ 30 + m.opcode.toNat * 2 ^ 16 + m.status.toNat * 2 ^ 8
  else if o = 0x48 then m.detail.toNat else if o = 0x4C then m.htag.toNat
  else if o = 0x50 then m.out.length
  else if o = 0x54 then (if m.exhausted then 2 else b01 m.key.isSome) * 2 ^ 30
  else if o = 0x58 then half m.ctr.toNat false else if o = 0x5C then half m.ctr.toNat true
  else if 0x1000 ≤ o ∧ o < 0x2000 then wordAt m.out (o - 0x1000)
  else 0

/-- The SEC_ block. -/
def State.regSec (s : State) (o : Nat) : Nat :=
  let x := s.sec
  if o < 0x4000 then s.regBox 0 o
  else if o < 0x8000 then s.regBox 1 (o - 0x4000)
  else if o = 0x8000 then
    b01 x.rev0 * 2 ^ 31 + b01 x.rev1 * 2 ^ 30 + b01 x.debugOff * 2 ^ 29 + b01 (vendorKeyGood 0 && !x.rev0) * 2 ^ 28 +
      b01 (vendorKeyGood 1 && !x.rev1) * 2 ^ 27
  else if o = 0x8004 then b01 (decide (1047552 ≤ x.next)) * 2 ^ 31 + b01 (decide (x.next = 1048576)) * 2 ^ 30 + x.next
  else if o = 0x8008 then b01 x.unlocked * 2 ^ 31 + b01 s.start.img.allowDebug * 2 ^ 30
  else 0

/-! ## FWU_ -/

/-- FWU_UNITn and the versions of its slots (18 R699). -/
def State.regUnit (s : State) (u o : Nat) : Nat :=
  let x := s.unit u
  let other := if x.other = 0 then 0 else x.oth.version
  if o = 0 then b01 x.slotB * 2 ^ 31 + x.other * 2 ^ 29
  else if o = 4 then half x.act.version false else if o = 8 then half x.act.version true
  else if o = 0xC then half other false else if o = 0x10 then half other true
  else 0

/-- The FWU_ block (18 R699). -/
def State.regFwu (s : State) (o : Nat) : Nat :=
  let x := s.fwu
  let target := if x.actState = 2 ∨ x.actState = 3 then x.actTarget.toNat else 0
  if o = 0 then b01 x.isOpen * 2 ^ 31 + (if x.isOpen then x.port else 0) * 2 ^ 30 + b01 x.recovery * 2 ^ 29
  else if o = 8 then x.off.toNat else if o = 0xC then x.len.toNat
  else if o = 0x10 then b01 x.busy * 2 ^ 31 + x.cmd.toNat * 2 ^ 16 + x.status.toNat * 2 ^ 8 + x.reason.toNat
  else if 0x100 ≤ o ∧ o < 0x180 then s.regUnit ((o - 0x100) / 0x20) ((o - 0x100) % 0x20)
  else if o = 0x200 then x.actState * 2 ^ 29 + x.actResult * 2 ^ 27 + x.actReason.toNat * 2 ^ 16 + x.actHerd
  else if o = 0x204 then half target false else if o = 0x208 then half target true
  else 0

/-! ## SU_ -/

/-- SU_HERD registers (10 R451). -/
def State.regHerd (s : State) (h o : Nat) : Nat :=
  let x := s.herd h
  if o = 0 then x.kind * 2 ^ 30 + b01 x.step * 2 ^ 29 + x.ctx * 2 ^ 23 + x.master * 2 ^ 14 + x.arrived.length
  else if o = 8 then half x.gen.toNat false else if o = 0xC then half x.gen.toNat true
  else if 0x40 ≤ o ∧ o < 0x100 then x.mask.toNat / 2 ^ (8 * (o - 0x40)) % 2 ^ 32
  else 0

/-- A host watch (10 R452, R453). -/
def State.regWatch (s : State) (p o : Nat) : Nat :=
  let h := s.hostWatch p (o / 0x10)
  if o % 0x10 = 0 then h.ctl.toNat else if o % 0x10 = 4 then half h.thr.toNat false else if o % 0x10 = 8 then half h.thr.toNat true
  else 0

/-- The SU_ block from 0x004_0000 (10 R451, R452). -/
def State.regSu (s : State) (o : Nat) : Nat :=
  let x := s.sync
  if o < 0x10000 then
    (if o % 0x10 = 0 then half (s.counter (o / 0x10)).toNat false else if o % 0x10 = 4 then half (s.counter (o / 0x10)).toNat true else 0)
  else if o < 0x10100 then
    let g := (tget 0x80 x.groups ((o - 0x10000) / 4)).toNat
    g / 64 * 2 ^ 30 + (if g / 64 = 1 then g % 64 else 0)
  else if 0x11000 ≤ o ∧ o < 0x19000 then s.regHerd ((o - 0x11000) / 0x200) ((o - 0x11000) % 0x200)
  else if 0x1A000 ≤ o ∧ o < 0x1A400 then s.regWatch 0 (o - 0x1A000)
  else if 0x1A800 ≤ o ∧ o < 0x1AC00 then s.regWatch 1 (o - 0x1A800)
  else if o = 0x20000 then min 0x7FFF x.waiting.length * 2 ^ 16 + x.watches.length
  else if o = 0x20010 then half x.dtc.toNat false else if o = 0x20014 then half x.dtc.toNat true
  else if o = 0x20018 then half x.bcnt.toNat false else if o = 0x2001C then half x.bcnt.toNat true
  else if o = 0x20020 then x.stepWin.toNat
  else if o = 0x20024 then
    x.lastResult.toNat * 2 ^ 30 + b01 x.inIgnored * 2 ^ 29 + b01 x.outDisabled * 2 ^ 28 + x.lastOffset.toNat
  else 0

/-! ## QE_ -/

/-- WAITING: on a pending LINK with every accepted item started (09 R346). -/
def QueueSt.waits (x : QueueSt) : Bool :=
  (match x.pos with | .watch _ => true | _ => false) && x.items.all fun i => decide (i.phase ≠ .notStarted)

/-- STATE of QE_Q_CTL; CLOSED until start-up ends (09 R404, 16 R623). -/
def State.queueState (s : State) (q : Nat) : Nat :=
  let x := s.queue q
  if !s.started then 0
  else match x.st with
    | .closed => 0
    | .idle => 1
    | .running => if x.waits then 3 else 2
    | .stopped => 4
    | .preempting => 5
    | .preempted => 6

/-- A queue's registers (09 R404, 14 R576). -/
def State.regQueue (s : State) (q o : Nat) : Nat :=
  let x := s.queue q
  if o = 0 then s.qOwner q * 2 ^ 31 + s.queueState q * 2 ^ 28 + x.prio.toNat * 2 ^ 26 + b01 x.ringHeld * 2 ^ 25
  else if o = 8 then half x.start.toNat false else if o = 0xC then half x.start.toNat true
  else if o = 0x10 then half x.aseq false else if o = 0x14 then half x.aseq true
  else if o = 0x18 then half x.rseq false else if o = 0x1C then half x.rseq true
  else if o = 0x20 then half x.lseq false else if o = 0x24 then half x.lseq true
  else if o = 0x28 then half x.cqBase.toNat false else if o = 0x2C then half x.cqBase.toNat true
  else if o = 0x30 then x.log2
  else if o = 0x34 then x.head.toNat else if o = 0x38 then x.written % 2 ^ 32
  else if o = 0x3C then x.irq.toNat
  else if o = 0x40 then half x.time false else if o = 0x44 then half x.time true
  else if o = 0x48 then x.refuse.toNat
  else if o = 0x4C then b01 x.rebase * 2 ^ 31
  else 0

/-- A herd's KE registers (12 R518). -/
def State.regKe (s : State) (h o : Nat) : Nat :=
  let x := s.keHerd h
  let member := decide ((s.herd h).kind = 2) && (s.herd h).mask.getLsbD s.device
  let stages := if member then (s.rings h).stages s.device else []
  if o = 0 then half x.next.toNat false else if o = 4 then half x.next.toNat true
  else if o = 8 then stages.length * 2 ^ 30 + b01 x.flat * 2 ^ 29
  else if 0xC ≤ o ∧ o < 0x18 then
    match stages[(o - 0xC) / 4]? with
    | some t => 2 ^ 31 + (t.len - 1) * 2 ^ 9 + t.pos
    | none => 0
  else 0

/-- A window's three words (07 R293). -/
def Window.reg (w : Window) (o : Nat) : Nat :=
  if o = 0 then w.base.toNat else if o = 4 then w.limit.toNat else if o = 8 then w.ctl.toNat else 0

/-- A context's windows, as the pending set, and its commit register (07 R290, R293). -/
def State.regCtx (s : State) (x o : Nat) : Nat :=
  if o < 0x100 then (vget (s.ctx x).pending (o / 0x10) Window.off).reg (o % 0x10)
  else if o = 0x100 then b01 (s.commitBusy x) * 2 ^ 31 + (s.ctx x).gen.toNat * 2
  else 0

/-- The QE_ block from 0x008_0000. -/
def State.regQe (s : State) (o : Nat) : Nat :=
  if o < 0x5800 then s.regQueue (o / 0x80) (o % 0x80)
  else if o = 0x6000 then s.takeLast.toNat
  else if 0x20000 ≤ o ∧ o < 0x20800 then s.regKe ((o - 0x20000) / 0x20) ((o - 0x20000) % 0x20)
  else if 0x40000 ≤ o ∧ o < 0x50000 then s.regCtx ((o - 0x40000) / 0x400) ((o - 0x40000) % 0x400)
  else if 0x50000 ≤ o ∧ o < 0x50100 then (vget s.mem.peer ((o - 0x50000) / 0x10) Window.off).reg (o % 0x10)
  else 0

/-! ## Hubs -/

/-- The HVE of a hub, or its update unit, is gated (15 R595). -/
def State.hveGated (s : State) (h : Nat) : Bool := !s.power.gate0.toNat.testBit h
def State.oxOff (s : State) (h : Nat) : Bool := !s.power.gate1.toNat.testBit h

/-- An UPDATE item has a block of the unit still to do (13 R550). -/
def State.oxBusy (s : State) (h : Nat) : Bool :=
  s.openItems.any fun e => match s.upd? e.1 e.2 with
    | none => false
    | some (_, w) => ((readUpd w.desc).blocks.filter fun b => !w.finished.elem b).any fun b => decide (s.oxOf (readUpd w.desc) b = h)

/-- HB_MC_ registers (07 R307); a gated group's fields read zero (15 R595). -/
def State.regMc (s : State) (h o : Nat) : Nat :=
  let x := s.hub h
  let lp := fun n => if s.lpGated h then 0 else n
  if o = 0 then lp (s.start.img.lpMode.toNat * 2 ^ 8) + s.start.img.hbmMode.toNat
  else if o = 4 then
    x.used * 2 ^ 30 + b01 (!x.copying.isEmpty) * 2 ^ 29 + (if x.used = 2 then x.pc1 else 0) * 2 ^ 16 + (if 1 ≤ x.used then x.pc0 else 0) * 2 ^ 8
  else if o = 8 then x.hbmCE.toNat else if o = 0xC then lp x.lpCE.toNat
  else if o = 0x10 then x.ueHbm.toNat * 2 ^ 16 + lp x.ueLp.toNat
  else if o = 0x14 then x.high * 2 ^ 16 + x.inSlots.length
  else if o = 0x18 then x.sorted.length
  else 0

/-- HB_MULE_ registers (08 R343). -/
def State.regMule (s : State) (h o : Nat) : Nat :=
  let x := s.hub h
  if o = 0x100 then (s.mem.streams.filter fun e => decide (e.1 % 8 = h) && decide (e.2.phase ≠ StreamPhase.free)).length
  else if o = 0x104 then x.muleCE.toNat * 2 ^ 16 + x.muleUE.toNat
  else if 0x2000 ≤ o ∧ o < 0x4000 then
    let t := s.stream ((o - 0x2000) / 4 * 8 + h)
    match t.phase with
    | .free => 0
    | .active => 2 ^ 30 + t.ctx * 2 ^ 24
    | .ended => 2 ^ 31 + t.ctx * 2 ^ 24
  else 0

/-- HB_OX_ registers and the β table (13 R550). -/
def State.regOx (s : State) (h o : Nat) : Nat :=
  let x := s.hub h
  if 0x280 ≤ o then
    (if h = 0 then
      let b := vget s.betas ((o - 0x280) / 8) (0, 0)
      if o % 8 = 0 then b.1.toNat else b.2.toNat
    else 0)
  else if s.oxOff h then 0
  else if o = 0x200 then b01 (s.oxBusy h) * 2 ^ 31
  else if o = 0x204 then x.oxUpdated.toNat else if o = 0x208 then x.oxFrozen.toNat
  else if o = 0x20C then x.oxSkewed.toNat else if o = 0x210 then x.oxSkipped.toNat
  else 0


/-- HB_HVE_ registers (12 R519). -/
def State.regHve (s : State) (h o : Nat) : Nat :=
  let x := s.hub h
  if s.hveGated h then 0
  else if o = 0x300 then b01 (s.hveBusy h) * 2 ^ 31 + x.heldKib
  else if o = 0x304 then x.hveLines.toNat
  else if o = 0x308 then half x.hveAdds.toNat false else if o = 0x30C then half x.hveAdds.toNat true
  else if o = 0x310 then x.hveEarly.toNat * 2 ^ 16 + x.hveBad.toNat
  else 0

/-- A hub's block. -/
def State.regHub (s : State) (h o : Nat) : Nat :=
  if o < 0x100 then s.regMc h o
  else if o < 0x200 then s.regMule h o
  else if o < 0x300 then s.regOx h o
  else if o < 0x400 then s.regHve h o
  else s.regMule h o

/-! ## Link ports -/

def LinkPhase.code : LinkPhase → Nat
  | .disabled => 0
  | .training => 1
  | .up => 2
  | .sparing => 3
  | .down => 4

/-- The lowest retired lane, 7 when none is (11 R486). -/
def LinkSt.retired (l : LinkSt) : Nat := ((List.range 5).find? fun i => !l.healthy.getLsbD i).getD 7
/-- The physical lane of a logical lane (11 R455). -/
def LinkSt.laneOf (l : LinkSt) (i : Nat) : Nat := (l.inUse[i]?).getD i

/-- A port's block; a gated port's reads zero (11 R486, 15 R595). -/
def State.regLink (s : State) (p o : Nat) : Nat :=
  let l := s.link p
  if !s.linkGate p then 0
  else if o = 0 then l.role * 2 ^ 29 + l.dir * 2 ^ 26 + (if l.role = 0 then 0 else l.expect) * 2 ^ 16
  else if o = 4 then
    l.phase.code * 2 ^ 29 + l.healthy.toNat * 2 ^ 24 + l.retired * 2 ^ 21 + b01 l.routed * 2 ^ 20 + b01 l.peerValid * 2 ^ 17 +
      (if l.peerValid then l.peer else 0) * 2 ^ 8 + l.trainFails
  else if o = 8 then l.laneOf 3 * 2 ^ 9 + l.laneOf 2 * 2 ^ 6 + l.laneOf 1 * 2 ^ 3 + l.laneOf 0
  else if 0x10 ≤ o ∧ o < 0x24 then (vget l.laneCE ((o - 0x10) / 4) 0).toNat
  else if o = 0x30 then l.fecUE.toNat
  else if o = 0x34 then l.replays.toNat * 2 ^ 16 + l.sparings * 2 ^ 8 + l.downs
  else if o = 0x38 then l.replay.length
  else if o = 0x3C then l.crc.toNat
  else 0

/-! ## TLY_ and FLT_ -/

/-- The TLY_ block from 0x01C_0000 (19 R714). -/
def State.regTly (s : State) (o : Nat) : Nat :=
  let y := s.tally
  let snap := fun (t : Option (Table Nat)) i => match t with | some r => wordAt (recordBytes r) i | none => 0
  if o = 0 then b01 (s.power.stat1.toNat.testBit 10) * 2 ^ 31 + b01 y.restarted * 2 ^ 29 + b01 y.flashFail * 2 ^ 28 + 1
  else if o = 8 then half y.wdtc.toNat false else if o = 0xC then half y.wdtc.toNat true
  else if 0x100 ≤ o ∧ o < 0x140 then wordAt y.cur.bytes (o - 0x100)
  else if 0x140 ≤ o ∧ o < 0x180 then wordAt y.last.bytes (o - 0x140)
  else if 0x8000 ≤ o ∧ o < 0xA000 then wordAt (recordBytes y.live) (o - 0x8000)
  else if 0x10000 ≤ o ∧ o < 0x12000 then snap y.snap0 (o - 0x10000)
  else if 0x18000 ≤ o ∧ o < 0x1A000 then snap y.snap1 (o - 0x18000)
  else 0

/-- A fault log entry of 64 bytes (14 R580). -/
def LogEntry.bytes (e : LogEntry) : List Byte :=
  natLe 8 e.seq.toNat ++ natLe 8 e.dtc.toNat ++ natLe 8 e.bcnt.toNat ++ natLe 2 e.cls ++ natLe 1 e.kind ++ natLe 1 e.sev ++
    natLe 4 e.unit ++ natLe 8 e.arg0.toNat ++ natLe 8 e.arg1.toNat ++ List.replicate 16 0

/-- What a slot of the log holds (14 R580). -/
def State.logSlot (s : State) (i : Nat) : List Byte :=
  match s.fault.log.find? fun e => decide (e.seq.toNat % 512 = i) with
  | some e => e.bytes
  | none => List.replicate 64 0

/-- The FLT_ block (14 R582). -/
def State.regFlt (s : State) (o : Nat) : Nat :=
  let f := s.fault
  if o = 0 then half f.seq.toNat false else if o = 4 then half f.seq.toNat true
  else if o = 0x10 then (vget f.irq 0 0).toNat else if o = 0x14 then (vget f.irq 1 0).toNat
  else if o = 0x20 then f.last * 2 ^ 29 + f.count.toNat
  else if 0x8000 ≤ o then wordAt (s.logSlot ((o - 0x8000) / 0x40)) (o % 0x40)
  else 0

/-! ## Core sites -/

/-- The array registers (03 R144). -/
def ArrayState.reg (a : ArrayState) (o : Nat) : Nat :=
  if 0x400 ≤ o ∧ o < 0x41C then
    let i := (o - 0x400) / 4
    (List.range 16).foldl (fun n j => if 16 * i + j < 100 then n + a.rowState (16 * i + j) * 2 ^ (2 * j) else n) 0
  else if o = 0x420 then a.skew
  else if o = 0x424 then a.bypassReg
  else if o = 0x428 then (if a.auditBad then 2 else 1) * 2 ^ 30 + a.firstFail * 2 ^ 20 + min 0xFFFFF a.passes
  else if o = 0x430 then half a.auditDtc.toNat false else if o = 0x434 then half a.auditDtc.toNat true
  else if o = 0x43C then a.restages.toNat
  else 0

/-- A captured event as TS_XCAP0 shows it (04 R193). -/
def XCap.reg (x : XCap) : Nat := 2 ^ 31 + x.kind * 2 ^ 29 + x.acc * 2 ^ 27 + x.m * 2 ^ 14 + x.n * 2 ^ 7 + x.k

/-- The tile state registers (04 R193). -/
def TileState.reg (t : TileState) (o : Nat) : Nat :=
  if o = 0x500 then t.rowStart else if o = 0x504 then t.krowStart
  else if o = 0x508 then b01 t.interrupted * 2 ^ 31 + t.lbank * 2 ^ 29 + b01 t.insnInv * 2 ^ 28
  else if 0x510 ≤ o ∧ o < 0x520 then
    let x := vget t.stamps ((o - 0x510) / 4) Stamp.invalid
    b01 x.valid * 2 ^ 31 + x.nM1.toNat * 2 ^ 8 + x.mM1.toNat
  else if o = 0x520 then (match t.xcap with | some x => x.reg | none => 0)
  else if o = 0x524 then (match t.xcap with | some x => x.tag.toNat | none => 0)
  else if o = 0x528 then t.xcount
  else if o = 0x52C then
    b01 t.flags.inv * 32 + b01 t.flags.ovf * 16 + b01 t.flags.unf * 8 + b01 t.flags.nanIn * 4 + b01 t.flags.nonfinite * 2 + b01 t.flags.inexact
  else if 0x530 ≤ o ∧ o < 0x540 then t.insn.toNat / 2 ^ (8 * (o - 0x530)) % 2 ^ 32
  else 0

/-- STATE of CORE_SEQ_STATUS (06 R266). -/
def SeqPhase.code : SeqPhase → Nat
  | .idle => 0
  | .running => 1
  | .waitC => 2
  | .waitW _ => 2
  | .waitH => 2
  | .waitF => 2
  | .stopping => 3

/-- The sequencer registers (06 R266). -/
def Core.regSeq (c : Core) (o : Nat) : Nat :=
  if o = 0x800 then c.seq.phase.code * 2 ^ 30 + (if c.seq.phase = .idle then 0 else c.seq.pc.toNat)
  else if o = 0x804 then
    match c.seq.run with
    | some r => if r.job then 2 ^ 31 + r.inst else 0
    | none => 0
  else if o = 0x808 then c.tile.queue.length * 16 + c.seq.slots.length
  else 0

/-- The mask registers CORE_MASKi_Wj, which read all ones while no item runs on the site (05 R215). -/
def Core.maskReg (c : Core) (o : Nat) : Nat :=
  if c.seq.run.isSome then (vget c.tile.masks ((o - 0x600) / 0x20) 0).toNat / 2 ^ (8 * (o % 0x20)) % 2 ^ 32 else 0xFFFFFFFF

/-- A core site's block. -/
def Core.reg (c : Core) (o : Nat) : Nat :=
  if o < 0x500 then c.arr.reg o
  else if o < 0x600 then (if c.seq.run.isSome then c.tile.reg o else 0)
  else if o < 0x800 then c.maskReg o
  else c.regSeq o

/-! ## BAR0 -/

/-- The MSI-X table and pending bits of a port (07 R283). -/
def State.regMsix (s : State) (p o : Nat) : Nat :=
  if o < 0x8000 then (tget 0 (s.pcie p).msix (o / 4)).toNat
  else if o < 0x8100 then (List.range 32).foldl (fun n b => n + b01 (tget false (s.pcie p).pba ((o - 0x8000) * 8 + b)) * 2 ^ b) 0
  else 0

/-- A 32-bit word of BAR0 as it reads through a host port, or for none through management (07 R283, 00 R17). -/
def State.regWord (s : State) (p : Option Nat) (o : Nat) : Nat :=
  if o < 0x10000 then s.regId o
  else if o < 0x20000 then s.regClk (o - 0x10000)
  else if o < 0x30000 then s.regSec (o - 0x20000)
  else if o < 0x40000 then s.regFwu (o - 0x30000)
  else if o < 0x80000 then s.regSu (o - 0x40000)
  else if o < 0x100000 then s.regQe (o - 0x80000)
  else if o < 0x180000 then s.regHub ((o - 0x100000) / 0x10000) (o % 0x10000)
  else if o < 0x1C0000 then s.regLink ((o - 0x180000) / 0x4000) (o % 0x4000)
  else if o < 0x1E0000 then s.regTly (o - 0x1C0000)
  else if o < 0x1F0000 then s.regFlt (o - 0x1E0000)
  else if 0x200000 ≤ o ∧ o < 0x208100 then (match p with | some p => s.regMsix p (o - 0x200000) | none => 0)
  else if 0x1000000 ≤ o ∧ o < 0x1C00000 then (s.core ((o - 0x1000000) / 0x2000)).reg (o % 0x2000)
  else 0

/-- A BAR0 read: in recovery only the FWU_ block and ID_STARTUP read (18 R698). -/
def State.reg (s : State) (p : Option Nat) (o : Nat) : Word :=
  BitVec.ofNat 32 (if s.fwu.recovery ∧ ¬(0x30000 ≤ o ∧ o < 0x40000) ∧ o ≠ 0x7000 then 0 else s.regWord p o)

/-- A BAR0 access of `width` bytes as it reads: a naturally aligned word, two of them for a naturally aligned 64-bit access, and zero
in every byte for any other width or alignment (00 R753). -/
def State.regRead (s : State) (p : Option Nat) (o width : Nat) : Nat :=
  if width = 4 ∧ o % 4 = 0 then (s.reg p o).toNat
  else if width = 8 ∧ o % 8 = 0 then (s.reg p o).toNat + (s.reg p (o + 4)).toNat * 2 ^ 32
  else 0

end Sys2Proof.Machine
end

