-- ==== Sys2Proof/Machine/Pins.lean ====
section
/-!
DEFINITION. The management transports (20 R729 to R734) and the test access port (17 R673 to R678, 20 R721).
-/
namespace Sys2Proof.Machine

/-! ## Who is addressed -/

/-- Nimtia has booted and has power (16 R618). -/
def State.nimtiaUp (s : State) : Bool := decide (s.power.phase ≠ .off) && decide (s.power.phase ≠ .booting)

/-- The state once a management message on a transport is taken, none where Nimtia does not answer there: the bus keeps the first
transport on which it was addressed, I3C needs its dynamic address, and an isolated buffer hears nothing (20 R729, R733). -/
def State.addressed (s : State) : Transport → Option State
  | .smbus =>
    if s.nimtiaUp && !s.pins.isolated && decide (s.pins.transport.toNat ≤ 1) then some (s.setPins { s.pins with transport := 1 }) else none
  | .i3c => if s.nimtiaUp && !s.pins.isolated && decide (s.pins.transport = 2) then some s else none
  | .pcie p => if s.nimtiaUp && s.endpointReady && s.portUp p then some s else none

/-- A management command: its completion code and data leave on the transport that carried it (20 R730, R731). -/
def State.mgmt (s : State) (t : Transport) (f : State → Nat × List Byte) : State :=
  match s.addressed t with
  | some u => u.emit (.mgmt t (f u).1 (f u).2)
  | none => s

/-- The port whose BAR0 a transport reads; the bus has none (log 31). -/
def transportPort : Transport → Option Nat
  | .pcie p => some p
  | _ => none

/-- The words of a management read; the bus has no port whose MSI-X table could be meant, so there they are free (log 5, log 31). -/
def State.mgmtWord (s : State) (t : Transport) (o : Nat) : Word :=
  if (transportPort t) = none ∧ 0x200000 ≤ o ∧ o < 0x208100 then BitVec.ofNat 32 (Config.free s.freeCount o) else s.reg (transportPort t) o

/-- Whether management may read an offset yet (20 R731). -/
def State.mgmtReads (s : State) (o : Nat) : Bool :=
  decide (s.power.phase = .on) && decide (4 ≤ s.start.step) &&
    (decide (6 ≤ s.start.step) || decide (o < 0x10000) || (decide (0x1C0000 ≤ o) && decide (o < 0x1F0000)))

/-- A chunk of 64 bytes; what a partial last chunk holds beyond the image is free (log 5). -/
def State.chunk64 (s : State) (bs : List Byte) (k : Nat) : List Byte :=
  let b := (bs.drop (64 * k)).take 64
  b ++ (List.range (64 - b.length)).map fun i => BitVec.ofNat 8 (Config.free s.freeCount i)

/-! ## Management commands -/

/-- READ_REG (20 R730, R731). -/
def execReadReg (t : Transport) (off : BitVec 26) (count : Nat) (s : State) : Answer :=
  .next ((s.mgmt t fun u =>
    let o := off.toNat
    if o % 4 ≠ 0 ∨ count = 0 ∨ 16 < count ∨ 2 ^ 26 < o + 4 * count then (1, [])
    else if !(List.range count).all fun i => u.mgmtReads (o + 4 * i) then (2, [])
    else (0, ((List.range count).map fun i => natLe 4 (u.mgmtWord t (o + 4 * i)).toNat).flatten)).setFreeCount (s.freeCount + 1))

/-- READ_TALLY: a chunk of the live record, or one of the windows (19 R712, 20 R730). -/
def execReadTally (t : Transport) (area chunk : Nat) (s : State) : Answer :=
  .next (s.mgmt t fun u =>
    if area = 0 ∧ chunk < 128 then (0, ((recordBytes u.tally.live).drop (64 * chunk)).take 64)
    else if area = 1 ∧ chunk = 0 then (0, u.tally.cur.bytes)
    else if area = 2 ∧ chunk = 0 then (0, u.tally.last.bytes)
    else (1, []))

/-- SEQ of a slot of the log, 0 in one never written (14 R580). -/
def State.slotSeq (s : State) (i : Nat) : Nat :=
  match s.fault.log.find? fun e => decide (e.seq.toNat % 512 = i) with
  | some e => e.seq.toNat
  | none => 0

/-- READ_LOG: an entry; reading the newest of SEV 3 or 4 releases MG_ALERT_N (20 R730 to R732). -/
def execReadLog (t : Transport) (n : DWord) (s : State) : Answer :=
  let held := decide (s.slotSeq (n.toNat % 512) = n.toNat)
  let u := s.mgmt t fun u => if held then (0, u.logSlot (n.toNat % 512)) else (3, [])
  .next (if held ∧ (s.addressed t).isSome ∧ s.pins.alert = some n then u.setPins { u.pins with alert := none } else u)

/-- READ_IMAGE: a chunk of the image in force; the built-in image has none (16 R629, 20 R730). -/
def execReadImage (t : Transport) (chunk : Nat) (s : State) : Answer :=
  .next ((s.mgmt t fun u =>
    if u.start.img.raw.length ≤ 64 * chunk then (1, []) else (0, u.chunk64 u.start.img.raw chunk)).setFreeCount (s.freeCount + 1))

/-- GET_STATUS (20 R730). -/
def execGetStatus (t : Transport) (s : State) : Answer :=
  .next (s.mgmt t fun u =>
    (0, ([u.idStartup, u.pwrProfile, u.pwrLimit, u.clkStatus, u.idStraps].map (natLe 4)).flatten))

/-- ALERT_RESPONSE: a read of address 0x0C on SMBus releases MG_ALERT_N (20 R732). -/
def execAlertResponse (s : State) : Answer :=
  .next (match s.addressed .smbus with
    | some t => t.setPins { t.pins with alert := none }
    | none => s)

/-- ENTDAA: the module takes a dynamic address, by ENTDAA or SETDASA, which fixes I3C (20 R729). -/
def execEntdaa (addr : BitVec 7) (s : State) : Answer :=
  .next (if s.nimtiaUp && !s.pins.isolated && decide (s.pins.transport ≠ 1) then s.setPins { s.pins with transport := 2, address := addr }
    else s)

/-! ## A stuck bus -/

/-- BUS_RECOVERY: one attempt after a line was held low; the third failure in a row isolates the buffer (20 R733). -/
def execBusRecovery (ok : Bool) (s : State) : Answer :=
  .next (if !s.nimtiaUp ∨ s.pins.isolated then s
    else
      let bad := if ok then 0 else s.pins.badTries + 1
      let t := s.setPins { s.pins with recoveries := sat16 s.pins.recoveries 1
                                       badTries := if 3 ≤ bad then 0 else bad
                                       isolated := decide (3 ≤ bad) }
      if 3 ≤ bad then t.logEvent 0x70 0 0 3 0 0 else t)

/-- BUS_SENSE: an isolated buffer reconnects when both lines read high and stay so (20 R734). -/
def execBusSense (high : Bool) (s : State) : Answer :=
  .next (if s.nimtiaUp ∧ s.pins.isolated ∧ high then (s.setPins { s.pins with isolated := false }).logEvent 0x70 0 0 1 0 0 else s)

/-! ## The test access port -/

/-- The test access port has power (17 R673). -/
def State.tapPowered (s : State) : Bool := decide (s.power.phase ≠ .off)
/-- What the port selects from now on. -/
def State.setTap (s : State) (x : TapSel) : State := s.setPins { s.pins with tap := x }

/-- EXTEST, CLAMP or HIGHZ: taken from the end of start-up step 3 until step 11 has ended; otherwise bypass, and a log entry (17
R674). -/
def State.takePins (s : State) (x : TapSel) : State :=
  if !s.tapPowered then s
  else if s.power.phase = .on ∧ 3 ≤ s.start.step ∧ s.start.step < 11 then s.setTap x
  else (s.setTap .bypass).logEvent 0x60 0 0 2 0 0

def execExtest (s : State) : Answer := .next (s.takePins .extest)
def execClamp (s : State) : Answer := .next (s.takePins .clamp)
def execHighz (s : State) : Answer := .next (s.takePins .highz)

/-- The cells of the pins that the module can drive: MG_SCL, MG_SDA, MG_ALERT_N, STEP_SYNC_OUT, CLKOBS and THERM_ALERT_N (20 R721,
R724). -/
def drivingCells : BitVec 20 := 0b11100000000001110000#20
/-- What EXTEST and CLAMP drive on those pins, the preloaded cells; none while neither is loaded (17 R673, 20 R721). -/
def State.drivenPins (s : State) : Option (BitVec 20) :=
  if s.pins.tap = .extest ∨ s.pins.tap = .clamp then some (s.pins.cells &&& drivingCells) else none

/-- SAMPLE/PRELOAD: the boundary register, whose cells of driving pins EXTEST will drive (17 R673, 20 R721). -/
def execSamplePreload (cells : BitVec 20) (s : State) : Answer :=
  .next (if s.tapPowered then s.setPins { s.pins with tap := .sample, cells := cells } else s)

/-- DBG_ACCESS: while debug is unlocked it selects the debug register, through which a core's sequencer is halted or let run; while it
is locked it selects bypass (17 R676, R678). -/
def execDbgAccess (halt : Option (Site × Bool)) (s : State) : Answer :=
  .next (if !s.tapPowered then s
    else if !s.sec.unlocked then s.setTap .bypass
    else
      let t := s.setTap .debug
      match halt with
      | some (c, b) => t.putCore c { t.core c with seq := { (t.core c).seq with halted := b } }
      | none => t)

/-- BYPASS, and every other code (17 R673). -/
def execBypass (s : State) : Answer := .next (if s.tapPowered then s.setTap .bypass else s)
/-- Test-Logic-Reset selects bypass (17 R673). -/
def execTestLogicReset (s : State) : Answer := .next (if s.tapPowered then s.setTap .bypass else s)

end Sys2Proof.Machine
end

