-- ==== Sys2Proof/Machine/RegWrite.lean ====
section
/-!
DEFINITION. Writes of BAR0 by a host port (00 R14 to R17, R753): the fields that a write sets, and, for registers whose writes have a
row of their own, that row's effect.
-/
namespace Sys2Proof.Machine

/-- The state after a command that always answers one (log 32). -/
def State.after (s : State) (c : State → Answer) : State :=
  match c s with
  | .next t => t
  | _ => s

/-- Bits [31:0] or [63:32] of a 64-bit register written (09 R405). -/
def setHalf (x : DWord) (hi : Bool) (v : Word) : DWord :=
  if hi then v ++ x.extractLsb' 0 32 else x.extractLsb' 32 32 ++ v

/-! ## Queues (09 R345, R404, 14 R573, R576) -/

/-- A queue's ring may be written: IDLE, STOPPED or CLOSED, or while REBASE holds its records (09 R404, 14 R573). -/
def State.ringWritable (s : State) (q : Nat) : Bool :=
  let st := s.queueState q
  decide (st = 0) || decide (st = 1) || decide (st = 4) || (s.queue q).rebase

/-- QE_Q_CMD. -/
def State.queueCmd (s : State) (p : Port) (q : Queue) (n : Nat) : State :=
  if n = 1 then s.after (execStart p q)
  else if n = 2 then s.after (execPreemptNow p q)
  else if n = 3 then s.after (execPreemptAtPoint p q)
  else if n = 4 then s.after (execResume p q)
  else if n = 5 then s.after (execAbort p q)
  else s

/-- A write of one of a queue's registers by its owner; the other port's writes are ignored. -/
def State.writeQueue (s : State) (p : Port) (q : Queue) (o : Nat) (v : Word) : State :=
  let x := s.queue q
  if s.qOwner q ≠ p then s
  else if o = 0 then s.putQueue q { x with prio := v.extractLsb' 26 2 }
  else if o = 4 then s.queueCmd p q (v.toNat % 16)
  else if o = 8 ∨ o = 0xC then s.putQueue q { x with start := setHalf x.start (o = 0xC) v }
  else if o = 0x28 ∨ o = 0x2C then
    if s.ringWritable q then s.putQueue q { x with cqBase := setHalf x.cqBase (o = 0x2C) v } else s
  else if o = 0x30 then
    if s.ringWritable q then s.putQueue q { x with log2 := min 16 (max 6 (v.toNat % 32)) } else s
  else if o = 0x34 then s.after (execCqHeadWrite p q v)
  else if o = 0x3C then (s.putQueue q { x with irq := v }).queueIrq q
  else if o = 0x4C ∧ v.getLsbD 0 then s.after (execQeQTakeGo p q)
  else s

/-! ## Windows (07 R289, R290, R293) -/

/-- One word of a window written. -/
def Window.write (w : Window) (o : Nat) (v : Word) : Window :=
  if o = 0 then { w with base := v.setWidth 30 }
  else if o = 4 then { w with limit := v.setWidth 30 }
  else if o = 8 then { w with ctl := v.setWidth 5 }
  else w

/-- A context's windows, of the pending set, and its commit, by the context's owner. -/
def State.writeCtx (s : State) (p : Port) (x : Ctx) (o : Nat) (v : Word) : State :=
  if s.ctxOwner x ≠ p then s
  else if o < 0x100 then
    let w := s.ctx x
    s.putCtx x { w with pending := vset w.pending (o / 0x10) ((vget w.pending (o / 0x10) Window.off).write (o % 0x10) v) }
  else if o = 0x100 ∧ v.getLsbD 0 then s.after (execQeWinCommitGo p x)
  else s

/-! ## The other blocks -/

/-- The sync unit: counters, host watches and SU_STEP_CTL (10 R411, R450 to R453). -/
def State.writeSu (s : State) (p : Port) (o : Nat) (v : Word) : State :=
  if h : o / 0x10 < 4096 then
    if o % 0x10 = 8 then s.after (execSuCtrAdd p ⟨o / 0x10, h⟩ v) else s
  else
    let w := o - (if p = 0 then 0x1A000 else 0x1A800)
    if h : (if p = 0 then 0x1A000 else 0x1A800) ≤ o ∧ w / 0x10 < 64 then
      let i : Fin 64 := ⟨w / 0x10, h.2⟩
      let x := s.hostWatch p i
      if w % 0x10 = 0 then
        if v.getLsbD 31 then s.after (execHostWatchRegister p i v) else s.after (execHostWatchWithdraw p i v)
      else if w % 0x10 = 4 ∨ w % 0x10 = 8 then s.putHostWatch p i { x with thr := setHalf x.thr (w % 0x10 = 8) v }
      else s
    else if o = 0x20020 then
      let t := s.setSync { s.sync with stepWin := v.setWidth 16 }
      if v.getLsbD 16 then t.after execRearm else t
    else s

/-- A port's own mailbox (17 R652, R653, R679). -/
def State.writeSec (s : State) (p : Port) (o : Nat) (v : Word) : State :=
  let b := o - 0x4000 * p.val
  let m := s.box p
  if o < 0x4000 * p.val then s
  else if b < 0x40 ∧ b % 4 = 0 then
    if m.busy then s else s.putBox p { m with cmd := vset m.cmd (b / 4) v }
  else if b = 0x40 then
    let t := s.putBox p { m with irqEn := v.getLsbD 31, vector := v.extractLsb' 20 11 }
    if v.getLsbD 0 then t.after (execSecCtlGo p) else t
  else s

/-- The firmware block (18 R682, R683, R699). -/
def State.writeFwu (s : State) (p : Port) (o : Nat) (v : Word) : State :=
  let c := v.toNat % 16
  if !s.fwuReady then s
  else if o = 4 then
    if c = 1 then s.after (execFwuBegin p)
    else if c = 2 then s.after (execWriteBlock p)
    else if c = 3 then s.after (execFwuStage p)
    else if c = 4 then s.after (execFwuAbort p)
    else if c = 5 then s.after (execFwuCommit p)
    else if c = 6 then s.after (execFwuRevert p)
    else if c = 7 then s.after (execFwuRestart p)
    else s
  else if o = 8 then s.setFwu { s.fwu with off := v.setWidth 20 }
  else if o = 0xC then s.setFwu { s.fwu with len := v.setWidth 17 }
  else s

/-- The β table, in hub 0 (13 R524, R550). -/
def State.writeBeta (s : State) (i : Nat) (second : Bool) (v : Word) : State :=
  let b := vget s.betas i (0, 0)
  s.setBetas (vset s.betas i (if second then (b.1, v) else (v, b.2)))

/-- FLT_IRQ of the port itself (14 R582). -/
def State.writeFlt (s : State) (p : Port) (v : Word) : State :=
  s.setFault { s.fault with irq := vset s.fault.irq p (v &&& 0xFFFE0000#32) }

/-- The MSI-X table of the port; a vector that is unmasked sends what it kept pending (07 R283, log 12). -/
def State.writeMsix (s : State) (p : Port) (o : Nat) (v : Word) : State :=
  let x := s.pcie p
  let i := o / 4
  if i % 4 = 3 then
    let t := s.putPcie p { x with msix := tput 0 x.msix i (v &&& 1#32) }
    if !v.getLsbD 0 && tget false x.pba (i / 4) then
      (t.putPcie p { t.pcie p with pba := tput false (t.pcie p).pba (i / 4) false }).msix p (i / 4)
    else t
  else s.putPcie p { x with msix := tput 0 x.msix i v }

/-- A word of BAR0 written by a host port, at an offset that is a multiple of 4, once BAR0 is open. -/
def State.writeOpen (s : State) (p : Port) (o : Nat) (v : Word) : State :=
  if o = 0x5000 + 4 * p.val then s.putPcie p { s.pcie p with bar2Base := v.setWidth 12 }
  else if o = 0x10010 then s.after (execClkObsWrite v)
  else if o = 0x10110 then s.after (execPwrGateWrite p false v)
  else if o = 0x10114 then s.after (execPwrGateWrite p true v)
  else if 0x20000 ≤ o ∧ o < 0x30000 then s.writeSec p (o - 0x20000) v
  else if 0x40000 ≤ o ∧ o < 0x80000 then s.writeSu p (o - 0x40000) v
  else if h : 0x80000 ≤ o ∧ (o - 0x80000) / 0x80 < 176 then s.writeQueue p ⟨_, h.2⟩ ((o - 0x80000) % 0x80) v
  else if h : 0xC0000 ≤ o ∧ (o - 0xC0000) / 0x400 < 64 then s.writeCtx p ⟨_, h.2⟩ ((o - 0xC0000) % 0x400) v
  else if 0x100280 ≤ o ∧ o < 0x100300 then s.writeBeta ((o - 0x100280) / 8) (o % 8 = 4) v
  else if h : 0x180000 ≤ o ∧ (o - 0x180000) / 0x4000 < 16 then
    if o % 0x4000 = 0 ∧ v.getLsbD 25 then s.after (execRetrain ⟨_, h.2⟩) else s
  else if o = 0x1C0004 then
    let t := if v.getLsbD 1 then s.after (execSnap p) else s
    if v.getLsbD 0 then t.after execWriteNow else t
  else if o = 0x1E0010 + 4 * p.val then s.writeFlt p v
  else if 0x200000 ≤ o ∧ o < 0x208000 then s.writeMsix p (o - 0x200000) v
  else if h : 0x1000000 ≤ o ∧ (o - 0x1000000) / 0x2000 < 1536 then
    if o % 0x2000 = 0x438 ∧ v.getLsbD 0 then s.after (execAuditNow ⟨_, h.2⟩) else s
  else s

/-- A word of BAR0 written: before start-up step 6 ends, only what recovery serves (16 R624, 18 R698). -/
def State.writeWord (s : State) (p : Port) (o : Nat) (v : Word) : State :=
  if 0x30000 ≤ o ∧ o < 0x40000 then s.writeFwu p (o - 0x30000) v
  else if s.barOpen ∧ !s.fwu.recovery then s.writeOpen p o v
  else s

/-- REGISTER_WRITE: a BAR0 write of a host port; a 64-bit access is two 32-bit ones, lower offset first, and any other width or alignment is
ignored (00 R753). -/
def execRegisterWrite (p : Port) (off : BitVec 26) (width : Nat) (v : DWord) (s : State) : Answer :=
  let o := off.toNat
  .next (if width = 4 ∧ o % 4 = 0 then s.writeWord p o (v.extractLsb' 0 32)
    else if width = 8 ∧ o % 8 = 0 then (s.writeWord p o (v.extractLsb' 0 32)).writeWord p (o + 4) (v.extractLsb' 32 32)
    else s)

end Sys2Proof.Machine
end

