-- ==== Sys2Proof/Machine/Dispatch.lean ====
section
/-!
DEFINITION. The one dispatch: each command calls its own meaning.
-/
namespace Sys2Proof.Machine

/-- The effect of a command on everything but the queue of waiting commands. -/
def exec (i : Instr) (s : State) : Host.Outcome State Fault Refusal :=
  match i with
  | .listAcceptance q => Sys2Proof.Machine.execListAcceptance q s
  | .nop q k => Sys2Proof.Machine.execNop q k s
  | .fence q k => Sys2Proof.Machine.execFence q k s
  | .signal q k => Sys2Proof.Machine.execSignal q k s
  | .wait q k => Sys2Proof.Machine.execWait q k s
  | .barrier q k => Sys2Proof.Machine.execBarrier q k s
  | .preemptPoint q k => Sys2Proof.Machine.execPreemptPoint q k s
  | .matmul q k c n es => Sys2Proof.Machine.execMatmul q k c n es s
  | .job q k => Sys2Proof.Machine.execJob q k s
  | .copy q k n => Sys2Proof.Machine.execCopy q k n s
  | .gather q k n => Sys2Proof.Machine.execGather q k n s
  | .streamOpen q k => Sys2Proof.Machine.execStreamOpen q k s
  | .streamClose q k => Sys2Proof.Machine.execStreamClose q k s
  | .reduceScatter q k => Sys2Proof.Machine.execReduceScatter q k s
  | .allGather q k => Sys2Proof.Machine.execAllGather q k s
  | .allReduce q k => Sys2Proof.Machine.execAllReduce q k s
  | .broadcast q k => Sys2Proof.Machine.execBroadcast q k s
  | .update q k => Sys2Proof.Machine.execUpdate q k s
  | .updateMainPass q k => Sys2Proof.Machine.execUpdateMainPass q k s
  | .updateBlock q k b => Sys2Proof.Machine.execUpdateBlock q k b s
  | .boundary q k => Sys2Proof.Machine.execBoundary q k s
  | .boundaryRaise => Sys2Proof.Machine.execBoundaryRaise s
  | .itemCompletion q k => Sys2Proof.Machine.execItemCompletion q k s
  | .recordRelease q => Sys2Proof.Machine.execRecordRelease q s
  | .completionRingRetry q => Sys2Proof.Machine.execCompletionRingRetry q s
  | .irqHoldExpiry q => Sys2Proof.Machine.execIrqHoldExpiry q s
  | .deadline q l => Sys2Proof.Machine.execDeadline q l s
  | .start p q => Sys2Proof.Machine.execStart p q s
  | .preemptNow p q => Sys2Proof.Machine.execPreemptNow p q s
  | .preemptAtPoint p q => Sys2Proof.Machine.execPreemptAtPoint p q s
  | .resume p q => Sys2Proof.Machine.execResume p q s
  | .abort p q => Sys2Proof.Machine.execAbort p q s
  | .contextSave c => Sys2Proof.Machine.execContextSave c s
  | .cqHeadWrite p q v => Sys2Proof.Machine.execCqHeadWrite p q v s
  | .qeWinCommitGo p x => Sys2Proof.Machine.execQeWinCommitGo p x s
  | .qeQTakeGo p q => Sys2Proof.Machine.execQeQTakeGo p q s
  | .instanceStart q k c => Sys2Proof.Machine.execInstanceStart q k c s
  | .add c d a b => Sys2Proof.Machine.execAdd c d a b s
  | .sub c d a b => Sys2Proof.Machine.execSub c d a b s
  | .mul c d a b => Sys2Proof.Machine.execMul c d a b s
  | .and c d a b => Sys2Proof.Machine.execAnd c d a b s
  | .or c d a b => Sys2Proof.Machine.execOr c d a b s
  | .xor c d a b => Sys2Proof.Machine.execXor c d a b s
  | .shl c d a b => Sys2Proof.Machine.execShl c d a b s
  | .shr c d a b => Sys2Proof.Machine.execShr c d a b s
  | .sar c d a b => Sys2Proof.Machine.execSar c d a b s
  | .slt c d a b => Sys2Proof.Machine.execSlt c d a b s
  | .sltu c d a b => Sys2Proof.Machine.execSltu c d a b s
  | .seq c d a b => Sys2Proof.Machine.execSeq c d a b s
  | .min c d a b => Sys2Proof.Machine.execMin c d a b s
  | .max c d a b => Sys2Proof.Machine.execMax c d a b s
  | .addi c d a imm => Sys2Proof.Machine.execAddi c d a imm s
  | .andi c d a imm => Sys2Proof.Machine.execAndi c d a imm s
  | .ori c d a imm => Sys2Proof.Machine.execOri c d a imm s
  | .xori c d a imm => Sys2Proof.Machine.execXori c d a imm s
  | .shli c d a imm => Sys2Proof.Machine.execShli c d a imm s
  | .shri c d a imm => Sys2Proof.Machine.execShri c d a imm s
  | .sari c d a imm => Sys2Proof.Machine.execSari c d a imm s
  | .movk0 c d imm => Sys2Proof.Machine.execMovk0 c d imm s
  | .movk1 c d imm => Sys2Proof.Machine.execMovk1 c d imm s
  | .movk2 c d imm => Sys2Proof.Machine.execMovk2 c d imm s
  | .movk3 c d imm => Sys2Proof.Machine.execMovk3 c d imm s
  | .br c t => Sys2Proof.Machine.execBr c t s
  | .beqz c a t => Sys2Proof.Machine.execBeqz c a t s
  | .bnez c a t => Sys2Proof.Machine.execBnez c a t s
  | .bltz c a t => Sys2Proof.Machine.execBltz c a t s
  | .call c t => Sys2Proof.Machine.execCall c t s
  | .ret c a => Sys2Proof.Machine.execRet c a s
  | .mfsr c d imm => Sys2Proof.Machine.execMfsr c d imm s
  | .ezganNop c => Sys2Proof.Machine.execEzganNop c s
  | .halt c => Sys2Proof.Machine.execHalt c s
  | .ld c d a imm => Sys2Proof.Machine.execLd c d a imm s
  | .st c d a imm => Sys2Proof.Machine.execSt c d a imm s
  | .ldw c d a imm => Sys2Proof.Machine.execLdw c d a imm s
  | .stw c d a imm => Sys2Proof.Machine.execStw c d a imm s
  | .vadd c d a b p sb => Sys2Proof.Machine.execVadd c d a b p sb s
  | .vsub c d a b p sb => Sys2Proof.Machine.execVsub c d a b p sb s
  | .vmul c d a b p sb => Sys2Proof.Machine.execVmul c d a b p sb s
  | .vfma c d a b p sb => Sys2Proof.Machine.execVfma c d a b p sb s
  | .vmax c d a b p sb => Sys2Proof.Machine.execVmax c d a b p sb s
  | .vmin c d a b p sb => Sys2Proof.Machine.execVmin c d a b p sb s
  | .vrcpe c d a p => Sys2Proof.Machine.execVrcpe c d a p s
  | .vrsqe c d a p => Sys2Proof.Machine.execVrsqe c d a p s
  | .vexp2e c d a p => Sys2Proof.Machine.execVexp2e c d a p s
  | .vlog2e c d a p => Sys2Proof.Machine.execVlog2e c d a p s
  | .vrcps c d a b p sb => Sys2Proof.Machine.execVrcps c d a b p sb s
  | .vrsqs c d a b p sb => Sys2Proof.Machine.execVrsqs c d a b p sb s
  | .vceq c d a b p sb => Sys2Proof.Machine.execVceq c d a b p sb s
  | .vcne c d a b p sb => Sys2Proof.Machine.execVcne c d a b p sb s
  | .vclt c d a b p sb => Sys2Proof.Machine.execVclt c d a b p sb s
  | .vcle c d a b p sb => Sys2Proof.Machine.execVcle c d a b p sb s
  | .vsel c d a b p sb => Sys2Proof.Machine.execVsel c d a b p sb s
  | .viadd c d a b p sb => Sys2Proof.Machine.execViadd c d a b p sb s
  | .visub c d a b p sb => Sys2Proof.Machine.execVisub c d a b p sb s
  | .vand c d a b p sb => Sys2Proof.Machine.execVand c d a b p sb s
  | .vor c d a b p sb => Sys2Proof.Machine.execVor c d a b p sb s
  | .vxor c d a b p sb => Sys2Proof.Machine.execVxor c d a b p sb s
  | .vshl c d a b p sb => Sys2Proof.Machine.execVshl c d a b p sb s
  | .vshr c d a b p sb => Sys2Proof.Machine.execVshr c d a b p sb s
  | .vlane c d p => Sys2Proof.Machine.execVlane c d p s
  | .vbcast c d a p => Sys2Proof.Machine.execVbcast c d a p s
  | .pand c d a b p => Sys2Proof.Machine.execPand c d a b p s
  | .por c d a b p => Sys2Proof.Machine.execPor c d a b p s
  | .pnot c d a p => Sys2Proof.Machine.execPnot c d a p s
  | .pmov c d a p => Sys2Proof.Machine.execPmov c d a p s
  | .vmsk c d a p => Sys2Proof.Machine.execVmsk c d a p s
  | .vld c d a imm => Sys2Proof.Machine.execVld c d a imm s
  | .vst c d a imm => Sys2Proof.Machine.execVst c d a imm s
  | .vgather c d a b p => Sys2Proof.Machine.execVgather c d a b p s
  | .vscatter c d a b p => Sys2Proof.Machine.execVscatter c d a b p s
  | .vcvto c d a fmt rnd sat sr => Sys2Proof.Machine.execVcvto c d a fmt rnd sat sr s
  | .vcvti c d a fmt rnd sat sr => Sys2Proof.Machine.execVcvti c d a fmt rnd sat sr s
  | .vrsum c d a p => Sys2Proof.Machine.execVrsum c d a p s
  | .vrmax c d a p => Sys2Proof.Machine.execVrmax c d a p s
  | .vrmin c d a p => Sys2Proof.Machine.execVrmin c d a p s
  | .srd c d a b => Sys2Proof.Machine.execSrd c d a b s
  | .swr c d a b => Sys2Proof.Machine.execSwr c d a b s
  | .streamOperationComplete c n => Sys2Proof.Machine.execStreamOperationComplete c n s
  | .sfence c => Sys2Proof.Machine.execSfence c s
  | .sig c d a => Sys2Proof.Machine.execSig c d a s
  | .waitc c d a b mod => Sys2Proof.Machine.execWaitc c d a b mod s
  | .wwait c imm => Sys2Proof.Machine.execWwait c imm s
  | .wfire c imm => Sys2Proof.Machine.execWfire c imm s
  | .hbar c d => Sys2Proof.Machine.execHbar c d s
  | .tzero c w => Sys2Proof.Machine.execTzero c w s
  | .tmm c w => Sys2Proof.Machine.execTmm c w s
  | .taccrd c w stop => Sys2Proof.Machine.execTaccrd c w stop s
  | .tsave c w => Sys2Proof.Machine.execTsave c w s
  | .trestore c w => Sys2Proof.Machine.execTrestore c w s
  | .keeperLoad c => Sys2Proof.Machine.execKeeperLoad c s
  | .passStart c => Sys2Proof.Machine.execPassStart c s
  | .restage c => Sys2Proof.Machine.execRestage c s
  | .chunkSumWrite c m n => Sys2Proof.Machine.execChunkSumWrite c m n s
  | .auditDue c => Sys2Proof.Machine.execAuditDue c s
  | .auditNow c => Sys2Proof.Machine.execAuditNow c s
  | .rowAudit c => Sys2Proof.Machine.execRowAudit c s
  | .auditEnd c rows => Sys2Proof.Machine.execAuditEnd c rows s
  | .promotion c => Sys2Proof.Machine.execPromotion c s
  | .coreLoss c cause => Sys2Proof.Machine.execCoreLoss c cause s
  | .itemRetry q k c => Sys2Proof.Machine.execItemRetry q k c s
  | .suCtrAdd p n v => Sys2Proof.Machine.execSuCtrAdd p n v s
  | .watchGrant => Sys2Proof.Machine.execWatchGrant s
  | .hostWatchRegister p n v => Sys2Proof.Machine.execHostWatchRegister p n v s
  | .hostWatchWithdraw p n v => Sys2Proof.Machine.execHostWatchWithdraw p n v s
  | .stepSyncInPulse => Sys2Proof.Machine.execStepSyncInPulse s
  | .stepSyncOutEnd => Sys2Proof.Machine.execStepSyncOutEnd s
  | .stepSyncInIgnore pin => Sys2Proof.Machine.execStepSyncInIgnore pin s
  | .stepSyncOutDisable => Sys2Proof.Machine.execStepSyncOutDisable s
  | .rearm => Sys2Proof.Machine.execRearm s
  | .telemetryRoll => Sys2Proof.Machine.execTelemetryRoll s
  | .hubRequestArrival h r => Sys2Proof.Machine.execHubRequestArrival h r s
  | .requestPerformed h n e => Sys2Proof.Machine.execRequestPerformed h n e s
  | .spareCopyEnd h => Sys2Proof.Machine.execSpareCopyEnd h s
  | .patrolScrub h a e => Sys2Proof.Machine.execPatrolScrub h a e s
  | .prefetchFetch n h => Sys2Proof.Machine.execPrefetchFetch n h s
  | .fetchReturn h n => Sys2Proof.Machine.execFetchReturn h n s
  | .consumingRead c n e => Sys2Proof.Machine.execConsumingRead c n e s
  | .hostBar2Read p off len => Sys2Proof.Machine.execHostBar2Read p off len s
  | .hostBar2Write p off bytes => Sys2Proof.Machine.execHostBar2Write p off bytes s
  | .pcieConfigRequest p r => Sys2Proof.Machine.execPcieConfigRequest p r s
  | .dataFlit l fec f => Sys2Proof.Machine.execDataFlit l fec f s
  | .nak l fec f => Sys2Proof.Machine.execNak l fec f s
  | .replayTimeout l => Sys2Proof.Machine.execReplayTimeout l s
  | .training l => Sys2Proof.Machine.execTraining l s
  | .trainingEnd l r => Sys2Proof.Machine.execTrainingEnd l r s
  | .laneFail l n => Sys2Proof.Machine.execLaneFail l n s
  | .sparingEnd l => Sys2Proof.Machine.execSparingEnd l s
  | .retrain l => Sys2Proof.Machine.execRetrain l s
  | .read l m => Sys2Proof.Machine.execRead l m s
  | .write l m data => Sys2Proof.Machine.execWrite l m data s
  | .writeMasked l m data => Sys2Proof.Machine.execWriteMasked l m data s
  | .readData l m data => Sys2Proof.Machine.execReadData l m data s
  | .writeDone l m => Sys2Proof.Machine.execWriteDone l m s
  | .refused l m => Sys2Proof.Machine.execRefused l m s
  | .gated l m => Sys2Proof.Machine.execGated l m s
  | .eccFail l m => Sys2Proof.Machine.execEccFail l m s
  | .unreachable l m => Sys2Proof.Machine.execUnreachable l m s
  | .requestTimeout tag => Sys2Proof.Machine.execRequestTimeout tag s
  | .chunk l m data => Sys2Proof.Machine.execChunk l m data s
  | .arrive l m => Sys2Proof.Machine.execArrive l m s
  | .release l m => Sys2Proof.Machine.execRelease l m s
  | .cancel l m => Sys2Proof.Machine.execCancel l m s
  | .lost l m => Sys2Proof.Machine.execLost l m s
  | .warmReset sites => Sys2Proof.Machine.execWarmReset sites s
  | .modResetN => Sys2Proof.Machine.execModResetN s
  | .deviceFault => Sys2Proof.Machine.execDeviceFault s
  | .alwaysOnFault => Sys2Proof.Machine.execAlwaysOnFault s
  | .powerOn vin => Sys2Proof.Machine.execPowerOn vin s
  | .nimtiaBoot cool slot cfg fwOk => Sys2Proof.Machine.execNimtiaBoot cool slot cfg fwOk s
  | .pwrEnAssert vin => Sys2Proof.Machine.execPwrEnAssert vin s
  | .startUp f => Sys2Proof.Machine.execStartUp f s
  | .pwrEnDeassert => Sys2Proof.Machine.execPwrEnDeassert s
  | .vinUndervoltage vin => Sys2Proof.Machine.execVinUndervoltage vin s
  | .vinOvervoltage vin => Sys2Proof.Machine.execVinOvervoltage vin s
  | .efuseTrip => Sys2Proof.Machine.execEfuseTrip s
  | .efuseRetry => Sys2Proof.Machine.execEfuseRetry s
  | .referenceLoss => Sys2Proof.Machine.execReferenceLoss s
  | .referenceReturn => Sys2Proof.Machine.execReferenceReturn s
  | .holdoverEnd => Sys2Proof.Machine.execHoldoverEnd s
  | .limiterPeriod m => Sys2Proof.Machine.execLimiterPeriod m s
  | .sensorFault u n => Sys2Proof.Machine.execSensorFault u n s
  | .strapChange cool slot cfg => Sys2Proof.Machine.execStrapChange cool slot cfg s
  | .perstN p => Sys2Proof.Machine.execPerstN p s
  | .hostPortLost p => Sys2Proof.Machine.execHostPortLost p s
  | .pwrGateWrite p hi v => Sys2Proof.Machine.execPwrGateWrite p hi v s
  | .gateOff b => Sys2Proof.Machine.execGateOff b s
  | .lpddr5xGroupReady h => Sys2Proof.Machine.execLpddr5xGroupReady h s
  | .clkObsWrite v => Sys2Proof.Machine.execClkObsWrite v s
  | .loadConfig p => Sys2Proof.Machine.execLoadConfig p s
  | .activateFirmware p => Sys2Proof.Machine.execActivateFirmware p s
  | .setPowerProfile p => Sys2Proof.Machine.execSetPowerProfile p s
  | .takeoverQueues p => Sys2Proof.Machine.execTakeoverQueues p s
  | .debugUnlock p => Sys2Proof.Machine.execDebugUnlock p s
  | .keyRoll p => Sys2Proof.Machine.execKeyRoll p s
  | .fuseCommit p => Sys2Proof.Machine.execFuseCommit p s
  | .resetDevice p => Sys2Proof.Machine.execResetDevice p s
  | .zeroize p => Sys2Proof.Machine.execZeroize p s
  | .getIdentity p => Sys2Proof.Machine.execGetIdentity p s
  | .attest p => Sys2Proof.Machine.execAttest p s
  | .backoffEnd p => Sys2Proof.Machine.execBackoffEnd p s
  | .fwuBegin p => Sys2Proof.Machine.execFwuBegin p s
  | .writeBlock p => Sys2Proof.Machine.execWriteBlock p s
  | .fwuStage p => Sys2Proof.Machine.execFwuStage p s
  | .fwuAbort p => Sys2Proof.Machine.execFwuAbort p s
  | .fwuCommit p => Sys2Proof.Machine.execFwuCommit p s
  | .fwuRevert p => Sys2Proof.Machine.execFwuRevert p s
  | .fwuRestart p => Sys2Proof.Machine.execFwuRestart p s
  | .activationSwitch => Sys2Proof.Machine.execActivationSwitch s
  | .activationCancel => Sys2Proof.Machine.execActivationCancel s
  | .activationRevert => Sys2Proof.Machine.execActivationRevert s
  | .tallyWrite ok => Sys2Proof.Machine.execTallyWrite ok s
  | .tallySample lanes => Sys2Proof.Machine.execTallySample lanes s
  | .snap p => Sys2Proof.Machine.execSnap p s
  | .writeNow => Sys2Proof.Machine.execWriteNow s
  | .readReg t off count => Sys2Proof.Machine.execReadReg t off count s
  | .readTally t area chunk => Sys2Proof.Machine.execReadTally t area chunk s
  | .readLog t n => Sys2Proof.Machine.execReadLog t n s
  | .readImage t chunk => Sys2Proof.Machine.execReadImage t chunk s
  | .getStatus t => Sys2Proof.Machine.execGetStatus t s
  | .alertResponse => Sys2Proof.Machine.execAlertResponse s
  | .busRecovery ok => Sys2Proof.Machine.execBusRecovery ok s
  | .busSense high => Sys2Proof.Machine.execBusSense high s
  | .extest => Sys2Proof.Machine.execExtest s
  | .samplePreload cells => Sys2Proof.Machine.execSamplePreload cells s
  | .clamp => Sys2Proof.Machine.execClamp s
  | .highz => Sys2Proof.Machine.execHighz s
  | .dbgAccess halt => Sys2Proof.Machine.execDbgAccess halt s
  | .bypass => Sys2Proof.Machine.execBypass s
  | .registerWrite p off width v => Sys2Proof.Machine.execRegisterWrite p off width v s
  | .alwaysOnPowerLoss => Sys2Proof.Machine.execAlwaysOnPowerLoss s
  | .hostPortLinkUp p speed faults => Sys2Proof.Machine.execHostPortLinkUp p speed faults s
  | .idleFlit l fec f => Sys2Proof.Machine.execIdleFlit l fec f s
  | .unknownKindMessage l vc kind m data => Sys2Proof.Machine.execUnknownKindMessage l vc kind m data s
  | .sparingTimeout l => Sys2Proof.Machine.execSparingTimeout l s
  | .malformedInstruction c => Sys2Proof.Machine.execMalformedInstruction c s
  | .hostBar4Write p off bytes => Sys2Proof.Machine.execHostBar4Write p off bytes s
  | .secCtlGo p => Sys2Proof.Machine.execSecCtlGo p s
  | .entdaa addr => Sys2Proof.Machine.execEntdaa addr s
  | .testLogicReset => Sys2Proof.Machine.execTestLogicReset s

end Sys2Proof.Machine
end

