-- ==== Sys2Proof/Safety.lean ====
section
/-!
DEFINITION. What counts as a safe run: every step answers a next state, and every state keeps its well-formed shape (the
canonical forms of its tables and the form of the fault log). Then the words that statements use: an instance that issues a
word, and states that differ in one core, in one queue, or in named bytes only.
-/
namespace Sys2Proof.Machine

/-! ## Shapes -/

/-- Memory in canonical form: addresses strictly rise and no listed byte equals what an unlisted address reads as. -/
def Memory.wf (m : List Host.Cell) : Bool := tok emptyByte m

/-- Every table of State that is keyed by a unit's number stands in canonical form. -/
def State.wf (s : State) : Bool :=
  Memory.wf s.mem.cells && tok Core.reset s.cores && tok QueueSt.reset s.queues && tok 0 s.turns && tok 0 s.sync.ctr &&
    tok Herd.none s.sync.herds && tok CtxWins.reset s.mem.wins && tok Stream.free s.mem.streams && tok KeHerd.reset s.ke

/-- The entries' SEQs follow one another and end at the last one given (14 R580). -/
def logFrom (last : DWord) : List LogEntry → Bool
  | [] => true
  | e :: es => decide (e.seq = last - BitVec.ofNat 64 es.length) && logFrom last es

/-- The fault log's shape: at most 512 entries, numbered one after another up to FLT_SEQ (14 R580, R582). -/
def FaultSt.wf (f : FaultSt) : Bool := decide (f.log.length ≤ 512) && logFrom f.seq f.log

/-! ## Safe runs -/

/-- A command's answer is a next state. -/
def Answer.runs : Answer → Bool
  | .next _ => true
  | .fault _ => false
  | .refused _ => false

/-- A step is safe when it answers a next state whose tables and log keep their shape. -/
def Answer.safe : Answer → Bool
  | .next t => t.wf && t.fault.wf
  | .fault _ => false
  | .refused _ => false

/-- A run of `n` steps that is safe at every step. -/
def State.safeFor : Nat → State → Bool
  | 0, s => s.wf && s.fault.wf
  | n + 1, s => s.wf && s.fault.wf && (match step s with | .next t => State.safeFor n t | _ => false)

/-! ## A core that issues -/

/-- The instance `r` runs on core site `c` and issues the word `w` next (06 R224, R227). -/
def State.issuing (s : State) (c : Nat) (r : Run) (w : Word) : Prop :=
  (s.core c).seq.run = some r ∧ (s.core c).atWord r w = true

/-- `t` differs from `s` in core site `c` alone, which is now `k`; every byte of memory reads as before. -/
def OnlyCore (s t : State) (c : Nat) (k : Core) : Prop :=
  t.core c = k ∧ (∀ x, x ≠ c → t.core x = s.core x) ∧ t.setCores s.cores = s ∧ (∀ a, t.byte a = s.byte a)

/-- `t` differs from `s` in the sequencer of core site `c` alone, which is now `x`. -/
def OnlySeq (s t : State) (c : Nat) (x : SeqState) : Prop := OnlyCore s t c { s.core c with seq := x }

/-- `t` differs from `s` in queue `q` alone, which is now `x`; every byte of memory reads as before. -/
def OnlyQueue (s t : State) (q : Nat) (x : QueueSt) : Prop :=
  t.queue q = x ∧ (∀ y, y ≠ q → t.queue y = s.queue y) ∧ t.setQueues s.queues = s ∧ (∀ a, t.byte a = s.byte a)

/-- In `t` the bytes from `a` are `bs`, and every other byte of memory reads as in `s`. -/
def Stored (s t : State) (a : Nat) (bs : List Byte) : Prop :=
  (∀ i, i < bs.length → t.byte (a + i) = bs.getD i 0) ∧ (∀ b, b < a ∨ a + bs.length ≤ b → t.byte b = s.byte b)

/-- A sequencer that has written s(d) and goes on at the next word. -/
def SeqState.wroteS (x : SeqState) (d : Nat) (v : DWord) : SeqState := { x with s := vset x.s d v, pc := x.pc + 1 }
/-- A sequencer that has written v(d) and goes on at the next word. -/
def SeqState.wroteV (x : SeqState) (d : Nat) (v : Vector Word 64) : SeqState := { x with v := vset x.v d v, pc := x.pc + 1 }
/-- A sequencer that has written p(d), where p0 takes no write, and goes on at the next word (06 R223). -/
def SeqState.wroteP (x : SeqState) (d : Nat) (v : DWord) : SeqState :=
  { x with p := if d = 0 then x.p else vset x.p d v, pc := x.pc + 1 }

end Sys2Proof.Machine
end

