-- ==== Sys2Proof/Certificates/Slice0/Obligations.lean ====
section
/-!
DEFINITION. The statements for the provers: the lists and conditions that they name, then one definition per statement.
-/

namespace Sys2Proof.Claims

open Sys2Proof Sys2Proof.Machine

/-! ## Lists of core-program instructions: constructor, OP, and what it computes (06 R231) -/

/-- Class 0x0: s(D) := f(s(A), s(B)). -/
def scalarOps : List ((Site → Reg → Reg → Reg → Instr) × Nat × (DWord → DWord → DWord)) :=
  [(.add, 0x01, fun x y => BitVec.ofNat 64 (x.toNat + y.toNat)),
   (.sub, 0x02, fun x y => BitVec.ofInt 64 (x.toInt - y.toInt)),
   (.mul, 0x03, fun x y => BitVec.ofNat 64 (x.toNat * y.toNat)),
   (.and, 0x04, fun x y => x &&& y),
   (.or, 0x05, fun x y => x ||| y),
   (.xor, 0x06, fun x y => x ^^^ y),
   (.shl, 0x07, fun x y => BitVec.ofNat 64 (x.toNat * 2 ^ (y.toNat % 64))),
   (.shr, 0x08, fun x y => BitVec.ofNat 64 (x.toNat / 2 ^ (y.toNat % 64))),
   (.sar, 0x09, fun x y => BitVec.ofInt 64 (x.toInt / 2 ^ (y.toNat % 64))),
   (.slt, 0x0A, fun x y => if x.toInt < y.toInt then 1 else 0),
   (.sltu, 0x0B, fun x y => if x.toNat < y.toNat then 1 else 0),
   (.seq, 0x0C, fun x y => if x = y then 1 else 0),
   (.min, 0x0D, fun x y => if x.toInt ≤ y.toInt then x else y),
   (.max, 0x0E, fun x y => if x.toInt ≤ y.toInt then y else x)]

/-- Class 0x1 with IMM sign-extended: s(D) := f(s(A), IMM); shifts take IMM[5:0]. -/
def immediateOps : List ((Site → Reg → Reg → BitVec 12 → Instr) × Nat × (DWord → BitVec 12 → DWord)) :=
  [(.addi, 0x01, fun x i => BitVec.ofInt 64 (x.toInt + i.toInt)),
   (.andi, 0x04, fun x i => x &&& BitVec.ofInt 64 i.toInt),
   (.ori, 0x05, fun x i => x ||| BitVec.ofInt 64 i.toInt),
   (.xori, 0x06, fun x i => x ^^^ BitVec.ofInt 64 i.toInt),
   (.shli, 0x07, fun x i => BitVec.ofNat 64 (x.toNat * 2 ^ (i.toNat % 64))),
   (.shri, 0x08, fun x i => BitVec.ofNat 64 (x.toNat / 2 ^ (i.toNat % 64))),
   (.sari, 0x09, fun x i => BitVec.ofInt 64 (x.toInt / 2 ^ (i.toNat % 64)))]

/-- MOVK0 to MOVK3. -/
def movkOps : List ((Site → Reg → BitVec 16 → Instr) × Nat) := [(.movk0, 0), (.movk1, 1), (.movk2, 2), (.movk3, 3)]

/-- The conditional branches: OP and the condition on s(A). -/
def branchOps : List ((Site → Reg → BitVec 14 → Instr) × Nat × (DWord → Prop)) :=
  [(.beqz, 0x01, fun x => x = 0), (.bnez, 0x02, fun x => x ≠ 0), (.bltz, 0x03, fun x => x.toInt < 0)]

/-- The floating vector instructions of two vector operands: OP, the lane function of A, B and D, when it is invalid, and
whether the lane of D is an operand (06 R231, R236). -/
def floatOps : List ((Site → Reg → Reg → Reg → PReg → Bool → Instr) × Nat × (Word → Word → Word → Word) ×
    (Val → Val → Val → Bool) × Bool) :=
  [(.vadd, 0x00, fun x y _ => toF32 ((f32 x).add (f32 y)), fun x y _ => addInvalid x y, false),
   (.vsub, 0x01, fun x y _ => toF32 ((f32 x).add (f32 y).neg), fun x y _ => addInvalid x y.neg, false),
   (.vmul, 0x02, fun x y _ => toF32 ((f32 x).mul (f32 y)), fun x y _ => mulInvalid x y, false),
   (.vfma, 0x03, fun x y z => toF32 (((f32 x).mul (f32 y)).add (f32 z)),
      fun x y z => mulInvalid x y || addInvalid (x.mul y) z, true),
   (.vmax, 0x04, fun x y _ => fmax x y, fun _ _ _ => false, false),
   (.vmin, 0x05, fun x y _ => fmin x y, fun _ _ _ => false, false),
   (.vrcps, 0x07, fun x y _ => toF32 ((f32 0x40000000#32).add ((f32 x).mul (f32 y)).neg),
      fun x y _ => mulInvalid x y, false),
   (.vrsqs, 0x09, fun x y _ => toF32 ((f32 0x40400000#32).add ((f32 x).mul (f32 y)).neg).half,
      fun x y _ => mulInvalid x y, false)]

/-- The estimates: OP and the lane function, the free value of log 8. -/
def estimateOps : List ((Site → Reg → Reg → PReg → Instr) × Nat × (Word → Word)) :=
  [(.vrcpe, 0x06, vrcpeLane), (.vrsqe, 0x08, vrsqeLane), (.vexp2e, 0x0A, vexp2eLane), (.vlog2e, 0x0B, vlog2eLane)]

/-- The comparisons (02 R91). -/
def compareOps : List ((Site → Reg → Reg → Reg → PReg → Bool → Instr) × Nat × (Val → Val → Bool)) :=
  [(.vceq, 0x10, fun x y => x.eqv y), (.vcne, 0x11, fun x y => !x.eqv y), (.vclt, 0x12, fun x y => x.lt y),
   (.vcle, 0x13, fun x y => x.le y)]

/-- The 32-bit integer and bitwise vector instructions (06 R231). -/
def integerOps : List ((Site → Reg → Reg → Reg → PReg → Bool → Instr) × Nat × (Word → Word → Word)) :=
  [(.viadd, 0x18, fun x y => BitVec.ofNat 32 (x.toNat + y.toNat)),
   (.visub, 0x19, fun x y => BitVec.ofInt 32 (x.toInt - y.toInt)),
   (.vand, 0x1A, fun x y => x &&& y), (.vor, 0x1B, fun x y => x ||| y), (.vxor, 0x1C, fun x y => x ^^^ y),
   (.vshl, 0x1D, fun x y => BitVec.ofNat 32 (x.toNat * 2 ^ (y.toNat % 32))),
   (.vshr, 0x1E, fun x y => BitVec.ofNat 32 (x.toNat / 2 ^ (y.toNat % 32)))]

/-- PAND and POR on p(A[2:0]) and p(B[2:0]). -/
def predicateOps : List ((Site → Reg → Reg → Reg → PReg → Instr) × Nat × (DWord → DWord → DWord)) :=
  [(.pand, 0x28, fun x y => x &&& y), (.por, 0x29, fun x y => x ||| y)]

/-- The reductions: OP, the function of the fixed tree, and what an inactive lane counts as (06 R238). -/
def reduceOps : List ((Site → Reg → Reg → PReg → Instr) × Nat × (Word → Word → Word) × Word) :=
  [(.vrsum, 0x08, fadd, 0x80000000#32), (.vrmax, 0x09, fmax, 0xFF800000#32), (.vrmin, 0x0A, fmin, 0x7F800000#32)]

/-- The fixed tree of 06 R238 over 2^n lanes from lane `l`: the two halves of neighbours joined level by level. -/
def tree (f : Word → Word → Word) (g : Nat → Word) : Nat → Nat → Word
  | 0, l => g l
  | n + 1, l => f (tree f g n (2 * l)) (tree f g n (2 * l + 1))

/-- The lanes of v(D) after an instruction under a predicate: active lanes take f, others keep their value (06 R234). -/
def underPredicate (x : SeqState) (d p : Nat) (f : Nat → Word) : Vector Word 64 :=
  Vector.ofFn fun l : Fin 64 => if (if p = 0 then true else (vget x.p p 0).getLsbD l) then f l else lane (x.vreg d) l

/-- The B operand on a lane: of v(B), or s(B)[31:0] on every lane (06 R233). -/
def operandB (x : SeqState) (b : Nat) (sb : Bool) (l : Nat) : Word :=
  if sb then (if l < 64 then (x.sreg b).truncate 32 else 0) else lane (x.vreg b) l

/-- A branch target that 06 R230 admits: outside tile-instruction groups but for their first word. -/
def goodTarget (x : SeqState) (t : BitVec 14) : Prop := x.tileGroup t.toNat = true → t.toNat % 4 = 0

/-- `t` is `s` with one more entry in the fault log, of a class and a unit (14 R580). -/
def logged (s t : State) (cls unit : Nat) : Prop :=
  t.fault.seq = s.fault.seq + 1 ∧ ∃ e, t.fault.log.getLast? = some e ∧ e.seq = t.fault.seq ∧ e.dtc = s.sync.dtc ∧
    e.cls = cls ∧ e.unit = unit

end Sys2Proof.Claims

open Sys2Proof Sys2Proof.Machine Sys2Proof.Claims

/-! ## The queue of commands -/

/-- A step takes the oldest waiting command, and is that command's effect on the state with the queue's rest. -/
def Obligations.StepTakesTheFrontCommand : Prop :=
  ∀ (s : State) (c : Instr) (rest : List Instr), s.pending = c :: rest → step s = exec c (s.setPending rest)

/-- With no command waiting a step is one SCLK tick: the DTC counts on, but for a module with no device time yet (10 R438, 16
R619); that an idle step is a tick is the model's choice, log 3. -/
def Obligations.IdleStepIsOneTick : Prop :=
  ∀ s : State, s.pending = [] →
    ∃ t, step s = .next t ∧ t.sync.dtc = (if s.power.cold then s.sync.dtc else s.sync.dtc + 1) ∧ t.pending = []

/-- Every well-formed command answers a next state in every state, and an ill-formed one is refused by that name. -/
def Obligations.EveryWellFormedCommandRuns : Prop :=
  ∀ (c : Instr) (s : State),
    (c.wellFormed = true → ∃ t, exec c s = .next t) ∧ (c.wellFormed = false → exec c s = .refused .illFormed)

/-! ## Core programs: scalar instructions -/

/-- ADD, SUB, MUL, AND, OR, XOR, SHL, SHR, SAR, SLT, SLTU, SEQ, MIN, MAX: s(D) takes the result, PC goes to the next word,
and no other register, core, byte of memory or part of the module changes (06 R231). -/
def Sys2Proof.Claims.ScalarRegisterInstructions : Prop :=
  ∀ e ∈ scalarOps, ∀ (s : State) (c : Site) (r : Run) (d a b : Reg),
    s.issuing c r (encRR 0 e.2.1 d a b 0 0) →
    ∃ t, exec (e.1 c d a b) s = .next t ∧
      OnlySeq s t c ((s.core c).seq.wroteS d (e.2.2 ((s.core c).seq.sreg a) ((s.core c).seq.sreg b)))

/-- ADDI, ANDI, ORI, XORI, SHLI, SHRI, SARI: the same with the sign-extended IMM (06 R231). -/
def Sys2Proof.Claims.ScalarImmediateInstructions : Prop :=
  ∀ e ∈ immediateOps, ∀ (s : State) (c : Site) (r : Run) (d a : Reg) (imm : BitVec 12),
    s.issuing c r (encRI 1 e.2.1 d a imm.toNat) →
    ∃ t, exec (e.1 c d a imm) s = .next t ∧ OnlySeq s t c ((s.core c).seq.wroteS d (e.2.2 ((s.core c).seq.sreg a) imm))

/-- MOVK0 to MOVK3 replace bits [16h + 15:16h] of s(D) by IMM and keep the others (06 R231). -/
def Sys2Proof.Claims.MoveKeepInstructions : Prop :=
  ∀ e ∈ movkOps, ∀ (s : State) (c : Site) (r : Run) (d : Reg) (imm : BitVec 16),
    s.issuing c r (encMK (0x10 + e.2) d imm.toNat) →
    ∃ t v, exec (e.1 c d imm) s = .next t ∧ OnlySeq s t c ((s.core c).seq.wroteS d v) ∧
      ∀ i, i < 64 → v.getLsbD i =
        if 16 * e.2 ≤ i ∧ i < 16 * e.2 + 16 then imm.getLsbD (i - 16 * e.2) else ((s.core c).seq.sreg d).getLsbD i

/-- BR, BEQZ, BNEZ, BLTZ, CALL, RET and NOP: PC goes to TARGET or to the next word, and CALL leaves PC + 1 in s31 (06 R230,
R231). -/
def Obligations.ControlInstructions : Prop :=
  ∀ (s : State) (c : Site) (r : Run),
    let x := (s.core c).seq
    (∀ t : BitVec 14, goodTarget x t → s.issuing c r (encCT 0x00 0 t.toNat) →
      ∃ u, exec (.br c t) s = .next u ∧ OnlySeq s u c { x with pc := t }) ∧
    (∀ e ∈ branchOps, ∀ (a : Reg) (t : BitVec 14), goodTarget x t → s.issuing c r (encCT e.2.1 a t.toNat) →
      ∃ u, exec (e.1 c a t) s = .next u ∧ (e.2.2 (x.sreg a) → OnlySeq s u c { x with pc := t }) ∧
        (¬e.2.2 (x.sreg a) → OnlySeq s u c { x with pc := x.pc + 1 })) ∧
    (∀ t : BitVec 14, goodTarget x t → s.issuing c r (encCT 0x04 0 t.toNat) →
      ∃ u, exec (.call c t) s = .next u ∧
        OnlySeq s u c { x with s := vset x.s 31 (BitVec.ofNat 64 ((x.pc.toNat + 1) % 16384)), pc := t }) ∧
    (∀ a : Reg, goodTarget x ((x.sreg a).truncate 14) → s.issuing c r (encCT 0x05 a 0) →
      ∃ u, exec (.ret c a) s = .next u ∧ OnlySeq s u c { x with pc := (x.sreg a).truncate 14 }) ∧
    (s.issuing c r (encCT 0x3E 0 0) → ∃ u, exec (.ezganNop c) s = .next u ∧ OnlySeq s u c { x with pc := x.pc + 1 })

/-- MFSR reads the nine special registers: DTC, the logical core, the site, the skew word and the bypass word, TAG, the
instance, the instance count, and BCNT (06 R232). -/
def Sys2Proof.Claims.MoveFromSpecialRegister : Prop :=
  ∀ (s : State) (c : Site) (r : Run) (d : Reg) (imm : BitVec 12), imm.toNat ≤ 8 →
    s.issuing c r (encRI 2 0x06 d 0 imm.toNat) →
    ∃ t, exec (.mfsr c d imm) s = .next t ∧
      OnlySeq s t c ((s.core c).seq.wroteS d (([s.sync.dtc, BitVec.ofNat 64 ((s.lcoreOf c).getD 0x7FF), BitVec.ofNat 64 c.val,
        BitVec.ofNat 64 (s.core c).arr.skew, BitVec.ofNat 64 (s.core c).arr.bypassReg, r.tag.zeroExtend 64,
        BitVec.ofNat 64 r.inst, BitVec.ofNat 64 r.count, s.sync.bcnt] : List DWord).getD imm.toNat 0))

/-! ## Core programs: core memory -/

/-- LD and LDW: an aligned operand inside the extent that no slot holds and that reads clean is loaded, zero-extended, little
byte first (06 R231, R252). -/
def Sys2Proof.Claims.ScalarLoads : Prop :=
  ∀ e ∈ ([(.ld, 0x00, 8), (.ldw, 0x02, 4)] : List ((Site → Reg → Reg → BitVec 12 → Instr) × Nat × Nat)),
    ∀ (s : State) (c : Site) (r : Run) (d a : Reg) (imm : BitVec 12),
    s.issuing c r (encRI 3 e.2.1 d a imm.toNat) →
    let m := ((s.core c).seq.sreg a + BitVec.ofNat 64 e.2.2 * imm.signExtend 64).toNat
    m % e.2.2 = 0 → m + e.2.2 ≤ 64 * r.extent → (s.core c).waits m (m + e.2.2) false = false →
    s.isUe (coreAddr c m) = false →
    ∃ t, exec (e.1 c d a imm) s = .next t ∧
      OnlySeq s t c ((s.core c).seq.wroteS d (BitVec.ofNat 64 (s.num (coreAddr c m) e.2.2)))

/-- ST and STW: the low bytes of s(D) go to core memory at the same address, every other byte of memory reads as before, and no
register changes but PC (06 R231, R252, R253). -/
def Sys2Proof.Claims.ScalarStores : Prop :=
  ∀ e ∈ ([(.st, 0x01, 8), (.stw, 0x03, 4)] : List ((Site → Reg → Reg → BitVec 12 → Instr) × Nat × Nat)),
    ∀ (s : State) (c : Site) (r : Run) (d a : Reg) (imm : BitVec 12), s.siteState c = 0 → r.extent ≤ 24576 →
    s.issuing c r (encRI 3 e.2.1 d a imm.toNat) →
    let m := ((s.core c).seq.sreg a + BitVec.ofNat 64 e.2.2 * imm.signExtend 64).toNat
    m % e.2.2 = 0 → m + e.2.2 ≤ 64 * r.extent → (s.core c).waits m (m + e.2.2) true = false →
    s.isUe (coreAddr c m) = false →
    ∃ t, exec (e.1 c d a imm) s = .next t ∧
      Stored s t (coreAddr c m) ((List.range e.2.2).map fun i => ((s.core c).seq.sreg d).extractLsb' (8 * i) 8) ∧
      (t.core c).seq = { (s.core c).seq with pc := (s.core c).seq.pc + 1 } ∧ (t.core c).tile = (s.core c).tile ∧
      (∀ x, x ≠ c.val → t.core x = s.core x)

/-- VLD and VGATHER: every lane takes its word, VGATHER's inactive lanes keep theirs (06 R231, R239, R252; VLD's predicate is log
19). -/
def Sys2Proof.Claims.VectorLoads : Prop :=
  (∀ (s : State) (c : Site) (r : Run) (d a : Reg) (imm : BitVec 12),
    s.issuing c r (encRI 5 0x00 d a imm.toNat) →
    let m := ((s.core c).seq.sreg a + 64 * imm.signExtend 64).toNat
    s.coreCheck c r m 256 4 false = .ok →
    ∃ t, exec (.vld c d a imm) s = .next t ∧
      OnlySeq s t c ((s.core c).seq.wroteV d
        (Vector.ofFn fun l : Fin 64 => BitVec.ofNat 32 (s.num (coreAddr c m + 4 * l) 4)))) ∧
  (∀ (s : State) (c : Site) (r : Run) (d a b : Reg) (p : PReg),
    s.issuing c r (encRR 5 0x02 d a b p 0) → lanesCheck s c (s.core c) r a b p false = .ok →
    ∃ t, exec (.vgather c d a b p) s = .next t ∧
      OnlySeq s t c ((s.core c).seq.wroteV d (underPredicate (s.core c).seq d p fun l =>
        BitVec.ofNat 32 (s.num (coreAddr c
          (((s.core c).seq.sreg a).toNat + 4 * (lane ((s.core c).seq.vreg b) l).toNat) % 2 ^ 64) 4))))

/-- VST stores the 256 bytes of v(D), and VSCATTER one word for each active lane: the highest active lane that names a byte
writes it, and a byte that none names reads as before (06 R231, R239, R252). -/
def Sys2Proof.Claims.VectorStores : Prop :=
  (∀ (s : State) (c : Site) (r : Run) (d a : Reg) (imm : BitVec 12), s.siteState c = 0 → r.extent ≤ 24576 →
    s.issuing c r (encRI 5 0x01 d a imm.toNat) →
    let m := ((s.core c).seq.sreg a + 64 * imm.signExtend 64).toNat
    s.coreCheck c r m 256 4 true = .ok →
    ∃ t, exec (.vst c d a imm) s = .next t ∧
      Stored s t (coreAddr c m) ((List.range 256).map fun i => (lane ((s.core c).seq.vreg d) (i / 4)).extractLsb' (8 * (i % 4)) 8) ∧
      (t.core c).seq = { (s.core c).seq with pc := (s.core c).seq.pc + 1 }) ∧
  (∀ (s : State) (c : Site) (r : Run) (d a b : Reg) (p : PReg), s.siteState c = 0 → r.extent ≤ 24576 →
    s.issuing c r (encRR 5 0x03 d a b p 0) → lanesCheck s c (s.core c) r a b p true = .ok →
    ∃ t, exec (.vscatter c d a b p) s = .next t ∧ (t.core c).seq = { (s.core c).seq with pc := (s.core c).seq.pc + 1 } ∧
      (∀ l ∈ activeLanes (s.core c).seq p,
        (∀ l' ∈ activeLanes (s.core c).seq p, l < l' →
          laneAddr (s.core c) a b l + 4 ≤ laneAddr (s.core c) a b l' ∨
          laneAddr (s.core c) a b l' + 4 ≤ laneAddr (s.core c) a b l) →
        ∀ i, i < 4 → t.byte (coreAddr c (laneAddr (s.core c) a b l) + i) =
          (lane ((s.core c).seq.vreg d) l).extractLsb' (8 * i) 8) ∧
      (∀ x, (∀ l ∈ activeLanes (s.core c).seq p, x < coreAddr c (laneAddr (s.core c) a b l) ∨
          coreAddr c (laneAddr (s.core c) a b l) + 4 ≤ x) → t.byte x = s.byte x))

/-! ## Core programs: vector instructions -/

/-- VADD, VSUB, VMUL, VFMA, VMAX, VMIN, VRCPS, VRSQS: active lanes take the rounded result, the flags of active lanes are
raised under VFLAGS alone, and nothing else changes (06 R231, R233, R234, R236). -/
def Sys2Proof.Claims.FloatingVectorInstructions : Prop :=
  ∀ e ∈ floatOps, ∀ (s : State) (c : Site) (r : Run) (d a b : Reg) (p : PReg) (sb : Bool),
    s.issuing c r (encRR 4 e.2.1 d a b p (if sb then 8 else 0)) →
    let k := s.core c
    let A := fun l => lane (k.seq.vreg a) l
    let B := operandB k.seq b sb
    let D := fun l => lane (k.seq.vreg d) l
    let fl := vecFlags k.seq r p fun l => laneFlags ([f32 (A l), f32 (B l)] ++ (if e.2.2.2.2 then [f32 (D l)] else []))
      (e.2.2.2.1 (f32 (A l)) (f32 (B l)) (f32 (D l)))
    ∃ t, exec (e.1 c d a b p sb) s = .next t ∧
      OnlyCore s t c { k with seq := k.seq.wroteV d (underPredicate k.seq d p fun l => e.2.2.1 (A l) (B l) (D l)),
                              tile := { k.tile with flags := k.tile.flags.or fl } }

/-- VRCPE, VRSQE, VEXP2E, VLOG2E: active lanes take the estimate, a free value within the bound of 06 R235 (log 8). -/
def Sys2Proof.Claims.EstimateInstructions : Prop :=
  ∀ e ∈ estimateOps, ∀ (s : State) (c : Site) (r : Run) (d a : Reg) (p : PReg),
    s.issuing c r (encRR 4 e.2.1 d a 0 p 0) →
    let k := s.core c
    let fl := vecFlags k.seq r p fun l => laneFlags [f32 (lane (k.seq.vreg a) l)] false
    ∃ t, exec (e.1 c d a p) s = .next t ∧
      OnlyCore s t c { k with seq := k.seq.wroteV d (underPredicate k.seq d p fun l => e.2.2 (lane (k.seq.vreg a) l)),
                              tile := { k.tile with flags := k.tile.flags.or fl } }

/-- VCEQ, VCNE, VCLT, VCLE write every bit of p(D[2:0]), whatever p(P) holds, and p0 takes no write (02 R91, 06 R223, R231, R234). -/
def Sys2Proof.Claims.VectorComparisons : Prop :=
  ∀ e ∈ compareOps, ∀ (s : State) (c : Site) (r : Run) (d a b : Reg) (p : PReg) (sb : Bool), d.val < 8 →
    s.issuing c r (encRR 4 e.2.1 d a b p (if sb then 8 else 0)) →
    let x := (s.core c).seq
    ∃ t v, exec (e.1 c d a b p sb) s = .next t ∧ OnlySeq s t c (x.wroteP d v) ∧
      ∀ l, l < 64 → v.getLsbD l =
        e.2.2 (f32 (lane (x.vreg a) l)) (f32 (operandB x b sb l))

/-- VSEL, the integer and bitwise vector instructions, VLANE and VBCAST (06 R231, R233, R234). -/
def Sys2Proof.Claims.IntegerVectorInstructions : Prop :=
  ∀ (s : State) (c : Site) (r : Run) (d a b : Reg) (p : PReg) (sb : Bool),
    let x := (s.core c).seq
    let A := fun l => lane (x.vreg a) l
    let B := operandB x b sb
    (s.issuing c r (encRR 4 0x14 d a b p (if sb then 8 else 0)) →
      ∃ t, exec (.vsel c d a b p sb) s = .next t ∧
        OnlySeq s t c (x.wroteV d (Vector.ofFn fun l : Fin 64 => if (x.preg p).getLsbD l then A l else B l))) ∧
    (∀ e ∈ integerOps, s.issuing c r (encRR 4 e.2.1 d a b p (if sb then 8 else 0)) →
      ∃ t, exec (e.1 c d a b p sb) s = .next t ∧
        OnlySeq s t c (x.wroteV d (underPredicate x d p fun l => e.2.2 (A l) (B l)))) ∧
    (s.issuing c r (encRR 4 0x20 d 0 0 p 0) →
      ∃ t, exec (.vlane c d p) s = .next t ∧ OnlySeq s t c (x.wroteV d (underPredicate x d p fun l => BitVec.ofNat 32 l))) ∧
    (s.issuing c r (encRR 4 0x21 d a 0 p 0) →
      ∃ t, exec (.vbcast c d a p) s = .next t ∧
        OnlySeq s t c (x.wroteV d (underPredicate x d p fun _ => (x.sreg a).truncate 32)))

/-- PAND, POR, PNOT and PMOV write p(D[2:0]); VMSK copies lanes 0 to 7 into a mask register once no issued TMM names it (05
R208, 06 R223, R231). -/
def Sys2Proof.Claims.PredicateAndMaskInstructions : Prop :=
  ∀ (s : State) (c : Site) (r : Run) (d a b : Reg) (p : PReg),
    let x := (s.core c).seq
    (∀ e ∈ predicateOps, s.issuing c r (encRR 4 e.2.1 d a b p 0) →
      ∃ t, exec (e.1 c d a b p) s = .next t ∧
        OnlySeq s t c (x.wroteP (d.val % 8) (e.2.2 (x.preg (a.val % 8)) (x.preg (b.val % 8))))) ∧
    (s.issuing c r (encRR 4 0x2A d a 0 p 0) →
      ∃ t, exec (.pnot c d a p) s = .next t ∧ OnlySeq s t c (x.wroteP (d.val % 8) (~~~(x.preg (a.val % 8))))) ∧
    (s.issuing c r (encRR 4 0x2B d a 0 p 0) →
      ∃ t, exec (.pmov c d a p) s = .next t ∧ OnlySeq s t c (x.wroteP (d.val % 8) (x.sreg a))) ∧
    (d.val < 16 → s.issuing c r (encRR 4 0x2C d a 0 p 0) →
      (∀ q ∈ (s.core c).tile.queue, q.isTmm = true → twMaskEn q.word = true → twMaskId q.word ≠ d.val) →
      ∃ t m, exec (.vmsk c d a p) s = .next t ∧
        OnlyCore s t c { s.core c with tile := { (s.core c).tile with masks := vset (s.core c).tile.masks d m },
                                       seq := { x with pc := x.pc + 1 } } ∧
        ∀ i, i < 256 → m.getLsbD i = (lane (x.vreg a) (i / 32)).getLsbD (i % 32))

/-- VCVTO packs 64 lanes in FMT and, for a block-scaled FMT, writes the two scales to s29; VCVTI unpacks them (06 R237, R240 to
R243). -/
def Sys2Proof.Claims.ConversionInstructions : Prop :=
  ∀ (s : State) (c : Site) (r : Run) (d a : Reg) (fmt : BitVec 4) (rnd : BitVec 2) (sat sr : Bool),
    fmt.toNat ≤ 0xC → rnd.toNat ≤ 1 → (sr = true → rnd.toNat = 0) →
    let k := s.core c
    (s.issuing c r (encCV 0x00 d a fmt.toNat rnd.toNat (b01 sat) (b01 sr)) →
      let row := convRow fmt.toNat sat ((List.range 64).map fun l => (f32 (lane (k.seq.vreg a) l), cvRnd k r fmt rnd sr l))
      ∃ t, exec (.vcvto c d a fmt rnd sat sr) s = .next t ∧
        OnlyCore s t c { k with
          seq := { k.seq with
            v := vset k.seq.v d (lanesOf (packNat (fmtBits fmt.toNat) row.1))
            s := if fmtScaled fmt.toNat then vset k.seq.s 29 (BitVec.ofNat 64 (packNat 8 row.2.1)) else k.seq.s
            pc := k.seq.pc + 1 }
          tile := { k.tile with flags := k.tile.flags.or row.2.2 } }) ∧
    (s.issuing c r (encCV 0x01 d a fmt.toNat rnd.toNat (b01 sat) (b01 sr)) →
      ∃ t v fl, exec (.vcvti c d a fmt rnd sat sr) s = .next t ∧
        OnlyCore s t c { k with seq := k.seq.wroteV d v, tile := { k.tile with flags := k.tile.flags.or fl } } ∧
        ∀ l : Fin 64, v[l] = (convFloat fp32Fmt (cvRnd k r fmt rnd sr l) sat
          (let e := elemVal fmt.toNat (elemBits (vecBytes (k.seq.vreg a)) (fmtBits fmt.toNat) l)
           if fmtScaled fmt.toNat then
             scaleVal e (bitsOf (k.seq.sreg 29).toNat (8 * (l / 32) + 7) (8 * (l / 32))) else e)).1)

/-- VRSUM, VRMAX, VRMIN: the fixed tree over the 64 lanes, inactive lanes counting as the identity, goes to s(D)[31:0] and s(D)[63:32]
reads zero (06 R238). -/
def Sys2Proof.Claims.LaneReductions : Prop :=
  ∀ e ∈ reduceOps, ∀ (s : State) (c : Site) (r : Run) (d a : Reg) (p : PReg),
    s.issuing c r (encRR 6 e.2.1 d a 0 p 0) →
    let x := (s.core c).seq
    ∃ t, exec (e.1 c d a p) s = .next t ∧
      OnlySeq s t c (x.wroteS d ((tree e.2.2.1
        (fun l => if (x.preg p).getLsbD l then lane (x.vreg a) l else e.2.2.2) 6 0).zeroExtend 64))

/-! ## Core programs: streams, counters, wires, herds, ends -/

/-- SRD, SWR and SFENCE: a count of 0 takes no slot; SRD of an active stream of the item's context and SWR to granted lines take
a slot with their lines and go on; SFENCE goes on with no slot held and waits otherwise (06 R231, R244 to R246, R252). -/
def Sys2Proof.Claims.StreamInstructions : Prop :=
  ∀ (s : State) (c : Site) (r : Run) (d a b : Reg),
    let x := (s.core c).seq
    let n := (x.sreg b).toNat
    let line := (x.sreg a).toNat
    let fits := n ≤ 24576 ∧ line + n ≤ r.extent ∧ x.slots.length < 8
    (s.issuing c r (encRR 7 0x00 d a b 0 0) → n = 0 →
      ∃ t, exec (.srd c d a b) s = .next t ∧ OnlySeq s t c { x with pc := x.pc + 1 }) ∧
    (s.issuing c r (encRR 7 0x00 d a b 0 0) → n ≠ 0 → fits →
      (s.stream (x.sreg d).toNat).phase = .active → (s.stream (x.sreg d).toNat).ctx = r.ctx →
      (s.core c).waits (64 * line) (64 * (line + n)) true = false →
      ∃ t, exec (.srd c d a b) s = .next t ∧
        OnlySeq s t c { x with slots := x.slots ++ [.srd line n (x.sreg d).toNat none], pc := x.pc + 1 }) ∧
    (s.issuing c r (encRR 7 0x01 d a b 0 0) → n = 0 →
      ∃ t, exec (.swr c d a b) s = .next t ∧ OnlySeq s t c { x with pc := x.pc + 1 }) ∧
    (s.issuing c r (encRR 7 0x01 d a b 0 0) → n ≠ 0 → fits →
      (s.core c).waits (64 * line) (64 * (line + n)) false = false →
      (x.sreg d).toNat % 64 = 0 →
      (∀ i, i < n → s.checkLine (s.runWins r) rightW ((x.sreg d).toNat + 64 * i) = none) →
      (∀ l ∈ linesOf (coreAddr c (64 * line)) (64 * n), s.isUe l = false) →
      ∃ t, exec (.swr c d a b) s = .next t ∧
        OnlySeq s t c { x with slots := x.slots ++ [.swr line n (x.sreg d).toNat], pc := x.pc + 1 }) ∧
    (s.issuing c r (encRR 7 0x02 0 0 0 0 0) →
      ∃ t, exec (.sfence c) s = .next t ∧
        OnlySeq s t c (if x.slots = [] then { x with pc := x.pc + 1 } else { x with phase := .waitF }))

/-- CONSUMING_READ delivers the next lines of an active stream to the slot and moves POS on, the stream ending with its last
line; STREAM_OPERATION_COMPLETE moves a slot's lines, to core memory for an SRD and from it for an SWR, and frees the slot (06
R244 to R246, 08 R316 to R318). -/
def Sys2Proof.Claims.StreamSlotEvents : Prop :=
  ∀ (s : State) (c : Site) (r : Run) (i line count : Nat), (s.core c).seq.run = some r →
    (∀ st : Nat, (s.core c).seq.slots[i]? = some (.srd line count st none) →
      let x := s.stream st
      let d := readDesc x.desc
      x.phase = .active → x.ctx = r.ctx → x.pos + count ≤ d.length →
      let f := d.layFor x.lay x.pos (s.core c).arr
      d.checkLines s f (s.runWins r) (some st) x.pos count = none →
      ∃ t data, exec (.consumingRead c i []) s = .next t ∧
        (t.core c).seq.slots = (s.core c).seq.slots.set i (.srd line count st (some data)) ∧
        data = ((List.range count).map fun j => d.lineBytes s (f (x.pos + j)) (x.pos + j)).flatten ∧
        t.stream st = { x with pos := x.pos + count, phase := if x.pos + count = d.length then .ended else .active
                               lay := d.layAfter x.lay x.pos (s.core c).arr (x.pos + count) } ∧
        (∀ y, y ≠ st → t.stream y = s.stream y) ∧ (∀ y, y ≠ c.val → t.core y = s.core y) ∧ (∀ y, t.byte y = s.byte y)) ∧
    (∀ (st : Nat) (data : List Byte), (s.core c).seq.phase = .running → s.siteState c = 0 →
      (∀ j, s.item? r.q r.k = some j → j.status = 0) →
      (s.core c).seq.slots[i]? = some (.srd line count st (some data)) → 64 * line + data.length ≤ coreBytes →
      ∃ t, exec (.streamOperationComplete c i) s = .next t ∧ Stored s t (coreAddr c (64 * line)) data ∧
        (t.core c).seq = { (s.core c).seq with slots := (s.core c).seq.slots.eraseIdx i }) ∧
    (∀ (addr : Nat), (s.core c).seq.phase = .running → (∀ j, s.item? r.q r.k = some j → j.status = 0) →
      (s.core c).seq.slots[i]? = some (.swr line count addr) →
      ∃ t, exec (.streamOperationComplete c i) s = .next t ∧
        Stored s t addr (s.bytes (coreAddr c (64 * line)) (64 * count)) ∧
        (t.core c).seq = { (s.core c).seq with slots := (s.core c).seq.slots.eraseIdx i })

/-- SIG adds to a counter that the context may use; WAITC goes on at once where its condition holds, a claim taking its amount,
and otherwise registers its watch and waits (06 R231, R249, 10 R407, R408, R410, R412 to R417). -/
def Sys2Proof.Claims.CounterInstructions : Prop :=
  ∀ (s : State) (c : Site) (r : Run) (d a b : Reg),
    let x := (s.core c).seq
    let n := (x.sreg d).toNat % 4096
    s.mayUse n r.ctx = true → (∀ w ∈ s.sync.watches, w.counter ≠ n) →
    (s.issuing c r (encRR 8 0x00 d a 0 0 0) → x.sreg a ≠ 0 →
      ∃ t, exec (.sig c d a) s = .next t ∧ t.counter n = s.counter n + x.sreg a ∧
        (∀ m, m ≠ n → t.counter m = s.counter m) ∧ t.core c = { s.core c with seq := { x with pc := x.pc + 1 } } ∧
        (∀ y, y ≠ c.val → t.core y = s.core y) ∧ (∀ y, t.byte y = s.byte y)) ∧
    (∀ mod : BitVec 4, s.issuing c r (encRR 8 0x01 d a b 0 mod.toNat) → mod.toNat % 4 ≠ 3 → mod.toNat < 8 →
      s.sync.watches.length < 16208 → s.sync.waiting = [] →
      let w : Watch := ⟨n, .core c, x.sreg a, mod.toNat % 4, if mod.toNat < 4 then none else some (x.sreg b), s.counter n⟩
      (4 ≤ mod.toNat → mod.toNat % 4 ≠ 2 ∧ x.sreg b ≠ 0) →
      (w.holds (s.counter n) = false →
        ∃ t, exec (.waitc c d a b mod) s = .next t ∧ t.core c = { s.core c with seq := { x with phase := .waitC } } ∧
          t.sync.watches = s.sync.watches ++ [w] ∧ (∀ m, t.counter m = s.counter m) ∧ (∀ y, t.byte y = s.byte y)) ∧
      (w.holds (s.counter n) = true →
        ∃ t, exec (.waitc c d a b mod) s = .next t ∧ t.core c = { s.core c with seq := { x with phase := .running, pc := x.pc + 1 } } ∧
          t.sync.watches = s.sync.watches ∧
          t.counter n = s.counter n - (if mod.toNat < 4 then 0 else x.sreg b) ∧
          (∀ m, m ≠ n → t.counter m = s.counter m) ∧ (∀ y, t.byte y = s.byte y)))

/-- WWAIT takes a set latch or sleeps, WFIRE sets the latch of, or wakes, every other core of the die that runs the same item, and
HBAR arrives and waits, the last arrival counting a generation and letting every arrived core go on (10 R421 to R423, R427 to
R431). -/
def Sys2Proof.Claims.WireAndHerdInstructions : Prop :=
  ∀ (s : State) (c : Site) (r : Run),
    let x := (s.core c).seq
    (∀ imm : BitVec 12, imm.toNat ≤ 15 → s.issuing c r (encRI 8 0x02 0 0 imm.toNat) →
      ∃ t, exec (.wwait c imm) s = .next t ∧
        OnlySeq s t c (if x.wake.getLsbD imm.toNat then { x with wake := x.wake &&& ~~~(1#16 <<< imm.toNat), pc := x.pc + 1 }
          else { x with phase := .waitW imm.toNat })) ∧
    (∀ imm : BitVec 12, imm.toNat ≤ 15 → s.issuing c r (encRI 8 0x03 0 0 imm.toNat) →
      ∃ t, exec (.wfire c imm) s = .next t ∧ t.core c = { s.core c with seq := { x with pc := x.pc + 1 } } ∧
        (∀ y r', y ≠ c.val → y / 64 = c.val / 64 → (s.core y).seq.run = some r' → r'.q = r.q → r'.k = r.k →
          t.core y = { s.core y with seq := if (s.core y).seq.phase = .waitW imm.toNat then (s.core y).seq.resume
            else { (s.core y).seq with wake := (s.core y).seq.wake ||| (1#16 <<< imm.toNat) } }) ∧
        (∀ y, y ≠ c.val → (y / 64 ≠ c.val / 64 ∨ ∀ r', (s.core y).seq.run = some r' → r'.q ≠ r.q ∨ r'.k ≠ r.k) →
          t.core y = s.core y) ∧ (∀ y, t.byte y = s.byte y)) ∧
    (∀ d : Reg, s.issuing c r (encRR 8 0x04 d 0 0 0 0) →
      let h := (x.sreg d).toNat
      let H := s.herd h
      h < 64 → H.kind = 1 → H.ctx = r.ctx → H.mask.getLsbD c = true → c.val ∉ H.arrived →
      ((∃ y ∈ s.participants H, y ∉ H.arrived ∧ y ≠ c.val) →
        ∃ t, exec (.hbar c d) s = .next t ∧ t.herd h = { H with arrived := H.arrived ++ [c.val] } ∧
          t.core c = { s.core c with seq := { x with phase := .waitH } } ∧ (∀ y, y ≠ c.val → t.core y = s.core y)) ∧
      ((∀ y ∈ s.participants H, y ∈ H.arrived ∨ y = c.val) →
        ∃ t, exec (.hbar c d) s = .next t ∧ t.herd h = { H with gen := H.gen + 1, arrived := [] } ∧
          t.core c = { s.core c with seq := { x with phase := .running, pc := x.pc + 1 } } ∧
          (∀ y, y ≠ c.val → y ∉ H.arrived → t.core y = s.core y) ∧
          (∀ y ∈ H.arrived, H.arrived.Nodup → (s.core y).seq.phase = .waitH →
            t.core y = { s.core y with seq := (s.core y).seq.resume })))

/-- The entry of a JOB's image does not lie inside a tile instruction's group but at its first word (06 R230). -/
def Sys2Proof.Claims.goodEntry (s : State) (i : Item) : Prop :=
  ∀ x : SeqState, x.imem = s.imemOf (i.fld 16 8) (i.fld 12 4) → goodTarget x (BitVec.ofNat 14 (i.fld 28 2))

/-- INSTANCE_START gives a free core the next instance of a JOB with the state of 06 R260, and fails the item where its entry lies inside
a tile instruction's group; HALT ends an instance and counts it in PROGRESS, and a word that no table row spells fails its item with
FAILED_MALFORMED (06 R228, R230, R260 to R262). -/
def Sys2Proof.Claims.InstanceStartsAndEnds : Prop :=
  (∀ (s : State) (q : Queue) (k : Nat) (c : Site) (i : Item) (w : JobWork),
    (s.queue q).goes = true → s.item? q k = some i → i.op = 0x11 → i.live = true → i.status = 0 → i.work = .job w →
    w.saved = [] → w.started < i.fld 24 4 → s.coreFree q c = true →
    s.imageFail (i.fld 16 8) (i.fld 12 4) = none → goodEntry s i →
    ∃ t r, exec (.instanceStart q k c) s = .next t ∧ (t.core c).seq.run = some r ∧ r.q = q.val ∧ r.k = k ∧ r.job = true ∧
      r.inst = w.started ∧ (t.core c).seq.phase = .running ∧ (t.core c).seq.pc = BitVec.ofNat 14 (i.fld 28 2) ∧
      (t.core c).seq.p = Vector.replicate 8 (BitVec.allOnes 64) ∧ (t.core c).seq.slots = [] ∧
      (∀ y, y ≠ c.val → t.core y = s.core y)) ∧
  (∀ (s : State) (c : Site) (r : Run) (i : Item) (w : JobWork), s.issuing c r (encCT 0x3F 0 0) →
    (s.core c).seq.slots = [] → (s.core c).tile.queue = [] → (s.core c).seq.outbox.length < 4 →
    s.item? r.q r.k = some i → i.work = .job w →
    ∃ t j, exec (.halt c) s = .next t ∧ (t.core c).seq.run = none ∧ (t.core c).seq.phase = .idle ∧
      (t.core c).seq.outbox = (s.core c).seq.outbox ++ [(r.q, r.k)] ∧ t.item? r.q r.k = some j ∧ j.progress = i.progress + 1 ∧
      (∀ y, y ≠ c.val → t.core y = s.core y) ∧ (∀ y, t.byte y = s.byte y)) ∧
  (∀ (s : State) (c : Site) (r : Run) (i : Item) (w : JobWork), (s.core c).seq.run = some r → (s.core c).issues r = true →
    (s.core c).seq.tileGroup (s.core c).seq.pc.toNat = false → wordOk ((s.core c).seq.word (s.core c).seq.pc.toNat) = false →
    (s.core c).seq.slots ≠ [] → (s.core c).arr.auditRun = none → s.sitesOf r.q r.k = [c.val] → s.item? r.q r.k = some i →
    i.status = 0 → i.phase = .running →
    (∀ d, i.due = some d → s.now.toNat < d) → i.work = .job w →
    ∃ t j, exec (.malformedInstruction c) s = .next t ∧ t.item? r.q r.k = some j ∧ j.status = 0x1D ∧
      j.detail = ((s.lcoreOf c).getD 0x7FF) * 65536 + (if r.job then r.inst else 0) ∧ (t.core c).seq.phase = .stopping)

/-! ## Tiles and the array -/

/-- The instance issues the well-formed tile instruction `w` of a kind, and neither an audit nor a full tile queue holds it back
(03 R136, 04 R145 to R151, 06 R226, R227). -/
def Sys2Proof.Claims.tileIssuing (s : State) (c : Nat) (r : Run) (kind : Nat) (w : TWord) : Prop :=
  let k := s.core c
  k.seq.run = some r ∧ k.issues r = true ∧ k.seq.tileGroup k.seq.pc.toNat = true ∧ k.seq.pc.toNat % 4 = 0 ∧
    k.seq.tileWord k.seq.pc.toNat = w ∧ twTop w = kind ∧ k.arr.audits = false ∧ k.tile.queue.length < 8 ∧
    tileZeros w = true ∧ tileForm w = true

/-- Nothing stands in the tile queue of a core. -/
def Sys2Proof.Claims.tileIdle (k : Core) : Prop := k.tile.queue = []

/-- An earlier instruction of the tile of `w` stands in a queue in which nothing can be done now (04 R163, 06 R226). -/
def Sys2Proof.Claims.tileHeld (k : Core) (w : TWord) : Prop :=
  k.ready = none ∧ ∃ y ∈ k.tile.queue, y.issue < k.tile.issueNo ∧ twAcc y.word = twAcc w

/-- TZERO stamps its tile at once and puts +0 in every element of it once nothing earlier of the tile is in the queue, and touches no
other tile; it waits in the queue behind an earlier instruction of its tile (04 R145, R159, R163, 06 R226). -/
def Sys2Proof.Claims.TileZero : Prop :=
  ∀ (s : State) (c : Site) (r : Run) (w : TWord),
    let k := s.core c
    tileIssuing s c r 0 w →
    (tileIdle k →
      ∃ t u, exec (.tzero c w) s = .next t ∧ OnlyCore s t c u ∧ u.seq = { k.seq with pc := k.seq.pc + 4 } ∧ u.tile.queue = [] ∧
        (∀ acc m n, acc < 4 → m < 256 → n < 96 → u.tile.elem acc m n = if acc = twAcc w then 0 else k.tile.elem acc m n) ∧
        (∀ acc, acc < 4 → u.tile.stamp acc = if acc = twAcc w then twStamp w else k.tile.stamp acc) ∧
        u.tile.masks = k.tile.masks ∧ u.tile.flags = k.tile.flags ∧ u.arr = { k.arr with lastLoad := 0 }) ∧
    (tileHeld k w →
      exec (.tzero c w) s =
        .next (s.putCore c ({ k with tile := k.tile.setStamp (twAcc w) (twStamp w) }.enqueue (newEntry k w s.aclk))))

/-- TMM, whose operands lie in the extent, whose tile has its stamp or is stamped by ZERO, and whose staged tile has its header, enters
the tile queue with a snapshot of its mask; under ZERO it clears the elements that no chunk sum of its will write, once nothing
earlier of the tile is in the queue; with no row to stream it is done there (04 R145 to R163, 05 R208, R209, R211, 06 R226,
R256). -/
def Sys2Proof.Claims.TileMultiplies : Prop :=
  ∀ (s : State) (c : Site) (r : Run) (w : TWord),
    let k := s.core c
    tileIssuing s c r 1 w → operandsFail c r.extent (tmmOperands w) = none →
    (twZero w = true ∨ k.tile.stamp (twAcc w) = twStamp w) → k.slotWait (tmmOperands w) false = false →
    (twTr w = false → s.isUe (coreAddr c (64 * twRaddr w)) = false ∧
      headerOk w (s.bytes (coreAddr c (64 * twRaddr w)) 64) = true) →
    (tileIdle k →
      ∃ t u, exec (.tmm c w) s = .next t ∧ OnlyCore s t c u ∧ u.seq = { k.seq with pc := k.seq.pc + 4 } ∧
        u.tile.queue = (if streamed w (tmmMask k w) = [] then [] else [{ newPass k w s.aclk with clear := false }]) ∧
        (∀ acc, acc < 4 → u.tile.stamp acc = if acc = twAcc w then twStamp w else k.tile.stamp acc) ∧
        (∀ acc m n, acc < 4 → m < 256 → n < 96 → u.tile.elem acc m n =
          if acc = twAcc w ∧ twZero w = true ∧ ¬(m < twM w ∧ (tmmMask k w).getLsbD m = true ∧ n < twN w) then 0
          else k.tile.elem acc m n) ∧
        u.tile.masks = k.tile.masks ∧ u.tile.flags = k.tile.flags ∧
        u.arr = { k.arr with pipe := u.arr.pipe, lastLoad := u.arr.lastLoad }) ∧
    (k.ready = none → (twZero w = true → tileHeld k w) →
      exec (.tmm c w) s = .next (s.putCore c (issueTmm k w s.aclk)))

/-- TACCRD converts the rows of its tile. With DEST 0 it stores them packed from RADDR, with the scales of a block-scaled format from
RSADDR; with DEST 1 it writes vector registers. One that pauses after row m stays in the queue with the rows it has left, and the
next TACCRD command for it writes those. Tiles keep their elements (04 R145, R155 to R157, R161, R189; that commands continue a paused
TACCRD is the model's choice, log 74). -/
def Sys2Proof.Claims.TileReadout : Prop :=
  ∀ (s : State) (c : Site) (r : Run) (w : TWord),
    let k := s.core c
    let len := rowBytes (twN w) (fmtBits (twOfmt w))
    let org := k.seq.sreg (twOrg w)
    let line := fun m => natLe len (packNat (fmtBits (twOfmt w)) (readRow k.tile w org r.seed m).1)
    operandsFail c r.extent (readOperands w) = none → r.extent ≤ 24576 → s.siteState c = 0 → readShape k w false = true →
    k.slotWait (readOperands w) true = false → s.scaleUe c w = none → r.trap = false → tileIdle k → tileIssuing s c r 2 w →
    (twDest w = false → fmtScaled (twOfmt w) = false →
      ∃ t, exec (.taccrd c w none) s = .next t ∧
        Stored s t (coreAddr c (64 * twRaddr w)) ((List.range (twM w)).map line).flatten ∧
        (t.core c).seq = { k.seq with pc := k.seq.pc + 4 } ∧ (t.core c).tile.a = k.tile.a ∧ (t.core c).tile.queue = []) ∧
    (let data := ((List.range (twM w)).map line).flatten
     let scales := ((List.range (twM w)).map fun m => (readRow k.tile w org r.seed m).2.1.map (BitVec.ofNat 8)).flatten
     let at0 := coreAddr c (64 * twRaddr w)
     let at1 := coreAddr c (64 * twRsaddr w)
     twDest w = false → fmtScaled (twOfmt w) = true → (at0 + data.length ≤ at1 ∨ at1 + scales.length ≤ at0) →
      ∃ t, exec (.taccrd c w none) s = .next t ∧ (∀ i, i < data.length → t.byte (at0 + i) = data.getD i 0) ∧
        (∀ i, i < scales.length → t.byte (at1 + i) = scales.getD i 0) ∧
        (∀ a, (a < at0 ∨ at0 + data.length ≤ a) → (a < at1 ∨ at1 + scales.length ≤ a) → t.byte a = s.byte a) ∧
        (t.core c).seq = { k.seq with pc := k.seq.pc + 4 } ∧ (t.core c).tile.a = k.tile.a ∧ (t.core c).tile.queue = []) ∧
    (twDest w = true →
      ∃ t, exec (.taccrd c w none) s = .next t ∧ (∀ a, t.byte a = s.byte a) ∧ (t.core c).tile.a = k.tile.a ∧
        (t.core c).seq.pc = k.seq.pc + 4 ∧ (t.core c).seq.s = k.seq.s ∧ (t.core c).seq.p = k.seq.p ∧
        ∀ m n, m < twM w → n < twN w →
          lane ((t.core c).seq.vreg (twVreg w + 2 * m + n / 64)) (n % 64) =
            BitVec.ofNat 32 ((readRow k.tile w org r.seed m).1[n]?.getD 0)) ∧
    (∀ m : Fin 256, m.val + 1 < twM w → twDest w = false → fmtScaled (twOfmt w) = false →
      ∃ t x, exec (.taccrd c w (some m)) s = .next t ∧ (t.core c).tile.queue = [x] ∧ x.word = w ∧ x.row = m.val + 1 ∧
        x.reading = true ∧ (t.core c).seq = { k.seq with pc := k.seq.pc + 4 } ∧ (t.core c).tile.a = k.tile.a ∧
        Stored s t (coreAddr c (64 * twRaddr w)) ((List.range (m.val + 1)).map line).flatten ∧
        ∃ u, exec (.taccrd c w none) t = .next u ∧ (u.core c).tile.queue = [] ∧ (u.core c).tile.a = k.tile.a ∧
          (u.core c).seq = (t.core c).seq ∧
          Stored s u (coreAddr c (64 * twRaddr w)) ((List.range (twM w)).map line).flatten)

/-- TSAVE stores a tile's elements, five bytes each, then its stamp and zeros, and TRESTORE reads them back into a tile; every
other byte of memory and every other tile stands (04 R145, R165, R166). -/
def Sys2Proof.Claims.TileSaveAndRestore : Prop :=
  ∀ (s : State) (c : Site) (r : Run) (w : TWord),
    let k := s.core c
    let base := coreAddr c (64 * twRaddr w)
    operandsFail c r.extent [(twRaddr w, 122944)] = none → tileIdle k →
    (tileIssuing s c r 3 w → r.extent ≤ 24576 → s.siteState c = 0 → readShape k w true = true →
      k.slotWait [(twRaddr w, 122944)] true = false →
      ∃ t, exec (.tsave c w) s = .next t ∧
        Stored s t base (((List.range 24576).map fun i =>
            natLe 5 (k.tile.elem (twAcc w) (i / 96) (i % 96)).toNat).flatten ++
          natLe 4 (k.tile.stamp (twAcc w)).word ++ List.replicate 60 0) ∧
        (t.core c).seq = { k.seq with pc := k.seq.pc + 4 } ∧ (t.core c).tile.a = k.tile.a) ∧
    (tileIssuing s c r 4 w → k.slotWait [(twRaddr w, 122944)] false = false →
      s.operandUe c [(twRaddr w, 122944)] = none → bitsOf (s.num (base + 122880) 4) 14 8 < 96 →
      ∃ t, exec (.trestore c w) s = .next t ∧ (∀ a, t.byte a = s.byte a) ∧
        (∀ acc m n, acc < 4 → m < 256 → n < 96 → (t.core c).tile.elem acc m n =
          if acc = twAcc w then BitVec.ofNat 34 (s.num (base + 5 * (96 * m + n)) 5) else k.tile.elem acc m n) ∧
        (t.core c).tile.stamp (twAcc w) = stampOf (s.num (base + 122880) 4) ∧
        (t.core c).seq = { k.seq with pc := k.seq.pc + 4 } ∧ (∀ y, y ≠ c.val → t.core y = s.core y))

/-- KEEPER_LOAD, when the load's cycle L has come, reads the keeper of the oldest TMM without one, and its scales, for the idle bank, and
latches it; a TMM whose keeper the latch holds takes that bank and loads nothing (03 R117 to R121, R748, 04 R167 to R169, 05
R201; the cycle that a tick has reached is log 16's). -/
def Sys2Proof.Claims.KeeperLoads : Prop :=
  ∀ (s : State) (c : Site) (x : Pass),
    let k := s.core c
    let w := x.word
    let bank := loadBankOf k.arr x
    let l := k.arr.pipe.loadAt x.cycI bank (twTk w)
    k.active = true → k.arr.audits = false →
    k.tile.queue.find? (fun y => y.isTmm && decide (y.phase = .waiting)) = some x →
    (k.arr.reuses w = none → k.tile.loadWaits x bank = false → s.reached l = true →
      s.operandUe c [(twKaddr w, twKeeperBytes w), (twKsaddr w, twKscaleBytes w)] = none →
      let a := if twTk w then fillKeeper s c w k.arr else k.arr
      let sc := keeperScales s c w
      let y := { x with phase := .loaded, bank := bank, cycL := max l s.aclk, kscales := sc, keeper := keeperRows s c w a x.krow }
      ∃ t, exec (.keeperLoad c) s = .next t ∧
        OnlyCore s t c { k with
          arr := { a with pipe := a.pipe.loaded (max l s.aclk) (a.loadLen (twWide w)) (twTk w), lastLoad := bank
                          kLatch := some (kLatchOf w bank sc) }
          tile := k.tile.setPass y }) ∧
    (∀ e, k.arr.reuses w = some e →
      ∃ t, exec (.keeperLoad c) s = .next t ∧
        OnlyCore s t c { k with tile := k.tile.setPass { x with phase := .loaded, reuse := true, bank := e.bank
                                                                kscales := e.scales } })

/-- PASS_START, when the pass's cycle S has come, makes its bank active and its rows stream with their chunk sums on their way, and
counts the pass; a staged tile of another epoch is refused, and counted. RESTAGE lays such a tile out again from its source (03 R97,
R120, R126 to R130, R135, R142, 04 R163, 05 R201; where the header's profile is not the core's the sums hold free values, log
75). -/
def Sys2Proof.Claims.PassStarts : Prop :=
  ∀ (s : State) (c : Site) (x : Pass),
    let k := s.core c
    let w := x.word
    let cyc := k.arr.startAt x
    let epoch := s.num (coreAddr c (64 * twRaddr w) + 2) 2
    k.active = true → k.tile.nextPass = some x →
    (k.arr.audits = false → x.phase = .loaded → k.tile.startWaits x = false → s.reached cyc = true →
      (twTr w = true ∨ epoch = k.arr.epoch.toNat) → s.passUe c x k.arr = none →
      ∃ t y, exec (.passStart c) s = .next t ∧ t.core c = startPass s c k x (max cyc s.aclk) ∧ (t.core c).tile = k.tile.setPass y ∧
        y.issue = x.issue ∧ y.word = w ∧ y.phase = .streaming ∧ y.cycS = max cyc s.aclk ∧ y.sums = passSums s c x (k.arr.armed s c x) ∧
        (t.core c).arr.active = x.bank ∧ (t.core c).arr.passes = min 0x100000 (k.arr.passes + 1) ∧ (t.core c).seq = k.seq ∧
        t.freeCount = (if x.skewed s c k.arr then s.freeCount + 1 else s.freeCount) ∧
        (∀ y, y ≠ c.val → t.core y = s.core y) ∧ (∀ a, t.byte a = s.byte a)) ∧
    (k.arr.audits = false → x.phase = .loaded → k.tile.startWaits x = false → s.reached cyc = true →
      twTr w = false → epoch ≠ k.arr.epoch.toNat →
      ∃ t, exec (.passStart c) s = .next t ∧
        t.core c = { k with arr := { k.arr with restages := sat32 k.arr.restages 1 }
                            tile := k.tile.setPass { x with phase := .restage } } ∧
        (∀ y, y ≠ c.val → t.core y = s.core y) ∧ (∀ a, t.byte a = s.byte a)) ∧
    (∀ r : Run, k.seq.run = some r → x.phase = .restage →
      let src := s.num (coreAddr c (64 * twRaddr w) + 16) 8
      let stride := s.num (coreAddr c (64 * twRaddr w) + 24) 4
      (∀ m, m < twM w → s.checkReads (s.runWins r) (src + m * stride) ((twK w * fmtBits (twRfmt w) + 7) / 8) = none) →
      ∃ t, exec (.restage c) s = .next t ∧
        Stored s t (coreAddr c (64 * twRaddr w))
          (tileBytes s k.arr (twRfmt w) (twM w) (twK w) (fmtBits (twRfmt w)) (twC w) src stride (twSteps w)) ∧
        (t.core c).tile = k.tile.setPass { x with phase := .loaded } ∧ (t.core c).seq = k.seq)

/-- CHUNK_SUM_WRITE, when the cycle of (m, n) has come and nothing but TMMs of the tile stands before the pass, adds the oldest pass's
chunk sum for (m, n) into that element alone, rounding once; a ZERO pass takes the sum itself. With its last sum a pass alone in the
queue leaves it (03 R111 to R115, R122, 04 R163). -/
def Sys2Proof.Claims.ChunkSumWrite : Prop :=
  ∀ (s : State) (c : Site) (x : Pass) (y : ChunkSum) (m : Fin 256) (n : Fin 96),
    let k := s.core c
    let rest := x.sums.filter fun z => !(decide (z.m = m.val ∧ z.n = n.val))
    k.tile.queue.find? (fun x => x.sums.any fun y => decide (y.m = m.val ∧ y.n = n.val)) = some x →
    x.sums.find? (fun y => decide (y.m = m.val ∧ y.n = n.val)) = some y →
    (∀ z ∈ k.tile.earlier x, z.isTmm = true) → s.reached (x.writeAt k.arr m n) = true →
    (rest ≠ [] ∨ (k.tile.queue = [x] ∧ x.phase = .streaming ∧
      ∀ r, k.seq.run = some r → r.trap = false ∧ ∀ i, s.item? r.q r.k = some i → i.status = 0)) →
    ∃ t, exec (.chunkSumWrite c m n) s = .next t ∧
      (∀ acc i j, acc < 4 → i < 256 → j < 96 → (t.core c).tile.elem acc i j =
        if acc = twAcc x.word ∧ i = m.val ∧ j = n.val then (addTile (twZero x.word) (k.tile.elem acc i j) y).1
        else k.tile.elem acc i j) ∧
      (t.core c).tile.queue.map (·.sums) = (if rest = [] then [] else k.tile.queue.map fun z => if z.issue = x.issue then rest else z.sums) ∧
      (t.core c).seq = k.seq ∧ (∀ z, z ≠ c.val → t.core z = s.core z) ∧ (∀ a, t.byte a = s.byte a)

/-- AUDIT_DUE, AUDIT_NOW and ROW_AUDIT: an audit falls due after 2^20 passes or on demand, and begins once no chunk sum is in
flight, when the pass count starts anew and TMMs that wait load their keepers again (03 R135 to R137; that it waits while its core is
stopping is the model's choice, log 76). -/
def Sys2Proof.Claims.AuditsFallDueAndBegin : Prop :=
  ∀ (s : State) (c : Site),
    let k := s.core c
    (k.arr.passes = 0x100000 → k.arr.auditDue = false → k.arr.auditRun = none →
      ∃ t, exec (.auditDue c) s = .next t ∧ OnlyCore s t c { k with arr := { k.arr with auditDue := true } }) ∧
    (s.barOpen = true → k.arr.audits = false →
      ∃ t, exec (.auditNow c) s = .next t ∧ OnlyCore s t c { k with arr := { k.arr with auditDue := true } }) ∧
    (k.arr.auditDue = true → k.seq.phase ≠ .stopping → (∀ x ∈ k.tile.queue, x.sums = []) →
      ∃ t, exec (.rowAudit c) s = .next t ∧ (t.core c).arr.auditRun = some s.now ∧ (t.core c).arr.auditDue = false ∧
        (t.core c).arr.passes = 0 ∧ (t.core c).arr.kLatch = none ∧ (t.core c).arr.rLatch = [] ∧ (t.core c).seq = k.seq ∧
        (t.core c).tile.a = k.tile.a ∧ (∀ x ∈ (t.core c).tile.queue, x.isTmm = true → x.phase = .streaming ∨ x.phase = .waiting) ∧
        (∀ y, y ≠ c.val → t.core y = s.core y) ∧ (∀ a, t.byte a = s.byte a))

/-- AUDIT_END, where no queued tile instruction can be done and no stop was held off: an audit that finds no new failed row reports
PASS and dates the last clean audit; one that finds failed rows only among the spares marks them failed and reports the first, with one
log entry each. A stop of an instance that was held off takes effect as a clean audit ends (03 R136 to R142). -/
def Sys2Proof.Claims.AuditsEnd : Prop :=
  ∀ (s : State) (c : Site) (rows : BitVec 100) (began : DWord),
    let k := s.core c
    let fresh := rows &&& ~~~(k.arr.failed ||| k.arr.newFailed)
    k.arr.auditRun = some began →
    (∀ r, fresh = 0 → k.seq.run = some r → k.seq.stop = .save → k.seq.phase = .running → k.tile.queue = [] →
      (∀ i, s.item? r.q r.k = some i → i.status = 0) →
      ∃ t, exec (.auditEnd c rows) s = .next t ∧ (t.core c).arr.auditRun = none ∧ (t.core c).arr.auditBad = false ∧
        (t.core c).seq = { k.seq with phase := .stopping } ∧ (∀ y, y ≠ c.val → t.core y = s.core y)) ∧
    ((k.seq.run = none ∨ (k.seq.stop = .none ∧ k.ready = none)) →
    (fresh = 0 →
      ∃ t, exec (.auditEnd c rows) s = .next t ∧ (t.core c).arr.auditRun = none ∧ (t.core c).arr.auditBad = false ∧
        (t.core c).arr.auditDtc = began ∧ (t.core c).arr.firstFail = 0x7F ∧ (t.core c).arr.failed = k.arr.failed ∧
        t.fault.seq = s.fault.seq ∧ (t.core c).seq = k.seq ∧ (∀ y, y ≠ c.val → t.core y = s.core y)) ∧
    (fresh ≠ 0 → (∀ i, i < 100 → fresh.getLsbD i = true → k.arr.rowState i ≠ 0) →
      ∃ t, exec (.auditEnd c rows) s = .next t ∧ (t.core c).arr.auditRun = none ∧ (t.core c).arr.auditBad = true ∧
        (t.core c).arr.auditDtc = k.arr.auditDtc ∧ (t.core c).arr.failed = k.arr.failed ||| fresh ∧
        fresh.getLsbD (t.core c).arr.firstFail = true ∧ (∀ i, i < (t.core c).arr.firstFail → fresh.getLsbD i = false) ∧
        t.fault.seq = s.fault.seq + BitVec.ofNat 64 ((List.range 100).filter fun i => fresh.getLsbD i).length ∧
        (t.core c).seq = k.seq ∧ (∀ y, y ≠ c.val → t.core y = s.core y)))

/-- PROMOTION bypasses the newly failed rows, advances the skew epoch by their number and makes an audit due; CORE_LOSS of an idle
core is logged under class 0x0010 and makes its site failed; ITEM_RETRY restarts a lost part of a JOB on a free core that is not the
lost one (03 R123 to R125, R140, 14 R563, R565, 01 R32). -/
def Sys2Proof.Claims.PromotionLossAndRetry : Prop :=
  (∀ (s : State) (c : Site),
    let k := s.core c
    k.arr.newFailed ≠ 0 → k.seq.run = none → k.arr.auditRun = none → s.siteState c ≠ 2 →
    ∃ t, exec (.promotion c) s = .next t ∧ (t.core c).arr.failed = k.arr.failed ||| k.arr.newFailed ∧
      (t.core c).arr.newFailed = 0 ∧ (t.core c).arr.auditDue = true ∧
      (t.core c).arr.epoch = k.arr.epoch + BitVec.ofNat 16 ((List.range 100).filter fun i => k.arr.newFailed.getLsbD i).length ∧
      (t.core c).seq = k.seq ∧ (∀ y, y ≠ c.val → t.core y = s.core y) ∧ (∀ a, t.byte a = s.byte a)) ∧
  (∀ (s : State) (c : Site) (cause : Fin 4), cause.val = 1 ∨ cause.val = 2 → s.serving = true → s.siteState c ≠ 2 →
    (s.core c).seq.run = none → s.sync.herds = [] →
    ∃ t, exec (.coreLoss c cause) s = .next t ∧ t.siteState c = 2 ∧ t.fault.seq = s.fault.seq + 1 ∧
      (∃ e, t.fault.log.getLast? = some e ∧ e.cls = 0x10 ∧ e.unit = c.val ∧ e.arg1.toNat = cause.val) ∧
      (∀ a, t.mem = s.mem ∧ t.core a = s.core a)) ∧
  (∀ (s : State) (q : Queue) (k : Nat) (c : Site) (i : Item) (w : JobWork),
    s.item? q k = some i → i.live = true → i.status = 0 → (s.queue q).goes = true → i.work = .job w → s.coreFree q c = true →
    (∀ (n : Lost) (rest : List Lost), w.again = n :: rest → s.lcoreOf c ≠ some n.lcore →
      s.imageFail (i.fld 16 8) (i.fld 12 4) = none → goodEntry s i →
      ∃ t r, exec (.itemRetry q k c) s = .next t ∧ (t.core c).seq.run = some r ∧ r.inst = n.inst ∧ r.q = q.val ∧ r.k = i.k ∧
        (t.core c).seq.phase = .running ∧ (t.core c).seq.pc = BitVec.ofNat 14 (i.fld 28 2) ∧ logged s t 0x12 c ∧
        (∀ y, y ≠ c.val → t.core y = s.core y)) ∧
    ((∀ n ∈ w.again, s.lcoreOf c = some n.lcore) → exec (.itemRetry q k c) s = .next s))

/-- CONTEXT_SAVE: a stopped and drained core of a preempted item is free, its latches clear; a JOB's core has written its save area and
its core-memory image at the place that its context and logical core name, and its item holds what the resume needs (04 R170, R178 to
R182, R188, 06 R263, R265). -/
def Sys2Proof.Claims.ContextSave : Prop :=
  ∀ (s : State) (c : Site) (r : Run) (lc k : Nat) (i : Item),
    (s.core c).seq.run = some r → s.lcoreOf c = some lc → s.item? r.q r.k = some i → i.status = 0 →
    (s.core c).seq.phase = .stopping → (s.core c).seq.slots = [] → (∀ x ∈ (s.core c).tile.queue, x.sums = []) →
    (s.core c).arr.auditRun = none → (s.queue r.q).st = .preempting → k = s.saveRegion r.ctx lc →
    ∃ t, exec (.contextSave c) s = .next t ∧ (t.core c).seq.run = none ∧ (t.core c).seq.phase = .idle ∧
      (t.core c).tile = TileState.reset ∧ (t.core c).arr = (s.core c).arr.clearLatches ∧
      (r.extent ≤ 24576 → k + 0x210000 ≤ coreBase → ∀ y, y ≠ c.val → t.core y = s.core y) ∧
      (∀ w, i.work = .job w → ∃ j, t.item? r.q r.k = some j ∧
        j.work = .job { w with saved := w.saved ++ [savedRun lc r (s.core c)] }) ∧
      (r.job = true → ∃ u, Stored s u k (saveArea (s.core c) r) ∧
        Stored u t (k + 0x90000) (s.bytes (coreAddr c 0) (64 * r.extent)))

/-- A stop of a running instance whose core runs no audit: a TACCRD that has written rows is recorded with the row after the last (04
R188, R189; that it is recorded before a TMM is the model's choice, log 71); else the oldest TMM that has rows left is, with the row
after the last that has begun where its keeper is complete, and with 0 and its keeper rows where it is not (04 R185 to R188). PC and
the registers stand, and what the instance waits on is withdrawn (06 R250, R263). -/
def Sys2Proof.Claims.StopsRecordAnInstruction : Prop :=
  ∀ (s : State) (c : Site), (s.core c).arr.auditRun = none → (s.core c).seq.phase = .running →
    let k := s.core c
    let t := (s.stopSave c).core c
    t.seq = { k.seq with phase := .stopping, stop := .save } ∧ t.tile.a = k.tile.a ∧ t.tile.flags = k.tile.flags ∧
      (∀ y, y ≠ c.val → (s.stopSave c).core y = s.core y) ∧ (∀ a, (s.stopSave c).byte a = s.byte a) ∧
      (∀ x, k.tile.queue.find? Pass.reading = some x →
        t.tile.interrupted = true ∧ t.tile.insn = x.word ∧ t.tile.rowStart = x.row ∧ t.tile.krowStart = 0) ∧
      (∀ x, k.tile.queue = [x] → x.isTmm = true → x.phase = .waiting → k.arr.reuses x.word = none →
        t.tile.interrupted = true ∧ t.tile.insn = x.word ∧ t.tile.krowStart = x.krow ∧
          t.tile.rowStart = (if x.krow < 96 then 0 else x.row)) ∧
      (∀ x, k.tile.queue = [x] → x.isTmm = true → x.phase = .streaming →
        (x.begun s.aclk = 0 → x.rows ≠ [] →
          t.tile.interrupted = true ∧ t.tile.insn = x.word ∧ t.tile.krowStart = 96 ∧ t.tile.rowStart = x.row) ∧
        (∀ n, x.begun s.aclk = n + 1 → n + 1 < x.rows.length →
          t.tile.interrupted = true ∧ t.tile.insn = x.word ∧ t.tile.krowStart = 96 ∧ t.tile.rowStart = x.rows.getD n 0 + 1) ∧
        (x.rows.length ≤ x.begun s.aclk → t.tile.interrupted = false ∧ t.tile.insn = 0))

/-! ## Queues: acceptance, starts, ends, records -/

/-- The item as it stands when it has been started and its command read (09 R372, R381). -/
def Sys2Proof.Claims.begun (s : State) (i : Item) : Item :=
  { i with phase := .running, startDtc := some (i.startDtc.getD s.now), cmd := s.bytes i.addr (16 * i.len) }

/-- Item `k` of queue `q`, of opcode `op`, is the one that starts now, and its command passes the common checks: it has the
opcode's LENGTH, it can be read, its fields are as `fields` asks, and it may use its completion counter (09 R347, R353, R369,
R371, R374, 10 R410). -/
def Sys2Proof.Claims.starts (s : State) (q k op : Nat) (fields : Item → List (Nat × Bool)) (i : Item) : Prop :=
  s.startable q k = some i ∧ i.op = op ∧ lengthOk op i.len = true ∧ s.cmdFail i = none ∧ (begun s i).badField (fields (begun s i)) = none ∧
    s.csigFail (begun s i) = none

/-- In `t` item `k` of queue `q` has ended with a status and a PROGRESS, and every other item and queue is as in `s`. -/
def Sys2Proof.Claims.ended (s t : State) (q k st pr : Nat) : Prop :=
  (∃ j, t.item? q k = some j ∧ j.phase = .ended ∧ j.status = st ∧ j.progress = pr ∧ j.endDtc = s.now) ∧
    (∀ x, x ≠ k → t.item? q x = s.item? q x) ∧ (∀ y, y ≠ q → t.queue y = s.queue y)

/-- In `t` item `k` of queue `q` is `j`, and every other item and queue is as in `s`. -/
def Sys2Proof.Claims.itemNow (s t : State) (q k : Nat) (j : Item) : Prop :=
  t.item? q k = some j ∧ (∀ x, x ≠ k → t.item? q x = s.item? q x) ∧ (∀ y, y ≠ q → t.queue y = s.queue y)

/-- An item that has done no work and raised no flag. -/
def Sys2Proof.Claims.fresh (i : Item) : Prop := i.work = .none ∧ i.fl.counts = false

/-- The items that only order others: opcode and the fields that must be zero. -/
def Sys2Proof.Claims.orderOps : List ((Queue → Nat → Instr) × Nat) := [(.nop, 0x03), (.fence, 0x04), (.preemptPoint, 0x08)]

/-- NOP, FENCE and PREEMPT_POINT complete as they start, with PROGRESS 1 and their completion signal; SIGNAL adds its amount first
(09 R374 to R376, R397, 10 R408). -/
def Sys2Proof.Claims.OrderingItemsComplete : Prop :=
  ∀ (s : State) (q : Queue) (k : Nat) (i : Item), fresh i → (i.csig = none ∨ s.sync.watches = []) →
    (∀ e ∈ orderOps, starts s q k e.2 (fun i => [i.zero 8 8]) i →
      ∃ t, exec (e.1 q k) s = .next t ∧ ended s t q k 0 1 ∧
        (∀ c, t.counter c = s.counter c + (if i.csig = some c then 1 else 0)) ∧ t.mem = s.mem ∧ t.cores = s.cores) ∧
    (let j := begun s i
     let n := j.fld 8 2
     let a := BitVec.ofNat 64 (j.fld 16 8)
     starts s q k 0x05 (fun i => [(8, decide (4096 ≤ i.fld 8 2)), i.zero 10 6, (16, decide (i.fld 16 8 = 0)), i.zero 24 8]) i →
     s.mayUse n i.ctx = true → s.sync.watches = [] →
      ∃ t, exec (.signal q k) s = .next t ∧ ended s t q k 0 1 ∧
        (∀ c, t.counter c = s.counter c + (if c = n then a else 0) + (if i.csig = some c then 1 else 0)) ∧
        t.mem = s.mem ∧ t.cores = s.cores)

/-- WAIT completes at once, a claim taking its amount, where its condition holds; else it registers a watch and runs on (09 R374,
10 R412 to R417). -/
def Sys2Proof.Claims.WaitItem : Prop :=
  ∀ (s : State) (q : Queue) (k : Nat) (i : Item), fresh i →
    let j := begun s i
    let n := j.fld 8 2
    let claim := (j.fld 10 1).testBit 2
    let w : Watch := ⟨n, .item q k, BitVec.ofNat 64 (j.fld 16 8), j.fld 10 1 % 4,
      if claim then some (BitVec.ofNat 64 (j.fld 24 8)) else none, s.counter n⟩
    starts s q k 0x06 (fun i =>
      [(8, decide (4096 ≤ i.fld 8 2)),
       (10, decide (8 ≤ i.fld 10 1 ∨ i.fld 10 1 % 4 = 3) || ((i.fld 10 1).testBit 2 && decide (i.fld 10 1 % 4 = 2))), i.zero 11 5,
       (24, (i.fld 10 1).testBit 2 == decide (i.fld 24 8 = 0))]) i →
    s.mayUse n i.ctx = true → s.sync.waiting = [] →
    (s.sync.watches.length < 16208 → w.holds (s.counter n) = false →
      ∃ t, exec (.wait q k) s = .next t ∧ itemNow s t q k { j with work := .wait } ∧
        t.sync.watches = s.sync.watches ++ [w] ∧ (∀ c, t.counter c = s.counter c) ∧ t.mem = s.mem ∧ t.cores = s.cores) ∧
    (s.sync.watches = [] → w.holds (s.counter n) = true →
      ∃ t, exec (.wait q k) s = .next t ∧ ended s t q k 0 1 ∧ t.sync.watches = [] ∧
        (∀ c, t.counter c = s.counter c - (if c = n then w.claim.getD 0 else 0) + (if i.csig = some c then 1 else 0)) ∧
        t.mem = s.mem ∧ t.cores = s.cores)

/-- BARRIER arrives at its fabric herd: on the master the arrival is counted, and the last one counts a generation and completes
the item; elsewhere an ARRIVE message with the generation goes to the master, and the item runs on (09 R374, 10 R430, R431, R434). -/
def Sys2Proof.Claims.BarrierItem : Prop :=
  ∀ (s : State) (q : Queue) (k : Nat) (i : Item), fresh i →
    let j := begun s i
    let h := j.fld 8 1
    let x := s.herd h
    starts s q k 0x07 (fun i => [(8, decide (64 ≤ i.fld 8 1)), i.zero 9 7]) i → x.kind = 2 → x.ctx = i.ctx →
    (x.master = s.device → (∃ d ∈ x.members, d ∉ x.arrived ∧ d ≠ s.device) →
      ∃ t, exec (.barrier q k) s = .next t ∧ itemNow s t q k { j with work := .barrier h x.gen } ∧
        t.herd h = { x with arrived := x.arrived ++ [s.device] } ∧ t.mem = s.mem) ∧
    (x.master = s.device → (∀ d ∈ x.members, d ∈ x.arrived ∨ d = s.device) → s.sync.watches = [] →
      ∃ t, exec (.barrier q k) s = .next t ∧ ended s t q k 0 1 ∧ (t.herd h).gen = x.gen + 1 ∧ (t.herd h).arrived = []) ∧
    (∀ p, x.master ≠ s.device → s.route (Fin.ofNat 512 s.device) (Fin.ofNat 512 x.master) (0 : Fin 32) = .port p →
      s.route s.device x.master 0 = .port p →
      ∃ t, exec (.barrier q k) s = .next t ∧ itemNow s t q k { j with work := .barrier h x.gen } ∧ t.herd h = x ∧
        .msg p 0x30 ⟨0, Fin.ofNat 512 s.device, Fin.ofNat 512 x.master, BitVec.ofNat 16 h, x.gen⟩ [] ∈ t.sent)

/-- LIST_ACCEPTANCE takes a list that every check of 09 R369 passes and that fits: the items get consecutive numbers, LSEQ counts
on, and one ACCEPT record goes to the ring; a list that fails a check changes no number, and leaves its reason and offset in
QE_Q_REFUSE with the queue STOPPED; a LINK word of 0 is watched (09 R364 to R370, R379, R380). -/
def Obligations.ListsAcceptedOrRefused : Prop :=
  ∀ (s : State) (q : Queue),
    let x := s.queue q
    s.serving = true → s.fault.alwaysOn = false → s.draining = false →
    (∀ a l, x.st = .running → x.pos = .list a → (s.readList q a).fails = [] → (s.readList q a).link = some l →
      x.items.length + (s.readList q a).cmds.length ≤ 4096 → x.held = [] → x.hostRing = true → s.ringBar q = .open →
      x.irq.toNat.testBit 31 = false →
      let n := (s.readList q a).cmds.length
      ∃ t, exec (.listAcceptance q) s = .next t ∧ (t.queue q).aseq = x.aseq + n ∧ (t.queue q).lseq = x.lseq + 1 ∧
        (t.queue q).items = x.items ++ s.newItems q a (s.readList q a).cmds ∧
        (s.newItems q a (s.readList q a).cmds).map (·.k) = (List.range n).map (x.aseq + 1 + ·) ∧
        (t.queue q).written = x.written + 1 ∧ (t.queue q).rseq = x.rseq ∧
        t.sent = s.sent ++ [.hostWrite (s.qOwner q) x.entryAddr
          (x.withPhase (mkRecord (x.aseq + 1) q 1 0 0 (s.num (a + 4) 4) 0 n (x.lseq % 2 ^ 32)))] ∧
        (∀ y, y ≠ q.val → t.queue y = s.queue y) ∧ (∀ b, t.byte b = s.byte b)) ∧
    (∀ a f, x.st = .running → x.pos = .list a → worst (s.readList q a).fails = some f →
      ∃ t, exec (.listAcceptance q) s = .next t ∧ (t.queue q).st = .stopped ∧
        (t.queue q).refuse = BitVec.ofNat 32 (f.1 * 2 ^ 24 + f.2) ∧ (t.queue q).aseq = x.aseq ∧ (t.queue q).lseq = x.lseq ∧
        (t.queue q).items = x.items ∧ (∀ y, y ≠ q.val → (t.queue y).items = (s.queue y).items)) ∧
    (∀ a, x.st = .running → x.pos = .link a → s.num a 8 = 0 →
      ∃ t, exec (.listAcceptance q) s = .next t ∧ OnlyQueue s t q { x with pos := .watch a })

/-- ITEM_COMPLETION gives an item whose work has ended DONE, DONE_FLAGGED where a counted flag is raised, or FAILED_DEADLINE from D
on, and sends its completion signal unless it failed (09 R375, R376, R378, R394, 02 R88). -/
def Sys2Proof.Claims.ItemsComplete : Prop :=
  ∀ (s : State) (q : Queue) (k : Nat) (i : Item), s.item? q k = some i → i.phase = .workDone → i.status = 0 → i.ke? = none →
    i.upd? = none → i.op ≠ 6 → i.op ≠ 7 → (i.csig = none ∨ s.sync.watches = []) → ¬(0x30 ≤ i.op ∧ i.op ≤ 0x33) →
    let st := if i.late s.now then 0x14 else if i.fl.counts then 1 else 0
    ∃ t, exec (.itemCompletion q k) s = .next t ∧ ended s t q k st i.progress ∧
      (∀ c, t.counter c = s.counter c + (if i.csig = some c ∧ st ≤ 1 then 1 else 0)) ∧ t.mem = s.mem

/-- RECORD_RELEASE and COMPLETION_RING_RETRY: final records leave in the order of item numbers, one at a time, as the ring has
room; RSEQ, TAIL and TIME count on with a final record, and the item is gone (09 R377, R385 to R390, R392). -/
def Sys2Proof.Claims.RecordsReleased : Prop :=
  ∀ (s : State) (q : Queue),
    let x := s.queue q
    x.refusals = [] → s.ringBar q = .open → x.irq.toNat.testBit 31 = false →
    (∀ i, x.hostRing = false → x.held = [] → x.item? (x.rseq + 1) = some i → i.phase = .ended →
      ∃ t, exec (.recordRelease q) s = .next t ∧ Stored s t x.entryAddr (x.withPhase (i.record q)) ∧ t.sent = s.sent ∧
        (t.queue q).rseq = (x.rseq + 1) % 2 ^ 64 ∧ (t.queue q).written = x.written + 1 ∧
        (t.queue q).time = min (2 ^ 64 - 1) (x.time + i.elapsed) ∧ (t.queue q).aseq = x.aseq ∧
        (∀ y, y ≠ q.val → (t.queue y).items = (s.queue y).items)) ∧
    (∀ i, x.hostRing = true → x.held = [] → x.item? (x.rseq + 1) = some i → i.phase = .ended →
      ∃ t, exec (.recordRelease q) s = .next t ∧
        t.sent = s.sent ++ [.hostWrite (s.qOwner q) x.entryAddr (x.withPhase (i.record q))] ∧
        (t.queue q).rseq = (x.rseq + 1) % 2 ^ 64 ∧ (t.queue q).written = x.written + 1 ∧
        (t.queue q).time = min (2 ^ 64 - 1) (x.time + i.elapsed) ∧ (t.queue q).aseq = x.aseq ∧
        (∀ y, y ≠ q.val → t.queue y = s.queue y) ∧ (∀ b, t.byte b = s.byte b)) ∧
    (∀ i, x.held = [] → x.item? (x.rseq + 1) = some i → i.phase ≠ .ended → exec (.recordRelease q) s = .next s) ∧
    (∀ r, x.hostRing = true → x.held = [r] → s.started = true → x.ringHeld = true → 100000 ≤ (s.now - x.heldAt).toNat →
      ∃ t, exec (.completionRingRetry q) s = .next t ∧
        t.sent = s.sent ++ [.hostWrite (s.qOwner q) x.entryAddr (x.withPhase r)] ∧
        (t.queue q).held = [] ∧ (t.queue q).written = x.written + 1 ∧ (∀ y, y ≠ q.val → t.queue y = s.queue y)) ∧
    ((x.ringHeld = false ∨ (s.now - x.heldAt).toNat < 100000) → exec (.completionRingRetry q) s = .next s)

/-- IRQ_HOLD_EXPIRY sends the queue's message HOLD ticks after its first unreported record, and DEADLINE ends an item of the list
that has no status yet with FAILED_DEADLINE (09 R391, R393, R394). -/
def Sys2Proof.Claims.HoldAndDeadlineExpire : Prop :=
  ∀ (s : State) (q : Queue),
    let x := s.queue q
    (∀ d, x.irqFirst = some d → x.irq.toNat.testBit 31 = true → 0 < bitsOf x.irq.toNat 11 0 →
      bitsOf x.irq.toNat 11 0 ≤ (s.now - d).toNat → (s.pcie (s.qOwner q)).masked (bitsOf x.irq.toNat 30 20) = false →
      ∃ t, exec (.irqHoldExpiry q) s = .next t ∧ t.queue q = { x with irqCount := 0, irqFirst := none } ∧
        t.sent = s.sent ++ [.msix (s.qOwner q) (bitsOf x.irq.toNat 30 20)] ∧ (∀ y, y ≠ q.val → t.queue y = s.queue y)) ∧
    (∀ (l : Nat) (i : Item), s.serving = true → x.items = [i] → i.lseq = l → i.undecided = true → i.late s.now = true →
      s.sitesOf q i.k = [] → (i.work = .none ∨ ∃ r o, i.work = .copy r o) → ¬(0x30 ≤ i.op ∧ i.op ≤ 0x33) →
      ∃ t, exec (.deadline q l) s = .next t ∧ ended s t q i.k 0x14 i.progress)

/-! ## Queue commands -/

/-- START begins an IDLE or STOPPED queue of its owner at QE_Q_START with an empty ring from IDLE; QE_Q_START taken by another
port, or in another state, does nothing (09 R364, R388, R389, R401, 14 R572). -/
def Sys2Proof.Claims.StartCommand : Prop :=
  ∀ (s : State) (p : Port) (q : Queue),
    let x := s.queue q
    (s.commanding = true → s.qOwner q = p → x.st = .idle → s.ringOk x = true →
      ∃ t, exec (.start p q) s = .next t ∧
        OnlyQueue s t q { x with st := .running, pos := .list x.start.toNat, head := 0, written := 0 }) ∧
    (s.commanding = true → s.qOwner q = p → x.st = .stopped → s.ringOk x = true →
      ∃ t, exec (.start p q) s = .next t ∧ OnlyQueue s t q { x with st := .running, pos := .list x.start.toNat }) ∧
    ((s.qOwner q ≠ p ∨ (x.st ≠ .idle ∧ x.st ≠ .stopped)) → exec (.start p q) s = .next s)

/-- PREEMPT_NOW, PREEMPT_AT_POINT, RESUME and ABORT, for the owner and in the states of 09 R401: a request on an engine that
runs no instances waits for its next point; with nothing running the queue is PREEMPTED at once; RESUME runs it on; ABORT ends
what has not started with FAILED_PREEMPT_ABORT and stops it (09 R396 to R401). -/
def Sys2Proof.Claims.PreemptionCommands : Prop :=
  ∀ (s : State) (p : Port) (q : Queue),
    let x := s.queue q
    s.serving = true → s.qOwner q = p →
    (x.st = .running →
      ∃ t, exec (.preemptAtPoint p q) s = .next t ∧ OnlyQueue s t q { x with st := .preempting, preReq := .atPoint }) ∧
    (x.st = .running → 128 ≤ q.val →
      ∃ t, exec (.preemptNow p q) s = .next t ∧ OnlyQueue s t q { x with st := .preempting, preReq := .atPoint }) ∧
    (x.st = .running → q.val < 128 → (∀ i ∈ x.items, i.phase ≠ .running ∧ i.phase ≠ .workDone) →
      ∃ t, exec (.preemptNow p q) s = .next t ∧ OnlyQueue s t q { x with st := .preempted, preReq := .none }) ∧
    (x.st = .preempted → (∀ i ∈ x.items, i.phase ≠ .saved) →
      ∃ t, exec (.resume p q) s = .next t ∧
        OnlyQueue s t q { x with st := if x.stopNext then .stopped else .running, stopNext := false, preReq := .none }) ∧
    (x.st = .preempted → (∀ i ∈ x.items, i.phase = .notStarted ∨ i.phase = .ended) → (∀ k, s.sitesOf q k = []) →
      ∃ t, exec (.abort p q) s = .next t ∧ (t.queue q).st = .stopped ∧
        (∀ k i, s.item? q k = some i → i.phase = .notStarted → i.status = 0 →
          ∃ j, t.item? q k = some j ∧ j.phase = .ended ∧ j.status = if i.late s.now then 0x14 else 0x1C) ∧
        (∀ y, y ≠ q.val → (t.queue y).st = (s.queue y).st)) ∧
    (x.st ≠ .running → x.st ≠ .preempted →
      exec (.preemptNow p q) s = .next s ∧ exec (.preemptAtPoint p q) s = .next s ∧ exec (.resume p q) s = .next s ∧
        exec (.abort p q) s = .next s)

/-- A write of HEAD within a ring behind TAIL is taken and one beyond is not; QE_WIN_COMMIT_GO makes the pending windows active
once no item runs under older ones; QE_Q_TAKE_GO rebases a queue that was taken over (07 R289 to R291, 09 R388, R390, 14 R573). -/
def Sys2Proof.Claims.QueueRegisterCommands : Prop :=
  ∀ (s : State) (p : Port) (q : Queue),
    let x := s.queue q
    s.barOpen = true → s.qOwner q = p → x.held = [] →
    (∀ v, (BitVec.ofNat 32 x.written - v).toNat ≤ 2 ^ x.log2 →
      ∃ t, exec (.cqHeadWrite p q v) s = .next t ∧ OnlyQueue s t q { x with head := v }) ∧
    (∀ v, 2 ^ x.log2 < (BitVec.ofNat 32 x.written - v).toNat → exec (.cqHeadWrite p q v) s = .next s) ∧
    (x.rebase = true →
      ∃ t, exec (.qeQTakeGo p q) s = .next t ∧ OnlyQueue s t q { x with rebase := false, head := 0, written := 0 }) ∧
    (∀ c : Ctx, s.ctxOwner c = p → s.commitBusy c = false →
      ∃ t, exec (.qeWinCommitGo p c) s = .next t ∧ (t.ctx c).active = (s.ctx c).pending ∧
        (t.ctx c).pending = (s.ctx c).pending ∧ (∀ y, y ≠ c.val → t.ctx y = s.ctx y) ∧ t.queues = s.queues ∧
        (∀ b, t.byte b = s.byte b)) ∧
    (∀ c : Ctx, s.ctxOwner c = p → s.commitBusy c = true → exec (.qeWinCommitGo p c) s = .next s)

/-! ## Items of the compute engines -/

/-- MATMUL: when it starts its bitmap is read, its regions are counted, and a free core of its engine takes the first; a pass adds its
chunk sum into every element of the region's trained rows, rounding once, its first pass alone; after the last pass the region is
written, each trained output row and nothing else, and counted; the last region ends the work, and a region with no trained row counts
without a pass (05 R209, R212 to R214, R218 to R220, 09 R355 to R357, R374, R383; that bytes beyond a row's elements stand is the
model's reading, log 64). -/
def Obligations.MatmulItem : Prop :=
  (∀ (s : State) (q : Queue) (k : Nat) (c : Site) (i : Item), starts s q k 0x10 (matFields s) i → fresh i →
    let j := begun s i
    (s.start.img.safe = false ∨ j.matCmd.u ≤ 1) → badLocal j.matLocals = none →
    s.checkReads i.wins j.matCmd.mask j.matCmd.maskBytes = none → s.coreFree q c = true →
    ∃ t r, exec (.matmul q k c 0 []) s = .next t ∧
      itemNow s t q k { j with work := .matmul ⟨j.regions, 1, [], [], 0, s.bytes j.matCmd.mask j.matCmd.maskBytes⟩ } ∧
      (t.core c).seq.run = some r ∧ r.q = q.val ∧ r.k = k ∧ r.inst = 0 ∧ r.job = false ∧ (t.core c).seq.phase = .running ∧
      (∀ y, y ≠ c.val → t.core y = s.core y)) ∧
  (∀ (s : State) (q : Queue) (k : Nat) (c : Site) (i : Item) (w : MatWork) (r : Run), s.serving = true →
    s.item? q k = some i → i.live = true → i.status = 0 → i.trap = false → i.work = .matmul w →
    (s.core c).seq.run = some r → r.q = q.val → r.k = k → r.job = false →
    (s.core c).seq.phase = .running → (s.core c).seq.halted = false → (s.core c).arr.audits = false →
    (∀ u ∈ i.uses, u.kstream = false) →
    let m := i.matCmd
    let a := i.area r.inst
    let rows := i.regionRows r.inst
    let row := fun (e : Nat × List (BitVec 34)) => outRow m a e.1 e.2
    let len := (a.cols * fmtBits m.ofmt + 7) / 8
    let place := fun y => m.out + (a.r0 + y) * m.ostride + a.c0 * fmtBits m.ofmt / 8
    (∀ p, rows ≠ [] → i.passes[r.done]? = some p → (p.reads m a rows).findSome? (fun x => s.checkReads i.wins x.1 x.2) = none →
      ∃ t u, exec (.matmul q k c 1 []) s = .next t ∧ (t.core c).seq.run = some u ∧ u.done = r.done + 1 ∧ u.inst = r.inst ∧
        (∀ (x y n : Nat), rows[x]? = some y → n < a.cols → (u.sums.getD x []).getD n 0 =
          (passElem (r.done == 0) ((r.sums.getD x []).getD n 0) (p.sum s m a y n)).v) ∧
        (t.core c).arr.passes = min 0x100000 ((s.core c).arr.passes + 1) ∧ t.queues = s.queues ∧
        (∀ y, y ≠ c.val → t.core y = s.core y) ∧ (∀ b, t.byte b = s.byte b)) ∧
    (rows ≠ [] → i.passes[r.done]? = none → r.sums.length = rows.length → fmtScaled m.ofmt = false → len ≤ m.ostride →
      w.next = w.total → i.progress + 1 = w.total →
      (writeRows i.wins ((rows.zip r.sums).map fun e => m.rowWrites a e.1 (row e)).flatten s).2 = none →
      ∃ t j, exec (.matmul q k c 1 []) s = .next t ∧
        (∀ e ∈ rows.zip r.sums, t.bytes (place e.1) len = natLe len (packNat (fmtBits m.ofmt) (row e).1)) ∧
        (∀ b, (∀ y ∈ rows, b < place y ∨ place y + len ≤ b) → t.byte b = s.byte b) ∧
        t.item? q k = some j ∧ j.phase = .workDone ∧ j.progress = i.progress + 1 ∧ (t.core c).seq.run = none ∧
        (t.core c).seq.outbox = (s.core c).seq.outbox ++ [(q.val, k)]) ∧
    (rows = [] → w.next = w.total → i.progress + 1 < w.total →
      ∃ t j, exec (.matmul q k c 1 []) s = .next t ∧ t.item? q k = some j ∧ j.progress = i.progress + 1 ∧ j.phase = .running ∧
        (t.core c).seq.run = none ∧ (∀ y, y ≠ c.val → t.core y = s.core y) ∧ (∀ b, t.byte b = s.byte b)))

/-- JOB starts when its image lies under one executable window, with no instance begun (06 R258, R259, 09 R374). -/
def Sys2Proof.Claims.JobItem : Prop :=
  ∀ (s : State) (q : Queue) (k : Nat) (i : Item), starts s q k 0x11 jobFields i →
    let j := begun s i
    j.fld 16 8 < 2 ^ 42 → j.wins.imageMiss (j.fld 16 8) (j.fld 12 4) = none →
    (∀ l ∈ linesOf (j.fld 16 8) (j.fld 12 4), s.checkLine j.wins rightX l = none) →
    ∃ t, exec (.job q k) s = .next t ∧ itemNow s t q k { j with work := .job ⟨0, 0, [], 0, []⟩ } ∧ t.cores = s.cores ∧
      t.mem = s.mem

/-! ## Items of the transfer engine -/

/-- COPY starts at its first destination byte; a local piece, to the end of the destination line or row, takes the bytes of its
source, plain or transposed, and a piece from another device asks for its lines in a READ request (09 R360 to R362, R374, 11
R464). -/
def Sys2Proof.Claims.CopyItem : Prop :=
  (∀ (s : State) (q : Queue) (k : Nat) (i : Item), starts s q k 0x20 (copyFields s.device) i →
    ∃ t, exec (.copy q k 0) s = .next t ∧ itemNow s t q k { begun s i with work := .copy 0 0, progress := 0 } ∧
      t.mem = s.mem ∧ t.cores = s.cores) ∧
  (∀ (s : State) (q : Queue) (k : Nat) (i : Item) (row o : Nat), s.serving = true → s.item? q k = some i → i.live = true →
    i.work = .copy row o →
    let c := i.copyCmd
    row < c.dRows → o < c.dLen →
    (∀ bs, c.sdev = s.device → c.ddev = s.device → s.pieceBytes i.wins c row o (c.piece row o false) = .inr bs →
      s.checkWrite i.wins (c.dstByte row o) (c.piece row o false) = none →
      bs = (List.range (c.piece row o false)).map (fun x => s.byte (c.srcByte row (o + x))) ∧
      ∃ t j, exec (.copy q k 1) s = .next t ∧ Stored s t (c.dstByte row o) bs ∧ t.item? q k = some j ∧
        j.work = c.after row o (c.piece row o false)) ∧
    (∀ p tag, c.sdev ≠ s.device → s.reachable c.sdev = true → s.freeTag = some tag →
      s.route (Fin.ofNat 512 s.device) (Fin.ofNat 512 c.sdev) (0 : Fin 32) = .port p →
      (∀ l ∈ linesOf (c.srcByte row o) (c.piece row o true), i.wins.grants rightR true (max l (c.srcByte row o)) = true) →
      ∃ t m j, exec (.copy q k 1) s = .next t ∧ .msg p 0x01 m [] ∈ t.sent ∧
        m.arg = BitVec.ofNat 64 (c.sdev * 2 ^ 42 + lineOf (c.srcByte row o)) ∧
        (∃ r ∈ t.fab.out, r.tag = tag ∧ r.q = q.val ∧ r.k = k ∧ r.row = row) ∧
        t.item? q k = some j ∧ j.work = c.after row o (c.piece row o true) ∧ t.mem = s.mem))

/-- GATHER writes its destination lines in order, each from the source rows that its indices name, and counts them in PROGRESS
(08 R338 to R341, 09 R363, R383). -/
def Sys2Proof.Claims.GatherItem : Prop :=
  (∀ (s : State) (q : Queue) (k : Nat) (i : Item), starts s q k 0x21 (gatherFields s) i →
    let d := readDesc ((begun s i).cmd.drop 16)
    failFar [(begun s i).fld 8 8, d.base, d.ibase] = none →
    ∃ t, exec (.gather q k 0) s = .next t ∧ itemNow s t q k { begun s i with work := .gather 0 none } ∧ t.mem = s.mem) ∧
  (∀ (s : State) (q : Queue) (k : Nat) (i : Item) (n : Nat) (lay : Option Snap), s.serving = true → s.item? q k = some i →
    i.live = true → i.work = .gather n lay →
    let d := readDesc (i.cmd.drop 16)
    let dst := i.fld 8 8
    let a := d.layFor lay n (s.gatherArray dst) n
    let bs := d.lineBytes s a n
    n < d.length → d.checkLines s (fun _ => a) i.wins none n 1 = none →
    (s.writeFor i.wins (dst + 64 * n) bs).2 = none →
    ∃ t j, exec (.gather q k 1) s = .next t ∧ Stored s t (dst + 64 * n) bs ∧ t.item? q k = some j ∧
      j.work = .gather (n + 1) (d.layAfter lay n a (n + 1)) ∧ j.progress = n + 1 ∧ j.phase = if n + 1 = d.length then .workDone else .running)

/-- STREAM OPEN makes a FREE stream ACTIVE at position 0 with the descriptor it read; STREAM CLOSE of a stream of its context makes it
FREE once no consuming read of it is in progress (08 R308, R309, R313 to R315, R319). -/
def Sys2Proof.Claims.StreamItems : Prop :=
  ∀ (s : State) (q : Queue) (k : Nat) (i : Item), starts s q k 0x22 streamFields i →
    let j := begun s i
    let n := j.fld 10 2
    let a := j.fld 16 8
    (j.fld 8 1 = 0 → (s.stream n).phase = .free → a < 2 ^ 42 → s.checkReads i.wins a 64 = none →
      (readDesc (s.bytes a 64)).bad = none → failFar [(readDesc (s.bytes a 64)).base, (readDesc (s.bytes a 64)).ibase] = none →
      ∃ t, exec (.streamOpen q k) s = .next t ∧ t.stream n = ⟨.active, i.ctx, 0, s.bytes a 64, none⟩ ∧
        (∀ y, y ≠ n → t.stream y = s.stream y) ∧ itemNow s t q k { j with progress := 1, phase := .workDone } ∧
        (∀ b, t.byte b = s.byte b)) ∧
    (j.fld 8 1 = 1 → (s.stream n).phase ≠ .free → (s.stream n).ctx = i.ctx → s.streamRead n = false →
      ∃ t, exec (.streamClose q k) s = .next t ∧ t.stream n = Stream.free ∧ (∀ y, y ≠ n → t.stream y = s.stream y) ∧
        itemNow s t q k { j with work := .close n, progress := 1, phase := .workDone } ∧ (∀ b, t.byte b = s.byte b)) ∧
    (j.fld 8 1 = 1 → (s.stream n).phase ≠ .free → (s.stream n).ctx = i.ctx → s.streamRead n = true →
      ∃ t, exec (.streamClose q k) s = .next t ∧ t.stream n = s.stream n ∧ itemNow s t q k { j with work := .close n })

/-! ## Items of the collective engine -/

/-- The four collectives with their opcodes. -/
def Sys2Proof.Claims.ringOps : List ((Queue → Nat → Instr) × Nat) :=
  [(.reduceScatter, 0x30), (.allGather, 0x31), (.allReduce, 0x32), (.broadcast, 0x33)]

/-- REDUCE_SCATTER, ALL_GATHER, ALL_REDUCE and BROADCAST wait for their BSEQ, and the bucket that begins moves NEXT_BSEQ on; a
reduction on a ring of one member writes its rounded local sums to DST (12 R488 to R492, R498, R506, R508). -/
def Sys2Proof.Claims.CollectiveItems : Prop :=
  ∀ e ∈ ringOps, ∀ (s : State) (q : Queue) (k : Nat) (i : Item),
    (s.serving = true → (s.queue q).goes = true → s.item? q k = some i → i.op = e.2 → i.phase = .notStarted → i.status = 0 →
      i.late s.now = false → (s.queue q).inOrder i = true → s.keWaits q i = true → i.bucket = none →
      ∃ t, exec (e.1 q k) s = .next t ∧ t.ke = s.ke ∧ t.mem = s.mem ∧
        itemNow s t q k { i with work := .ke (keWaiting (s.num (i.addr + 8) 1) (s.num (i.addr + 16) 8)),
                                 startDtc := some s.now }) ∧
    (starts s q k e.2 (keFields s q) i →
      let j := begun s i
      let h := j.fld 8 1
      let b := readBucket (s.bytes (j.fld 24 8) 64)
      (s.keHerd h).gone = [] → j.fld 24 8 < 2 ^ 42 → s.checkRead i.wins (j.fld 24 8) = none →
      b.bad e.2 s.device (s.herd h).master (s.herd h).members = false → s.keGated b = none →
      (∃ t, exec (e.1 q k) s = .next t ∧ (t.keHerd h).next = (s.keHerd h).next + 1) ∧
      ((e.2 = 0x30 ∨ e.2 = 0x32) → s.rings h = ⟨[1], [(s.device, [0])]⟩ → b.elems = 32 → (∀ n, (s.hub n).chunks = []) →
        (∀ n, n < b.n → s.checkReads i.wins (b.src + n * b.cstride) (if b.sfmt = 0 then 128 else 64) = none) →
        s.checkWrite i.wins b.dst 64 = none →
        ∃ t y, exec (e.1 q k) s = .next t ∧
          Stored s t b.dst (natLe 64 (elemsLine ((List.range 32).map fun x => (localElem ((List.range b.n).map fun n =>
            s.contribution b.src b.cstride b.sfmt 0 n x)).1)).toNat) ∧
          t.item? q k = some y ∧ y.phase = .workDone ∧ y.progress = 1))

/-! ## Items of the update engine and step boundaries -/

/-- UPDATE takes a snapshot of the β table and reads every header of its range in the check pass, writing nothing;
UPDATE_MAIN_PASS begins the main pass, or ends the item on its first skewed block (13 R526 to R532). -/
def Sys2Proof.Claims.UpdateCheckPass : Prop :=
  (∀ (s : State) (q : Queue) (k : Nat) (i : Item) (v : Nat),
    starts s q k 0x40 (fun i => [(8, decide (i.fld 8 8 % 64 ≠ 0)), i.zero 16 16]) i →
    let a := (begun s i).fld 8 8
    let u := readUpd (s.bytes a 128)
    a < 2 ^ 42 → s.checkReads i.wins a 128 = none → u.bad s.betas = false → failFar u.addresses = none → s.updFlag i.wins u = .inr v →
    (u.report = 0 ∨ s.checkLine i.wins rightW u.report = none) → s.oxGated u = none →
    (∀ b ∈ u.blocks, s.checkRead i.wins (u.hdr b) = none) →
    ∃ t j w, exec (.update q k) s = .next t ∧ t.item? q k = some j ∧ j.phase = .running ∧ j.work = .update w ∧
      w.checked = true ∧ w.main = false ∧ w.betas = s.betas ∧ w.flagWord = v ∧ w.desc = s.bytes a 128 ∧
      (∀ b ∈ u.blocks, tget (0, 0) w.found b =
        ((s.blockHdr (u.hdr b)).stamp, u.classOf v (s.blockHdr (u.hdr b)) b)) ∧
      (w.fault = true ↔ ∃ b ∈ u.blocks, (s.blockHdr (u.hdr b)).bad u = true ∨
        (u.betaFromHdr = true ∧ pairUsable s.betas (s.blockHdr (u.hdr b)).beta = false)) ∧
      (∀ b, t.byte b = s.byte b)) ∧
  (∀ (s : State) (q : Queue) (k : Nat) (i : Item) (w : UpdWork), s.upd? q k = some (i, w) → s.serving = true →
    w.main = false → w.fault = false →
    (w.firstSkewed = none →
      ∃ t, exec (.updateMainPass q k) s = .next t ∧ itemNow s t q k { i with work := .update { w with main := true } } ∧
        t.mem = s.mem) ∧
    (∀ p, w.firstSkewed = some p → (readUpd w.desc).allowSkew = false → i.status = 0 → i.late s.now = false →
      s.sitesOf q k = [] →
      ∃ t j, exec (.updateMainPass q k) s = .next t ∧ t.item? q k = some j ∧ j.phase = .ended ∧ j.status = 0x17 ∧
        j.detail = p.1))

/-- UPDATE_BLOCK: a block to be updated gets the new values of its rule in every array, and a header with STAMP t and their CHECK;
a frozen block gets its new STAMP alone (13 R521, R522, R528, R530, R534, R535, R541, R542, R546). -/
def Sys2Proof.Claims.UpdateBlockInMainPass : Prop :=
  ∀ (s : State) (q : Queue) (k : Nat) (i : Item) (w : UpdWork) (b : BitVec 32), s.upd? q k = some (i, w) → s.serving = true →
    w.main = true →
    let u := readUpd w.desc
    let n := b.toNat
    let h := s.blockHdr (u.hdr n)
    u.first ≤ n → n < u.first + u.nblk → w.finished.elem n = false →
    (∀ x, u.first ≤ x → x < n → s.oxOf u x = s.oxOf u n → x ∈ w.finished) →
    s.checkRead i.wins (u.hdr n) = none → (tget (0, 0) w.found n).1 = h.stamp →
    ((tget (0, 0) w.found n).2 = 4 → s.checkWrite i.wins (u.hdr n) 64 = none → u.hdr n % 64 = 0 →
      ∃ t j, exec (.updateBlock q k b) s = .next t ∧ Stored s t (u.hdr n) (hdrBytes u.t h.flags h h.check) ∧
        t.item? q k = some j ∧ j.progress = w.finished.length + 1) ∧
    ((tget (0, 0) w.found n).2 = 6 →
      let gs := halves (s.bytes (u.grad n) 1024)
      let st := ((u.arrays n).map fun a => s.bytes a.1 a.2).flatten
      let out := u.newBytes (u.newElems (u.consts (vget w.betas (if u.betaFromHdr then h.beta else u.beta) (0, 0)))
        (words32 (st.take 2048)) (halves ((st.drop 2048).take 1024)) (halves (st.drop 3072)) gs)
      let hdr := hdrBytes u.t h.flags h (blockCheck u.rule out.flatten)
      (∀ a ∈ u.arrays n ++ [(u.grad n, 1024)], s.checkReads i.wins a.1 a.2 = none) →
      (u.verify = true → blockCheck u.rule st = h.check) → gs.any bf16Special = false →
      (s.writeAll i.wins (((u.arrays n).map Prod.fst).zip out ++ [(u.hdr n, hdr)])).2 = none →
      (u.arrays n ++ [(u.hdr n, 64)]).Pairwise (fun (x y : Nat × Nat) => x.1 + x.2 ≤ y.1 ∨ y.1 + y.2 ≤ x.1) →
      ∃ t j, exec (.updateBlock q k b) s = .next t ∧ t.bytes (u.hdr n) 64 = hdr ∧
        (∀ p ∈ (u.arrays n).zip out, t.bytes p.1.1 p.1.2 = p.2) ∧
        t.item? q k = some j ∧ j.progress = w.finished.length + 1)

/-- BOUNDARY fixes its tick; BOUNDARY_RAISE raises it at once where no pulse is awaited, or with the pulse of its window, counts
BCNT on, and records how; one that waits is not raised from its deadline on, and its item fails; a stuck or four times missing
STEP_SYNC_IN is ignored from then on, with a log entry (10 R442 to R451,
R755). -/
def Sys2Proof.Claims.StepBoundaries : Prop :=
  (∀ (s : State) (q : Queue) (k : Nat) (i : Item), starts s q k 0x41 (fun i => [i.zero 8 8]) i →
    let win := s.sync.stepWin.toNat
    (∀ p, s.sync.pulse = some p → s.stepWaits = false ∨ s.now.toNat ≤ p.toNat + win) →
    ∃ t, exec (.boundary q k) s = .next t ∧ t.sync.run = some ⟨q, k, s.now, win, s.stepWaits⟩ ∧
      itemNow s t q k { begun s i with work := .boundary s.now win s.stepWaits } ∧ t.sync.bcnt = s.sync.bcnt ∧ t.mem = s.mem) ∧
  (∀ (s : State) (r : BoundaryRun), s.sync.run = some r → s.sync.inIgnored = false →
    (r.waits = false →
      ∃ t, exec .boundaryRaise s = .next t ∧ t.sync.bcnt = s.sync.bcnt + 1 ∧ t.sync.run = none ∧ t.sync.lastResult = 0 ∧
        t.sync.unaligned = 0) ∧
    (∀ i, r.waits = true → s.raiseDue r ≠ none → s.item? r.q r.k = some i → i.undecided = true → i.late s.now = true →
      i.work = .boundary r.b r.win r.waits → i.live = true → s.sitesOf r.q r.k = [] → ¬(0x30 ≤ i.op ∧ i.op ≤ 0x33) →
      ∃ t j, exec .boundaryRaise s = .next t ∧ t.sync.bcnt = s.sync.bcnt ∧ t.sync.run = none ∧ t.item? r.q r.k = some j ∧
        j.phase = .ended ∧ j.status = 0x14) ∧
    (∀ p, r.waits = true → s.raiseLate r = false → s.sync.pulse = some p → r.holds p = true → p.toNat < s.now.toNat →
      ∃ t, exec .boundaryRaise s = .next t ∧ t.sync.bcnt = s.sync.bcnt + 1 ∧ t.sync.run = none ∧ t.sync.lastResult = 1 ∧
        t.sync.lastOffset = (p - r.b).setWidth 18 ∧ t.sync.pulse = none)) ∧
  (∀ (s : State) (pin : Bool), s.sync.inIgnored = false → (pin = true ∨ 4 ≤ s.sync.unaligned) → s.sync.run = none →
    ∃ t e, exec (.stepSyncInIgnore pin) s = .next t ∧ t.sync.inIgnored = true ∧ t.fault.seq = s.fault.seq + 1 ∧
      t.fault.log.getLast? = some e ∧ e.cls = 0x43 ∧ t.sync.bcnt = s.sync.bcnt)

/-! ## The sync unit -/

/-- SU_CTR_ADD adds where the port may use the counter, and is logged under class 0x0044 where it may not (10 R408, R411). -/
def Sys2Proof.Claims.HostCounterAdd : Prop :=
  ∀ (s : State) (p : Port) (n : Counter) (v : Word), s.barOpen = true → v ≠ 0 →
    (s.portMayUse p n = true → (∀ w ∈ s.sync.watches, w.counter ≠ n.val) →
      ∃ t, exec (.suCtrAdd p n v) s = .next t ∧ t.counter n = s.counter n + v.zeroExtend 64 ∧
        (∀ c, c ≠ n.val → t.counter c = s.counter c) ∧ t.fault = s.fault ∧ t.mem = s.mem ∧ t.queues = s.queues ∧
        t.cores = s.cores) ∧
    (s.portMayUse p n = false →
      ∃ t, exec (.suCtrAdd p n v) s = .next t ∧ logged s t 0x44 p ∧ t.sync = s.sync ∧ t.mem = s.mem ∧ t.queues = s.queues)

/-- Host watches: a write of EN = 1 registers a watch, which fires at once where its condition holds, with FIRED set and its
message sent; a write of EN = 0 withdraws it; a waiting registration takes a free watch (10 R412, R414, R415, R453). -/
def Sys2Proof.Claims.HostWatches : Prop :=
  ∀ (s : State) (p : Port) (i : Fin 64) (v : Word), s.barOpen = true →
    let c := bitsOf v.toNat 11 0
    let cond := bitsOf v.toNat 29 28
    let w : Watch := ⟨c, .host p i, (s.hostWatch p i).thr, cond, none, s.counter c⟩
    (v.getLsbD 31 = true → cond ≠ 3 → s.portMayUse p c = true → (∀ x ∈ s.sync.watches, x.who ≠ .host p i) →
      s.sync.waiting = [] → s.sync.watches.length < 16208 →
      (w.holds (s.counter c) = false →
        ∃ t, exec (.hostWatchRegister p i v) s = .next t ∧ t.sync.watches = s.sync.watches ++ [w] ∧
          (t.hostWatch p i).ctl = hwFields (s.hostWatch p i).ctl v ||| 0x80000000#32 ∧
          (∀ n, t.counter n = s.counter n) ∧ t.sent = s.sent) ∧
      (w.holds (s.counter c) = true → (s.pcie p).masked (bitsOf v.toNat 26 16) = false →
        ∃ t, exec (.hostWatchRegister p i v) s = .next t ∧ t.sync.watches = s.sync.watches ∧
          (t.hostWatch p i).ctl.getLsbD 31 = false ∧ (t.hostWatch p i).ctl.getLsbD 30 = true ∧
          t.sent = s.sent ++ [.msix p (bitsOf v.toNat 26 16)])) ∧
    (v.getLsbD 31 = false →
      ∃ t, exec (.hostWatchWithdraw p i v) s = .next t ∧
        ((∀ x ∈ s.sync.watches, x.who = .host p i → x.claim = none ∧ s.sync.watches.countP (fun y => decide (y.who = x.who)) = 1) →
          t.sync.watches = s.sync.watches.filter fun x => decide (x.who ≠ .host p i)) ∧
        (t.hostWatch p i).ctl.getLsbD 31 = false) ∧
    (∀ x ws, s.sync.waiting = x :: ws → s.sync.watches.length < 16208 → x.holds (s.counter x.counter) = false → x.cond < 2 →
      ∃ t, exec .watchGrant s = .next t ∧ t.sync.waiting = ws ∧
        t.sync.watches = s.sync.watches ++ [{ x with v0 := s.counter x.counter }])

/-- The step pins: a pulse is stamped, and logged under 0x0041 where it replaces one or the input is ignored; the output falls
after its ten ticks; a wrong read-back disables it, logged under 0x0043; REARM ends the ignoring (10 R444, R446, R447, R450). -/
def Sys2Proof.Claims.StepPins : Prop :=
  ∀ s : State,
    (s.sync.inIgnored = false → s.sync.pulse = none →
      exec .stepSyncInPulse s = .next (s.setSync { s.sync with pulse := some s.now })) ∧
    (s.sync.inIgnored = false → s.sync.pulse ≠ none →
      ∃ t, exec .stepSyncInPulse s = .next t ∧ logged s t 0x41 0 ∧ t.sync = { s.sync with pulse := some s.now }) ∧
    (s.sync.inIgnored = true → ∃ t, exec .stepSyncInPulse s = .next t ∧ logged s t 0x41 0 ∧ t.sync = s.sync) ∧
    (∀ d, s.sync.outEnd = some d → d ≤ s.now →
      ∃ t, exec .stepSyncOutEnd s = .next t ∧ t.pins = { s.pins with stepOut := false } ∧
        t.sync = { s.sync with outEnd := none } ∧ t.fault = s.fault) ∧
    (s.sync.outDisabled = false →
      ∃ t, exec .stepSyncOutDisable s = .next t ∧ logged s t 0x43 0 ∧
        t.sync = { s.sync with outDisabled := true, outEnd := none } ∧ t.pins.stepOut = false) ∧
    (s.barOpen = true →
      exec .rearm s = .next (s.setSync { s.sync with inIgnored := false, outDisabled := false, unaligned := 0 }))

/-! ## Hubs and the host's accesses -/

/-- The hub owns the line of an address of HBM, or of LPDDR5X behind an enabled group. -/
def Sys2Proof.Claims.hubsLine (s : State) (h a : Nat) : Prop :=
  (s.region a = .hbm ∨ (s.region a = .lp ∧ s.gatedAt a = false)) ∧ s.hubOf a = h

/-- A request arrives while the sort queue has room; a write is seen by every later read of its line from its arrival, with
exactly its masked bytes changed; a performed request gives up its slot and changes no byte (07 R298, R302 to R306, 08 R331). -/
def Sys2Proof.Claims.HubRequests : Prop :=
  ∀ (s : State) (h : Hub),
    (∀ r : MemReq, hubsLine s h (64 * r.line.toNat) → (s.hub h).sorted.length < 65536 →
      (∀ m d, r.write = some (m, d) → s.isUe (64 * r.line.toNat) = false →
        ∃ t, exec (.hubRequestArrival h r) s = .next t ∧ (t.hub h).nextReq = (s.hub h).nextReq + 1 ∧
          (∀ i, i < 64 → t.byte (64 * r.line.toNat + i) =
            if m.getLsbD i then BitVec.ofNat 8 (bitsOf d.toNat (8 * i + 7) (8 * i)) else s.byte (64 * r.line.toNat + i)) ∧
          (∀ b, b < 64 * r.line.toNat ∨ 64 * r.line.toNat + 64 ≤ b → t.byte b = s.byte b)) ∧
      (r.write = none →
        ∃ t, exec (.hubRequestArrival h r) s = .next t ∧ (t.hub h).nextReq = (s.hub h).nextReq + 1 ∧
          (∀ y, y < 8 → y ≠ h.val → t.hub y = s.hub y) ∧ (∀ b, t.byte b = s.byte b))) ∧
    (∀ (i : Nat) (r : HubReq), (s.hub h).inSlots.find? (fun x => decide (x.id = i)) = some r → s.mayPerform (s.hub h) r = true →
      (r.write = true ∨ s.isUe (64 * r.line) = false) →
      ∃ t, exec (.requestPerformed h i (.once .clean)) s = .next t ∧ (∀ x ∈ (t.hub h).reqs, x.id ≠ i) ∧
        (∀ y, y < 8 → y ≠ h.val → t.hub y = s.hub y) ∧ (∀ b, t.byte b = s.byte b))

/-- A completed sparing counts one spare used; a patrol read corrects a line with no other effect, and reports and counts a line that it
finds uncorrectable, now or before, under class 0x0020; of a read that the link ECC had repeated the second reading counts (07 R295
to R297, R299, R300, R307). -/
def Sys2Proof.Claims.SparingAndPatrol : Prop :=
  ∀ (s : State) (h : Hub),
    (∀ pc rest, (s.hub h).copying = pc :: rest →
      ∃ t, exec (.spareCopyEnd h) s = .next t ∧ (t.hub h).used = (s.hub h).used + 1 ∧ (t.hub h).copying = rest ∧
        (if (s.hub h).used = 0 then (t.hub h).pc0 = pc else (t.hub h).pc1 = pc) ∧ (∀ b, t.byte b = s.byte b)) ∧
    (∀ (a : BitVec 42) (n : Nat), hubsLine s h a.toNat →
      (s.isUe a.toNat = false → exec (.patrolScrub h a (.once .clean)) s = .next s) ∧
      (s.isUe a.toNat = false →
        ∃ t, exec (.patrolScrub h a (.once (.corrected n))) s = .next t ∧ (∀ b, t.byte b = s.byte b) ∧ t.mem.ue = s.mem.ue ∧
        (s.region a.toNat = .hbm → (t.hub h).hbmCE = sat32 (s.hub h).hbmCE 1) ∧
        (s.region a.toNat = .lp → (t.hub h).lpCE = sat32 (s.hub h).lpCE 1)) ∧
      (∀ e : EccFact, (s.isUe a.toNat = true ∨ e = .uncorrectable) →
        ∃ t, exec (.patrolScrub h a (.repeated e)) s = .next t ∧ t.isUe a.toNat = true ∧ logged s t 0x20 h ∧
          (s.region a.toNat = .hbm → (t.hub h).ueHbm = sat16 (s.hub h).ueHbm 1) ∧ (∀ b, t.byte b = s.byte b)))

/-- The prefetcher has the first line of a stream's window that is neither buffered nor on its way fetched; a fetch that returns
is buffered unless a write has made it stale; neither changes memory or a stream (08 R321 to R326, R334). -/
def Sys2Proof.Claims.Prefetching : Prop :=
  ∀ (s : State) (h : Hub),
    (∀ (n : StreamNo) (e : SrcLine), (s.stream n).phase = .active → (s.hub h).buf.length + (s.hub h).fetches.length < 524288 →
      (s.hub h).sorted.length < 65536 → (s.leadLines (s.stream n)).find? (fun e => s.fetchable n h (s.stream n) e) = some e →
      ∃ t f, exec (.prefetchFetch n h) s = .next t ∧ (t.hub h).fetches = (s.hub h).fetches ++ [f] ∧ f.stream = n.val ∧
        f.line = e.line ∧ f.data = s.line e.line ∧ f.stale = false ∧ t.mem.streams = s.mem.streams ∧
        (∀ b, t.byte b = s.byte b)) ∧
    (∀ (i : Nat) (f : Fetch), (s.hub h).fetches[i]? = some f → (∀ r ∈ (s.hub h).reqs, r.id ≠ f.req) → s.isUe f.line = false →
      ∃ t, exec (.fetchReturn h i) s = .next t ∧ (t.hub h).fetches = (s.hub h).fetches.eraseIdx i ∧
        (f.stale = true → (t.hub h).buf = (s.hub h).buf) ∧
        (f.stale = false → (s.stream f.stream).phase = .active →
          (readDesc (s.stream f.stream).desc).usedFrom s (fun _ => anyCore) (s.stream f.stream).pos f.line = true →
          (t.hub h).buf = (s.hub h).buf ++ [⟨f.stream, f.line, f.data, f.index⟩]) ∧
        t.mem.streams = s.mem.streams ∧ (∀ b, t.byte b = s.byte b))

/-- The host's accesses through BAR2 read and write the module's memory, and change nothing else of it; configuration requests are
retried until step 6 of start-up, and then answered (07 R282, R284, R285, 16 R626, 20 R726, R727). -/
def Obligations.HostAccesses : Prop :=
  ∀ (s : State) (p : Port),
    (∀ (off : BitVec 42) (len : Nat), s.hostReach p = true → off.toNat + len ≤ s.bar2Bytes p →
      (∀ l ∈ linesOf (s.bar2Addr p off.toNat) len, s.barLine (max l (s.bar2Addr p off.toNat)) = .data) →
      ∃ t, exec (.hostBar2Read p off len) s = .next t ∧
        t.sent = s.sent ++ [.completion p (s.bytes (s.bar2Addr p off.toNat) len)
          ((linesOf (s.bar2Addr p off.toNat) len).map fun _ => false)] ∧ t.mem = s.mem ∧ t.fault = s.fault) ∧
    (∀ (off : BitVec 42) (bs : List Byte), s.hostReach p = true → off.toNat + bs.length ≤ s.bar2Bytes p →
      (∀ c ∈ cutLines bs.length (s.bar2Addr p off.toNat) bs, s.barLine c.1 = .data) →
      ∃ t, exec (.hostBar2Write p off bs) s = .next t ∧ Stored s t (s.bar2Addr p off.toNat) bs ∧ t.fault = s.fault) ∧
    ((s.pcie p).speed ≠ 0 → s.start.step < 6 → s.fwu.recovery = false →
      ∀ r, exec (.pcieConfigRequest p r) s = .next (s.emit (.config p true 0))) ∧
    ((s.pcie p).speed ≠ 0 → 6 ≤ s.start.step →
      exec (.pcieConfigRequest p (.read 0)) s = .next (s.emit (.config p false 0x14401F6C)) ∧
      (∀ n, ∃ t, exec (.pcieConfigRequest p (.bar2Size n)) s = .next t ∧ (t.pcie p).bar2Size = n.val ∧
        (t.pcie p).bar2Base = (s.pcie p).bar2Base) ∧
      (∀ d, ∃ t, exec (.pcieConfigRequest p (.powerState d)) s = .next t ∧ (t.pcie p).d3hot = d))

/-! ## Links -/

/-- Flits: one in order is taken, its payload joins its virtual channel, and the next is awaited; one ahead of its turn or with a
bad CRC is discarded and answered by one NAK; a flit of any type that an uncorrectable codeword touches is discarded, each codeword
counted once; a NAK and a timeout bring a replay, and the eighth in a row without progress a retrain (11 R459, R461, R465 to R470). -/
def Sys2Proof.Claims.Flits : Prop :=
  ∀ (s : State) (l : Link) (f : Flit), s.hears l = true →
    let h := readHead f
    let x := s.link l
    (h.good = true → h.type = 1 → BitVec.ofNat 16 h.fseq = x.rxSeq →
      ∃ t, exec (.dataFlit l none f) s = .next t ∧ (t.link l).rxSeq = x.rxSeq + 1 ∧
        vget (t.link l).rx h.vc [] = vget x.rx h.vc [] ++ flitPayload f ∧
        (∀ y, y < 16 → y ≠ l.val → t.link y = s.link y) ∧ t.mem = s.mem) ∧
    (h.good = true → h.type = 1 → 0 < (BitVec.ofNat 16 h.fseq - x.rxSeq).toNat →
      (BitVec.ofNat 16 h.fseq - x.rxSeq).toNat < 0x8000 →
      ∃ t, exec (.dataFlit l none f) s = .next t ∧ (t.link l).rxSeq = x.rxSeq ∧ (t.link l).rx = x.rx ∧
        (t.link l).nakFor = some x.rxSeq) ∧
    (∀ n, ∀ c ∈ [Instr.dataFlit l (some n) f, .idleFlit l (some n) f, .nak l (some n) f],
      exec c s = .next (s.putLink l { x with fecUE := sat32 x.fecUE n })) ∧
    (h.crcOk = false →
      ∃ t, exec (.idleFlit l none f) s = .next t ∧ (t.link l).crc = sat32 x.crc 1 ∧ (t.link l).nakFor = some x.rxSeq ∧
        (t.link l).rx = x.rx) ∧
    (h.good = true → h.type = 0 →
      ∃ t, exec (.idleFlit l none f) s = .next t ∧ (t.link l).rxSeq = x.rxSeq ∧ (t.link l).rx = x.rx ∧ t.mem = s.mem) ∧
    (h.good = true → h.type = 2 →
      ∃ t, exec (.nak l none f) s = .next t ∧ (t.link l).replays = sat16 x.replays 1 ∧ (t.link l).rx = x.rx ∧ t.mem = s.mem ∧
        (t.link l).phase = (if 8 ≤ ((s.flitCover l h).link l).replaysInRow + 1 then .sparing else .up)) ∧
    (x.phase = .up → x.replay ≠ [] → 1000 ≤ (s.now - x.lastAseq).toNat →
      ∃ t, exec (.replayTimeout l) s = .next t ∧ (t.link l).replays = sat16 x.replays 1 ∧
        (t.link l).phase = (if 8 ≤ x.replaysInRow + 1 then .sparing else .up) ∧ t.mem = s.mem)

/-- Port states: an enabled port trains, and an UP port whose peer trains spares; a training that finds its expected peer on four
lanes makes it UP, and the third failure
in a row makes it DOWN; a failed lane in use is replaced by the spare while the port is SPARING, and below four lanes the port is
DOWN, with entries of classes 0x0030 and 0x0031; RETRAIN spares (11 R471 to R475, R486, 14 R562). -/
def Sys2Proof.Claims.PortStates : Prop :=
  ∀ (s : State) (l : Link),
    let x := s.link l
    (s.power.phase = .on → s.linkEnabled l = true → (x.phase = .down ∨ x.phase = .disabled) →
      ∃ t, exec (.training l) s = .next t ∧ t.link l = { x with phase := .training } ∧
        (∀ y, y < 16 → y ≠ l.val → t.link y = s.link y)) ∧
    (s.power.phase = .on → x.phase = .up →
      ∃ t, exec (.training l) s = .next t ∧ (t.link l).phase = .sparing ∧ (t.link l).replay = x.replay ∧
        (t.link l).sparings = min 255 (x.sparings + 1) ∧ (∀ y, y < 16 → y ≠ l.val → t.link y = s.link y)) ∧
    (∀ r : TrainFact, x.phase = .training → r.locked = true → r.peer.val = x.expect → 4 ≤ (x.trained r).healthyCount →
      ∃ t, exec (.trainingEnd l r) s = .next t ∧ (t.link l).phase = .up ∧ (t.link l).txSeq = 0 ∧ (t.link l).rxSeq = 0 ∧
        (t.link l).credits = #v[1024, 1024, 1536, 512] ∧ (t.link l).replay = [] ∧ t.fault = s.fault) ∧
    (∀ r : TrainFact, x.phase = .training → r.locked = false → 2 ≤ x.failsInRow →
      ∃ t, exec (.trainingEnd l r) s = .next t ∧ (t.link l).phase = .down) ∧
    (∀ r : TrainFact, x.phase = .training → r.locked = false → x.failsInRow < 2 → 4 ≤ (x.trained r).healthyCount →
      ∃ t, exec (.trainingEnd l r) s = .next t ∧ (t.link l).phase = .training ∧ (t.link l).failsInRow = x.failsInRow + 1) ∧
    (∀ i : Fin 5, x.phase = .up → x.healthy = 0x1F →
      ∃ t, exec (.laneFail l i) s = .next t ∧ (t.link l).healthy = x.healthy &&& ~~~(1#5 <<< i.val) ∧
        (t.link l).phase = (if i.val = 4 then .up else .sparing) ∧ logged s t 0x30 l) ∧
    (∀ i : Fin 5, x.phase = .up → x.healthyCount = 4 → x.healthy.getLsbD i = true →
      ∃ t, exec (.laneFail l i) s = .next t ∧ (t.link l).phase = .down ∧ (t.link l).downs = min 255 (x.downs + 1)) ∧
    (x.phase = .sparing →
      ∃ t, exec (.sparingEnd l) s = .next t ∧ (t.link l).phase = .up ∧ (t.link l).replay.take x.replay.length = x.replay) ∧
    (x.phase = .sparing → 200000 ≤ (s.now - x.since).toNat →
      ∃ t, exec (.sparingTimeout l) s = .next t ∧ (t.link l).phase = .down) ∧
    (s.barOpen = true → s.linkGate l = true → x.phase = .up →
      ∃ t, exec (.retrain l) s = .next t ∧ (t.link l).phase = .sparing ∧ (t.link l).sparings = min 255 (x.sparings + 1))

/-- A message to this device on a port that hears. -/
def Sys2Proof.Claims.heard (s : State) (l : Nat) (m : MsgHead) : Prop := s.hears l = true ∧ m.dst.val = s.device

/-- A message of a KIND to a device is on its way on a port, with its MTAG and lines. -/
def Sys2Proof.Claims.answered (s t : State) (p kind dst : Nat) (tag : Nat) (data : List Line) : Prop :=
  ∃ m : MsgHead, .msg p kind m data ∈ t.sent ∧ m.src.val = s.device % 512 ∧ m.dst.val = dst % 512 ∧ m.mtag = BitVec.ofNat 16 tag

/-- READ, WRITE and WRITE_MASKED of another device, where every line passes its checks: the lines are read, the lines are written,
or exactly the masked bytes are; the response goes back with the request's tag; a line that fails brings the failing response and
no write; while the sort queue of its hub is full a request waits (07 R274, R292, 11 R462, R464). -/
def Sys2Proof.Claims.RequestsOfOtherDevices : Prop :=
  ∀ (s : State) (l : Link) (m : MsgHead) (p : Nat), heard s l m →
    s.route (Fin.ofNat 512 s.device) (Fin.ofNat 512 m.src.val) (0 : Fin 32) = .port p →
    (bitsOf m.mtag.toNat 15 13 ≤ 3 → s.room m (bitsOf m.mtag.toNat 15 13 + 1) = true →
      s.peerFail rightR m (bitsOf m.mtag.toNat 15 13 + 1) 64 = none →
      ∃ t, exec (.read l m) s = .next t ∧
        answered s t p 0x11 m.src (m.mtag.toNat % 2 ^ 13)
          ((List.range (bitsOf m.mtag.toNat 15 13 + 1)).map fun i => s.line (msgLine m i)) ∧ t.mem = s.mem) ∧
    (∀ data : List Line, 0 < data.length → data.length ≤ 4 → s.room m data.length = true → s.peerFail rightW m data.length 64 = none →
      ∃ t, exec (.write l m data) s = .next t ∧ Stored s t (msgLine m 0) (data.map fun x => natLe 64 x.toNat).flatten ∧
        answered s t p 0x12 m.src m.mtag.toNat []) ∧
    (∀ data f, 0 < data.length → data.length ≤ 4 → s.room m data.length = true → s.peerFail rightW m data.length 64 = some f →
      ∃ t, exec (.write l m data) s = .next t ∧ (∀ b, t.byte b = s.byte b) ∧ answered s t p f.1 m.src m.mtag.toNat []) ∧
    (∀ d mask : Line, s.room m 1 = true → s.peerFail rightW m 1 0 = none → mask.toNat < 2 ^ 64 →
      ∃ t, exec (.writeMasked l m [d, mask]) s = .next t ∧
        (∀ i, i < 64 → t.byte (msgLine m 0 + i) =
          if mask.getLsbD i then BitVec.ofNat 8 (bitsOf d.toNat (8 * i + 7) (8 * i)) else s.byte (msgLine m 0 + i)) ∧
        (∀ b, b < msgLine m 0 ∨ msgLine m 0 + 64 ≤ b → t.byte b = s.byte b) ∧
        answered s t p 0x12 m.src m.mtag.toNat []) ∧
    (s.room m 1 = false → (∀ data, data.length = 1 → exec (.write l m data) s = .next s) ∧
      ∀ d mask : Line, exec (.writeMasked l m [d, mask]) s = .next s)

/-- The failing responses: KIND of command and the status that they bring. -/
def Sys2Proof.Claims.failKinds : List ((Link → MsgHead → Instr) × Nat) := [(.refused, 0x10), (.gated, 0x19), (.eccFail, 0x11)]

/-- Responses: READ_DATA is written where its COPY asked for it, WRITE_DONE ends its request, the failing ones, UNREACHABLE and a
request without response for 1,000,000 ticks fail their item; a KIND that is not in the table is logged under 0x0034 (11 R463,
R464, R484, R485). -/
def Sys2Proof.Claims.ResponsesAndTimeouts : Prop :=
  ∀ (s : State) (l : Link) (m : MsgHead) (r : OutReq) (i : Item) (row o : Nat),
    s.item? r.q r.k = some i → i.undecided = true → i.late s.now = false → i.work = .copy row o → i.op = 0x20 →
    s.sitesOf r.q r.k = [] →
    (heard s l m → s.outReq m = some r →
      (∀ data : List Line, 0 < data.length → data.length ≤ 4 → r.read = true →
        let bs := (((data.map fun x => natLe 64 x.toNat).flatten).drop r.skip).take r.len
        (s.writeFor i.wins r.dst bs).2 = none →
        ∃ t, exec (.readData l m data) s = .next t ∧ Stored s t r.dst bs ∧ r ∉ t.fab.out) ∧
      (∃ t, exec (.writeDone l m) s = .next t ∧ r ∉ t.fab.out ∧ t.mem = s.mem) ∧
      (∀ e ∈ failKinds, ∃ t j, exec (e.1 l m) s = .next t ∧ r ∉ t.fab.out ∧ t.item? r.q r.k = some j ∧ j.phase = .ended ∧
        j.status = e.2 ∧ j.detail = respDetail (m.arg.toNat % 2 ^ 42) ∧ t.mem = s.mem)) ∧
    (heard s l m → s.fab.out.find? (fun x => decide (x.tag = m.mtag.toNat)) = some r →
      ∃ t j, exec (.unreachable l m) s = .next t ∧ t.item? r.q r.k = some j ∧ j.phase = .ended ∧ j.status = 0x1A ∧
        j.detail = s.nominal r.dev) ∧
    (s.fab.out.find? (fun x => decide (x.tag = r.tag)) = some r → 1000000 ≤ (s.now - r.sent).toNat →
      ∃ t j, exec (.requestTimeout r.tag) s = .next t ∧ t.item? r.q r.k = some j ∧ j.phase = .ended ∧ j.status = 0x1A) ∧
    (∀ (vc : Fin 4) (kind : Byte) (data : List Line), s.hears l = true → kind.toNat ∉ knownKinds → data.length ≤ 7 →
      ∃ t, exec (.unknownKindMessage l vc kind m data) s = .next t ∧ logged s t 0x34 l ∧ t.mem = s.mem ∧ t.queues = s.queues)

/-- CHUNK: a message for a bucket that has not begun is held at its hub while there is room; a gathered line is written to DST;
a partial that ends its reduction here is added, rounded once, and written; one whose BSEQ is used is discarded and counted (12
R496 to R498, R508 to R510, R519). -/
def Sys2Proof.Claims.ChunkMessages : Prop :=
  ∀ (s : State) (l : Link) (m : MsgHead) (v : Line), heard s l m → s.serving = true →
    let c : HeldChunk := ⟨m, [v]⟩
    let j := m.arg.toNat % 2 ^ 32
    (s.bucketOf c = none → s.chunkEarly c = true → (s.hub (l.val % 8)).heldKib < 8192 →
      ∃ t, exec (.chunk l m [v]) s = .next t ∧ (t.hub (l.val % 8)).chunks = (s.hub (l.val % 8)).chunks ++ [c] ∧
        (∀ b, t.byte b = s.byte b) ∧ t.queues = s.queues) ∧
    (s.bucketOf c = none → s.chunkEarly c = false →
      ∃ t, exec (.chunk l m [v]) s = .next t ∧ (t.hub (l.val % 8)).chunks = (s.hub (l.val % 8)).chunks ∧
        (t.hub (l.val % 8)).hveEarly = sat16 (s.hub (l.val % 8)).hveEarly 1 ∧ (∀ b, t.byte b = s.byte b)) ∧
    (∀ q k op i w, s.bucketOf c = some (q, k, op) → s.ke? q k = some (i, w) → i.op = op → j ≠ flagIdx → w.early = [] →
      w.badLine op (bitsOf m.mtag.toNat 12 11 + 0x30) ⟨m.mtag.toNat.testBit 8, bitsOf m.mtag.toNat 7 6, j, v⟩ = false →
      (w.dst + 64 * j) % 64 = 0 → s.checkWrite i.wins (w.dst + 64 * j) 64 = none → w.stages.length = 1 →
      (m.mtag.toNat.testBit 8 = true → tget keDone w.lines j = ⟨0, .gather 0⟩ → (w.takeGather j 0 v).2 = [.result v] →
        ∃ t, exec (.chunk l m [v]) s = .next t ∧ Stored s t (w.dst + 64 * j) (natLe 64 v.toNat)) ∧
      (∀ x : Line, m.mtag.toNat.testBit 8 = false → op = 0x30 → tget keDone w.lines j = ⟨x, .reduce 0⟩ →
        ((w.stage 0).pos + (w.stage 0).len - w.startPos 0 (w.chunkOf j)) % (w.stage 0).len + 1 = (w.stage 0).len →
        let y := elemsLine (((lineElems v).zip (lineElems x)).map fun p => (ringAdd p.1 p.2).1)
        ∃ t, exec (.chunk l m [v]) s = .next t ∧ Stored s t (w.dst + 64 * j) (natLe 64 y.toNat)))

/-- Herd messages: on the master an ARRIVE of its generation counts, elsewhere it is held; a RELEASE of the master sets the GEN and
completes the BARRIER item; a CANCEL withdraws; a LOST notice marks its device once and goes on to every UP port; a stray one is
logged under 0x0034 (10 R431, R434, R435, R751, 11 R483; the UNIT of class 0x0034 is the model's, log 21). -/
def Obligations.HerdMessages : Prop :=
  ∀ (s : State) (l : Link) (m : MsgHead), heard s l m →
    let n := msgHerd m
    let h := s.herd n
    (h.kind = 2 → h.mask.getLsbD m.src = true →
      (h.master = s.device → m.arg = h.gen → m.src.val ∉ h.arrived →
        (∃ d ∈ h.members, d ∉ h.arrived ∧ d ≠ m.src.val) →
        ∃ t, exec (.arrive l m) s = .next t ∧ t.herd n = { h with arrived := h.arrived ++ [m.src.val] } ∧ t.mem = s.mem) ∧
      (h.master ≠ s.device →
        ∃ t, exec (.arrive l m) s = .next t ∧ (t.herd n).arrived = h.arrived ∧ (m.src.val, m.arg) ∈ (t.herd n).held) ∧
      (h.master = s.device → m.arg = h.gen →
        ∃ t, exec (.cancel l m) s = .next t ∧
          t.herd n = { h with arrived := h.arrived.filter fun d => decide (d ≠ m.src.val) } ∧ t.mem = s.mem)) ∧
    (h.kind = 2 → h.master = m.src.val → s.sync.watches = [] →
      ∃ t, exec (.release l m) s = .next t ∧ (t.herd n).gen = m.arg ∧ (t.herd n).arrived = h.arrived ∧
        (∀ q k i g, (q, k) ∈ s.barriersOf n → s.item? q k = some i → i.live = true → i.op = 7 → i.work = .barrier n g → i.status = 0 →
          i.late s.now = false → i.fl.counts = false →
          ∃ j, t.item? q k = some j ∧ j.phase = .ended ∧ j.status = 0 ∧ j.progress = 1)) ∧
    (h.kind ≠ 2 → ∃ t, exec (.arrive l m) s = .next t ∧ logged s t 0x34 l ∧ t.sync = s.sync) ∧
    (s.fab.seen.elem (m.src.val, m.arg) = false → s.fab.lost.getLsbD (m.mtag.toNat % 512) = false →
      ∃ t, exec (.lost l m) s = .next t ∧ t.fab.lost = s.fab.lost ||| 1#512 <<< (m.mtag.toNat % 512) ∧
        (m.src.val, m.arg) ∈ t.fab.seen ∧ logged s t 0x33 0)

/-! ## Resets, power and clocks -/

/-- The triggers of a warm reset: MOD_RESET_N and a device fault are taken, the first logged with every item without a status
FAILED_RESET; WARM_RESET ends it, with streams FREE, watches withdrawn, the β table at its reset values, device time and boundary
count as they were, debug locked, the firmware session ended and core memory at zero; an always-on fault is logged and kept (14 R551
to R554, R560, R562, 07 R750; that the trigger and the steps are two commands and that the β table returns to its reset values are
the model's readings, log 48). -/
def Obligations.WarmResets : Prop :=
  ∀ s : State, s.commanding = true →
    (s.draining = false → s.hot = false → s.sync.watches = [] →
      (∃ t, exec .modResetN s = .next t ∧ t.fault.pending = some (1, s.now) ∧ t.fault.last = 1 ∧
        (∃ e, t.fault.log.getLast? = some e ∧ e.cls = 1 ∧ e.sev = 4 ∧ e.arg0 = 1 ∧ e.seq = s.fault.seq + 1) ∧
        (∀ q k i, s.item? q k = some i → (q, k) ∈ s.openItems → i.undecided = true →
          ∃ j, t.item? q k = some j ∧ j.status = 0x13)) ∧
      (∃ t, exec .deviceFault s = .next t ∧ t.fault.pending = some (2, s.now) ∧ t.fault.last = 2)) ∧
    (s.fault.alwaysOn = false →
      ∃ t, exec .alwaysOnFault s = .next t ∧ t.fault.alwaysOn = true ∧ logged s t 0x05 0) ∧
    (∀ (sites : List SiteFact) (x : Nat × DWord),
      let u := s.setFault { s.fault with pending := some x, hold := false }
      ∃ t, exec (.warmReset sites) u = .next t ∧ t.fault.pending = none ∧ t.power.tripped = false ∧
        (∀ n, t.stream n = Stream.free) ∧ t.sync.watches = [] ∧ t.sync.waiting = [] ∧
        t.betas = Vector.replicate 16 (0x3F666666, 0x3F7D70A4) ∧ t.sync.dtc = s.sync.dtc ∧ t.sync.bcnt = s.sync.bcnt ∧
        t.sec.unlocked = false ∧ t.fwu.isOpen = false ∧ (∀ c, (t.core c).seq.run = none) ∧
        ((∀ e ∈ s.queues, e.2.hostRing = true) → ∀ a, coreBase ≤ a → a < coreTop → t.byte a = 0) ∧
        (∀ q, q < 176 → (t.queue q).st = .closed ∨ (t.queue q).st = .idle ∨ (t.queue q).st = .stopped))

/-- Power on: the always-on domain starts at 36 V, Nimtia samples the straps, PWR_EN sets T0 at 44 V, and START_UP, with no part
failed, ends step 11 with the device time counting from 0 at a power-on; with CFG_SRC high it waits for a host's image (14 R558, 15
R613, R614, 16 R618 to R620, R630; that parts not named as failed are good is the model's choice, log 55). -/
def Obligations.PowerOnAndStartUp : Prop :=
  ∀ s : State,
    (∀ vin : BitVec 16, s.power.phase = .off → 3600 ≤ vin.toNat →
      exec (.powerOn vin) s = .next (s.setPower { s.power with phase := .booting, vin := vin })) ∧
    (∀ (cool : Fin 4) (slot : Fin 64) (cfg : Bool), s.power.phase = .booting →
      ∃ t, exec (.nimtiaBoot cool slot cfg true) s = .next t ∧ t.start.step = 2 ∧ t.start.cool.toNat = cool.val ∧
        t.start.slotId.toNat = slot.val ∧ t.start.cfgSrc = cfg ∧ t.fwu.recovery = false ∧
        t.power.phase = (if s.power.pwrEn = true ∧ s.power.startable s.power.vin.toNat = true then .ready else .standby)) ∧
    (∀ vin : BitVec 16, s.power.pwrEn = false → s.power.phase = .standby → s.power.overVolt = false → 4400 ≤ vin.toNat →
      ∃ t, exec (.pwrEnAssert vin) s = .next t ∧ t.power.phase = .ready ∧ t.power.pwrEn = true) ∧
    (∀ f : StartFacts, s.tapHolds = false → s.power.phase = .ready → s.start.step = 2 → s.fwu.recovery = false →
      f.fwBad = 0 → f.hbmFailed = 0 →
      (s.start.cfgSrc = false →
        ∃ t, exec (.startUp f) s = .next t ∧ t.start.step = 11 ∧ t.start.result = 1 ∧ t.start.timeMs = f.timeMs ∧
          t.power.phase = .on ∧ t.sync.dtc = (if s.power.cold = true then 0 else s.sync.dtc) ∧ t.power.cold = false) ∧
      (s.start.cfgSrc = true →
        ∃ t, exec (.startUp f) s = .next t ∧ t.start.step = 8 ∧ t.start.result = 3 ∧ t.power.phase = .on)) ∧
    (∀ f : StartFacts, s.tapHolds = false → s.power.phase = .on → s.start.step = 9 →
      ∃ t, exec (.startUp f) s = .next t ∧ t.start.step = 11 ∧ t.start.result = 1)

/-- Power off: PWR_EN low and an input out of its limits bring the running module to standby, with a write of the Tally due and the
device time standing; an opening of the load switch is kept, and the fourth within 10 s latches; a retry after 100 ms makes the
module ready; a loss of always-on power clears the log, the sync unit, queues and cores, and keeps the Tally's copies, image slots
and keys (14 R551, R557, R558, 15 R615, R616, 19 R706; that openings older than 10 s are forgotten is the model's reading, log
49). -/
def Obligations.PowerOff : Prop :=
  ∀ s : State,
    let off := fun (t : State) => t.power.phase = .standby ∧ t.start.step = 2 ∧ t.tally.writeDue = true ∧
      t.sync.dtc = s.sync.dtc ∧ (∀ n, t.stream n = Stream.free) ∧ t.fab.links = Vector.replicate 16 LinkSt.reset
    (s.power.phase = .on →
      (s.power.pwrEn = true → ∃ t, exec .pwrEnDeassert s = .next t ∧ off t ∧ t.power.pwrEn = false) ∧
      (∀ vin : BitVec 16, vin.toNat < 4300 → ∃ t, exec (.vinUndervoltage vin) s = .next t ∧ off t) ∧
      (∀ vin : BitVec 16, 6100 < vin.toNat → ∃ t, exec (.vinOvervoltage vin) s = .next t ∧ off t ∧ t.power.overVolt = true) ∧
      (let n := (s.power.openings.filter fun d => decide ((s.now - d).toNat ≤ 1000000000)).length
       ∃ t, exec .efuseTrip s = .next t ∧ t.power.phase = (if 3 ≤ n then .latched else .tripped) ∧
        t.power.openings.getLast? = some s.now ∧ t.power.openings.length = n + 1)) ∧
    (∀ d, s.power.phase = .tripped → s.power.openings.getLast? = some d → 10000000 ≤ (s.now - d).toNat →
      exec .efuseRetry s = .next (s.setPower { s.power with phase := .ready })) ∧
    (s.power.phase ≠ .off →
      ∃ t, exec .alwaysOnPowerLoss s = .next t ∧ t.power.phase = .off ∧ t.fault = FaultSt.reset ∧ t.sync = SyncSt.reset ∧
        t.queues = [] ∧ t.cores = [] ∧ t.tally.copy0 = s.tally.copy0 ∧ t.tally.copy1 = s.tally.copy1 ∧
        t.start.slot0 = s.start.slot0 ∧ t.start.slot1 = s.start.slot1 ∧
        ∀ x : Port, (t.box x).key = (s.box x).key ∧ (t.box x).ctr = (s.box x).ctr)

/-- The reference: its loss is logged under class 0x0052, counted, begins a warm reset that is held, and its return lets the reset go
on; a holdover that ends frees every core (15 R588 to R591). -/
def Obligations.ReferenceClock : Prop :=
  ∀ s : State, s.power.phase = .on →
    (s.power.refOk = true → 4 ≤ s.start.step → s.commanding = true → s.sync.watches = [] →
      ∃ t, exec .referenceLoss s = .next t ∧ t.power.refOk = false ∧ t.power.holdover = true ∧ t.fault.hold = true ∧
        t.power.losses = min 255 (s.power.losses + 1) ∧ t.fault.pending = some (4, s.now) ∧
        (∃ e ∈ t.fault.log, e.cls = 0x52)) ∧
    (s.power.refOk = false →
      exec .referenceReturn s = .next ((s.setPower { s.power with refOk := true, holdover := false }).setFault
        { s.fault with hold := false })) ∧
    (s.power.refOk = false → s.fault.hold = true → s.fault.pending.isSome = true →
      ∃ t, exec .holdoverEnd s = .next t ∧ ∀ c, (t.core c).seq.run = none)

/-- Gates and CLKOBS: a write of PWR_GATE0 or PWR_GATE1 sets the enables, but a port never gates itself; a block whose enable is 0
switches off once its work has ended; a group serves again when it is ready; CLK_OBS takes a source, an instance and a clamped
division (15 R592, R593, R597 to R600, R617; that a group which start-up could not train stays off is the model's reading, log
51). -/
def Obligations.GatesAndClockOutput : Prop :=
  ∀ s : State,
    (∀ (p : Port) (v : Word), s.barOpen = true →
      (∃ t, exec (.pwrGateWrite p false v) s = .next t ∧ t.power.gate0 = v ∧
        t.power.gate1 = s.power.gate1) ∧
      (∃ t, exec (.pwrGateWrite p true v) s = .next t ∧ t.power.gate1 = (v.setWidth 12 ||| (1#12 <<< (8 + p.val))) ∧
        t.power.gate1.getLsbD (8 + p.val) = true)) ∧
    (∀ b : Fin 44, b.val < 32 → s.power.gate0.getLsbD b = false → s.power.stat0.getLsbD b = true → s.blockIdle b = true →
      ∃ t, exec (.gateOff b) s = .next t ∧ t.power.stat0 = s.power.stat0 &&& ~~~(1#32 <<< b.val) ∧
        t.power.stat1 = s.power.stat1 ∧ (16 ≤ b.val → (t.link (b.val - 16)).phase = .disabled)) ∧
    (∀ h : Hub, s.lpGated h = false →
      exec (.lpddr5xGroupReady h) s = .next (s.setPower { s.power with stat0 := s.power.stat0 ||| (1#32 <<< (8 + h.val)) })) ∧
    (∀ v : Word, s.barOpen = true → s.power.stat1.getLsbD 11 = true → bitsOf v.toNat 15 12 ≤ 9 →
      bitsOf v.toNat 20 16 < obsCount (bitsOf v.toNat 15 12) →
      ∃ t, exec (.clkObsWrite v) s = .next t ∧ bitsOf t.power.obs.toNat 20 16 = bitsOf v.toNat 20 16 ∧
        bitsOf t.power.obs.toNat 15 12 = bitsOf v.toNat 15 12 ∧
        bitsOf t.power.obs.toNat 4 0 = min 16 (max (obsMin (bitsOf v.toNat 15 12)) (bitsOf v.toNat 4 0)))

/-- The limiter's period: above a throttle temperature or the ceiling one more core of each die is throttled, well below both one
less, and at a trip temperature every queue stops, with a log entry of class 0x0050; failed sensors and changed straps are logged (15
R607 to R612, R617, 20 R725). -/
def Obligations.LimiterAndSensors : Prop :=
  (∀ (s : State) (m : Measures), s.power.phase = .on → 10000 ≤ (s.now - s.power.limitAt).toNat → s.power.sensors = 0 →
    s.fault.wanted = none →
    let hotAt := fun (n : Int) => ∃ i : Fin 40, n ≤ m.temps[i].toInt
    let trips := (∃ i : Fin 40, i.val < 32 ∧ 440 ≤ m.temps[i].toInt) ∨ (∃ i : Fin 40, 32 ≤ i.val ∧ 420 ≤ m.temps[i].toInt)
    let top := profWatts s.profile
    (¬trips → (hotAt 380 ∨ top < m.watts.toNat) → s.power.steps < s.stepLimit →
      ∃ t, exec (.limiterPeriod m) s = .next t ∧ t.power.steps = s.power.steps + 1 ∧ t.power.temps = m.temps ∧
        t.queues = s.queues) ∧
    (¬hotAt 360 → 100 * m.watts.toNat < 95 * top → 0 < s.power.steps →
      ∃ t, exec (.limiterPeriod m) s = .next t ∧ t.power.steps = s.power.steps - 1 ∧ t.power.temps = m.temps ∧
        t.queues = s.queues) ∧
    (trips → s.power.tripped = false →
      ∃ t, exec (.limiterPeriod m) s = .next t ∧ t.power.tripped = true ∧ (∀ q, q < 176 → (t.queue q).st = .stopped) ∧
        (∃ e ∈ t.fault.log, e.cls = 0x50))) ∧
  (∀ (s : State) (u : Fin 32) (i : Fin 2), s.power.phase = .on → s.sensorBad u i = false →
    ∃ t, exec (.sensorFault u i) s = .next t ∧ t.sensorBad u i = true ∧
      logged s t 0x50 (if u.val < 24 then u.val else u.val - 24)) ∧
  (∀ (s : State) (cool : Fin 4) (slot : Fin 64) (cfg : Bool), s.power.phase ≠ .off → s.power.phase ≠ .booting →
    s.start.cfgSrc ≠ cfg →
    ∃ t, exec (.strapChange cool slot cfg) s = .next t ∧ t.start.changed = true ∧ logged s t 0x51 0)

/-- Host ports: a lost link and PERST_N reset the endpoint alone and are logged under class 0x0003; a link that trains with every
lane healthy comes up at full width (14 R552, R556, R562, 16 R625, R628, 20 R728; that PERST_N keeps ID_BAR2_BASE and the lane
faults is the model's reading, log 30). -/
def Obligations.HostPorts : Prop :=
  ∀ (s : State) (p : Port),
    ((s.pcie p).speed ≠ 0 →
      (∃ t, exec (.hostPortLost p) s = .next t ∧ (t.pcie p).speed = 0 ∧ logged s t 0x03 p ∧ t.queues = s.queues ∧
        ((vget s.fault.irq (1 - p.val) 0).getLsbD 31 = false → t.pcie (1 - p.val) = s.pcie (1 - p.val))) ∧
      (∃ t, exec (.perstN p) s = .next t ∧
        t.pcie p = { PcieSt.reset with laneFault := (s.pcie p).laneFault, bar2Base := (s.pcie p).bar2Base } ∧
        logged s t 0x03 p ∧ t.queues = s.queues ∧
        ((vget s.fault.irq (1 - p.val) 0).getLsbD 31 = false → t.pcie (1 - p.val) = s.pcie (1 - p.val)))) ∧
    (∀ speed : Fin 6, speed.val ≠ 0 → (s.pcie p).speed = 0 → s.endpointReady = true → s.power.gate1.getLsbD (8 + p.val) = true →
      ∃ t, exec (.hostPortLinkUp p speed 0) s = .next t ∧ (t.pcie p).speed = speed.val ∧ (t.pcie p).width = 16 ∧
        (t.pcie p).reversed = false)

/-! ## Security -/

/-- The command with opcode `op` is the only one sent, and it passes the checks of 17 R658. -/
def Sys2Proof.Claims.secGoes (s : State) (p : Port) (op : Nat) : Prop :=
  s.secReady = true ∧ (s.box p).busy = true ∧ s.sec.order = [p.val] ∧ (s.box p).op = op ∧ s.secCheck p = none

/-- In `t` the command of port `p` has ended with a status, its counter taken where it carries a tag. -/
def Sys2Proof.Claims.secEnded (s t : State) (p : Port) (st : Byte) : Prop :=
  (t.box p).busy = false ∧ (t.box p).status = st ∧ t.sec.order = [] ∧
    (t.box p).opcode = BitVec.ofNat 8 (s.box p).op ∧ (t.box p).htag = BitVec.ofNat 32 ((s.box p).field 4 4)

/-- SET_POWER_PROFILE, TAKEOVER_QUEUES and DEBUG_UNLOCK, after the checks of 17 R658: each has its effect and completes, and the
counter of its tag is used (14 R571 to R575, 15 R603, 17 R659, R675). -/
def Obligations.AuthenticatedSettings : Prop :=
  ∀ (s : State) (p : Port),
    let m := s.box p
    let n := BitVec.ofNat 64 m.counter
    (secGoes s p 3 → m.zeroFrom 17 = true → m.field 16 1 < 4 →
      ∃ t, exec (.setPowerProfile p) s = .next t ∧ secEnded s t p 0 ∧ t.power.profCmd = BitVec.ofNat 2 (m.field 16 1) ∧
        (t.box p).ctr = n ∧ t.mem = s.mem ∧ t.queues = s.queues) ∧
    (secGoes s p 4 → m.zeroFrom 16 = true → (∀ n, (s.hostWatch (1 - p.val) n).ctl.getLsbD 31 = false) →
      ∃ t, exec (.takeoverQueues p) s = .next t ∧ secEnded s t p 0 ∧ (t.box p).ctr = n ∧ (∀ q, q < 176 → t.qOwner q = p) ∧
        (∀ x, x < 64 → t.ctxOwner x = p) ∧ (∀ q, q < 176 → (t.queue q).items = (s.queue q).items) ∧
        (∀ q, q < 176 → s.qOwner q ≠ p → (s.queue q).hostRing = true → (t.queue q).rebase = true) ∧
        (∃ e ∈ t.fault.log, e.cls = 0x02 ∧ e.unit = p.val ∧ e.seq = s.fault.seq + 1)) ∧
    (secGoes s p 5 → m.zeroFrom 17 = true → m.field 16 1 = 1 →
      ∃ t, exec (.debugUnlock p) s = .next t ∧ secEnded s t p 0 ∧ (t.box p).ctr = n ∧ t.sec.unlocked = false) ∧
    (secGoes s p 5 → m.zeroFrom 17 = true → m.field 16 1 = 0 → s.start.img.allowDebug = true → s.sec.debugOff = false →
      ∃ t, exec (.debugUnlock p) s = .next t ∧ secEnded s t p 0 ∧ (t.box p).ctr = n ∧ t.sec.unlocked = true) ∧
    (secGoes s p 5 → m.zeroFrom 17 = true → m.field 16 1 = 0 → s.start.img.allowDebug = false →
      ∃ t, exec (.debugUnlock p) s = .next t ∧ secEnded s t p 0x18 ∧ (t.box p).ctr = n ∧ t.sec.unlocked = s.sec.unlocked ∧ logged s t 0x60 p)

/-- LOAD_CONFIG, ACTIVATE_FIRMWARE, RESET_DEVICE and ZEROIZE: a live image waits for the next boundary, a full one comes into force;
an activation is scheduled for its target; a reset is requested; ZEROIZE clears memory, image slots and keys (14 R552, 16 R643 to
R646, 17 R667, 18 R688, R689; that memory reads 0 after ZEROIZE and that its reset is asked for at the same tick are the model's,
logs 2 and 56). -/
def Obligations.AuthenticatedOperations : Prop :=
  ∀ (s : State) (p : Port),
    let m := s.box p
    let bs := s.bytes (m.field 16 8) (m.field 24 4)
    (∀ i, secGoes s p 1 → s.tapHolds = false → m.loadForm = true → m.field 28 1 = 1 →
      s.loadRead (m.field 16 8) (m.field 24 4) = none → readImage s.imageEnv 2 true bs = .inl i →
      ∃ t, exec (.loadConfig p) s = .next t ∧ secEnded s t p 0 ∧ t.start.live = some (i.herds, i.rings) ∧
        t.start.img = s.start.img ∧ t.queues = s.queues) ∧
    (∀ i, secGoes s p 1 → s.tapHolds = false → m.loadForm = true → m.field 28 1 = 0 → s.quiet = true → s.waitsImage = false →
      s.loadRead (m.field 16 8) (m.field 24 4) = none → readImage s.imageEnv 2 false bs = .inl i →
      ∃ t, exec (.loadConfig p) s = .next t ∧ secEnded s t p 0 ∧ t.start.img = i ∧ t.start.qOwner = i.qOwner ∧
        t.start.ctxOwner = i.ctxOwner ∧ (∀ n, t.stream n = Stream.free) ∧
        (∀ q, q < 176 → (t.queue q).st = .stopped ∨ (t.queue q).st = .closed)) ∧
    (secGoes s p 2 → m.zeroFrom 25 = true → (m.field 24 1).testBit 6 = false →
      let noHerd := (m.field 24 1).testBit 7
      s.activateCheck (m.field 16 8) (m.field 24 1 % 64) noHerd = none →
      ∃ t, exec (.activateFirmware p) s = .next t ∧ secEnded s t p 0 ∧ t.fwu.actHerd = m.field 24 1 % 64 ∧
        (if noHerd = true ∨ (s.herd (m.field 24 1 % 64)).master = s.device then
          t.fwu.actState = 2 ∧ t.fwu.actTarget = BitVec.ofNat 64 (m.field 16 8)
        else t.fwu.actState = 1)) ∧
    (secGoes s p 8 → m.zeroFrom 16 = true → s.commanding = true → s.draining = false → s.hot = false →
      ∃ t, exec (.resetDevice p) s = .next t ∧ secEnded s t p 0 ∧ t.fault.pending = some (0, s.now + 1)) ∧
    (secGoes s p 9 → m.field 16 1 = 0xA5 → m.zeroFrom 17 = true → s.quiet = true → s.draining = false → s.hot = false →
      s.commanding = true →
      ∃ t, exec (.zeroize p) s = .next t ∧ secEnded s t p 0 ∧ (∀ a, t.byte a = 0) ∧ t.start.slot0 = [] ∧ t.start.slot1 = [] ∧
        (∀ x : Port, (t.box x).key = none ∧ (t.box x).ctr = 0) ∧ t.sec.unlocked = false ∧ t.fault.pending = some (0, s.now))

/-- GET_IDENTITY and ATTEST give the certificate and signed evidence, each signature using its index; SEC_CTL.GO sends a command;
a tag that does not verify changes nothing but the status, the log and the backoff, which ends after 1,000,000 ticks (17 R653 to
R662, R668 to R672). -/
def Obligations.IdentityAndMailboxes : Prop :=
  ∀ (s : State) (p : Port),
    let m := s.box p
    (secGoes s p 0x10 → m.zeroFrom 16 = true →
      ∃ t, exec (.getIdentity p) s = .next t ∧ secEnded s t p 0 ∧ (t.box p).out = s.certificate ∧ t.sec.next = s.sec.next) ∧
    (secGoes s p 0x11 → s.sec.next < 1048576 →
      ∃ t e, exec (.attest p) s = .next t ∧ secEnded s t p 0 ∧ e = s.evidence ((m.bytes.drop 16).take 32) ∧
        (t.box p).out = e ++ fitBytes 2820 (Config.deviceSignature s.sec.next e) ∧ t.sec.next = s.sec.next + 1) ∧
    (m.busy = false → s.barOpen = true → s.secReady = true → s.inBackoff p = false → s.sec.order = [] → secOpcodes.elem m.op = true →
      ∃ t, exec (.secCtlGo p) s = .next t ∧ (t.box p).busy = true ∧ t.sec.order = [p.val]) ∧
    (s.secReady = true → m.busy = true → s.sec.order = [p.val] → m.op = 3 → s.secCheck p = some (secAuth 1) →
      ∃ t, exec (.setPowerProfile p) s = .next t ∧ secEnded s t p 0x18 ∧ (t.box p).detail = 1 ∧ (t.box p).backoff = some s.now ∧
        (t.box p).ctr = m.ctr ∧ t.power = s.power ∧ logged s t 0x60 p) ∧
    (m.backoff.isSome = true → s.inBackoff p = false →
      ∃ t, exec (.backoffEnd p) s = .next t ∧ (t.box p).backoff = none ∧ (t.box p).ctr = m.ctr)

/-! ## Firmware, the Tally, management and registers -/

/-- The session of a port is open and takes commands. -/
def Sys2Proof.Claims.session (s : State) (p : Port) : Prop :=
  s.fwuReady = true ∧ s.fwu.busy = false ∧ s.fwu.isOpen = true ∧ s.fwu.port = p.val

/-- The firmware commands of a session: BEGIN opens it, writes of BAR4 and WRITE_BLOCK fill the package, STAGE verifies it into the
unit's other slot, COMMIT raises the floors, REVERT stages the image that ran before, ABORT ends the session, RESTART ends a
recovery (18 R682, R683, R686, R697 to R699; that package and BAR4 bytes never written read 0, and what a failed STAGE leaves, are
the model's readings, log 53). -/
def Obligations.FirmwareSession : Prop :=
  ∀ (s : State) (p : Port),
    (s.fwuReady = true → s.fwu.busy = false → s.fwu.isOpen = false →
      ∃ t, exec (.fwuBegin p) s = .next t ∧ t.fwu.isOpen = true ∧ t.fwu.port = p.val ∧ t.fwu.package = [] ∧ t.fwu.status = 0 ∧
        t.fwu.units = s.fwu.units) ∧
    (session s p →
      (∀ (off : BitVec 20) (bs : List Byte), off.toNat + bs.length ≤ 2 ^ 20 →
        ∃ t, exec (.hostBar4Write p off bs) s = .next t ∧
          (∀ i, i < bs.length → tget 0 t.fwu.bar4 (off.toNat + i) = bs.getD i 0) ∧
          (∀ a, a < off.toNat ∨ off.toNat + bs.length ≤ a → tget 0 t.fwu.bar4 a = tget 0 s.fwu.bar4 a)) ∧
      (let n := s.fwu.len.toNat
       n ≠ 0 → n ≤ 65536 → s.fwu.off.toNat + n ≤ 1048576 →
       ∃ t, exec (.writeBlock p) s = .next t ∧ t.fwu.status = 0 ∧ t.fwu.cmd = 2 ∧
        (∀ i, i < 16 * n → tget 0 t.fwu.package (16 * s.fwu.off.toNat + i) = tget 0 s.fwu.bar4 i) ∧
        (∀ a, a < 16 * s.fwu.off.toNat ∨ 16 * (s.fwu.off.toNat + n) ≤ a → tget 0 t.fwu.package a = tget 0 s.fwu.package a)) ∧
      (let m := s.pkg 0 256
       let u := fieldOf m 6 1
       (∀ b, s.stageChecks m = .inr b →
        ∃ t, exec (.fwuStage p) s = .next t ∧ t.fwu.status = 0 ∧ (∀ w, w ≠ u → t.unit w = s.unit w) ∧
          (s.fwu.recovery = false → (t.unit u).other = 2 ∧ (t.unit u).oth = ⟨m, b⟩ ∧ (t.unit u).act = (s.unit u).act) ∧
          (s.fwu.recovery = true → (t.unit u).act = ⟨m, b⟩ ∧ t.fwu.bad = s.fwu.bad &&& ~~~(1#4 <<< u))) ∧
       (∀ f, s.stageChecks m = .inl f →
        ∃ t, exec (.fwuStage p) s = .next t ∧ t.fwu.status = f.1 ∧ t.fwu.reason = f.2 ∧
          ∀ w, (t.unit w).act = (s.unit w).act)) ∧
      (∃ t, exec (.fwuAbort p) s = .next t ∧ t.fwu.isOpen = false ∧ t.fwu.status = 0 ∧
        (s.draining = false → t.fwu.actState = 0) ∧ (s.draining = true → t.fwu.actState = s.fwu.actState)) ∧
      (s.unitsIn 3 ≠ [] → s.draining = false →
        ∃ t, exec (.fwuCommit p) s = .next t ∧ t.fwu.status = 0 ∧ t.unitsIn 3 = [] ∧
          (∀ u, u < 4 → (t.unit u).act = (s.unit u).act ∧
            (t.unit u).floor = (if (s.unit u).other = 3 then BitVec.ofNat 64 (max (s.unit u).floor.toNat (s.unit u).act.floor)
              else (s.unit u).floor))) ∧
      (s.unitsIn 3 ≠ [] → s.unitsIn 2 = [] →
        ∃ t, exec (.fwuRevert p) s = .next t ∧ t.fwu.status = 0 ∧ t.unitsIn 2 = s.unitsIn 3 ∧ t.fwu.reversion = true) ∧
      (s.fwu.recovery = true → s.fwu.bad = 0 →
        ∃ t, exec (.fwuRestart p) s = .next t ∧ t.fwu.recovery = false ∧ t.power.phase = .ready ∧ t.start.step = 2))

/-- An activation that has drained switches every staged unit and keeps the image that ran before; one that cannot drain within its
time is cancelled, and one whose units do not start is reverted, with nothing switched (18 R692 to R694, R696; that the switch is
one step is the model's reading, log 50). -/
def Obligations.FirmwareActivation : Prop :=
  ∀ s : State, s.draining = true → s.fault.wanted = none →
    (s.drained = true →
      (∃ t, exec .activationSwitch s = .next t ∧ t.fwu.actState = 0 ∧ t.fwu.actResult = 1 ∧
        (∀ u, u < 4 → (s.unit u).other = 2 → (t.unit u).act = (s.unit u).oth ∧ (t.unit u).oth = (s.unit u).act ∧
          (t.unit u).other = 3) ∧
        (∀ u, u < 4 → (s.unit u).other ≠ 2 → t.unit u = s.unit u)) ∧
      (∃ t, exec .activationRevert s = .next t ∧ t.fwu.actState = 0 ∧ t.fwu.actResult = 3 ∧ t.fwu.units = s.fwu.units)) ∧
    (s.drained = false → 150000000 ≤ (s.now - s.fwu.actDtc).toNat →
      ∃ t, exec .activationCancel s = .next t ∧ t.fwu.actState = 0 ∧ t.fwu.actResult = 2 ∧ t.fwu.units = s.fwu.units)

/-- The Tally: a second's sample counts in the counter of the profile in force, a write takes the older copy with a higher WSEQ, SNAP
freezes the record for its port, WRITE_NOW asks for a write, and a window rolls at its tick limit (19 R700, R701, R705 to R707,
R710, R713, R714, 16 R639). -/
def Obligations.TallyAndTelemetry : Prop :=
  ∀ s : State,
    (s.power.phase = .on → s.start.step = 11 → s.sampleDue = true → (∀ i, i < 16 → (s.link i).phase ≠ .up) →
      ∃ t, exec (.tallySample []) s = .next t ∧ t.tally.sampled = s.now ∧
        tget 0 t.tally.live (0x50 + 8 * s.profile) = min (2 ^ 64 - 1) (tget 0 s.tally.live (0x50 + 8 * s.profile) + 1)) ∧
    (s.alwaysOnPowered = true → s.writeDue = true →
      ∃ t, exec (.tallyWrite true) s = .next t ∧ t.tally.wdtc = s.now ∧ t.tally.writeDue = false ∧
        tget 0 t.tally.live 8 = tget 0 s.tally.live 8 + 1 ∧
        (if copySeq s.tally.copy0 ≤ copySeq s.tally.copy1 then t.tally.copy0 = some t.tally.live ∧ t.tally.copy1 = s.tally.copy1
         else t.tally.copy1 = some t.tally.live ∧ t.tally.copy0 = s.tally.copy0)) ∧
    (s.barOpen = true →
      (∃ t, exec (.snap 0) s = .next t ∧ t.tally.snap0 = some s.tally.live ∧ t.tally.snap1 = s.tally.snap1) ∧
      (∃ t, exec (.snap 1) s = .next t ∧ t.tally.snap1 = some s.tally.live ∧ t.tally.snap0 = s.tally.snap0) ∧
      exec .writeNow s = .next (s.setTally { s.tally with writeDue := true })) ∧
    (s.start.img.twTicks ≠ 0 → s.start.img.twTicks ≤ (s.now - s.tally.cur.start).toNat →
      ∃ t, exec .telemetryRoll s = .next t ∧ t.tally.last = { s.tally.cur with stop := s.now } ∧
        t.tally.cur = { TeleWin.reset with index := s.tally.cur.index + 1, start := s.now } ∧ t.sync = s.sync)

/-- In `x` a management message has been answered on its transport with a completion code and data, and nothing else has changed but the
transport that the bus keeps, which `u` holds. -/
def Sys2Proof.Claims.replied (s u x : State) (t : Transport) (code : Nat) (data : List Byte) : Prop :=
  x.sent = s.sent ++ [.mgmt t code data] ∧ x.pins = u.pins ∧ ((x.setPins s.pins).setSent s.sent).setFreeCount s.freeCount = s

/-- Management messages that reach Nimtia: READ_REG gives up to 16 words of BAR0 in code 0 once management may read them; READ_TALLY
chunks of the live record and the two windows; READ_LOG an entry that the log still holds, which releases MG_ALERT_N where it is the one
that pulled it; READ_IMAGE a chunk of the image in force; GET_STATUS its five registers; and the codes of the messages that name what is
not there (20 R730 to R732; what SEQ 0 and a chunk beyond the image answer is the model's reading, log 57). -/
def Sys2Proof.Claims.ManagementMessages : Prop :=
  ∀ (s u : State) (t : Transport), s.addressed t = some u →
    (∀ (off : BitVec 26) (count : Nat),
      (off.toNat % 4 = 0 → 0 < count → count ≤ 16 → off.toNat + 4 * count ≤ 2 ^ 26 →
        ((∀ i, i < count → u.mgmtReads (off.toNat + 4 * i) = true) →
          ∃ x, exec (.readReg t off count) s = .next x ∧ replied s u x t 0
            ((List.range count).map fun i => natLe 4 (u.mgmtWord t (off.toNat + 4 * i)).toNat).flatten) ∧
        ((∃ i, i < count ∧ u.mgmtReads (off.toNat + 4 * i) = false) →
          ∃ x, exec (.readReg t off count) s = .next x ∧ replied s u x t 2 [])) ∧
      ((off.toNat % 4 ≠ 0 ∨ count = 0 ∨ 16 < count ∨ 2 ^ 26 < off.toNat + 4 * count) →
        ∃ x, exec (.readReg t off count) s = .next x ∧ replied s u x t 1 [])) ∧
    (∀ chunk, chunk < 128 →
      ∃ x, exec (.readTally t 0 chunk) s = .next x ∧ replied s u x t 0 (((recordBytes s.tally.live).drop (64 * chunk)).take 64)) ∧
    (∃ x, exec (.readTally t 1 0) s = .next x ∧ replied s u x t 0 s.tally.cur.bytes) ∧
    (∃ x, exec (.readTally t 2 0) s = .next x ∧ replied s u x t 0 s.tally.last.bytes) ∧
    (∀ area chunk, ¬(area = 0 ∧ chunk < 128) → ¬((area = 1 ∨ area = 2) ∧ chunk = 0) →
      ∃ x, exec (.readTally t area chunk) s = .next x ∧ replied s u x t 1 []) ∧
    (∀ n, s.slotSeq (n.toNat % 512) = n.toNat →
      (s.pins.alert ≠ some n →
        ∃ x, exec (.readLog t n) s = .next x ∧ replied s u x t 0 (s.logSlot (n.toNat % 512))) ∧
      (s.pins.alert = some n →
        ∃ x, exec (.readLog t n) s = .next x ∧ replied s (u.setPins { u.pins with alert := none }) x t 0 (s.logSlot (n.toNat % 512)))) ∧
    (∀ n, s.slotSeq (n.toNat % 512) ≠ n.toNat → ∃ x, exec (.readLog t n) s = .next x ∧ replied s u x t 3 []) ∧
    (∀ chunk, 64 * chunk < s.start.img.raw.length →
      ∃ x data, exec (.readImage t chunk) s = .next x ∧ replied s u x t 0 data ∧ data.length = 64 ∧
        ∀ i, i < 64 → 64 * chunk + i < s.start.img.raw.length → data.getD i 0 = s.start.img.raw.getD (64 * chunk + i) 0) ∧
    (∀ chunk, s.start.img.raw.length ≤ 64 * chunk → ∃ x, exec (.readImage t chunk) s = .next x ∧ replied s u x t 1 []) ∧
    (∃ x, exec (.getStatus t) s = .next x ∧
      replied s u x t 0 ([u.idStartup, u.pwrProfile, u.pwrLimit, u.clkStatus, u.idStraps].map (natLe 4)).flatten)

/-- Management: the messages with their answers; ENTDAA and an alert response fix the transport of the bus, and the latter releases
MG_ALERT_N; a recovery of a stuck bus is counted, the third that fails in a row isolates the buffer, and lines that read high reconnect
it (20 R729 to R734; what SEQ 0 and a chunk beyond the image answer is the model's reading, log 57). -/
def Obligations.Management : Prop :=
  ManagementMessages ∧
  (∀ (s : State) (a : BitVec 7), s.nimtiaUp = true →
    (s.pins.isolated = false → s.pins.transport ≠ 1 →
      exec (.entdaa a) s = .next (s.setPins { s.pins with transport := 2, address := a })) ∧
    (s.pins.isolated = false → s.pins.transport.toNat ≤ 1 →
      exec .alertResponse s = .next (s.setPins { s.pins with transport := 1, alert := none })) ∧
    (s.pins.isolated = false →
      exec (.busRecovery true) s = .next (s.setPins { s.pins with recoveries := sat16 s.pins.recoveries 1, badTries := 0,
                                                                  isolated := false })) ∧
    (s.pins.isolated = false → s.pins.badTries < 2 →
      ∃ t, exec (.busRecovery false) s = .next t ∧ t.pins.badTries = s.pins.badTries + 1 ∧ t.pins.isolated = false) ∧
    (s.pins.isolated = false → 2 ≤ s.pins.badTries →
      ∃ t, exec (.busRecovery false) s = .next t ∧ t.pins.isolated = true ∧ logged s t 0x70 0) ∧
    (s.pins.isolated = true →
      ∃ t, exec (.busSense true) s = .next t ∧ t.pins.isolated = false ∧ logged s t 0x70 0))

/-- The test port: EXTEST, CLAMP and HIGHZ are taken between the ends of start-up steps 3 and 11 and else select bypass with a log
entry of class 0x0060; SAMPLE/PRELOAD keeps the cells; DBG_ACCESS halts a core only while debug is unlocked; BYPASS and Test-Logic-
Reset select bypass (17 R673, R674, R676, R678). -/
def Obligations.TestPort : Prop :=
  ∀ s : State, s.power.phase ≠ .off →
    (s.power.phase = .on → 3 ≤ s.start.step → s.start.step < 11 →
      exec .extest s = .next (s.setTap .extest) ∧ exec .clamp s = .next (s.setTap .clamp) ∧
        exec .highz s = .next (s.setTap .highz)) ∧
    (11 ≤ s.start.step → ∃ t, exec .extest s = .next t ∧ t.pins.tap = .bypass ∧ logged s t 0x60 0) ∧
    (∀ cells, exec (.samplePreload cells) s = .next (s.setPins { s.pins with tap := .sample, cells := cells })) ∧
    exec .bypass s = .next (s.setTap .bypass) ∧ exec .testLogicReset s = .next (s.setTap .bypass) ∧
    (∀ (c : Site) (b : Bool), s.sec.unlocked = true →
      ∃ t, exec (.dbgAccess (some (c, b))) s = .next t ∧ (t.core c).seq.halted = b ∧ t.pins.tap = .debug) ∧
    (∀ x, s.sec.unlocked = false → exec (.dbgAccess x) s = .next (s.setTap .bypass))

/-- BAR0: a queue's and a context's registers take the writes of their owner alone; a 64-bit access is two of 32 bits, the
lower offset first; writes of other widths and alignments are ignored, and such reads give zero (00 R14 to R17, R753, 07 R289, 09 R345, R404, R405). -/
def Obligations.RegisterWrites : Prop :=
  ∀ (s : State) (p : Port) (off : BitVec 26) (v : DWord),
    (off.toNat % 4 ≠ 0 → ∀ w, exec (.registerWrite p off w v) s = .next s) ∧
    (∀ w, w ≠ 4 → w ≠ 8 → exec (.registerWrite p off w v) s = .next s) ∧
    (off.toNat % 8 ≠ 0 → exec (.registerWrite p off 8 v) s = .next s) ∧
    (∀ w, ¬((w = 4 ∨ w = 8) ∧ off.toNat % w = 0) → s.regRead (some p) off.toNat w = 0) ∧
    (off.toNat % 8 = 0 →
      s.regRead (some p) off.toNat 8 = s.regRead (some p) off.toNat 4 + s.regRead (some p) (off.toNat + 4) 4 * 2 ^ 32) ∧
    (off.toNat % 8 = 0 →
      ∃ t, exec (.registerWrite p off 4 v) s = .next t ∧
        exec (.registerWrite p off 8 v) s = exec (.registerWrite p (off + 4) 4 (v >>> 32)) t) ∧
    (∀ (q : Queue) (w : Nat), 0x80000 + 0x80 * q.val ≤ off.toNat → off.toNat < 0x80000 + 0x80 * q.val + 0x80 → s.qOwner q ≠ p →
      exec (.registerWrite p off w v) s = .next s) ∧
    (∀ (x : Ctx) (w : Nat), 0xC0000 + 0x400 * x.val ≤ off.toNat → off.toNat < 0xC0000 + 0x400 * x.val + 0x400 → s.ctxOwner x ≠ p →
      exec (.registerWrite p off w v) s = .next s) ∧
    (∀ q : Queue, s.barOpen = true → s.fwu.recovery = false → off.toNat = 0x80000 + 0x80 * q.val + 8 →
      s.qOwner q = p →
      ∃ t, exec (.registerWrite p off 8 v) s = .next t ∧ OnlyQueue s t q { s.queue q with start := v }) ∧
    (∀ q : Queue, s.barOpen = true → s.fwu.recovery = false → off.toNat = 0x80000 + 0x80 * q.val → s.qOwner q = p →
      ∃ t, exec (.registerWrite p off 4 v) s = .next t ∧
        OnlyQueue s t q { s.queue q with prio := v.extractLsb' 26 2 }) ∧
    (∀ x : Ctx, s.barOpen = true → s.fwu.recovery = false → off.toNat = 0xC0000 + 0x400 * x.val →
      s.ctxOwner x = p →
      ∃ t, exec (.registerWrite p off 4 v) s = .next t ∧ (t.ctx x).active = (s.ctx x).active ∧
        (vget (t.ctx x).pending 0 Window.off).base = v.setWidth 30 ∧ (∀ y, y ≠ x.val → t.ctx y = s.ctx y))

/-! ## Whole-machine statements -/

/-- The machine right after reset: those tables and the fault log keep their shape, no command waits, no item, watch or stream is
open, device time and the boundary count are 0, the β table holds β₁ = 0.9 and β₂ = 0.99 everywhere (13 R525, 10 R438, 14 R551; that
memory reads 0, that every queue is IDLE and that no core runs rest on the model's reset, logs 1 and 2). -/
def Obligations.ResetState : Prop :=
  State.reset.wf = true ∧ State.reset.fault.wf = true ∧ State.reset.pending = [] ∧ State.reset.sync.dtc = 0 ∧
    State.reset.sync.bcnt = 0 ∧ State.reset.sync.watches = [] ∧ (∀ n, State.reset.stream n = Stream.free) ∧
    (∀ q, (State.reset.queue q).items = [] ∧ (State.reset.queue q).st = .idle) ∧ (∀ c, (State.reset.core c).seq.run = none) ∧
    (∀ a, State.reset.byte a = 0) ∧ (∀ i : Fin 16, State.reset.betas[i] = (0x3F666666, 0x3F7D70A4))

/-- Reads after writes: bytes written at an address read back there, and every other byte reads as before, in every state. -/
def Obligations.ReadsAfterWrites : Prop :=
  ∀ (s : State) (a : Nat) (bs : List Byte), Stored s (s.write a bs) a bs

/-- Every step keeps the canonical form of memory and of the tables of cores, queues, turns, counters, herds, windows, streams and KE
herds. -/
def Obligations.StepsKeepTablesCanonical : Prop :=
  ∀ s t : State, s.wf = true → step s = .next t → t.wf = true

/-- Every step keeps the fault log's shape: at most 512 entries, numbered one after another up to the last SEQ (14 R580). -/
def Obligations.StepsKeepTheFaultLog : Prop :=
  ∀ s t : State, s.fault.wf = true → step s = .next t → t.fault.wf = true

/-- No command changes the queue of commands that wait. -/
def Obligations.CommandsKeepTheQueue : Prop :=
  ∀ (c : Instr) (s t : State), exec c s = .next t → t.pending = s.pending

/-! ## The statements made of the parts above -/

/-- The scalar instructions on registers and on the sign-extended IMM, MOVK0 to MOVK3, and MFSR of each special register: s(D)
takes the result, PC goes to the next word, and nothing else changes (06 R231, R232). -/
def Obligations.ScalarRegistersAndImmediates : Prop :=
  ScalarRegisterInstructions ∧ ScalarImmediateInstructions ∧ MoveKeepInstructions ∧ MoveFromSpecialRegister

/-- LD, LDW, ST and STW on core memory: a load zero-extends its bytes, little byte first; a store changes exactly its bytes (06
R231, R252, R253). -/
def Obligations.ScalarMemory : Prop :=
  ScalarLoads ∧ ScalarStores

/-- VLD, VGATHER, VST and VSCATTER: every active lane moves its word, the highest active lane that names a byte writes it, and
every other byte reads as before (06 R231, R239, R252; that VLD and VST use p0 is the model's reading, log 19). -/
def Obligations.VectorMemory : Prop :=
  VectorLoads ∧ VectorStores

/-- The floating vector instructions and the estimates: active lanes take the rounded result or the estimate, flags of active
lanes are raised under VFLAGS alone, and nothing else changes (06 R231, R233 to R236; the estimates are free values, log 8). -/
def Obligations.VectorFloats : Prop :=
  FloatingVectorInstructions ∧ EstimateInstructions

/-- Comparisons, integer and bitwise vector instructions, VSEL, VLANE, VBCAST, the predicate instructions and VMSK: the
destination takes its value, and nothing else changes (02 R91, 05 R208, 06 R223, R231, R233, R234). -/
def Obligations.VectorIntegersAndPredicates : Prop :=
  VectorComparisons ∧ IntegerVectorInstructions ∧ PredicateAndMaskInstructions

/-- VCVTO and VCVTI pack and unpack 64 lanes with their scales; VRSUM, VRMAX and VRMIN reduce by the fixed tree (06 R237, R238,
R240 to R243). -/
def Obligations.ConversionsAndReductions : Prop :=
  ConversionInstructions ∧ LaneReductions

/-- SRD, SWR and SFENCE and the two events of their slots: lines move between core memory and a stream or granted lines, and the
stream's position moves on (06 R231, R244 to R246, R252, 08 R316 to R318). -/
def Obligations.CoreStreams : Prop :=
  StreamInstructions ∧ StreamSlotEvents

/-- SIG, WAITC, WWAIT, WFIRE and HBAR: counters, wires and core herds as cores use them (06 R231, R249, 10 R407 to R417, R421 to
R423, R427 to R431). -/
def Obligations.CountersWiresAndHerds : Prop :=
  CounterInstructions ∧ WireAndHerdInstructions

/-- TZERO and TMM at issue and behind earlier instructions of their tile, the load, start and restage of passes in their cycles, and
the writing of a chunk sum: one element takes one rounded addition (03 R97, R111 to R113, R117 to R122, R126 to R130, R748, 04 R145,
R159, R162, R163, R167 to R169, 05 R201, R208, R211; the cycle that a tick has reached is log 16's, and a header whose profile is not
the core's brings free values, log 75). -/
def Obligations.TileMultiply : Prop :=
  TileZero ∧ TileMultiplies ∧ KeeperLoads ∧ PassStarts ∧ ChunkSumWrite

/-- TACCRD, TSAVE and TRESTORE: tiles are read out, whole or with a pause between rows, saved with their stamp, and restored, and other
tiles and bytes stand (04 R145, R155, R156, R165, R166, R189; that commands continue a paused TACCRD is the model's choice, log 74). -/
def Obligations.TileMoves : Prop :=
  TileReadout ∧ TileSaveAndRestore

/-- Row audits: when one falls due and begins, what its end reports, and the promotion, loss of a core and retry of an item that
follow (03 R123 to R125, R135 to R142, 14 R563, R565, 01 R32; that an audit waits while its core is stopping is the model's choice, log
76). -/
def Obligations.RowAudits : Prop :=
  AuditsFallDueAndBegin ∧ AuditsEnd ∧ PromotionLossAndRetry

/-- NOP, FENCE, PREEMPT_POINT, SIGNAL, WAIT and BARRIER complete as they start, or wait on their counter or herd (09 R374 to
R376, R397, 10 R408, R412 to R417, R430, R431, R434). -/
def Obligations.OrderingItems : Prop :=
  OrderingItemsComplete ∧ WaitItem ∧ BarrierItem

/-- An item's completion with its status, the release of final records in order with their ring, the messages held, and
deadlines (09 R375 to R378, R385 to R394, 02 R88; the mask bits of MSI-X are PCI Express's, log 12). -/
def Obligations.CompletionAndRecords : Prop :=
  ItemsComplete ∧ RecordsReleased ∧ HoldAndDeadlineExpire

/-- START, the write of HEAD, the commit of windows and the end of a rebase (07 R289 to R291, 09 R364, R388 to R390, R401, 14
R572, R573). -/
def Obligations.QueueCommands : Prop :=
  StartCommand ∧ QueueRegisterCommands

/-- PREEMPT_NOW, PREEMPT_AT_POINT, RESUME, ABORT, the stop of an instance and the save of a core's context (04 R178 to R189, 06 R263,
R265, 09 R396 to R401; that a queue is PREEMPTING before its point is the model's reading, log 33, and that a
TACCRD is recorded before a TMM its choice, log 71). -/
def Obligations.Preemption : Prop :=
  PreemptionCommands ∧ StopsRecordAnInstruction ∧ ContextSave

/-- JOB items: the image's checks at the start, the start of an instance, its end, and a word that no row spells (06 R228, R258
to R262, 09 R374). -/
def Obligations.Jobs : Prop :=
  JobItem ∧ InstanceStartsAndEnds

/-- COPY, GATHER and STREAM items: pieces of a copy, destination lines of a gather, opening and closing of a stream (08 R308 to
R319, R338 to R341, 09 R360 to R363, R374, R383; the order of a COPY's pieces and where PROGRESS counts are the model's, logs 15
and 36). -/
def Obligations.TransferItems : Prop :=
  CopyItem ∧ GatherItem ∧ StreamItems

/-- The four collectives and their CHUNK messages: buckets begin in order of BSEQ, partials are added with one rounding, and
lines are written to DST (12 R488 to R498, R506 to R510, R519; that an item waits before its field checks and that a message may
bring one line are the model's readings, logs 34 and 37). -/
def Obligations.Collectives : Prop :=
  CollectiveItems ∧ ChunkMessages

/-- UPDATE: the check pass writes nothing, and the main pass gives each block its new values, STAMP and CHECK (13 R521, R522,
R526 to R535, R541, R542, R546; that the start runs the whole check pass, that a block is one step and that the header keeps its
BETA are the model's readings, logs 39 and 43). -/
def Obligations.UpdateItems : Prop :=
  UpdateCheckPass ∧ UpdateBlockInMainPass

/-- Step boundaries and the step pins: a boundary is raised and counted, alone or with the pulse of its window; a pin that fails
is ignored or disabled, with a log entry, until REARM (10 R442 to R451, R755; that DTCs are compared without wrap is the model's
reading, log 58). -/
def Obligations.Boundaries : Prop :=
  StepBoundaries ∧ StepPins

/-- The host's part of the sync unit: SU_CTR_ADD under the rights of its port, and host watches (10 R408, R411 to R415,
R453). -/
def Obligations.HostSync : Prop :=
  HostCounterAdd ∧ HostWatches

/-- The hubs: requests of the sort queue, sparing and patrol, and the prefetcher (07 R296 to R307, 08 R321 to R326, R331, R334;
that a patrol read is logged is the model's reading, log 21). -/
def Obligations.Hubs : Prop :=
  HubRequests ∧ SparingAndPatrol ∧ Prefetching

/-- Links: flits with their sequence, CRC and replay, and the states of a port with its lanes and trainings (11 R459 to R475,
R486, 14 R562). -/
def Obligations.LinkFlitsAndStates : Prop :=
  Flits ∧ PortStates

/-- Requests of other devices and the responses to this one's (07 R274, R292, 11 R462 to R464, R484, R485; that a refused WRITE
writes no line and the UNIT of class 0x0034 are the model's readings, logs 21 and 45). -/
def Obligations.FabricRequests : Prop :=
  RequestsOfOtherDevices ∧ ResponsesAndTimeouts

/-! ## Single rules -/

/-- Predicate register p0 reads as all ones, and an instruction that names p0 as its destination writes nothing: PC alone moves on (06
R223). -/
def Obligations.PredicateZeroIsConstant : Prop :=
  (∀ x : SeqState, x.preg 0 = BitVec.allOnes 64) ∧
  ∀ (s : State) (c : Site) (r : Run) (d a b : Reg) (p : PReg) (sb : Bool), d.val % 8 = 0 →
    let x := (s.core c).seq
    let goes := fun (i : Instr) => ∃ t, exec i s = .next t ∧ OnlySeq s t c { x with pc := x.pc + 1 }
    (∀ e ∈ compareOps, d.val = 0 → s.issuing c r (encRR 4 e.2.1 d a b p (if sb then 8 else 0)) → goes (e.1 c d a b p sb)) ∧
    (∀ e ∈ predicateOps, s.issuing c r (encRR 4 e.2.1 d a b p 0) → goes (e.1 c d a b p)) ∧
    (s.issuing c r (encRR 4 0x2A d a 0 p 0) → goes (.pnot c d a p)) ∧
    (s.issuing c r (encRR 4 0x2B d a 0 p 0) → goes (.pmov c d a p))

/-- Device time: with no command waiting it counts on by one and wraps after 2^64 − 1; no command writes it but START_UP at a
power-on, where it starts at 0, and the loss of always-on power (10 R438; that an idle step is a tick is the model's choice, log
3). -/
def Obligations.DeviceTimeRunsOn : Prop :=
  (∀ s : State, s.pending = [] → s.power.cold = false →
    ∃ t, step s = .next t ∧ t.sync.dtc.toNat = (s.sync.dtc.toNat + 1) % 2 ^ 64) ∧
  (∀ (c : Instr) (s t : State), exec c s = .next t → c ≠ .alwaysOnPowerLoss →
    (s.power.cold = false ∨ ∀ f, c ≠ .startUp f) → t.sync.dtc = s.sync.dtc) ∧
  (∀ (f : StartFacts) (s t : State), exec (.startUp f) s = .next t → s.power.cold = true →
    t.sync.dtc = s.sync.dtc ∨ t.sync.dtc = 0) ∧
  (∀ s t : State, exec .alwaysOnPowerLoss s = .next t → s.power.phase ≠ .off → t.sync.dtc = 0 ∧ t.power.cold = true)

/-- FUSE_COMMIT burns the fuse bits that it names; no step clears one; with no bit set, an unknown bit, or both slots to be revoked it
fails with FAILED_MALFORMED and burns nothing (17 R666). -/
def Obligations.FusesOnlyBurn : Prop :=
  (∀ s t : State, step s = .next t →
    (s.sec.rev0 = true → t.sec.rev0 = true) ∧ (s.sec.rev1 = true → t.sec.rev1 = true) ∧
      (s.sec.debugOff = true → t.sec.debugOff = true)) ∧
  ∀ (s : State) (p : Port), secGoes s p 7 →
    let o := (s.box p).field 16 1
    let rev0 := s.sec.rev0 || o.testBit 0
    let rev1 := s.sec.rev1 || o.testBit 1
    ((s.box p).zeroFrom 17 = false ∨ o = 0 ∨ 8 ≤ o ∨ (rev0 = true ∧ rev1 = true) →
      ∃ t, exec (.fuseCommit p) s = .next t ∧ secEnded s t p 0x1D ∧ t.sec.rev0 = s.sec.rev0 ∧ t.sec.rev1 = s.sec.rev1 ∧
        t.sec.debugOff = s.sec.debugOff) ∧
    ((s.box p).zeroFrom 17 = true → o ≠ 0 → o < 8 → ¬(rev0 = true ∧ rev1 = true) →
      ∃ t, exec (.fuseCommit p) s = .next t ∧ secEnded s t p 0 ∧ t.sec.rev0 = rev0 ∧ t.sec.rev1 = rev1 ∧
        t.sec.debugOff = (s.sec.debugOff || o.testBit 2))

/-- KEY_ROLL sets the port's key to ENC XOR KMAC256(K, serial and COUNTER, 256, "IFESIA RSD1440 ROLL"), K being 32 zero bytes while
the key is unset, with the counter 0, and a loss of power keeps both; a result of zero fails with FAILED_MALFORMED and keeps the key (17
R663). -/
def Obligations.KeyRolls : Prop :=
  ∀ (s : State) (p : Port), secGoes s p 6 →
    let m := s.box p
    let old := match m.key with | some k => natLe 32 k.toNat | none => List.replicate 32 0
    let mask := kmac256 old (natLe 8 s.start.serial.toNat ++ natLe 8 m.counter) 32 "IFESIA RSD1440 ROLL"
    let new := BitVec.ofNat 256 (m.field 16 32) ^^^ BitVec.ofNat 256 (leNat mask)
    (new ≠ 0 →
      ∃ t, exec (.keyRoll p) s = .next t ∧ secEnded s t p 0 ∧ (t.box p).key = some new ∧ (t.box p).ctr = 0 ∧
        ∀ u, exec .alwaysOnPowerLoss t = .next u → (u.box p).key = some new ∧ (u.box p).ctr = 0) ∧
    (new = 0 → ∃ t, exec (.keyRoll p) s = .next t ∧ secEnded s t p 0x1D ∧ (t.box p).key = m.key)

/-- After a failure for reason 0x01 the port is in backoff for 1,000,000 ticks from that completion, and a command whose GO arrives in
it fails at once (17 R662). -/
def Obligations.BackoffAfterABadTag : Prop :=
  ∀ (s : State) (p : Port), s.secReady = true →
    (∀ e ∈ [((.loadConfig : Port → Instr), 1), (.activateFirmware, 2), (.setPowerProfile, 3), (.takeoverQueues, 4), (.debugUnlock, 5),
        (.keyRoll, 6), (.fuseCommit, 7), (.resetDevice, 8), (.zeroize, 9)],
      (s.box p).busy = true → s.sec.order = [p.val] → (s.box p).op = e.2 → s.tapHolds = false → s.secCheck p = some (secAuth 1) →
      ∃ t, exec (e.1 p) s = .next t ∧ secEnded s t p 0x18 ∧ (t.box p).detail = 1 ∧
        ∀ u : State, (u.box p).backoff = (t.box p).backoff →
          (u.inBackoff p = true ↔ (u.sync.dtc - s.sync.dtc).toNat < 1000000)) ∧
    ((s.box p).busy = false → s.barOpen = true → s.inBackoff p = true →
      ∃ t, exec (.secCtlGo p) s = .next t ∧ (t.box p).busy = false ∧ (t.box p).status = 0x18 ∧ (t.box p).detail = 0x0A ∧
        t.sec.order = s.sec.order.filter (· ≠ p.val))

/-- A write of PWR_GATE1 through a host port leaves the port's own bit at 1, and the other bits of the write take effect (15
R600). -/
def Obligations.OwnGateStaysOpen : Prop :=
  ∀ (s : State) (p : Port) (v : Word), s.barOpen = true →
    ∃ t, exec (.pwrGateWrite p true v) s = .next t ∧ t.power.gate1.getLsbD (8 + p.val) = true ∧
      ∀ i, i < 12 → i ≠ 8 + p.val → t.power.gate1.getLsbD i = v.getLsbD i

/-- A Tally counter counts up to 2^64 − 1 and stays there, and nothing else records it; a bin counts up to 2^32 − 1, where its
histogram's OVERFLOW bit becomes 1 and no other bit changes (19 R703, R704). -/
def Obligations.TallyCountsSaturate : Prop :=
  ∀ (s : State) (off n : Nat),
    let t := s.tallyAdd off n
    (tget 0 t.tally.live off = min (2 ^ 64 - 1) (tget 0 s.tally.live off + n) ∧
      (∀ x, x ≠ off → tget 0 t.tally.live x = tget 0 s.tally.live x) ∧
      t.setTally { t.tally with live := s.tally.live } = s) ∧
    ∀ ovf, off ≠ tallyOverflow →
      let u := s.tallyBin off ovf n
      let v := min (2 ^ 32 - 1) (tget 0 s.tally.live off + n)
      tget 0 u.tally.live off = v ∧ (∀ x, x ≠ off → x ≠ tallyOverflow → tget 0 u.tally.live x = tget 0 s.tally.live x) ∧
      (∀ i, (tget 0 u.tally.live tallyOverflow).testBit i =
        ((tget 0 s.tally.live tallyOverflow).testBit i || (decide (v = 2 ^ 32 - 1) && decide (i = ovf)))) ∧
      u.setTally { u.tally with live := s.tally.live } = s
end

