-- ==== Sys2Proof/Laws/State.lean ====
section
/-!
SUPPORT. One law per field and update of State, each true by definition.
-/
namespace Sys2Proof.Machine

@[simp] theorem State.setCores_cores (s : State) (x : Table Core) : (s.setCores x).cores = x := rfl
@[simp] theorem State.setCores_queues (s : State) (x : Table Core) : (s.setCores x).queues = s.queues := rfl
@[simp] theorem State.setCores_takeLast (s : State) (x : Table Core) : (s.setCores x).takeLast = s.takeLast := rfl
@[simp] theorem State.setCores_turns (s : State) (x : Table Core) : (s.setCores x).turns = s.turns := rfl
@[simp] theorem State.setCores_mem (s : State) (x : Table Core) : (s.setCores x).mem = s.mem := rfl
@[simp] theorem State.setCores_sync (s : State) (x : Table Core) : (s.setCores x).sync = s.sync := rfl
@[simp] theorem State.setCores_fab (s : State) (x : Table Core) : (s.setCores x).fab = s.fab := rfl
@[simp] theorem State.setCores_ke (s : State) (x : Table Core) : (s.setCores x).ke = s.ke := rfl
@[simp] theorem State.setCores_betas (s : State) (x : Table Core) : (s.setCores x).betas = s.betas := rfl
@[simp] theorem State.setCores_fault (s : State) (x : Table Core) : (s.setCores x).fault = s.fault := rfl
@[simp] theorem State.setCores_power (s : State) (x : Table Core) : (s.setCores x).power = s.power := rfl
@[simp] theorem State.setCores_start (s : State) (x : Table Core) : (s.setCores x).start = s.start := rfl
@[simp] theorem State.setCores_sec (s : State) (x : Table Core) : (s.setCores x).sec = s.sec := rfl
@[simp] theorem State.setCores_fwu (s : State) (x : Table Core) : (s.setCores x).fwu = s.fwu := rfl
@[simp] theorem State.setCores_tally (s : State) (x : Table Core) : (s.setCores x).tally = s.tally := rfl
@[simp] theorem State.setCores_pins (s : State) (x : Table Core) : (s.setCores x).pins = s.pins := rfl
@[simp] theorem State.setCores_pending (s : State) (x : Table Core) : (s.setCores x).pending = s.pending := rfl
@[simp] theorem State.setCores_sent (s : State) (x : Table Core) : (s.setCores x).sent = s.sent := rfl
@[simp] theorem State.setCores_freeCount (s : State) (x : Table Core) : (s.setCores x).freeCount = s.freeCount := rfl
@[simp] theorem State.setQueues_cores (s : State) (x : Table QueueSt) : (s.setQueues x).cores = s.cores := rfl
@[simp] theorem State.setQueues_queues (s : State) (x : Table QueueSt) : (s.setQueues x).queues = x := rfl
@[simp] theorem State.setQueues_takeLast (s : State) (x : Table QueueSt) : (s.setQueues x).takeLast = s.takeLast := rfl
@[simp] theorem State.setQueues_turns (s : State) (x : Table QueueSt) : (s.setQueues x).turns = s.turns := rfl
@[simp] theorem State.setQueues_mem (s : State) (x : Table QueueSt) : (s.setQueues x).mem = s.mem := rfl
@[simp] theorem State.setQueues_sync (s : State) (x : Table QueueSt) : (s.setQueues x).sync = s.sync := rfl
@[simp] theorem State.setQueues_fab (s : State) (x : Table QueueSt) : (s.setQueues x).fab = s.fab := rfl
@[simp] theorem State.setQueues_ke (s : State) (x : Table QueueSt) : (s.setQueues x).ke = s.ke := rfl
@[simp] theorem State.setQueues_betas (s : State) (x : Table QueueSt) : (s.setQueues x).betas = s.betas := rfl
@[simp] theorem State.setQueues_fault (s : State) (x : Table QueueSt) : (s.setQueues x).fault = s.fault := rfl
@[simp] theorem State.setQueues_power (s : State) (x : Table QueueSt) : (s.setQueues x).power = s.power := rfl
@[simp] theorem State.setQueues_start (s : State) (x : Table QueueSt) : (s.setQueues x).start = s.start := rfl
@[simp] theorem State.setQueues_sec (s : State) (x : Table QueueSt) : (s.setQueues x).sec = s.sec := rfl
@[simp] theorem State.setQueues_fwu (s : State) (x : Table QueueSt) : (s.setQueues x).fwu = s.fwu := rfl
@[simp] theorem State.setQueues_tally (s : State) (x : Table QueueSt) : (s.setQueues x).tally = s.tally := rfl
@[simp] theorem State.setQueues_pins (s : State) (x : Table QueueSt) : (s.setQueues x).pins = s.pins := rfl
@[simp] theorem State.setQueues_pending (s : State) (x : Table QueueSt) : (s.setQueues x).pending = s.pending := rfl
@[simp] theorem State.setQueues_sent (s : State) (x : Table QueueSt) : (s.setQueues x).sent = s.sent := rfl
@[simp] theorem State.setQueues_freeCount (s : State) (x : Table QueueSt) : (s.setQueues x).freeCount = s.freeCount := rfl
@[simp] theorem State.setTakeLast_cores (s : State) (x : Word) : (s.setTakeLast x).cores = s.cores := rfl
@[simp] theorem State.setTakeLast_queues (s : State) (x : Word) : (s.setTakeLast x).queues = s.queues := rfl
@[simp] theorem State.setTakeLast_takeLast (s : State) (x : Word) : (s.setTakeLast x).takeLast = x := rfl
@[simp] theorem State.setTakeLast_turns (s : State) (x : Word) : (s.setTakeLast x).turns = s.turns := rfl
@[simp] theorem State.setTakeLast_mem (s : State) (x : Word) : (s.setTakeLast x).mem = s.mem := rfl
@[simp] theorem State.setTakeLast_sync (s : State) (x : Word) : (s.setTakeLast x).sync = s.sync := rfl
@[simp] theorem State.setTakeLast_fab (s : State) (x : Word) : (s.setTakeLast x).fab = s.fab := rfl
@[simp] theorem State.setTakeLast_ke (s : State) (x : Word) : (s.setTakeLast x).ke = s.ke := rfl
@[simp] theorem State.setTakeLast_betas (s : State) (x : Word) : (s.setTakeLast x).betas = s.betas := rfl
@[simp] theorem State.setTakeLast_fault (s : State) (x : Word) : (s.setTakeLast x).fault = s.fault := rfl
@[simp] theorem State.setTakeLast_power (s : State) (x : Word) : (s.setTakeLast x).power = s.power := rfl
@[simp] theorem State.setTakeLast_start (s : State) (x : Word) : (s.setTakeLast x).start = s.start := rfl
@[simp] theorem State.setTakeLast_sec (s : State) (x : Word) : (s.setTakeLast x).sec = s.sec := rfl
@[simp] theorem State.setTakeLast_fwu (s : State) (x : Word) : (s.setTakeLast x).fwu = s.fwu := rfl
@[simp] theorem State.setTakeLast_tally (s : State) (x : Word) : (s.setTakeLast x).tally = s.tally := rfl
@[simp] theorem State.setTakeLast_pins (s : State) (x : Word) : (s.setTakeLast x).pins = s.pins := rfl
@[simp] theorem State.setTakeLast_pending (s : State) (x : Word) : (s.setTakeLast x).pending = s.pending := rfl
@[simp] theorem State.setTakeLast_sent (s : State) (x : Word) : (s.setTakeLast x).sent = s.sent := rfl
@[simp] theorem State.setTakeLast_freeCount (s : State) (x : Word) : (s.setTakeLast x).freeCount = s.freeCount := rfl
@[simp] theorem State.setTurns_cores (s : State) (x : Table Nat) : (s.setTurns x).cores = s.cores := rfl
@[simp] theorem State.setTurns_queues (s : State) (x : Table Nat) : (s.setTurns x).queues = s.queues := rfl
@[simp] theorem State.setTurns_takeLast (s : State) (x : Table Nat) : (s.setTurns x).takeLast = s.takeLast := rfl
@[simp] theorem State.setTurns_turns (s : State) (x : Table Nat) : (s.setTurns x).turns = x := rfl
@[simp] theorem State.setTurns_mem (s : State) (x : Table Nat) : (s.setTurns x).mem = s.mem := rfl
@[simp] theorem State.setTurns_sync (s : State) (x : Table Nat) : (s.setTurns x).sync = s.sync := rfl
@[simp] theorem State.setTurns_fab (s : State) (x : Table Nat) : (s.setTurns x).fab = s.fab := rfl
@[simp] theorem State.setTurns_ke (s : State) (x : Table Nat) : (s.setTurns x).ke = s.ke := rfl
@[simp] theorem State.setTurns_betas (s : State) (x : Table Nat) : (s.setTurns x).betas = s.betas := rfl
@[simp] theorem State.setTurns_fault (s : State) (x : Table Nat) : (s.setTurns x).fault = s.fault := rfl
@[simp] theorem State.setTurns_power (s : State) (x : Table Nat) : (s.setTurns x).power = s.power := rfl
@[simp] theorem State.setTurns_start (s : State) (x : Table Nat) : (s.setTurns x).start = s.start := rfl
@[simp] theorem State.setTurns_sec (s : State) (x : Table Nat) : (s.setTurns x).sec = s.sec := rfl
@[simp] theorem State.setTurns_fwu (s : State) (x : Table Nat) : (s.setTurns x).fwu = s.fwu := rfl
@[simp] theorem State.setTurns_tally (s : State) (x : Table Nat) : (s.setTurns x).tally = s.tally := rfl
@[simp] theorem State.setTurns_pins (s : State) (x : Table Nat) : (s.setTurns x).pins = s.pins := rfl
@[simp] theorem State.setTurns_pending (s : State) (x : Table Nat) : (s.setTurns x).pending = s.pending := rfl
@[simp] theorem State.setTurns_sent (s : State) (x : Table Nat) : (s.setTurns x).sent = s.sent := rfl
@[simp] theorem State.setTurns_freeCount (s : State) (x : Table Nat) : (s.setTurns x).freeCount = s.freeCount := rfl
@[simp] theorem State.setMem_cores (s : State) (x : MemSt) : (s.setMem x).cores = s.cores := rfl
@[simp] theorem State.setMem_queues (s : State) (x : MemSt) : (s.setMem x).queues = s.queues := rfl
@[simp] theorem State.setMem_takeLast (s : State) (x : MemSt) : (s.setMem x).takeLast = s.takeLast := rfl
@[simp] theorem State.setMem_turns (s : State) (x : MemSt) : (s.setMem x).turns = s.turns := rfl
@[simp] theorem State.setMem_mem (s : State) (x : MemSt) : (s.setMem x).mem = x := rfl
@[simp] theorem State.setMem_sync (s : State) (x : MemSt) : (s.setMem x).sync = s.sync := rfl
@[simp] theorem State.setMem_fab (s : State) (x : MemSt) : (s.setMem x).fab = s.fab := rfl
@[simp] theorem State.setMem_ke (s : State) (x : MemSt) : (s.setMem x).ke = s.ke := rfl
@[simp] theorem State.setMem_betas (s : State) (x : MemSt) : (s.setMem x).betas = s.betas := rfl
@[simp] theorem State.setMem_fault (s : State) (x : MemSt) : (s.setMem x).fault = s.fault := rfl
@[simp] theorem State.setMem_power (s : State) (x : MemSt) : (s.setMem x).power = s.power := rfl
@[simp] theorem State.setMem_start (s : State) (x : MemSt) : (s.setMem x).start = s.start := rfl
@[simp] theorem State.setMem_sec (s : State) (x : MemSt) : (s.setMem x).sec = s.sec := rfl
@[simp] theorem State.setMem_fwu (s : State) (x : MemSt) : (s.setMem x).fwu = s.fwu := rfl
@[simp] theorem State.setMem_tally (s : State) (x : MemSt) : (s.setMem x).tally = s.tally := rfl
@[simp] theorem State.setMem_pins (s : State) (x : MemSt) : (s.setMem x).pins = s.pins := rfl
@[simp] theorem State.setMem_pending (s : State) (x : MemSt) : (s.setMem x).pending = s.pending := rfl
@[simp] theorem State.setMem_sent (s : State) (x : MemSt) : (s.setMem x).sent = s.sent := rfl
@[simp] theorem State.setMem_freeCount (s : State) (x : MemSt) : (s.setMem x).freeCount = s.freeCount := rfl
@[simp] theorem State.setSync_cores (s : State) (x : SyncSt) : (s.setSync x).cores = s.cores := rfl
@[simp] theorem State.setSync_queues (s : State) (x : SyncSt) : (s.setSync x).queues = s.queues := rfl
@[simp] theorem State.setSync_takeLast (s : State) (x : SyncSt) : (s.setSync x).takeLast = s.takeLast := rfl
@[simp] theorem State.setSync_turns (s : State) (x : SyncSt) : (s.setSync x).turns = s.turns := rfl
@[simp] theorem State.setSync_mem (s : State) (x : SyncSt) : (s.setSync x).mem = s.mem := rfl
@[simp] theorem State.setSync_sync (s : State) (x : SyncSt) : (s.setSync x).sync = x := rfl
@[simp] theorem State.setSync_fab (s : State) (x : SyncSt) : (s.setSync x).fab = s.fab := rfl
@[simp] theorem State.setSync_ke (s : State) (x : SyncSt) : (s.setSync x).ke = s.ke := rfl
@[simp] theorem State.setSync_betas (s : State) (x : SyncSt) : (s.setSync x).betas = s.betas := rfl
@[simp] theorem State.setSync_fault (s : State) (x : SyncSt) : (s.setSync x).fault = s.fault := rfl
@[simp] theorem State.setSync_power (s : State) (x : SyncSt) : (s.setSync x).power = s.power := rfl
@[simp] theorem State.setSync_start (s : State) (x : SyncSt) : (s.setSync x).start = s.start := rfl
@[simp] theorem State.setSync_sec (s : State) (x : SyncSt) : (s.setSync x).sec = s.sec := rfl
@[simp] theorem State.setSync_fwu (s : State) (x : SyncSt) : (s.setSync x).fwu = s.fwu := rfl
@[simp] theorem State.setSync_tally (s : State) (x : SyncSt) : (s.setSync x).tally = s.tally := rfl
@[simp] theorem State.setSync_pins (s : State) (x : SyncSt) : (s.setSync x).pins = s.pins := rfl
@[simp] theorem State.setSync_pending (s : State) (x : SyncSt) : (s.setSync x).pending = s.pending := rfl
@[simp] theorem State.setSync_sent (s : State) (x : SyncSt) : (s.setSync x).sent = s.sent := rfl
@[simp] theorem State.setSync_freeCount (s : State) (x : SyncSt) : (s.setSync x).freeCount = s.freeCount := rfl
@[simp] theorem State.setFab_cores (s : State) (x : FabricSt) : (s.setFab x).cores = s.cores := rfl
@[simp] theorem State.setFab_queues (s : State) (x : FabricSt) : (s.setFab x).queues = s.queues := rfl
@[simp] theorem State.setFab_takeLast (s : State) (x : FabricSt) : (s.setFab x).takeLast = s.takeLast := rfl
@[simp] theorem State.setFab_turns (s : State) (x : FabricSt) : (s.setFab x).turns = s.turns := rfl
@[simp] theorem State.setFab_mem (s : State) (x : FabricSt) : (s.setFab x).mem = s.mem := rfl
@[simp] theorem State.setFab_sync (s : State) (x : FabricSt) : (s.setFab x).sync = s.sync := rfl
@[simp] theorem State.setFab_fab (s : State) (x : FabricSt) : (s.setFab x).fab = x := rfl
@[simp] theorem State.setFab_ke (s : State) (x : FabricSt) : (s.setFab x).ke = s.ke := rfl
@[simp] theorem State.setFab_betas (s : State) (x : FabricSt) : (s.setFab x).betas = s.betas := rfl
@[simp] theorem State.setFab_fault (s : State) (x : FabricSt) : (s.setFab x).fault = s.fault := rfl
@[simp] theorem State.setFab_power (s : State) (x : FabricSt) : (s.setFab x).power = s.power := rfl
@[simp] theorem State.setFab_start (s : State) (x : FabricSt) : (s.setFab x).start = s.start := rfl
@[simp] theorem State.setFab_sec (s : State) (x : FabricSt) : (s.setFab x).sec = s.sec := rfl
@[simp] theorem State.setFab_fwu (s : State) (x : FabricSt) : (s.setFab x).fwu = s.fwu := rfl
@[simp] theorem State.setFab_tally (s : State) (x : FabricSt) : (s.setFab x).tally = s.tally := rfl
@[simp] theorem State.setFab_pins (s : State) (x : FabricSt) : (s.setFab x).pins = s.pins := rfl
@[simp] theorem State.setFab_pending (s : State) (x : FabricSt) : (s.setFab x).pending = s.pending := rfl
@[simp] theorem State.setFab_sent (s : State) (x : FabricSt) : (s.setFab x).sent = s.sent := rfl
@[simp] theorem State.setFab_freeCount (s : State) (x : FabricSt) : (s.setFab x).freeCount = s.freeCount := rfl
@[simp] theorem State.setKe_cores (s : State) (x : Table KeHerd) : (s.setKe x).cores = s.cores := rfl
@[simp] theorem State.setKe_queues (s : State) (x : Table KeHerd) : (s.setKe x).queues = s.queues := rfl
@[simp] theorem State.setKe_takeLast (s : State) (x : Table KeHerd) : (s.setKe x).takeLast = s.takeLast := rfl
@[simp] theorem State.setKe_turns (s : State) (x : Table KeHerd) : (s.setKe x).turns = s.turns := rfl
@[simp] theorem State.setKe_mem (s : State) (x : Table KeHerd) : (s.setKe x).mem = s.mem := rfl
@[simp] theorem State.setKe_sync (s : State) (x : Table KeHerd) : (s.setKe x).sync = s.sync := rfl
@[simp] theorem State.setKe_fab (s : State) (x : Table KeHerd) : (s.setKe x).fab = s.fab := rfl
@[simp] theorem State.setKe_ke (s : State) (x : Table KeHerd) : (s.setKe x).ke = x := rfl
@[simp] theorem State.setKe_betas (s : State) (x : Table KeHerd) : (s.setKe x).betas = s.betas := rfl
@[simp] theorem State.setKe_fault (s : State) (x : Table KeHerd) : (s.setKe x).fault = s.fault := rfl
@[simp] theorem State.setKe_power (s : State) (x : Table KeHerd) : (s.setKe x).power = s.power := rfl
@[simp] theorem State.setKe_start (s : State) (x : Table KeHerd) : (s.setKe x).start = s.start := rfl
@[simp] theorem State.setKe_sec (s : State) (x : Table KeHerd) : (s.setKe x).sec = s.sec := rfl
@[simp] theorem State.setKe_fwu (s : State) (x : Table KeHerd) : (s.setKe x).fwu = s.fwu := rfl
@[simp] theorem State.setKe_tally (s : State) (x : Table KeHerd) : (s.setKe x).tally = s.tally := rfl
@[simp] theorem State.setKe_pins (s : State) (x : Table KeHerd) : (s.setKe x).pins = s.pins := rfl
@[simp] theorem State.setKe_pending (s : State) (x : Table KeHerd) : (s.setKe x).pending = s.pending := rfl
@[simp] theorem State.setKe_sent (s : State) (x : Table KeHerd) : (s.setKe x).sent = s.sent := rfl
@[simp] theorem State.setKe_freeCount (s : State) (x : Table KeHerd) : (s.setKe x).freeCount = s.freeCount := rfl
@[simp] theorem State.setBetas_cores (s : State) (x : Vector (Word × Word) 16) : (s.setBetas x).cores = s.cores := rfl
@[simp] theorem State.setBetas_queues (s : State) (x : Vector (Word × Word) 16) : (s.setBetas x).queues = s.queues := rfl
@[simp] theorem State.setBetas_takeLast (s : State) (x : Vector (Word × Word) 16) : (s.setBetas x).takeLast = s.takeLast := rfl
@[simp] theorem State.setBetas_turns (s : State) (x : Vector (Word × Word) 16) : (s.setBetas x).turns = s.turns := rfl
@[simp] theorem State.setBetas_mem (s : State) (x : Vector (Word × Word) 16) : (s.setBetas x).mem = s.mem := rfl
@[simp] theorem State.setBetas_sync (s : State) (x : Vector (Word × Word) 16) : (s.setBetas x).sync = s.sync := rfl
@[simp] theorem State.setBetas_fab (s : State) (x : Vector (Word × Word) 16) : (s.setBetas x).fab = s.fab := rfl
@[simp] theorem State.setBetas_ke (s : State) (x : Vector (Word × Word) 16) : (s.setBetas x).ke = s.ke := rfl
@[simp] theorem State.setBetas_betas (s : State) (x : Vector (Word × Word) 16) : (s.setBetas x).betas = x := rfl
@[simp] theorem State.setBetas_fault (s : State) (x : Vector (Word × Word) 16) : (s.setBetas x).fault = s.fault := rfl
@[simp] theorem State.setBetas_power (s : State) (x : Vector (Word × Word) 16) : (s.setBetas x).power = s.power := rfl
@[simp] theorem State.setBetas_start (s : State) (x : Vector (Word × Word) 16) : (s.setBetas x).start = s.start := rfl
@[simp] theorem State.setBetas_sec (s : State) (x : Vector (Word × Word) 16) : (s.setBetas x).sec = s.sec := rfl
@[simp] theorem State.setBetas_fwu (s : State) (x : Vector (Word × Word) 16) : (s.setBetas x).fwu = s.fwu := rfl
@[simp] theorem State.setBetas_tally (s : State) (x : Vector (Word × Word) 16) : (s.setBetas x).tally = s.tally := rfl
@[simp] theorem State.setBetas_pins (s : State) (x : Vector (Word × Word) 16) : (s.setBetas x).pins = s.pins := rfl
@[simp] theorem State.setBetas_pending (s : State) (x : Vector (Word × Word) 16) : (s.setBetas x).pending = s.pending := rfl
@[simp] theorem State.setBetas_sent (s : State) (x : Vector (Word × Word) 16) : (s.setBetas x).sent = s.sent := rfl
@[simp] theorem State.setBetas_freeCount (s : State) (x : Vector (Word × Word) 16) : (s.setBetas x).freeCount = s.freeCount := rfl
@[simp] theorem State.setFault_cores (s : State) (x : FaultSt) : (s.setFault x).cores = s.cores := rfl
@[simp] theorem State.setFault_queues (s : State) (x : FaultSt) : (s.setFault x).queues = s.queues := rfl
@[simp] theorem State.setFault_takeLast (s : State) (x : FaultSt) : (s.setFault x).takeLast = s.takeLast := rfl
@[simp] theorem State.setFault_turns (s : State) (x : FaultSt) : (s.setFault x).turns = s.turns := rfl
@[simp] theorem State.setFault_mem (s : State) (x : FaultSt) : (s.setFault x).mem = s.mem := rfl
@[simp] theorem State.setFault_sync (s : State) (x : FaultSt) : (s.setFault x).sync = s.sync := rfl
@[simp] theorem State.setFault_fab (s : State) (x : FaultSt) : (s.setFault x).fab = s.fab := rfl
@[simp] theorem State.setFault_ke (s : State) (x : FaultSt) : (s.setFault x).ke = s.ke := rfl
@[simp] theorem State.setFault_betas (s : State) (x : FaultSt) : (s.setFault x).betas = s.betas := rfl
@[simp] theorem State.setFault_fault (s : State) (x : FaultSt) : (s.setFault x).fault = x := rfl
@[simp] theorem State.setFault_power (s : State) (x : FaultSt) : (s.setFault x).power = s.power := rfl
@[simp] theorem State.setFault_start (s : State) (x : FaultSt) : (s.setFault x).start = s.start := rfl
@[simp] theorem State.setFault_sec (s : State) (x : FaultSt) : (s.setFault x).sec = s.sec := rfl
@[simp] theorem State.setFault_fwu (s : State) (x : FaultSt) : (s.setFault x).fwu = s.fwu := rfl
@[simp] theorem State.setFault_tally (s : State) (x : FaultSt) : (s.setFault x).tally = s.tally := rfl
@[simp] theorem State.setFault_pins (s : State) (x : FaultSt) : (s.setFault x).pins = s.pins := rfl
@[simp] theorem State.setFault_pending (s : State) (x : FaultSt) : (s.setFault x).pending = s.pending := rfl
@[simp] theorem State.setFault_sent (s : State) (x : FaultSt) : (s.setFault x).sent = s.sent := rfl
@[simp] theorem State.setFault_freeCount (s : State) (x : FaultSt) : (s.setFault x).freeCount = s.freeCount := rfl
@[simp] theorem State.setPower_cores (s : State) (x : PowerSt) : (s.setPower x).cores = s.cores := rfl
@[simp] theorem State.setPower_queues (s : State) (x : PowerSt) : (s.setPower x).queues = s.queues := rfl
@[simp] theorem State.setPower_takeLast (s : State) (x : PowerSt) : (s.setPower x).takeLast = s.takeLast := rfl
@[simp] theorem State.setPower_turns (s : State) (x : PowerSt) : (s.setPower x).turns = s.turns := rfl
@[simp] theorem State.setPower_mem (s : State) (x : PowerSt) : (s.setPower x).mem = s.mem := rfl
@[simp] theorem State.setPower_sync (s : State) (x : PowerSt) : (s.setPower x).sync = s.sync := rfl
@[simp] theorem State.setPower_fab (s : State) (x : PowerSt) : (s.setPower x).fab = s.fab := rfl
@[simp] theorem State.setPower_ke (s : State) (x : PowerSt) : (s.setPower x).ke = s.ke := rfl
@[simp] theorem State.setPower_betas (s : State) (x : PowerSt) : (s.setPower x).betas = s.betas := rfl
@[simp] theorem State.setPower_fault (s : State) (x : PowerSt) : (s.setPower x).fault = s.fault := rfl
@[simp] theorem State.setPower_power (s : State) (x : PowerSt) : (s.setPower x).power = x := rfl
@[simp] theorem State.setPower_start (s : State) (x : PowerSt) : (s.setPower x).start = s.start := rfl
@[simp] theorem State.setPower_sec (s : State) (x : PowerSt) : (s.setPower x).sec = s.sec := rfl
@[simp] theorem State.setPower_fwu (s : State) (x : PowerSt) : (s.setPower x).fwu = s.fwu := rfl
@[simp] theorem State.setPower_tally (s : State) (x : PowerSt) : (s.setPower x).tally = s.tally := rfl
@[simp] theorem State.setPower_pins (s : State) (x : PowerSt) : (s.setPower x).pins = s.pins := rfl
@[simp] theorem State.setPower_pending (s : State) (x : PowerSt) : (s.setPower x).pending = s.pending := rfl
@[simp] theorem State.setPower_sent (s : State) (x : PowerSt) : (s.setPower x).sent = s.sent := rfl
@[simp] theorem State.setPower_freeCount (s : State) (x : PowerSt) : (s.setPower x).freeCount = s.freeCount := rfl
@[simp] theorem State.setStart_cores (s : State) (x : StartSt) : (s.setStart x).cores = s.cores := rfl
@[simp] theorem State.setStart_queues (s : State) (x : StartSt) : (s.setStart x).queues = s.queues := rfl
@[simp] theorem State.setStart_takeLast (s : State) (x : StartSt) : (s.setStart x).takeLast = s.takeLast := rfl
@[simp] theorem State.setStart_turns (s : State) (x : StartSt) : (s.setStart x).turns = s.turns := rfl
@[simp] theorem State.setStart_mem (s : State) (x : StartSt) : (s.setStart x).mem = s.mem := rfl
@[simp] theorem State.setStart_sync (s : State) (x : StartSt) : (s.setStart x).sync = s.sync := rfl
@[simp] theorem State.setStart_fab (s : State) (x : StartSt) : (s.setStart x).fab = s.fab := rfl
@[simp] theorem State.setStart_ke (s : State) (x : StartSt) : (s.setStart x).ke = s.ke := rfl
@[simp] theorem State.setStart_betas (s : State) (x : StartSt) : (s.setStart x).betas = s.betas := rfl
@[simp] theorem State.setStart_fault (s : State) (x : StartSt) : (s.setStart x).fault = s.fault := rfl
@[simp] theorem State.setStart_power (s : State) (x : StartSt) : (s.setStart x).power = s.power := rfl
@[simp] theorem State.setStart_start (s : State) (x : StartSt) : (s.setStart x).start = x := rfl
@[simp] theorem State.setStart_sec (s : State) (x : StartSt) : (s.setStart x).sec = s.sec := rfl
@[simp] theorem State.setStart_fwu (s : State) (x : StartSt) : (s.setStart x).fwu = s.fwu := rfl
@[simp] theorem State.setStart_tally (s : State) (x : StartSt) : (s.setStart x).tally = s.tally := rfl
@[simp] theorem State.setStart_pins (s : State) (x : StartSt) : (s.setStart x).pins = s.pins := rfl
@[simp] theorem State.setStart_pending (s : State) (x : StartSt) : (s.setStart x).pending = s.pending := rfl
@[simp] theorem State.setStart_sent (s : State) (x : StartSt) : (s.setStart x).sent = s.sent := rfl
@[simp] theorem State.setStart_freeCount (s : State) (x : StartSt) : (s.setStart x).freeCount = s.freeCount := rfl
@[simp] theorem State.setSec_cores (s : State) (x : SecSt) : (s.setSec x).cores = s.cores := rfl
@[simp] theorem State.setSec_queues (s : State) (x : SecSt) : (s.setSec x).queues = s.queues := rfl
@[simp] theorem State.setSec_takeLast (s : State) (x : SecSt) : (s.setSec x).takeLast = s.takeLast := rfl
@[simp] theorem State.setSec_turns (s : State) (x : SecSt) : (s.setSec x).turns = s.turns := rfl
@[simp] theorem State.setSec_mem (s : State) (x : SecSt) : (s.setSec x).mem = s.mem := rfl
@[simp] theorem State.setSec_sync (s : State) (x : SecSt) : (s.setSec x).sync = s.sync := rfl
@[simp] theorem State.setSec_fab (s : State) (x : SecSt) : (s.setSec x).fab = s.fab := rfl
@[simp] theorem State.setSec_ke (s : State) (x : SecSt) : (s.setSec x).ke = s.ke := rfl
@[simp] theorem State.setSec_betas (s : State) (x : SecSt) : (s.setSec x).betas = s.betas := rfl
@[simp] theorem State.setSec_fault (s : State) (x : SecSt) : (s.setSec x).fault = s.fault := rfl
@[simp] theorem State.setSec_power (s : State) (x : SecSt) : (s.setSec x).power = s.power := rfl
@[simp] theorem State.setSec_start (s : State) (x : SecSt) : (s.setSec x).start = s.start := rfl
@[simp] theorem State.setSec_sec (s : State) (x : SecSt) : (s.setSec x).sec = x := rfl
@[simp] theorem State.setSec_fwu (s : State) (x : SecSt) : (s.setSec x).fwu = s.fwu := rfl
@[simp] theorem State.setSec_tally (s : State) (x : SecSt) : (s.setSec x).tally = s.tally := rfl
@[simp] theorem State.setSec_pins (s : State) (x : SecSt) : (s.setSec x).pins = s.pins := rfl
@[simp] theorem State.setSec_pending (s : State) (x : SecSt) : (s.setSec x).pending = s.pending := rfl
@[simp] theorem State.setSec_sent (s : State) (x : SecSt) : (s.setSec x).sent = s.sent := rfl
@[simp] theorem State.setSec_freeCount (s : State) (x : SecSt) : (s.setSec x).freeCount = s.freeCount := rfl
@[simp] theorem State.setFwu_cores (s : State) (x : FwuSt) : (s.setFwu x).cores = s.cores := rfl
@[simp] theorem State.setFwu_queues (s : State) (x : FwuSt) : (s.setFwu x).queues = s.queues := rfl
@[simp] theorem State.setFwu_takeLast (s : State) (x : FwuSt) : (s.setFwu x).takeLast = s.takeLast := rfl
@[simp] theorem State.setFwu_turns (s : State) (x : FwuSt) : (s.setFwu x).turns = s.turns := rfl
@[simp] theorem State.setFwu_mem (s : State) (x : FwuSt) : (s.setFwu x).mem = s.mem := rfl
@[simp] theorem State.setFwu_sync (s : State) (x : FwuSt) : (s.setFwu x).sync = s.sync := rfl
@[simp] theorem State.setFwu_fab (s : State) (x : FwuSt) : (s.setFwu x).fab = s.fab := rfl
@[simp] theorem State.setFwu_ke (s : State) (x : FwuSt) : (s.setFwu x).ke = s.ke := rfl
@[simp] theorem State.setFwu_betas (s : State) (x : FwuSt) : (s.setFwu x).betas = s.betas := rfl
@[simp] theorem State.setFwu_fault (s : State) (x : FwuSt) : (s.setFwu x).fault = s.fault := rfl
@[simp] theorem State.setFwu_power (s : State) (x : FwuSt) : (s.setFwu x).power = s.power := rfl
@[simp] theorem State.setFwu_start (s : State) (x : FwuSt) : (s.setFwu x).start = s.start := rfl
@[simp] theorem State.setFwu_sec (s : State) (x : FwuSt) : (s.setFwu x).sec = s.sec := rfl
@[simp] theorem State.setFwu_fwu (s : State) (x : FwuSt) : (s.setFwu x).fwu = x := rfl
@[simp] theorem State.setFwu_tally (s : State) (x : FwuSt) : (s.setFwu x).tally = s.tally := rfl
@[simp] theorem State.setFwu_pins (s : State) (x : FwuSt) : (s.setFwu x).pins = s.pins := rfl
@[simp] theorem State.setFwu_pending (s : State) (x : FwuSt) : (s.setFwu x).pending = s.pending := rfl
@[simp] theorem State.setFwu_sent (s : State) (x : FwuSt) : (s.setFwu x).sent = s.sent := rfl
@[simp] theorem State.setFwu_freeCount (s : State) (x : FwuSt) : (s.setFwu x).freeCount = s.freeCount := rfl
@[simp] theorem State.setTally_cores (s : State) (x : TallySt) : (s.setTally x).cores = s.cores := rfl
@[simp] theorem State.setTally_queues (s : State) (x : TallySt) : (s.setTally x).queues = s.queues := rfl
@[simp] theorem State.setTally_takeLast (s : State) (x : TallySt) : (s.setTally x).takeLast = s.takeLast := rfl
@[simp] theorem State.setTally_turns (s : State) (x : TallySt) : (s.setTally x).turns = s.turns := rfl
@[simp] theorem State.setTally_mem (s : State) (x : TallySt) : (s.setTally x).mem = s.mem := rfl
@[simp] theorem State.setTally_sync (s : State) (x : TallySt) : (s.setTally x).sync = s.sync := rfl
@[simp] theorem State.setTally_fab (s : State) (x : TallySt) : (s.setTally x).fab = s.fab := rfl
@[simp] theorem State.setTally_ke (s : State) (x : TallySt) : (s.setTally x).ke = s.ke := rfl
@[simp] theorem State.setTally_betas (s : State) (x : TallySt) : (s.setTally x).betas = s.betas := rfl
@[simp] theorem State.setTally_fault (s : State) (x : TallySt) : (s.setTally x).fault = s.fault := rfl
@[simp] theorem State.setTally_power (s : State) (x : TallySt) : (s.setTally x).power = s.power := rfl
@[simp] theorem State.setTally_start (s : State) (x : TallySt) : (s.setTally x).start = s.start := rfl
@[simp] theorem State.setTally_sec (s : State) (x : TallySt) : (s.setTally x).sec = s.sec := rfl
@[simp] theorem State.setTally_fwu (s : State) (x : TallySt) : (s.setTally x).fwu = s.fwu := rfl
@[simp] theorem State.setTally_tally (s : State) (x : TallySt) : (s.setTally x).tally = x := rfl
@[simp] theorem State.setTally_pins (s : State) (x : TallySt) : (s.setTally x).pins = s.pins := rfl
@[simp] theorem State.setTally_pending (s : State) (x : TallySt) : (s.setTally x).pending = s.pending := rfl
@[simp] theorem State.setTally_sent (s : State) (x : TallySt) : (s.setTally x).sent = s.sent := rfl
@[simp] theorem State.setTally_freeCount (s : State) (x : TallySt) : (s.setTally x).freeCount = s.freeCount := rfl
@[simp] theorem State.setPins_cores (s : State) (x : PinSt) : (s.setPins x).cores = s.cores := rfl
@[simp] theorem State.setPins_queues (s : State) (x : PinSt) : (s.setPins x).queues = s.queues := rfl
@[simp] theorem State.setPins_takeLast (s : State) (x : PinSt) : (s.setPins x).takeLast = s.takeLast := rfl
@[simp] theorem State.setPins_turns (s : State) (x : PinSt) : (s.setPins x).turns = s.turns := rfl
@[simp] theorem State.setPins_mem (s : State) (x : PinSt) : (s.setPins x).mem = s.mem := rfl
@[simp] theorem State.setPins_sync (s : State) (x : PinSt) : (s.setPins x).sync = s.sync := rfl
@[simp] theorem State.setPins_fab (s : State) (x : PinSt) : (s.setPins x).fab = s.fab := rfl
@[simp] theorem State.setPins_ke (s : State) (x : PinSt) : (s.setPins x).ke = s.ke := rfl
@[simp] theorem State.setPins_betas (s : State) (x : PinSt) : (s.setPins x).betas = s.betas := rfl
@[simp] theorem State.setPins_fault (s : State) (x : PinSt) : (s.setPins x).fault = s.fault := rfl
@[simp] theorem State.setPins_power (s : State) (x : PinSt) : (s.setPins x).power = s.power := rfl
@[simp] theorem State.setPins_start (s : State) (x : PinSt) : (s.setPins x).start = s.start := rfl
@[simp] theorem State.setPins_sec (s : State) (x : PinSt) : (s.setPins x).sec = s.sec := rfl
@[simp] theorem State.setPins_fwu (s : State) (x : PinSt) : (s.setPins x).fwu = s.fwu := rfl
@[simp] theorem State.setPins_tally (s : State) (x : PinSt) : (s.setPins x).tally = s.tally := rfl
@[simp] theorem State.setPins_pins (s : State) (x : PinSt) : (s.setPins x).pins = x := rfl
@[simp] theorem State.setPins_pending (s : State) (x : PinSt) : (s.setPins x).pending = s.pending := rfl
@[simp] theorem State.setPins_sent (s : State) (x : PinSt) : (s.setPins x).sent = s.sent := rfl
@[simp] theorem State.setPins_freeCount (s : State) (x : PinSt) : (s.setPins x).freeCount = s.freeCount := rfl
@[simp] theorem State.setPending_cores (s : State) (x : List Instr) : (s.setPending x).cores = s.cores := rfl
@[simp] theorem State.setPending_queues (s : State) (x : List Instr) : (s.setPending x).queues = s.queues := rfl
@[simp] theorem State.setPending_takeLast (s : State) (x : List Instr) : (s.setPending x).takeLast = s.takeLast := rfl
@[simp] theorem State.setPending_turns (s : State) (x : List Instr) : (s.setPending x).turns = s.turns := rfl
@[simp] theorem State.setPending_mem (s : State) (x : List Instr) : (s.setPending x).mem = s.mem := rfl
@[simp] theorem State.setPending_sync (s : State) (x : List Instr) : (s.setPending x).sync = s.sync := rfl
@[simp] theorem State.setPending_fab (s : State) (x : List Instr) : (s.setPending x).fab = s.fab := rfl
@[simp] theorem State.setPending_ke (s : State) (x : List Instr) : (s.setPending x).ke = s.ke := rfl
@[simp] theorem State.setPending_betas (s : State) (x : List Instr) : (s.setPending x).betas = s.betas := rfl
@[simp] theorem State.setPending_fault (s : State) (x : List Instr) : (s.setPending x).fault = s.fault := rfl
@[simp] theorem State.setPending_power (s : State) (x : List Instr) : (s.setPending x).power = s.power := rfl
@[simp] theorem State.setPending_start (s : State) (x : List Instr) : (s.setPending x).start = s.start := rfl
@[simp] theorem State.setPending_sec (s : State) (x : List Instr) : (s.setPending x).sec = s.sec := rfl
@[simp] theorem State.setPending_fwu (s : State) (x : List Instr) : (s.setPending x).fwu = s.fwu := rfl
@[simp] theorem State.setPending_tally (s : State) (x : List Instr) : (s.setPending x).tally = s.tally := rfl
@[simp] theorem State.setPending_pins (s : State) (x : List Instr) : (s.setPending x).pins = s.pins := rfl
@[simp] theorem State.setPending_pending (s : State) (x : List Instr) : (s.setPending x).pending = x := rfl
@[simp] theorem State.setPending_sent (s : State) (x : List Instr) : (s.setPending x).sent = s.sent := rfl
@[simp] theorem State.setPending_freeCount (s : State) (x : List Instr) : (s.setPending x).freeCount = s.freeCount := rfl
@[simp] theorem State.setSent_cores (s : State) (x : List Out) : (s.setSent x).cores = s.cores := rfl
@[simp] theorem State.setSent_queues (s : State) (x : List Out) : (s.setSent x).queues = s.queues := rfl
@[simp] theorem State.setSent_takeLast (s : State) (x : List Out) : (s.setSent x).takeLast = s.takeLast := rfl
@[simp] theorem State.setSent_turns (s : State) (x : List Out) : (s.setSent x).turns = s.turns := rfl
@[simp] theorem State.setSent_mem (s : State) (x : List Out) : (s.setSent x).mem = s.mem := rfl
@[simp] theorem State.setSent_sync (s : State) (x : List Out) : (s.setSent x).sync = s.sync := rfl
@[simp] theorem State.setSent_fab (s : State) (x : List Out) : (s.setSent x).fab = s.fab := rfl
@[simp] theorem State.setSent_ke (s : State) (x : List Out) : (s.setSent x).ke = s.ke := rfl
@[simp] theorem State.setSent_betas (s : State) (x : List Out) : (s.setSent x).betas = s.betas := rfl
@[simp] theorem State.setSent_fault (s : State) (x : List Out) : (s.setSent x).fault = s.fault := rfl
@[simp] theorem State.setSent_power (s : State) (x : List Out) : (s.setSent x).power = s.power := rfl
@[simp] theorem State.setSent_start (s : State) (x : List Out) : (s.setSent x).start = s.start := rfl
@[simp] theorem State.setSent_sec (s : State) (x : List Out) : (s.setSent x).sec = s.sec := rfl
@[simp] theorem State.setSent_fwu (s : State) (x : List Out) : (s.setSent x).fwu = s.fwu := rfl
@[simp] theorem State.setSent_tally (s : State) (x : List Out) : (s.setSent x).tally = s.tally := rfl
@[simp] theorem State.setSent_pins (s : State) (x : List Out) : (s.setSent x).pins = s.pins := rfl
@[simp] theorem State.setSent_pending (s : State) (x : List Out) : (s.setSent x).pending = s.pending := rfl
@[simp] theorem State.setSent_sent (s : State) (x : List Out) : (s.setSent x).sent = x := rfl
@[simp] theorem State.setSent_freeCount (s : State) (x : List Out) : (s.setSent x).freeCount = s.freeCount := rfl
@[simp] theorem State.setFreeCount_cores (s : State) (x : Nat) : (s.setFreeCount x).cores = s.cores := rfl
@[simp] theorem State.setFreeCount_queues (s : State) (x : Nat) : (s.setFreeCount x).queues = s.queues := rfl
@[simp] theorem State.setFreeCount_takeLast (s : State) (x : Nat) : (s.setFreeCount x).takeLast = s.takeLast := rfl
@[simp] theorem State.setFreeCount_turns (s : State) (x : Nat) : (s.setFreeCount x).turns = s.turns := rfl
@[simp] theorem State.setFreeCount_mem (s : State) (x : Nat) : (s.setFreeCount x).mem = s.mem := rfl
@[simp] theorem State.setFreeCount_sync (s : State) (x : Nat) : (s.setFreeCount x).sync = s.sync := rfl
@[simp] theorem State.setFreeCount_fab (s : State) (x : Nat) : (s.setFreeCount x).fab = s.fab := rfl
@[simp] theorem State.setFreeCount_ke (s : State) (x : Nat) : (s.setFreeCount x).ke = s.ke := rfl
@[simp] theorem State.setFreeCount_betas (s : State) (x : Nat) : (s.setFreeCount x).betas = s.betas := rfl
@[simp] theorem State.setFreeCount_fault (s : State) (x : Nat) : (s.setFreeCount x).fault = s.fault := rfl
@[simp] theorem State.setFreeCount_power (s : State) (x : Nat) : (s.setFreeCount x).power = s.power := rfl
@[simp] theorem State.setFreeCount_start (s : State) (x : Nat) : (s.setFreeCount x).start = s.start := rfl
@[simp] theorem State.setFreeCount_sec (s : State) (x : Nat) : (s.setFreeCount x).sec = s.sec := rfl
@[simp] theorem State.setFreeCount_fwu (s : State) (x : Nat) : (s.setFreeCount x).fwu = s.fwu := rfl
@[simp] theorem State.setFreeCount_tally (s : State) (x : Nat) : (s.setFreeCount x).tally = s.tally := rfl
@[simp] theorem State.setFreeCount_pins (s : State) (x : Nat) : (s.setFreeCount x).pins = s.pins := rfl
@[simp] theorem State.setFreeCount_pending (s : State) (x : Nat) : (s.setFreeCount x).pending = s.pending := rfl
@[simp] theorem State.setFreeCount_sent (s : State) (x : Nat) : (s.setFreeCount x).sent = s.sent := rfl
@[simp] theorem State.setFreeCount_freeCount (s : State) (x : Nat) : (s.setFreeCount x).freeCount = x := rfl

end Sys2Proof.Machine
end

