-- ==== Sys2Proof/Laws/Table.lean ====
section
/-!
SUPPORT. The laws of sparse tables: a read after a write, and that writes keep the canonical form.
-/
namespace Sys2Proof.Machine

variable {α : Type} {d : α} {t : Table α} {k k' : Nat} {v : α}

theorem tget_tins : tget d (tins t k v) k' = if k' = k then v else tget d t k' := by
  induction t with
  | nil => simp [tins, tget]
  | cons e t ih => obtain ⟨a, b⟩ := e; grind [tins, tget]

theorem tget_filter_ne : tget d (t.filter fun e => decide (e.1 ≠ k)) k' = if k' = k then d else tget d t k' := by
  induction t with
  | nil => simp [tget]
  | cons e t ih => obtain ⟨a, b⟩ := e; grind [tget]

/-- A table reads the value put at a key there, and its old value elsewhere. -/
theorem tget_tput [DecidableEq α] : tget d (tput d t k v) k' = if k' = k then v else tget d t k' := by
  unfold tput; split
  · rw [tget_filter_ne]; simp_all
  · exact tget_tins

@[simp] theorem tget_tput_same [DecidableEq α] : tget d (tput d t k v) k = v := by simp [tget_tput]

theorem tget_tput_ne [DecidableEq α] (h : k' ≠ k) : tget d (tput d t k v) k' = tget d t k' := by simp [tget_tput, h]

theorem tokFrom_mono [DecidableEq α] {lo hi : Nat} (h : lo ≤ hi) (H : tokFrom d hi t = true) : tokFrom d lo t = true := by
  cases t with
  | nil => rfl
  | cons e t => obtain ⟨a, b⟩ := e; grind [tokFrom]

theorem tokFrom_filter [DecidableEq α] (p : Nat × α → Bool) {lo : Nat} (H : tokFrom d lo t = true) :
    tokFrom d lo (t.filter p) = true := by
  induction t generalizing lo with
  | nil => rfl
  | cons e t ih =>
    obtain ⟨a, b⟩ := e
    simp only [tokFrom, Bool.and_eq_true, decide_eq_true_eq] at H
    rw [List.filter_cons]; split
    · simp only [tokFrom, Bool.and_eq_true, decide_eq_true_eq]; exact ⟨H.1, ih H.2⟩
    · exact tokFrom_mono (by omega) (ih H.2)

theorem tokFrom_tins [DecidableEq α] {lo : Nat} (h : lo ≤ k) (hv : v ≠ d) (H : tokFrom d lo t = true) :
    tokFrom d lo (tins t k v) = true := by
  induction t generalizing lo with
  | nil => simp [tins, tokFrom, h, hv]
  | cons e t ih =>
    obtain ⟨a, b⟩ := e
    simp only [tokFrom, Bool.and_eq_true, decide_eq_true_eq] at H
    unfold tins; split
    · simp_all [tokFrom]
    · split
      · simp_all [tokFrom]
      · simp only [tokFrom, Bool.and_eq_true, decide_eq_true_eq]; exact ⟨H.1, ih (by omega) H.2⟩

/-- A table stays canonical when its entries are filtered. -/
theorem tok_filter [DecidableEq α] (p : Nat × α → Bool) (H : tok d t = true) : tok d (t.filter p) = true := tokFrom_filter p H

/-- A table stays canonical when a value is put. -/
theorem tok_tput [DecidableEq α] (H : tok d t = true) : tok d (tput d t k v) = true := by
  unfold tput; split
  · exact tok_filter _ H
  · exact tokFrom_tins (Nat.zero_le _) ‹_› H

/-- A table reads the changed value at every key. -/
theorem tget_tmap (f : α → α) (hd : f d = d) : tget d (tmap f t) k = f (tget d t k) := by
  unfold tmap
  induction t with
  | nil => simp [tget, hd]
  | cons e t ih => obtain ⟨a, b⟩ := e; grind [tget]

/-- A table stays canonical when its values change to others that are not the default. -/
theorem tok_tmap [DecidableEq α] (f : α → α) (hf : ∀ x, x ≠ d → f x ≠ d) (H : tok d t = true) : tok d (tmap f t) = true := by
  unfold tok tmap at *
  generalize (0 : Nat) = lo at H ⊢
  induction t generalizing lo with
  | nil => rfl
  | cons e t ih =>
    obtain ⟨a, b⟩ := e
    simp only [List.map_cons, tokFrom, Bool.and_eq_true, decide_eq_true_eq, Bool.not_eq_true'] at *
    exact ⟨⟨H.1.1, by simpa using hf b (by simpa using H.1.2)⟩, ih _ H.2⟩

@[simp] theorem tok_nil [DecidableEq α] : tok d ([] : Table α) = true := rfl

/-- A table built by puts from a canonical one is canonical. -/
theorem tok_foldl_tput [DecidableEq α] {β : Type} (l : List β) (f : β → Nat) (g : β → α) (H : tok d t = true) :
    tok d (l.foldl (fun t e => tput d t (f e) (g e)) t) = true := by
  induction l generalizing t with
  | nil => exact H
  | cons e l ih => exact ih (tok_tput H)

end Sys2Proof.Machine
end

