-- ==== Sys2Proof/Laws/Ops.lean ====
section
/-!
SUPPORT. The laws of the shared operations: a part of State put at a number is read back there and no other part changes; what
each operation leaves alone, one law per field; and what a message, an entry of the fault log and a write can change.
-/
namespace Sys2Proof.Machine

/-! ## A part put at a number -/

theorem vget_vset {α : Type} {n : Nat} (v : Vector α n) (i j : Nat) (x d : α) (h : i < n) :
    vget (vset v i x) j d = if j = i then x else vget v j d := by
  unfold vget vset
  grind

theorem vset_beyond {α : Type} {n : Nat} (v : Vector α n) (i : Nat) (x : α) (h : n ≤ i) : vset v i x = v := by
  unfold vset
  grind

theorem State.core_putCore (s : State) (i j : Nat) (x : Core) : (s.putCore i x).core j = if j = i then x else s.core j := tget_tput
@[simp] theorem State.core_putCore_same (s : State) (i : Nat) (x : Core) : (s.putCore i x).core i = x := tget_tput_same
theorem State.core_putCore_ne (s : State) (i j : Nat) (x : Core) (h : j ≠ i) : (s.putCore i x).core j = s.core j := tget_tput_ne h
theorem State.queue_putQueue (s : State) (i j : Nat) (x : QueueSt) : (s.putQueue i x).queue j = if j = i then x else s.queue j := tget_tput
@[simp] theorem State.queue_putQueue_same (s : State) (i : Nat) (x : QueueSt) : (s.putQueue i x).queue i = x := tget_tput_same
theorem State.queue_putQueue_ne (s : State) (i j : Nat) (x : QueueSt) (h : j ≠ i) : (s.putQueue i x).queue j = s.queue j := tget_tput_ne h
theorem State.herd_putHerd (s : State) (i j : Nat) (x : Herd) : (s.putHerd i x).herd j = if j = i then x else s.herd j := tget_tput
@[simp] theorem State.herd_putHerd_same (s : State) (i : Nat) (x : Herd) : (s.putHerd i x).herd i = x := tget_tput_same
theorem State.herd_putHerd_ne (s : State) (i j : Nat) (x : Herd) (h : j ≠ i) : (s.putHerd i x).herd j = s.herd j := tget_tput_ne h
theorem State.ctx_putCtx (s : State) (i j : Nat) (x : CtxWins) : (s.putCtx i x).ctx j = if j = i then x else s.ctx j := tget_tput
@[simp] theorem State.ctx_putCtx_same (s : State) (i : Nat) (x : CtxWins) : (s.putCtx i x).ctx i = x := tget_tput_same
theorem State.ctx_putCtx_ne (s : State) (i j : Nat) (x : CtxWins) (h : j ≠ i) : (s.putCtx i x).ctx j = s.ctx j := tget_tput_ne h
theorem State.stream_putStream (s : State) (i j : Nat) (x : Stream) : (s.putStream i x).stream j = if j = i then x else s.stream j := tget_tput
@[simp] theorem State.stream_putStream_same (s : State) (i : Nat) (x : Stream) : (s.putStream i x).stream i = x := tget_tput_same
theorem State.stream_putStream_ne (s : State) (i j : Nat) (x : Stream) (h : j ≠ i) : (s.putStream i x).stream j = s.stream j := tget_tput_ne h
theorem State.keHerd_putKeHerd (s : State) (i j : Nat) (x : KeHerd) : (s.putKeHerd i x).keHerd j = if j = i then x else s.keHerd j := tget_tput
@[simp] theorem State.keHerd_putKeHerd_same (s : State) (i : Nat) (x : KeHerd) : (s.putKeHerd i x).keHerd i = x := tget_tput_same
theorem State.keHerd_putKeHerd_ne (s : State) (i j : Nat) (x : KeHerd) (h : j ≠ i) : (s.putKeHerd i x).keHerd j = s.keHerd j := tget_tput_ne h
theorem State.hub_putHub (s : State) (i j : Nat) (x : HubSt) (h : i < 8) : (s.putHub i x).hub j = if j = i then x else s.hub j :=
  vget_vset _ _ _ _ _ h
theorem State.link_putLink (s : State) (i j : Nat) (x : LinkSt) (h : i < 16) : (s.putLink i x).link j = if j = i then x else s.link j :=
  vget_vset _ _ _ _ _ h
theorem State.pcie_putPcie (s : State) (i j : Nat) (x : PcieSt) (h : i < 2) : (s.putPcie i x).pcie j = if j = i then x else s.pcie j :=
  vget_vset _ _ _ _ _ h
theorem State.box_putBox (s : State) (i j : Nat) (x : Mailbox) (h : i < 2) : (s.putBox i x).box j = if j = i then x else s.box j :=
  vget_vset _ _ _ _ _ h

/-! ## What each operation leaves alone -/

@[simp] theorem State.putCore_queues (s : State) (c : Nat) (x : Core) : (s.putCore c x).queues = s.queues := rfl
@[simp] theorem State.putCore_takeLast (s : State) (c : Nat) (x : Core) : (s.putCore c x).takeLast = s.takeLast := rfl
@[simp] theorem State.putCore_turns (s : State) (c : Nat) (x : Core) : (s.putCore c x).turns = s.turns := rfl
@[simp] theorem State.putCore_mem (s : State) (c : Nat) (x : Core) : (s.putCore c x).mem = s.mem := rfl
@[simp] theorem State.putCore_sync (s : State) (c : Nat) (x : Core) : (s.putCore c x).sync = s.sync := rfl
@[simp] theorem State.putCore_fab (s : State) (c : Nat) (x : Core) : (s.putCore c x).fab = s.fab := rfl
@[simp] theorem State.putCore_ke (s : State) (c : Nat) (x : Core) : (s.putCore c x).ke = s.ke := rfl
@[simp] theorem State.putCore_betas (s : State) (c : Nat) (x : Core) : (s.putCore c x).betas = s.betas := rfl
@[simp] theorem State.putCore_fault (s : State) (c : Nat) (x : Core) : (s.putCore c x).fault = s.fault := rfl
@[simp] theorem State.putCore_power (s : State) (c : Nat) (x : Core) : (s.putCore c x).power = s.power := rfl
@[simp] theorem State.putCore_start (s : State) (c : Nat) (x : Core) : (s.putCore c x).start = s.start := rfl
@[simp] theorem State.putCore_sec (s : State) (c : Nat) (x : Core) : (s.putCore c x).sec = s.sec := rfl
@[simp] theorem State.putCore_fwu (s : State) (c : Nat) (x : Core) : (s.putCore c x).fwu = s.fwu := rfl
@[simp] theorem State.putCore_tally (s : State) (c : Nat) (x : Core) : (s.putCore c x).tally = s.tally := rfl
@[simp] theorem State.putCore_pins (s : State) (c : Nat) (x : Core) : (s.putCore c x).pins = s.pins := rfl
@[simp] theorem State.putCore_pending (s : State) (c : Nat) (x : Core) : (s.putCore c x).pending = s.pending := rfl
@[simp] theorem State.putCore_sent (s : State) (c : Nat) (x : Core) : (s.putCore c x).sent = s.sent := rfl
@[simp] theorem State.putCore_freeCount (s : State) (c : Nat) (x : Core) : (s.putCore c x).freeCount = s.freeCount := rfl
@[simp] theorem State.putQueue_cores (s : State) (q : Nat) (x : QueueSt) : (s.putQueue q x).cores = s.cores := rfl
@[simp] theorem State.putQueue_takeLast (s : State) (q : Nat) (x : QueueSt) : (s.putQueue q x).takeLast = s.takeLast := rfl
@[simp] theorem State.putQueue_turns (s : State) (q : Nat) (x : QueueSt) : (s.putQueue q x).turns = s.turns := rfl
@[simp] theorem State.putQueue_mem (s : State) (q : Nat) (x : QueueSt) : (s.putQueue q x).mem = s.mem := rfl
@[simp] theorem State.putQueue_sync (s : State) (q : Nat) (x : QueueSt) : (s.putQueue q x).sync = s.sync := rfl
@[simp] theorem State.putQueue_fab (s : State) (q : Nat) (x : QueueSt) : (s.putQueue q x).fab = s.fab := rfl
@[simp] theorem State.putQueue_ke (s : State) (q : Nat) (x : QueueSt) : (s.putQueue q x).ke = s.ke := rfl
@[simp] theorem State.putQueue_betas (s : State) (q : Nat) (x : QueueSt) : (s.putQueue q x).betas = s.betas := rfl
@[simp] theorem State.putQueue_fault (s : State) (q : Nat) (x : QueueSt) : (s.putQueue q x).fault = s.fault := rfl
@[simp] theorem State.putQueue_power (s : State) (q : Nat) (x : QueueSt) : (s.putQueue q x).power = s.power := rfl
@[simp] theorem State.putQueue_start (s : State) (q : Nat) (x : QueueSt) : (s.putQueue q x).start = s.start := rfl
@[simp] theorem State.putQueue_sec (s : State) (q : Nat) (x : QueueSt) : (s.putQueue q x).sec = s.sec := rfl
@[simp] theorem State.putQueue_fwu (s : State) (q : Nat) (x : QueueSt) : (s.putQueue q x).fwu = s.fwu := rfl
@[simp] theorem State.putQueue_tally (s : State) (q : Nat) (x : QueueSt) : (s.putQueue q x).tally = s.tally := rfl
@[simp] theorem State.putQueue_pins (s : State) (q : Nat) (x : QueueSt) : (s.putQueue q x).pins = s.pins := rfl
@[simp] theorem State.putQueue_pending (s : State) (q : Nat) (x : QueueSt) : (s.putQueue q x).pending = s.pending := rfl
@[simp] theorem State.putQueue_sent (s : State) (q : Nat) (x : QueueSt) : (s.putQueue q x).sent = s.sent := rfl
@[simp] theorem State.putQueue_freeCount (s : State) (q : Nat) (x : QueueSt) : (s.putQueue q x).freeCount = s.freeCount := rfl
@[simp] theorem State.putHub_cores (s : State) (h : Nat) (x : HubSt) : (s.putHub h x).cores = s.cores := rfl
@[simp] theorem State.putHub_queues (s : State) (h : Nat) (x : HubSt) : (s.putHub h x).queues = s.queues := rfl
@[simp] theorem State.putHub_takeLast (s : State) (h : Nat) (x : HubSt) : (s.putHub h x).takeLast = s.takeLast := rfl
@[simp] theorem State.putHub_turns (s : State) (h : Nat) (x : HubSt) : (s.putHub h x).turns = s.turns := rfl
@[simp] theorem State.putHub_sync (s : State) (h : Nat) (x : HubSt) : (s.putHub h x).sync = s.sync := rfl
@[simp] theorem State.putHub_fab (s : State) (h : Nat) (x : HubSt) : (s.putHub h x).fab = s.fab := rfl
@[simp] theorem State.putHub_ke (s : State) (h : Nat) (x : HubSt) : (s.putHub h x).ke = s.ke := rfl
@[simp] theorem State.putHub_betas (s : State) (h : Nat) (x : HubSt) : (s.putHub h x).betas = s.betas := rfl
@[simp] theorem State.putHub_fault (s : State) (h : Nat) (x : HubSt) : (s.putHub h x).fault = s.fault := rfl
@[simp] theorem State.putHub_power (s : State) (h : Nat) (x : HubSt) : (s.putHub h x).power = s.power := rfl
@[simp] theorem State.putHub_start (s : State) (h : Nat) (x : HubSt) : (s.putHub h x).start = s.start := rfl
@[simp] theorem State.putHub_sec (s : State) (h : Nat) (x : HubSt) : (s.putHub h x).sec = s.sec := rfl
@[simp] theorem State.putHub_fwu (s : State) (h : Nat) (x : HubSt) : (s.putHub h x).fwu = s.fwu := rfl
@[simp] theorem State.putHub_tally (s : State) (h : Nat) (x : HubSt) : (s.putHub h x).tally = s.tally := rfl
@[simp] theorem State.putHub_pins (s : State) (h : Nat) (x : HubSt) : (s.putHub h x).pins = s.pins := rfl
@[simp] theorem State.putHub_pending (s : State) (h : Nat) (x : HubSt) : (s.putHub h x).pending = s.pending := rfl
@[simp] theorem State.putHub_sent (s : State) (h : Nat) (x : HubSt) : (s.putHub h x).sent = s.sent := rfl
@[simp] theorem State.putHub_freeCount (s : State) (h : Nat) (x : HubSt) : (s.putHub h x).freeCount = s.freeCount := rfl
@[simp] theorem State.putLink_cores (s : State) (l : Nat) (x : LinkSt) : (s.putLink l x).cores = s.cores := rfl
@[simp] theorem State.putLink_queues (s : State) (l : Nat) (x : LinkSt) : (s.putLink l x).queues = s.queues := rfl
@[simp] theorem State.putLink_takeLast (s : State) (l : Nat) (x : LinkSt) : (s.putLink l x).takeLast = s.takeLast := rfl
@[simp] theorem State.putLink_turns (s : State) (l : Nat) (x : LinkSt) : (s.putLink l x).turns = s.turns := rfl
@[simp] theorem State.putLink_mem (s : State) (l : Nat) (x : LinkSt) : (s.putLink l x).mem = s.mem := rfl
@[simp] theorem State.putLink_sync (s : State) (l : Nat) (x : LinkSt) : (s.putLink l x).sync = s.sync := rfl
@[simp] theorem State.putLink_ke (s : State) (l : Nat) (x : LinkSt) : (s.putLink l x).ke = s.ke := rfl
@[simp] theorem State.putLink_betas (s : State) (l : Nat) (x : LinkSt) : (s.putLink l x).betas = s.betas := rfl
@[simp] theorem State.putLink_fault (s : State) (l : Nat) (x : LinkSt) : (s.putLink l x).fault = s.fault := rfl
@[simp] theorem State.putLink_power (s : State) (l : Nat) (x : LinkSt) : (s.putLink l x).power = s.power := rfl
@[simp] theorem State.putLink_start (s : State) (l : Nat) (x : LinkSt) : (s.putLink l x).start = s.start := rfl
@[simp] theorem State.putLink_sec (s : State) (l : Nat) (x : LinkSt) : (s.putLink l x).sec = s.sec := rfl
@[simp] theorem State.putLink_fwu (s : State) (l : Nat) (x : LinkSt) : (s.putLink l x).fwu = s.fwu := rfl
@[simp] theorem State.putLink_tally (s : State) (l : Nat) (x : LinkSt) : (s.putLink l x).tally = s.tally := rfl
@[simp] theorem State.putLink_pins (s : State) (l : Nat) (x : LinkSt) : (s.putLink l x).pins = s.pins := rfl
@[simp] theorem State.putLink_pending (s : State) (l : Nat) (x : LinkSt) : (s.putLink l x).pending = s.pending := rfl
@[simp] theorem State.putLink_sent (s : State) (l : Nat) (x : LinkSt) : (s.putLink l x).sent = s.sent := rfl
@[simp] theorem State.putLink_freeCount (s : State) (l : Nat) (x : LinkSt) : (s.putLink l x).freeCount = s.freeCount := rfl
@[simp] theorem State.putPcie_cores (s : State) (p : Nat) (x : PcieSt) : (s.putPcie p x).cores = s.cores := rfl
@[simp] theorem State.putPcie_queues (s : State) (p : Nat) (x : PcieSt) : (s.putPcie p x).queues = s.queues := rfl
@[simp] theorem State.putPcie_takeLast (s : State) (p : Nat) (x : PcieSt) : (s.putPcie p x).takeLast = s.takeLast := rfl
@[simp] theorem State.putPcie_turns (s : State) (p : Nat) (x : PcieSt) : (s.putPcie p x).turns = s.turns := rfl
@[simp] theorem State.putPcie_mem (s : State) (p : Nat) (x : PcieSt) : (s.putPcie p x).mem = s.mem := rfl
@[simp] theorem State.putPcie_sync (s : State) (p : Nat) (x : PcieSt) : (s.putPcie p x).sync = s.sync := rfl
@[simp] theorem State.putPcie_fab (s : State) (p : Nat) (x : PcieSt) : (s.putPcie p x).fab = s.fab := rfl
@[simp] theorem State.putPcie_ke (s : State) (p : Nat) (x : PcieSt) : (s.putPcie p x).ke = s.ke := rfl
@[simp] theorem State.putPcie_betas (s : State) (p : Nat) (x : PcieSt) : (s.putPcie p x).betas = s.betas := rfl
@[simp] theorem State.putPcie_fault (s : State) (p : Nat) (x : PcieSt) : (s.putPcie p x).fault = s.fault := rfl
@[simp] theorem State.putPcie_power (s : State) (p : Nat) (x : PcieSt) : (s.putPcie p x).power = s.power := rfl
@[simp] theorem State.putPcie_start (s : State) (p : Nat) (x : PcieSt) : (s.putPcie p x).start = s.start := rfl
@[simp] theorem State.putPcie_sec (s : State) (p : Nat) (x : PcieSt) : (s.putPcie p x).sec = s.sec := rfl
@[simp] theorem State.putPcie_fwu (s : State) (p : Nat) (x : PcieSt) : (s.putPcie p x).fwu = s.fwu := rfl
@[simp] theorem State.putPcie_tally (s : State) (p : Nat) (x : PcieSt) : (s.putPcie p x).tally = s.tally := rfl
@[simp] theorem State.putPcie_pending (s : State) (p : Nat) (x : PcieSt) : (s.putPcie p x).pending = s.pending := rfl
@[simp] theorem State.putPcie_sent (s : State) (p : Nat) (x : PcieSt) : (s.putPcie p x).sent = s.sent := rfl
@[simp] theorem State.putPcie_freeCount (s : State) (p : Nat) (x : PcieSt) : (s.putPcie p x).freeCount = s.freeCount := rfl
@[simp] theorem State.putBox_cores (s : State) (p : Nat) (x : Mailbox) : (s.putBox p x).cores = s.cores := rfl
@[simp] theorem State.putBox_queues (s : State) (p : Nat) (x : Mailbox) : (s.putBox p x).queues = s.queues := rfl
@[simp] theorem State.putBox_takeLast (s : State) (p : Nat) (x : Mailbox) : (s.putBox p x).takeLast = s.takeLast := rfl
@[simp] theorem State.putBox_turns (s : State) (p : Nat) (x : Mailbox) : (s.putBox p x).turns = s.turns := rfl
@[simp] theorem State.putBox_mem (s : State) (p : Nat) (x : Mailbox) : (s.putBox p x).mem = s.mem := rfl
@[simp] theorem State.putBox_sync (s : State) (p : Nat) (x : Mailbox) : (s.putBox p x).sync = s.sync := rfl
@[simp] theorem State.putBox_fab (s : State) (p : Nat) (x : Mailbox) : (s.putBox p x).fab = s.fab := rfl
@[simp] theorem State.putBox_ke (s : State) (p : Nat) (x : Mailbox) : (s.putBox p x).ke = s.ke := rfl
@[simp] theorem State.putBox_betas (s : State) (p : Nat) (x : Mailbox) : (s.putBox p x).betas = s.betas := rfl
@[simp] theorem State.putBox_fault (s : State) (p : Nat) (x : Mailbox) : (s.putBox p x).fault = s.fault := rfl
@[simp] theorem State.putBox_power (s : State) (p : Nat) (x : Mailbox) : (s.putBox p x).power = s.power := rfl
@[simp] theorem State.putBox_start (s : State) (p : Nat) (x : Mailbox) : (s.putBox p x).start = s.start := rfl
@[simp] theorem State.putBox_fwu (s : State) (p : Nat) (x : Mailbox) : (s.putBox p x).fwu = s.fwu := rfl
@[simp] theorem State.putBox_tally (s : State) (p : Nat) (x : Mailbox) : (s.putBox p x).tally = s.tally := rfl
@[simp] theorem State.putBox_pins (s : State) (p : Nat) (x : Mailbox) : (s.putBox p x).pins = s.pins := rfl
@[simp] theorem State.putBox_pending (s : State) (p : Nat) (x : Mailbox) : (s.putBox p x).pending = s.pending := rfl
@[simp] theorem State.putBox_sent (s : State) (p : Nat) (x : Mailbox) : (s.putBox p x).sent = s.sent := rfl
@[simp] theorem State.putBox_freeCount (s : State) (p : Nat) (x : Mailbox) : (s.putBox p x).freeCount = s.freeCount := rfl
@[simp] theorem State.putHerd_cores (s : State) (h : Nat) (x : Herd) : (s.putHerd h x).cores = s.cores := rfl
@[simp] theorem State.putHerd_queues (s : State) (h : Nat) (x : Herd) : (s.putHerd h x).queues = s.queues := rfl
@[simp] theorem State.putHerd_takeLast (s : State) (h : Nat) (x : Herd) : (s.putHerd h x).takeLast = s.takeLast := rfl
@[simp] theorem State.putHerd_turns (s : State) (h : Nat) (x : Herd) : (s.putHerd h x).turns = s.turns := rfl
@[simp] theorem State.putHerd_mem (s : State) (h : Nat) (x : Herd) : (s.putHerd h x).mem = s.mem := rfl
@[simp] theorem State.putHerd_fab (s : State) (h : Nat) (x : Herd) : (s.putHerd h x).fab = s.fab := rfl
@[simp] theorem State.putHerd_ke (s : State) (h : Nat) (x : Herd) : (s.putHerd h x).ke = s.ke := rfl
@[simp] theorem State.putHerd_betas (s : State) (h : Nat) (x : Herd) : (s.putHerd h x).betas = s.betas := rfl
@[simp] theorem State.putHerd_fault (s : State) (h : Nat) (x : Herd) : (s.putHerd h x).fault = s.fault := rfl
@[simp] theorem State.putHerd_power (s : State) (h : Nat) (x : Herd) : (s.putHerd h x).power = s.power := rfl
@[simp] theorem State.putHerd_start (s : State) (h : Nat) (x : Herd) : (s.putHerd h x).start = s.start := rfl
@[simp] theorem State.putHerd_sec (s : State) (h : Nat) (x : Herd) : (s.putHerd h x).sec = s.sec := rfl
@[simp] theorem State.putHerd_fwu (s : State) (h : Nat) (x : Herd) : (s.putHerd h x).fwu = s.fwu := rfl
@[simp] theorem State.putHerd_tally (s : State) (h : Nat) (x : Herd) : (s.putHerd h x).tally = s.tally := rfl
@[simp] theorem State.putHerd_pins (s : State) (h : Nat) (x : Herd) : (s.putHerd h x).pins = s.pins := rfl
@[simp] theorem State.putHerd_pending (s : State) (h : Nat) (x : Herd) : (s.putHerd h x).pending = s.pending := rfl
@[simp] theorem State.putHerd_sent (s : State) (h : Nat) (x : Herd) : (s.putHerd h x).sent = s.sent := rfl
@[simp] theorem State.putHerd_freeCount (s : State) (h : Nat) (x : Herd) : (s.putHerd h x).freeCount = s.freeCount := rfl
@[simp] theorem State.putCtx_cores (s : State) (n : Nat) (x : CtxWins) : (s.putCtx n x).cores = s.cores := rfl
@[simp] theorem State.putCtx_queues (s : State) (n : Nat) (x : CtxWins) : (s.putCtx n x).queues = s.queues := rfl
@[simp] theorem State.putCtx_takeLast (s : State) (n : Nat) (x : CtxWins) : (s.putCtx n x).takeLast = s.takeLast := rfl
@[simp] theorem State.putCtx_turns (s : State) (n : Nat) (x : CtxWins) : (s.putCtx n x).turns = s.turns := rfl
@[simp] theorem State.putCtx_sync (s : State) (n : Nat) (x : CtxWins) : (s.putCtx n x).sync = s.sync := rfl
@[simp] theorem State.putCtx_fab (s : State) (n : Nat) (x : CtxWins) : (s.putCtx n x).fab = s.fab := rfl
@[simp] theorem State.putCtx_ke (s : State) (n : Nat) (x : CtxWins) : (s.putCtx n x).ke = s.ke := rfl
@[simp] theorem State.putCtx_betas (s : State) (n : Nat) (x : CtxWins) : (s.putCtx n x).betas = s.betas := rfl
@[simp] theorem State.putCtx_fault (s : State) (n : Nat) (x : CtxWins) : (s.putCtx n x).fault = s.fault := rfl
@[simp] theorem State.putCtx_power (s : State) (n : Nat) (x : CtxWins) : (s.putCtx n x).power = s.power := rfl
@[simp] theorem State.putCtx_start (s : State) (n : Nat) (x : CtxWins) : (s.putCtx n x).start = s.start := rfl
@[simp] theorem State.putCtx_sec (s : State) (n : Nat) (x : CtxWins) : (s.putCtx n x).sec = s.sec := rfl
@[simp] theorem State.putCtx_fwu (s : State) (n : Nat) (x : CtxWins) : (s.putCtx n x).fwu = s.fwu := rfl
@[simp] theorem State.putCtx_tally (s : State) (n : Nat) (x : CtxWins) : (s.putCtx n x).tally = s.tally := rfl
@[simp] theorem State.putCtx_pins (s : State) (n : Nat) (x : CtxWins) : (s.putCtx n x).pins = s.pins := rfl
@[simp] theorem State.putCtx_pending (s : State) (n : Nat) (x : CtxWins) : (s.putCtx n x).pending = s.pending := rfl
@[simp] theorem State.putCtx_sent (s : State) (n : Nat) (x : CtxWins) : (s.putCtx n x).sent = s.sent := rfl
@[simp] theorem State.putCtx_freeCount (s : State) (n : Nat) (x : CtxWins) : (s.putCtx n x).freeCount = s.freeCount := rfl
@[simp] theorem State.putStream_cores (s : State) (n : Nat) (x : Stream) : (s.putStream n x).cores = s.cores := rfl
@[simp] theorem State.putStream_queues (s : State) (n : Nat) (x : Stream) : (s.putStream n x).queues = s.queues := rfl
@[simp] theorem State.putStream_takeLast (s : State) (n : Nat) (x : Stream) : (s.putStream n x).takeLast = s.takeLast := rfl
@[simp] theorem State.putStream_turns (s : State) (n : Nat) (x : Stream) : (s.putStream n x).turns = s.turns := rfl
@[simp] theorem State.putStream_sync (s : State) (n : Nat) (x : Stream) : (s.putStream n x).sync = s.sync := rfl
@[simp] theorem State.putStream_fab (s : State) (n : Nat) (x : Stream) : (s.putStream n x).fab = s.fab := rfl
@[simp] theorem State.putStream_ke (s : State) (n : Nat) (x : Stream) : (s.putStream n x).ke = s.ke := rfl
@[simp] theorem State.putStream_betas (s : State) (n : Nat) (x : Stream) : (s.putStream n x).betas = s.betas := rfl
@[simp] theorem State.putStream_fault (s : State) (n : Nat) (x : Stream) : (s.putStream n x).fault = s.fault := rfl
@[simp] theorem State.putStream_power (s : State) (n : Nat) (x : Stream) : (s.putStream n x).power = s.power := rfl
@[simp] theorem State.putStream_start (s : State) (n : Nat) (x : Stream) : (s.putStream n x).start = s.start := rfl
@[simp] theorem State.putStream_sec (s : State) (n : Nat) (x : Stream) : (s.putStream n x).sec = s.sec := rfl
@[simp] theorem State.putStream_fwu (s : State) (n : Nat) (x : Stream) : (s.putStream n x).fwu = s.fwu := rfl
@[simp] theorem State.putStream_tally (s : State) (n : Nat) (x : Stream) : (s.putStream n x).tally = s.tally := rfl
@[simp] theorem State.putStream_pins (s : State) (n : Nat) (x : Stream) : (s.putStream n x).pins = s.pins := rfl
@[simp] theorem State.putStream_pending (s : State) (n : Nat) (x : Stream) : (s.putStream n x).pending = s.pending := rfl
@[simp] theorem State.putStream_sent (s : State) (n : Nat) (x : Stream) : (s.putStream n x).sent = s.sent := rfl
@[simp] theorem State.putStream_freeCount (s : State) (n : Nat) (x : Stream) : (s.putStream n x).freeCount = s.freeCount := rfl
@[simp] theorem State.putKeHerd_cores (s : State) (h : Nat) (x : KeHerd) : (s.putKeHerd h x).cores = s.cores := rfl
@[simp] theorem State.putKeHerd_queues (s : State) (h : Nat) (x : KeHerd) : (s.putKeHerd h x).queues = s.queues := rfl
@[simp] theorem State.putKeHerd_takeLast (s : State) (h : Nat) (x : KeHerd) : (s.putKeHerd h x).takeLast = s.takeLast := rfl
@[simp] theorem State.putKeHerd_turns (s : State) (h : Nat) (x : KeHerd) : (s.putKeHerd h x).turns = s.turns := rfl
@[simp] theorem State.putKeHerd_mem (s : State) (h : Nat) (x : KeHerd) : (s.putKeHerd h x).mem = s.mem := rfl
@[simp] theorem State.putKeHerd_sync (s : State) (h : Nat) (x : KeHerd) : (s.putKeHerd h x).sync = s.sync := rfl
@[simp] theorem State.putKeHerd_fab (s : State) (h : Nat) (x : KeHerd) : (s.putKeHerd h x).fab = s.fab := rfl
@[simp] theorem State.putKeHerd_betas (s : State) (h : Nat) (x : KeHerd) : (s.putKeHerd h x).betas = s.betas := rfl
@[simp] theorem State.putKeHerd_fault (s : State) (h : Nat) (x : KeHerd) : (s.putKeHerd h x).fault = s.fault := rfl
@[simp] theorem State.putKeHerd_power (s : State) (h : Nat) (x : KeHerd) : (s.putKeHerd h x).power = s.power := rfl
@[simp] theorem State.putKeHerd_start (s : State) (h : Nat) (x : KeHerd) : (s.putKeHerd h x).start = s.start := rfl
@[simp] theorem State.putKeHerd_sec (s : State) (h : Nat) (x : KeHerd) : (s.putKeHerd h x).sec = s.sec := rfl
@[simp] theorem State.putKeHerd_fwu (s : State) (h : Nat) (x : KeHerd) : (s.putKeHerd h x).fwu = s.fwu := rfl
@[simp] theorem State.putKeHerd_tally (s : State) (h : Nat) (x : KeHerd) : (s.putKeHerd h x).tally = s.tally := rfl
@[simp] theorem State.putKeHerd_pins (s : State) (h : Nat) (x : KeHerd) : (s.putKeHerd h x).pins = s.pins := rfl
@[simp] theorem State.putKeHerd_pending (s : State) (h : Nat) (x : KeHerd) : (s.putKeHerd h x).pending = s.pending := rfl
@[simp] theorem State.putKeHerd_sent (s : State) (h : Nat) (x : KeHerd) : (s.putKeHerd h x).sent = s.sent := rfl
@[simp] theorem State.putKeHerd_freeCount (s : State) (h : Nat) (x : KeHerd) : (s.putKeHerd h x).freeCount = s.freeCount := rfl
@[simp] theorem State.emit_cores (s : State) (o : Out) : (s.emit o).cores = s.cores := rfl
@[simp] theorem State.emit_queues (s : State) (o : Out) : (s.emit o).queues = s.queues := rfl
@[simp] theorem State.emit_takeLast (s : State) (o : Out) : (s.emit o).takeLast = s.takeLast := rfl
@[simp] theorem State.emit_turns (s : State) (o : Out) : (s.emit o).turns = s.turns := rfl
@[simp] theorem State.emit_mem (s : State) (o : Out) : (s.emit o).mem = s.mem := rfl
@[simp] theorem State.emit_sync (s : State) (o : Out) : (s.emit o).sync = s.sync := rfl
@[simp] theorem State.emit_fab (s : State) (o : Out) : (s.emit o).fab = s.fab := rfl
@[simp] theorem State.emit_ke (s : State) (o : Out) : (s.emit o).ke = s.ke := rfl
@[simp] theorem State.emit_betas (s : State) (o : Out) : (s.emit o).betas = s.betas := rfl
@[simp] theorem State.emit_fault (s : State) (o : Out) : (s.emit o).fault = s.fault := rfl
@[simp] theorem State.emit_power (s : State) (o : Out) : (s.emit o).power = s.power := rfl
@[simp] theorem State.emit_start (s : State) (o : Out) : (s.emit o).start = s.start := rfl
@[simp] theorem State.emit_sec (s : State) (o : Out) : (s.emit o).sec = s.sec := rfl
@[simp] theorem State.emit_fwu (s : State) (o : Out) : (s.emit o).fwu = s.fwu := rfl
@[simp] theorem State.emit_tally (s : State) (o : Out) : (s.emit o).tally = s.tally := rfl
@[simp] theorem State.emit_pins (s : State) (o : Out) : (s.emit o).pins = s.pins := rfl
@[simp] theorem State.emit_pending (s : State) (o : Out) : (s.emit o).pending = s.pending := rfl
@[simp] theorem State.emit_freeCount (s : State) (o : Out) : (s.emit o).freeCount = s.freeCount := rfl
@[simp] theorem State.tallyAdd_cores (s : State) (off k : Nat) : (s.tallyAdd off k).cores = s.cores := rfl
@[simp] theorem State.tallyAdd_queues (s : State) (off k : Nat) : (s.tallyAdd off k).queues = s.queues := rfl
@[simp] theorem State.tallyAdd_takeLast (s : State) (off k : Nat) : (s.tallyAdd off k).takeLast = s.takeLast := rfl
@[simp] theorem State.tallyAdd_turns (s : State) (off k : Nat) : (s.tallyAdd off k).turns = s.turns := rfl
@[simp] theorem State.tallyAdd_mem (s : State) (off k : Nat) : (s.tallyAdd off k).mem = s.mem := rfl
@[simp] theorem State.tallyAdd_sync (s : State) (off k : Nat) : (s.tallyAdd off k).sync = s.sync := rfl
@[simp] theorem State.tallyAdd_fab (s : State) (off k : Nat) : (s.tallyAdd off k).fab = s.fab := rfl
@[simp] theorem State.tallyAdd_ke (s : State) (off k : Nat) : (s.tallyAdd off k).ke = s.ke := rfl
@[simp] theorem State.tallyAdd_betas (s : State) (off k : Nat) : (s.tallyAdd off k).betas = s.betas := rfl
@[simp] theorem State.tallyAdd_fault (s : State) (off k : Nat) : (s.tallyAdd off k).fault = s.fault := rfl
@[simp] theorem State.tallyAdd_power (s : State) (off k : Nat) : (s.tallyAdd off k).power = s.power := rfl
@[simp] theorem State.tallyAdd_start (s : State) (off k : Nat) : (s.tallyAdd off k).start = s.start := rfl
@[simp] theorem State.tallyAdd_sec (s : State) (off k : Nat) : (s.tallyAdd off k).sec = s.sec := rfl
@[simp] theorem State.tallyAdd_fwu (s : State) (off k : Nat) : (s.tallyAdd off k).fwu = s.fwu := rfl
@[simp] theorem State.tallyAdd_pins (s : State) (off k : Nat) : (s.tallyAdd off k).pins = s.pins := rfl
@[simp] theorem State.tallyAdd_pending (s : State) (off k : Nat) : (s.tallyAdd off k).pending = s.pending := rfl
@[simp] theorem State.tallyAdd_sent (s : State) (off k : Nat) : (s.tallyAdd off k).sent = s.sent := rfl
@[simp] theorem State.tallyAdd_freeCount (s : State) (off k : Nat) : (s.tallyAdd off k).freeCount = s.freeCount := rfl
@[simp] theorem State.forgetLoc_cores (s : State) (lo hi : Nat) : (s.forgetLoc lo hi).cores = s.cores := rfl
@[simp] theorem State.forgetLoc_queues (s : State) (lo hi : Nat) : (s.forgetLoc lo hi).queues = s.queues := rfl
@[simp] theorem State.forgetLoc_takeLast (s : State) (lo hi : Nat) : (s.forgetLoc lo hi).takeLast = s.takeLast := rfl
@[simp] theorem State.forgetLoc_turns (s : State) (lo hi : Nat) : (s.forgetLoc lo hi).turns = s.turns := rfl
@[simp] theorem State.forgetLoc_sync (s : State) (lo hi : Nat) : (s.forgetLoc lo hi).sync = s.sync := rfl
@[simp] theorem State.forgetLoc_fab (s : State) (lo hi : Nat) : (s.forgetLoc lo hi).fab = s.fab := rfl
@[simp] theorem State.forgetLoc_ke (s : State) (lo hi : Nat) : (s.forgetLoc lo hi).ke = s.ke := rfl
@[simp] theorem State.forgetLoc_betas (s : State) (lo hi : Nat) : (s.forgetLoc lo hi).betas = s.betas := rfl
@[simp] theorem State.forgetLoc_fault (s : State) (lo hi : Nat) : (s.forgetLoc lo hi).fault = s.fault := rfl
@[simp] theorem State.forgetLoc_power (s : State) (lo hi : Nat) : (s.forgetLoc lo hi).power = s.power := rfl
@[simp] theorem State.forgetLoc_start (s : State) (lo hi : Nat) : (s.forgetLoc lo hi).start = s.start := rfl
@[simp] theorem State.forgetLoc_sec (s : State) (lo hi : Nat) : (s.forgetLoc lo hi).sec = s.sec := rfl
@[simp] theorem State.forgetLoc_fwu (s : State) (lo hi : Nat) : (s.forgetLoc lo hi).fwu = s.fwu := rfl
@[simp] theorem State.forgetLoc_tally (s : State) (lo hi : Nat) : (s.forgetLoc lo hi).tally = s.tally := rfl
@[simp] theorem State.forgetLoc_pins (s : State) (lo hi : Nat) : (s.forgetLoc lo hi).pins = s.pins := rfl
@[simp] theorem State.forgetLoc_pending (s : State) (lo hi : Nat) : (s.forgetLoc lo hi).pending = s.pending := rfl
@[simp] theorem State.forgetLoc_sent (s : State) (lo hi : Nat) : (s.forgetLoc lo hi).sent = s.sent := rfl
@[simp] theorem State.zeroLoc_cores (s : State) (lo hi : Nat) : (s.zeroLoc lo hi).cores = s.cores := rfl
@[simp] theorem State.zeroLoc_queues (s : State) (lo hi : Nat) : (s.zeroLoc lo hi).queues = s.queues := rfl
@[simp] theorem State.zeroLoc_takeLast (s : State) (lo hi : Nat) : (s.zeroLoc lo hi).takeLast = s.takeLast := rfl
@[simp] theorem State.zeroLoc_turns (s : State) (lo hi : Nat) : (s.zeroLoc lo hi).turns = s.turns := rfl
@[simp] theorem State.zeroLoc_sync (s : State) (lo hi : Nat) : (s.zeroLoc lo hi).sync = s.sync := rfl
@[simp] theorem State.zeroLoc_fab (s : State) (lo hi : Nat) : (s.zeroLoc lo hi).fab = s.fab := rfl
@[simp] theorem State.zeroLoc_ke (s : State) (lo hi : Nat) : (s.zeroLoc lo hi).ke = s.ke := rfl
@[simp] theorem State.zeroLoc_betas (s : State) (lo hi : Nat) : (s.zeroLoc lo hi).betas = s.betas := rfl
@[simp] theorem State.zeroLoc_fault (s : State) (lo hi : Nat) : (s.zeroLoc lo hi).fault = s.fault := rfl
@[simp] theorem State.zeroLoc_power (s : State) (lo hi : Nat) : (s.zeroLoc lo hi).power = s.power := rfl
@[simp] theorem State.zeroLoc_start (s : State) (lo hi : Nat) : (s.zeroLoc lo hi).start = s.start := rfl
@[simp] theorem State.zeroLoc_sec (s : State) (lo hi : Nat) : (s.zeroLoc lo hi).sec = s.sec := rfl
@[simp] theorem State.zeroLoc_fwu (s : State) (lo hi : Nat) : (s.zeroLoc lo hi).fwu = s.fwu := rfl
@[simp] theorem State.zeroLoc_tally (s : State) (lo hi : Nat) : (s.zeroLoc lo hi).tally = s.tally := rfl
@[simp] theorem State.zeroLoc_pins (s : State) (lo hi : Nat) : (s.zeroLoc lo hi).pins = s.pins := rfl
@[simp] theorem State.zeroLoc_pending (s : State) (lo hi : Nat) : (s.zeroLoc lo hi).pending = s.pending := rfl
@[simp] theorem State.zeroLoc_sent (s : State) (lo hi : Nat) : (s.zeroLoc lo hi).sent = s.sent := rfl
@[simp] theorem State.zeroLoc_freeCount (s : State) (lo hi : Nat) : (s.zeroLoc lo hi).freeCount = s.freeCount := rfl

@[simp] theorem State.emit_sent (s : State) (o : Out) : (s.emit o).sent = s.sent ++ [o] := rfl
@[simp] theorem State.tallyAdd_live (s : State) (off k : Nat) :
    (s.tallyAdd off k).tally.live = tput 0 s.tally.live off (satAdd (2 ^ 64 - 1) (tget 0 s.tally.live off) k) := rfl
@[simp] theorem State.putHub_cells (s : State) (h : Nat) (x : HubSt) : (s.putHub h x).mem.cells = s.mem.cells := rfl
@[simp] theorem State.putHub_unset (s : State) (h : Nat) (x : HubSt) : (s.putHub h x).mem.unset = s.mem.unset := rfl
@[simp] theorem State.putHub_ue (s : State) (h : Nat) (x : HubSt) : (s.putHub h x).mem.ue = s.mem.ue := rfl

/-! ## Messages and the fault log -/

/-- A message leaves by its port or waits in the port's pending bits, and changes nothing else (07 R283). -/
theorem State.msix_cases (s : State) (p v : Nat) :
    ((s.pcie p).masked v = true ∧ s.msix p v = s.putPcie p { s.pcie p with pba := tput false (s.pcie p).pba v true }) ∨
    ((s.pcie p).masked v = false ∧ s.msix p v = s.emit (.msix p v)) := by
  unfold State.msix
  split
  · exact .inl ⟨‹_›, rfl⟩
  · exact .inr ⟨Bool.eq_false_iff.mpr ‹_›, rfl⟩

@[simp] theorem State.msix_cores (s : State) (p v : Nat) : (s.msix p v).cores = s.cores := by unfold State.msix; split <;> rfl
@[simp] theorem State.fltIrq_cores (s : State) (p v : Nat) : (s.fltIrq p v).cores = s.cores := by
  unfold State.fltIrq; simp only; split <;> simp
@[simp] theorem State.alertFor_cores (s : State) (sev : Nat) (n : DWord) : (s.alertFor sev n).cores = s.cores := by
  unfold State.alertFor; split <;> (try split) <;> rfl
@[simp] theorem State.logEvent_cores (s : State) (c k u v x y : Nat) : (s.logEvent c k u v x y).cores = s.cores := by
  simp [State.logEvent]
@[simp] theorem State.msix_queues (s : State) (p v : Nat) : (s.msix p v).queues = s.queues := by unfold State.msix; split <;> rfl
@[simp] theorem State.fltIrq_queues (s : State) (p v : Nat) : (s.fltIrq p v).queues = s.queues := by
  unfold State.fltIrq; simp only; split <;> simp
@[simp] theorem State.alertFor_queues (s : State) (sev : Nat) (n : DWord) : (s.alertFor sev n).queues = s.queues := by
  unfold State.alertFor; split <;> (try split) <;> rfl
@[simp] theorem State.logEvent_queues (s : State) (c k u v x y : Nat) : (s.logEvent c k u v x y).queues = s.queues := by
  simp [State.logEvent]
@[simp] theorem State.msix_takeLast (s : State) (p v : Nat) : (s.msix p v).takeLast = s.takeLast := by unfold State.msix; split <;> rfl
@[simp] theorem State.fltIrq_takeLast (s : State) (p v : Nat) : (s.fltIrq p v).takeLast = s.takeLast := by
  unfold State.fltIrq; simp only; split <;> simp
@[simp] theorem State.alertFor_takeLast (s : State) (sev : Nat) (n : DWord) : (s.alertFor sev n).takeLast = s.takeLast := by
  unfold State.alertFor; split <;> (try split) <;> rfl
@[simp] theorem State.logEvent_takeLast (s : State) (c k u v x y : Nat) : (s.logEvent c k u v x y).takeLast = s.takeLast := by
  simp [State.logEvent]
@[simp] theorem State.msix_turns (s : State) (p v : Nat) : (s.msix p v).turns = s.turns := by unfold State.msix; split <;> rfl
@[simp] theorem State.fltIrq_turns (s : State) (p v : Nat) : (s.fltIrq p v).turns = s.turns := by
  unfold State.fltIrq; simp only; split <;> simp
@[simp] theorem State.alertFor_turns (s : State) (sev : Nat) (n : DWord) : (s.alertFor sev n).turns = s.turns := by
  unfold State.alertFor; split <;> (try split) <;> rfl
@[simp] theorem State.logEvent_turns (s : State) (c k u v x y : Nat) : (s.logEvent c k u v x y).turns = s.turns := by
  simp [State.logEvent]
@[simp] theorem State.msix_mem (s : State) (p v : Nat) : (s.msix p v).mem = s.mem := by unfold State.msix; split <;> rfl
@[simp] theorem State.fltIrq_mem (s : State) (p v : Nat) : (s.fltIrq p v).mem = s.mem := by
  unfold State.fltIrq; simp only; split <;> simp
@[simp] theorem State.alertFor_mem (s : State) (sev : Nat) (n : DWord) : (s.alertFor sev n).mem = s.mem := by
  unfold State.alertFor; split <;> (try split) <;> rfl
@[simp] theorem State.logEvent_mem (s : State) (c k u v x y : Nat) : (s.logEvent c k u v x y).mem = s.mem := by
  simp [State.logEvent]
@[simp] theorem State.msix_sync (s : State) (p v : Nat) : (s.msix p v).sync = s.sync := by unfold State.msix; split <;> rfl
@[simp] theorem State.fltIrq_sync (s : State) (p v : Nat) : (s.fltIrq p v).sync = s.sync := by
  unfold State.fltIrq; simp only; split <;> simp
@[simp] theorem State.alertFor_sync (s : State) (sev : Nat) (n : DWord) : (s.alertFor sev n).sync = s.sync := by
  unfold State.alertFor; split <;> (try split) <;> rfl
@[simp] theorem State.logEvent_sync (s : State) (c k u v x y : Nat) : (s.logEvent c k u v x y).sync = s.sync := by
  simp [State.logEvent]
@[simp] theorem State.msix_fab (s : State) (p v : Nat) : (s.msix p v).fab = s.fab := by unfold State.msix; split <;> rfl
@[simp] theorem State.fltIrq_fab (s : State) (p v : Nat) : (s.fltIrq p v).fab = s.fab := by
  unfold State.fltIrq; simp only; split <;> simp
@[simp] theorem State.alertFor_fab (s : State) (sev : Nat) (n : DWord) : (s.alertFor sev n).fab = s.fab := by
  unfold State.alertFor; split <;> (try split) <;> rfl
@[simp] theorem State.logEvent_fab (s : State) (c k u v x y : Nat) : (s.logEvent c k u v x y).fab = s.fab := by
  simp [State.logEvent]
@[simp] theorem State.msix_ke (s : State) (p v : Nat) : (s.msix p v).ke = s.ke := by unfold State.msix; split <;> rfl
@[simp] theorem State.fltIrq_ke (s : State) (p v : Nat) : (s.fltIrq p v).ke = s.ke := by
  unfold State.fltIrq; simp only; split <;> simp
@[simp] theorem State.alertFor_ke (s : State) (sev : Nat) (n : DWord) : (s.alertFor sev n).ke = s.ke := by
  unfold State.alertFor; split <;> (try split) <;> rfl
@[simp] theorem State.logEvent_ke (s : State) (c k u v x y : Nat) : (s.logEvent c k u v x y).ke = s.ke := by
  simp [State.logEvent]
@[simp] theorem State.msix_betas (s : State) (p v : Nat) : (s.msix p v).betas = s.betas := by unfold State.msix; split <;> rfl
@[simp] theorem State.fltIrq_betas (s : State) (p v : Nat) : (s.fltIrq p v).betas = s.betas := by
  unfold State.fltIrq; simp only; split <;> simp
@[simp] theorem State.alertFor_betas (s : State) (sev : Nat) (n : DWord) : (s.alertFor sev n).betas = s.betas := by
  unfold State.alertFor; split <;> (try split) <;> rfl
@[simp] theorem State.logEvent_betas (s : State) (c k u v x y : Nat) : (s.logEvent c k u v x y).betas = s.betas := by
  simp [State.logEvent]
@[simp] theorem State.msix_fault (s : State) (p v : Nat) : (s.msix p v).fault = s.fault := by unfold State.msix; split <;> rfl
@[simp] theorem State.fltIrq_fault (s : State) (p v : Nat) : (s.fltIrq p v).fault = s.fault := by
  unfold State.fltIrq; simp only; split <;> simp
@[simp] theorem State.alertFor_fault (s : State) (sev : Nat) (n : DWord) : (s.alertFor sev n).fault = s.fault := by
  unfold State.alertFor; split <;> (try split) <;> rfl
@[simp] theorem State.msix_power (s : State) (p v : Nat) : (s.msix p v).power = s.power := by unfold State.msix; split <;> rfl
@[simp] theorem State.fltIrq_power (s : State) (p v : Nat) : (s.fltIrq p v).power = s.power := by
  unfold State.fltIrq; simp only; split <;> simp
@[simp] theorem State.alertFor_power (s : State) (sev : Nat) (n : DWord) : (s.alertFor sev n).power = s.power := by
  unfold State.alertFor; split <;> (try split) <;> rfl
@[simp] theorem State.logEvent_power (s : State) (c k u v x y : Nat) : (s.logEvent c k u v x y).power = s.power := by
  simp [State.logEvent]
@[simp] theorem State.msix_start (s : State) (p v : Nat) : (s.msix p v).start = s.start := by unfold State.msix; split <;> rfl
@[simp] theorem State.fltIrq_start (s : State) (p v : Nat) : (s.fltIrq p v).start = s.start := by
  unfold State.fltIrq; simp only; split <;> simp
@[simp] theorem State.alertFor_start (s : State) (sev : Nat) (n : DWord) : (s.alertFor sev n).start = s.start := by
  unfold State.alertFor; split <;> (try split) <;> rfl
@[simp] theorem State.logEvent_start (s : State) (c k u v x y : Nat) : (s.logEvent c k u v x y).start = s.start := by
  simp [State.logEvent]
@[simp] theorem State.msix_sec (s : State) (p v : Nat) : (s.msix p v).sec = s.sec := by unfold State.msix; split <;> rfl
@[simp] theorem State.fltIrq_sec (s : State) (p v : Nat) : (s.fltIrq p v).sec = s.sec := by
  unfold State.fltIrq; simp only; split <;> simp
@[simp] theorem State.alertFor_sec (s : State) (sev : Nat) (n : DWord) : (s.alertFor sev n).sec = s.sec := by
  unfold State.alertFor; split <;> (try split) <;> rfl
@[simp] theorem State.logEvent_sec (s : State) (c k u v x y : Nat) : (s.logEvent c k u v x y).sec = s.sec := by
  simp [State.logEvent]
@[simp] theorem State.msix_fwu (s : State) (p v : Nat) : (s.msix p v).fwu = s.fwu := by unfold State.msix; split <;> rfl
@[simp] theorem State.fltIrq_fwu (s : State) (p v : Nat) : (s.fltIrq p v).fwu = s.fwu := by
  unfold State.fltIrq; simp only; split <;> simp
@[simp] theorem State.alertFor_fwu (s : State) (sev : Nat) (n : DWord) : (s.alertFor sev n).fwu = s.fwu := by
  unfold State.alertFor; split <;> (try split) <;> rfl
@[simp] theorem State.logEvent_fwu (s : State) (c k u v x y : Nat) : (s.logEvent c k u v x y).fwu = s.fwu := by
  simp [State.logEvent]
@[simp] theorem State.msix_tally (s : State) (p v : Nat) : (s.msix p v).tally = s.tally := by unfold State.msix; split <;> rfl
@[simp] theorem State.fltIrq_tally (s : State) (p v : Nat) : (s.fltIrq p v).tally = s.tally := by
  unfold State.fltIrq; simp only; split <;> simp
@[simp] theorem State.alertFor_tally (s : State) (sev : Nat) (n : DWord) : (s.alertFor sev n).tally = s.tally := by
  unfold State.alertFor; split <;> (try split) <;> rfl
@[simp] theorem State.logEvent_tally (s : State) (c k u v x y : Nat) : (s.logEvent c k u v x y).tally = s.tally := by
  simp [State.logEvent]
@[simp] theorem State.msix_pending (s : State) (p v : Nat) : (s.msix p v).pending = s.pending := by unfold State.msix; split <;> rfl
@[simp] theorem State.fltIrq_pending (s : State) (p v : Nat) : (s.fltIrq p v).pending = s.pending := by
  unfold State.fltIrq; simp only; split <;> simp
@[simp] theorem State.alertFor_pending (s : State) (sev : Nat) (n : DWord) : (s.alertFor sev n).pending = s.pending := by
  unfold State.alertFor; split <;> (try split) <;> rfl
@[simp] theorem State.logEvent_pending (s : State) (c k u v x y : Nat) : (s.logEvent c k u v x y).pending = s.pending := by
  simp [State.logEvent]
@[simp] theorem State.msix_freeCount (s : State) (p v : Nat) : (s.msix p v).freeCount = s.freeCount := by unfold State.msix; split <;> rfl
@[simp] theorem State.fltIrq_freeCount (s : State) (p v : Nat) : (s.fltIrq p v).freeCount = s.freeCount := by
  unfold State.fltIrq; simp only; split <;> simp
@[simp] theorem State.alertFor_freeCount (s : State) (sev : Nat) (n : DWord) : (s.alertFor sev n).freeCount = s.freeCount := by
  unfold State.alertFor; split <;> (try split) <;> rfl
@[simp] theorem State.logEvent_freeCount (s : State) (c k u v x y : Nat) : (s.logEvent c k u v x y).freeCount = s.freeCount := by
  simp [State.logEvent]

/-- What an entry of the fault log changes in the log: the next SEQ, the entry at its end and at most 512 kept (14 R580, R582). -/
theorem State.logEvent_log (s : State) (c k u v x y : Nat) : (s.logEvent c k u v x y).fault.seq = s.fault.seq + 1 ∧
    (s.logEvent c k u v x y).fault.log = (s.fault.log ++ [(⟨s.fault.seq + 1, s.sync.dtc, s.sync.bcnt, c, k, v, u,
      BitVec.ofNat 64 x, BitVec.ofNat 64 y⟩ : LogEntry)]).drop (s.fault.log.length + 1 - 512) := by
  simp [State.logEvent]

end Sys2Proof.Machine
end

