-- ==== Sys2Proof/Laws/Memory.lean ====
section
/-!
SUPPORT. The laws of memory: what bytes put into it read as, and that every operation that writes it keeps its canonical form.
-/
namespace Sys2Proof.Machine

/-! ## Bytes put into memory -/

theorem tget_putBytes (cells : List Host.Cell) (a b : Nat) (bs : List Byte) :
    tget emptyByte (putBytes cells a bs) b =
      if a ≤ b ∧ b < a + bs.length then bs.getD (b - a) 0 else tget emptyByte cells b := by
  induction bs generalizing cells a with
  | nil => simp only [putBytes, List.length_nil]; grind
  | cons x xs ih =>
    rw [putBytes, ih, tget_tput]
    by_cases h : b = a
    · subst h; simp
    · by_cases h2 : a + 1 ≤ b ∧ b < a + 1 + xs.length
      · have : b - a = b - (a + 1) + 1 := by omega
        simp only [h2, and_self, if_true, List.length_cons, this, List.getD_cons_succ]
        rw [if_pos (by omega)]
      · simp only [h2, if_false, h, List.length_cons]
        rw [if_neg (by omega)]

theorem memory_wf_putBytes (cells : List Host.Cell) (a : Nat) (bs : List Byte) (h : Memory.wf cells = true) :
    Memory.wf (putBytes cells a bs) = true := by
  induction bs generalizing cells a with
  | nil => exact h
  | cons x xs ih => exact ih _ _ (tok_tput h)

theorem memory_wf_filter (cells : List Host.Cell) (p : Host.Cell → Bool) (h : Memory.wf cells = true) :
    Memory.wf (cells.filter p) = true := tok_filter p h

/-! ## Every operation that writes memory keeps its canonical form -/

theorem memory_wf_nil : Memory.wf [] = true := rfl

theorem MemSt.fix_wf (m : MemSt) (a : Nat) (h : Memory.wf m.cells = true) : Memory.wf (m.fix a).cells = true := by
  unfold MemSt.fix
  split
  · exact memory_wf_putBytes _ _ _ h
  · exact h

theorem State.forgetLoc_wf (s : State) (lo hi : Nat) (h : Memory.wf s.mem.cells = true) :
    Memory.wf (s.forgetLoc lo hi).mem.cells = true := memory_wf_filter _ _ h

theorem State.zeroLoc_wf (s : State) (lo hi : Nat) (h : Memory.wf s.mem.cells = true) :
    Memory.wf (s.zeroLoc lo hi).mem.cells = true := memory_wf_filter _ _ h

/-- A property that every step of a fold keeps holds at its end. -/
theorem foldl_keeps {α β : Type} {P : α → Prop} (f : α → β → α) (hf : ∀ a b, P a → P (f a b)) (l : List β) (a : α) (h : P a) :
    P (l.foldl f a) := by
  induction l generalizing a with
  | nil => exact h
  | cons b l ih => exact ih _ (hf a b h)

theorem State.forget_wf (s : State) (lo hi : Nat) (h : Memory.wf s.mem.cells = true) :
    Memory.wf (s.forget lo hi).mem.cells = true := by
  unfold State.forget
  split
  · exact s.forgetLoc_wf lo hi h
  · exact foldl_keeps (P := fun t : State => Memory.wf t.mem.cells = true) _ (fun t _ ht => t.forgetLoc_wf _ _ ht) _ _ h

theorem State.invalidateAt_cells (s : State) (line h : Nat) : (s.invalidateAt line h).mem.cells = s.mem.cells := by
  unfold State.invalidateAt
  simp only
  split <;> rfl

theorem State.invalidate_cells (s : State) (line : Nat) : (s.invalidate line).mem.cells = s.mem.cells := by
  unfold State.invalidate
  generalize List.range 8 = l
  induction l generalizing s with
  | nil => rfl
  | cons h l ih => rw [List.foldl_cons, ih, State.invalidateAt_cells]

theorem State.dropRunner_mem (s : State) (site lo hi : Nat) : (s.dropRunner site lo hi).mem = s.mem := by
  unfold State.dropRunner
  simp only
  split <;> rfl

/-- One accepted line write changes memory as putting its bytes at their place does. -/
theorem State.writeLine_cells (s : State) (a : Nat) (bs : List Byte) :
    (s.writeLine a bs).mem.cells = putBytes (s.mem.fix (s.loc a)).cells (s.loc a) bs := by
  unfold State.writeLine
  simp only
  split
  · rw [State.dropRunner_mem]; rfl
  · rw [State.invalidate_cells]; rfl

theorem State.writeLine_wf (s : State) (a : Nat) (bs : List Byte) (h : Memory.wf s.mem.cells = true) :
    Memory.wf (s.writeLine a bs).mem.cells = true := by
  rw [State.writeLine_cells]
  exact memory_wf_putBytes _ _ _ (MemSt.fix_wf _ _ h)

theorem State.write_wf (s : State) (a : Nat) (bs : List Byte) (h : Memory.wf s.mem.cells = true) :
    Memory.wf (s.write a bs).mem.cells = true :=
  foldl_keeps (P := fun t : State => Memory.wf t.mem.cells = true) _ (fun t _ ht => t.writeLine_wf _ _ ht) _ _ h

theorem writesFor_wf (ws : WinSet) (s : State) (l : List (Nat × List Byte)) (h : Memory.wf s.mem.cells = true) :
    Memory.wf (writesFor ws s l).1.mem.cells = true := by
  induction l generalizing s with
  | nil => exact h
  | cons x l ih =>
    obtain ⟨a, bs⟩ := x
    unfold writesFor
    split
    · exact h
    · exact ih _ (s.writeLine_wf a bs h)

theorem State.writeFor_wf (s : State) (ws : WinSet) (a : Nat) (bs : List Byte) (h : Memory.wf s.mem.cells = true) :
    Memory.wf (s.writeFor ws a bs).1.mem.cells = true := writesFor_wf _ _ _ h

theorem State.zeroized_wf (s : State) : Memory.wf s.zeroized.mem.cells = true := rfl

/-- Memory stands in canonical form at reset: nothing is listed. -/
theorem memory_wf_reset : Memory.wf State.reset.mem.cells = true := rfl

/-! ## Reads without writes -/

/-- Two states with the same memory, interleave modes and owners of addresses read the same byte. -/
theorem State.byte_congr (s t : State) (a : Nat) (hm : t.mem = s.mem) (hi : t.start.img = s.start.img) : t.byte a = s.byte a := by
  unfold State.byte State.loc State.hubOf State.hubOffset
  rw [hm, hi]

theorem State.byte_of_closed (s : State) (a : Nat) (h : s.mem.unset = []) : s.byte a = tget emptyByte s.mem.cells (s.loc a) := by
  simp [State.byte, MemSt.byte, h]

end Sys2Proof.Machine
end

