-- ==== Sys2Proof/Laws/Core.lean ====
section
/-!
SUPPORT. The laws of what instructions and items share: an instance that issues a word or does not, an instruction that writes one
register file, an access that has been checked, and the start of an item.
-/
namespace Sys2Proof.Machine

/-! ## Issue -/

theorem State.issueAt_of_issuing {s : State} {c : Nat} {r : Run} {w : Word} (h : s.issuing c r w) (f : Core → Run → State) :
    s.issueAt c w f = f (s.core c) r := by
  unfold State.issueAt
  simp [h.1, h.2]

/-- An instruction changes nothing unless its instance issues it. -/
theorem State.issueAt_cases (s : State) (c : Nat) (w : Word) (f : Core → Run → State) :
    s.issueAt c w f = s ∨ ∃ r, s.issuing c r w ∧ s.issueAt c w f = f (s.core c) r := by
  unfold State.issueAt
  split
  · next r h =>
    split
    · exact .inr ⟨r, ⟨h, ‹_›⟩, rfl⟩
    · exact .inl rfl
  · exact .inl rfl

/-- What a tile instruction's arm answers: nothing changes, its item fails as malformed, or its own effect (04 R151, 06 R226). -/
theorem State.tileIssue_cases (s : State) (site top : Nat) (w : TWord) (f : Core → Run → State) :
    s.tileIssue site top w f = s ∨ s.tileIssue site top w f = s.malformedAt site ∨
    ∃ r, (s.core site).seq.run = some r ∧ (tileZeros w && tileForm w) = true ∧ (s.core site).arr.audits = false ∧
      (s.core site).tile.queue.length < 8 ∧ s.tileIssue site top w f = f (s.core site) r := by
  unfold State.tileIssue
  grind

/-! ## Registers and core memory -/

/-- An instruction that writes its sequencer changes nothing else. -/
theorem State.seqTo_only (s : State) (c : Nat) (x : SeqState) : OnlySeq s (s.seqTo c x) c x.next :=
  ⟨State.core_putCore_same _ _ _, fun _ h => State.core_putCore_ne _ _ _ _ h, rfl, fun a => State.byte_congr _ _ a rfl rfl⟩

theorem State.writeS_only (s : State) (c d : Nat) (v : DWord) : OnlySeq s (s.writeS c d v) c ((s.core c).seq.wroteS d v) :=
  s.seqTo_only c _

theorem State.writeV_only (s : State) (c d : Nat) (v : Vector Word 64) : OnlySeq s (s.writeV c d v) c ((s.core c).seq.wroteV d v) :=
  s.seqTo_only c _

theorem State.writeP_only (s : State) (c d : Nat) (v : DWord) : OnlySeq s (s.writeP c d v) c ((s.core c).seq.wroteP d v) := by
  have h := s.seqTo_only c ((s.core c).seq.setP d v)
  unfold SeqState.wroteP
  unfold SeqState.setP SeqState.next at h
  unfold State.writeP SeqState.setP
  by_cases hd : d = 0 <;> simp only [hd, if_true, if_false] at h ⊢ <;> exact h

/-- A read of p0 gives all ones, whatever was written (06 R223). -/
@[simp] theorem SeqState.preg_zero (x : SeqState) : x.preg 0 = BitVec.allOnes 64 := rfl
@[simp] theorem SeqState.setP_zero (x : SeqState) (v : DWord) : x.setP 0 v = x := rfl
theorem SeqState.sreg_setS (x : SeqState) (d e : Nat) (v : DWord) (h : d < 32) :
    (x.setS d v).sreg e = if e = d then v else x.sreg e := vget_vset _ _ _ _ _ h
theorem SeqState.vreg_setV (x : SeqState) (d e : Nat) (v : Vector Word 64) (h : d < 32) :
    (x.setV d v).vreg e = if e = d then v else x.vreg e := vget_vset _ _ _ _ _ h

/-- What an access that has been checked answers (06 R247, R252, R253). -/
theorem State.withMem_cases (s : State) (site : Nat) (m : MemCheck) (k : State) :
    (m = .ok ∧ s.withMem site m k = k) ∨ (m = .waits ∧ s.withMem site m k = s) ∨
    (∃ f, m = .fails f ∧ s.withMem site m k = s.failCore site f) ∨ (m = .malformed ∧ s.withMem site m k = s.malformedAt site) := by
  cases m <;> simp [State.withMem]

/-- A check that passes says that the access is aligned, within the extent, and waits for no slot (06 R247, R252). -/
theorem State.coreCheck_ok {s : State} {site : Nat} {r : Run} {a n align : Nat} {write : Bool}
    (h : s.coreCheck site r a n align write = .ok) :
    a % align = 0 ∧ a + n ≤ 64 * r.extent ∧ (s.core site).waits a (a + n) write = false := by
  unfold State.coreCheck at h
  grind

/-! ## Items and mailbox commands -/

/-- What an item's arm answers: nothing changes, its failure at its start, or what it does when its fields pass (09 R371, R374). -/
theorem State.startItem_cases (s : State) (q k op : Nat) (fields : Item → List (Nat × Bool)) (go : State → Item → State) :
    s.startItem q k op fields go = s ∨ (∃ f, s.startItem q k op fields go = (s.begin q k).failItem q k f) ∨
    ∃ i j, s.startable q k = some i ∧ i.op = op ∧ s.cmdFail i = none ∧ (s.begin q k).item? q k = some j ∧
      j.badField (fields j) = none ∧ s.csigFail j = none ∧ s.startItem q k op fields go = go (s.begin q k) j := by
  unfold State.startItem
  split
  · exact .inl rfl
  · next i hi =>
    split
    · exact .inl rfl
    · next ho =>
      simp only
      split
      · next f hf => exact .inr (.inl ⟨f, rfl⟩)
      · next hf =>
        split
        · exact .inl rfl
        · next j hj =>
          split
          · exact .inr (.inl ⟨_, rfl⟩)
          · exact .inr (.inl ⟨_, rfl⟩)
          · next hb hc => exact .inr (.inr ⟨i, j, hi, by simpa using ho, hf, hj, hb, hc, rfl⟩)

/-- What a mailbox command's arm answers: nothing, its refusal, or its effect with its counter taken (17 R654, R658, R659). -/
theorem State.secTake_cases (s : State) (p op : Nat) (f : State → Mailbox → State × SecEnd) :
    s.secTake p op f = s ∨ (∃ e, s.secCheck p = some e ∧ s.secTake p op f = (s.secEnd p e).secNext) ∨
    (s.secCheck p = none ∧ ∃ t, t = (if secTagged op then s.putBox p { s.box p with ctr := BitVec.ofNat 64 (s.box p).counter } else s) ∧
      s.secTake p op f = ((f t (t.box p)).1.secEnd p (f t (t.box p)).2).secNext) := by
  unfold State.secTake
  split
  · exact .inl rfl
  · split
    · next e he => exact .inr (.inl ⟨e, he, rfl⟩)
    · next he => exact .inr (.inr ⟨he, _, rfl, rfl⟩)

end Sys2Proof.Machine
end

