-- ==== Sys2Proof/Tests/Slice0.lean ====
section
/-!
SUPPORT. Tests: the form that each command must have, single steps whose results stand in the spec's tables, and for every statement
with hypotheses a state and operands that meet them, clause by clause.
-/
namespace Sys2Proof.Tests

set_option Elab.async false

open Sys2Proof Sys2Proof.Machine Sys2Proof.Claims

/-! ## Core programs: a core that issues a word -/

/-- An instance of a JOB with an extent of 64 lines. -/
def run1 : Run :=
  { q := 0, k := 1, ctx := 0, extent := 64, job := true, inst := 2, count := 5, vflags := true, seed := 0, trap := false, tag := 7,
    image := 0, ilen := 64 }

/-- A core whose instance stands at word 0. -/
def coreAt (w : Word) : Core :=
  ⟨ArrayState.reset, TileState.reset, { SeqState.reset with phase := .running, run := some run1, imem := [(0, w)] }⟩

/-- The module after reset with that core at site 0. -/
def issue (w : Word) : State := State.reset.putCore 0 (coreAt w)
/-- The same with more of the core set. -/
def issueWith (w : Word) (f : Core → Core) : State := State.reset.putCore 0 (f (coreAt w))

theorem core_issueWith (w : Word) (f : Core → Core) : (issueWith w f).core 0 = f (coreAt w) := by
  simp [issueWith, State.core, State.putCore]

theorem atWord_coreAt (w : Word) : (coreAt w).atWord run1 w = true := by
  simp [Core.atWord, Core.issues, coreAt, run1, SeqState.tileGroup, SeqState.word, tget, SeqState.reset, Core.vecWaits, TileState.reset]

/-- The core issues the word. -/
theorem issuing (w : Word) : (issue w).issuing 0 run1 w := by
  have h : (issue w).core 0 = coreAt w := core_issueWith w id
  exact ⟨by rw [show ((0 : Nat)) = 0 from rfl, h]; rfl, by rw [h]; exact atWord_coreAt w⟩

/-- So it does when registers, slots, tiles or wires are set. -/
theorem issuingWith (w : Word) (f : Core → Core) (h : (f (coreAt w)).seq.run = some run1)
    (g : (f (coreAt w)).atWord run1 w = true) : (issueWith w f).issuing 0 run1 w := by
  exact ⟨by rw [core_issueWith]; exact h, by rw [core_issueWith]; exact g⟩

/-- Registers, slots and wires of the issuing core set. -/
def issueSeq (w : Word) (g : SeqState → SeqState) : State := issueWith w fun k => { k with seq := g k.seq }
/-- The vector unit's registers all 3, s1 to s3 as given. -/
def regs (x y z : DWord) (q : SeqState) : SeqState :=
  { q with s := ((q.s.set 1 x).set 2 y).set 3 z, v := Vector.replicate 32 (Vector.replicate 64 3) }

theorem issuingRegs (w : Word) (x y z : DWord) : (issueSeq w (regs x y z)).issuing 0 run1 w :=
  issuingWith w _ rfl (by
    simp [Core.atWord, Core.issues, coreAt, run1, regs, SeqState.tileGroup, SeqState.word, tget, SeqState.reset, Core.vecWaits,
      TileState.reset])

/-! ## Witnesses: each statement's hypotheses are met -/

theorem wit_scalarRegisters : ∀ e ∈ scalarOps, (issue (encRR 0 e.2.1 (31 : Reg) (0 : Reg) (1 : Reg) 0 0)).issuing (0 : Site) run1
    (encRR 0 e.2.1 (31 : Reg) (0 : Reg) (1 : Reg) 0 0) := fun _ _ => issuing _

theorem wit_scalarImmediates : ∀ e ∈ immediateOps, (issue (encRI 1 e.2.1 (31 : Reg) (0 : Reg) (0x800 : BitVec 12).toNat)).issuing
    (0 : Site) run1 (encRI 1 e.2.1 (31 : Reg) (0 : Reg) (0x800 : BitVec 12).toNat) := fun _ _ => issuing _

theorem wit_moveKeep : ∀ e ∈ movkOps, (issue (encMK (0x10 + e.2) (31 : Reg) (0xFFFF : BitVec 16).toNat)).issuing (0 : Site) run1
    (encMK (0x10 + e.2) (31 : Reg) (0xFFFF : BitVec 16).toNat) := fun _ _ => issuing _

/-- Jumps to the last word, to a tile group's first word, through a register, and both sides of each branch. -/
theorem wit_control :
    (goodTarget ((issue (encCT 0x00 0 16383)).core 0).seq 16383 ∧ (issue (encCT 0x00 0 16383)).issuing (0 : Site) run1 (encCT 0x00 0 16383)) ∧
    (∀ e ∈ branchOps, goodTarget ((issue (encCT e.2.1 (1 : Reg) 16383)).core 0).seq 16383 ∧
      (issue (encCT e.2.1 (1 : Reg) 16383)).issuing (0 : Site) run1 (encCT e.2.1 (1 : Reg) 16383)) ∧
    (goodTarget ((issue (encCT 0x04 0 0)).core 0).seq 0 ∧ (issue (encCT 0x04 0 0)).issuing (0 : Site) run1 (encCT 0x04 0 0)) ∧
    (goodTarget ((issue (encCT 0x05 (31 : Reg) 0)).core 0).seq ((((issue (encCT 0x05 (31 : Reg) 0)).core 0).seq.sreg 31).truncate 14) ∧
      (issue (encCT 0x05 (31 : Reg) 0)).issuing (0 : Site) run1 (encCT 0x05 (31 : Reg) 0)) ∧
    (issue (encCT 0x3E 0 0)).issuing (0 : Site) run1 (encCT 0x3E 0 0) := by
  refine ⟨⟨?_, issuing _⟩, fun e he => ⟨?_, issuing _⟩, ⟨?_, issuing _⟩, ⟨?_, issuing _⟩, issuing _⟩
  · unfold goodTarget; decide
  · unfold goodTarget; revert e; decide
  · unfold goodTarget; decide
  · unfold goodTarget; decide

theorem wit_moveFromSpecial : (8 : BitVec 12).toNat ≤ 8 ∧ (issue (encRI 2 0x06 (31 : Reg) 0 (8 : BitVec 12).toNat)).issuing (0 : Site) run1
    (encRI 2 0x06 (31 : Reg) 0 (8 : BitVec 12).toNat) := ⟨by decide, issuing _⟩

/-- A load and a store of the last bytes of the extent of 64 lines. -/
theorem wit_scalarMemory :
    (let s := issueSeq (encRI 3 0x00 (2 : Reg) (1 : Reg) (0xFFF : BitVec 12).toNat) (regs 4096 0 0)
     let m := (((s.core (0 : Site)).seq.sreg 1) + BitVec.ofNat 64 8 * (0xFFF : BitVec 12).signExtend 64).toNat
     s.issuing (0 : Site) run1 (encRI 3 0x00 (2 : Reg) (1 : Reg) (0xFFF : BitVec 12).toNat) ∧ m % 8 = 0 ∧ m + 8 ≤ 64 * run1.extent ∧
      (s.core (0 : Site)).waits m (m + 8) false = false ∧ s.isUe (coreAddr (0 : Site) m) = false) ∧
    (let s := issueSeq (encRI 3 0x03 (2 : Reg) (1 : Reg) (0xFFF : BitVec 12).toNat) (regs 4096 0 0)
     let m := (((s.core (0 : Site)).seq.sreg 1) + BitVec.ofNat 64 4 * (0xFFF : BitVec 12).signExtend 64).toNat
     s.siteState (0 : Site) = 0 ∧ run1.extent ≤ 24576 ∧
      s.issuing (0 : Site) run1 (encRI 3 0x03 (2 : Reg) (1 : Reg) (0xFFF : BitVec 12).toNat) ∧ m % 4 = 0 ∧ m + 4 ≤ 64 * run1.extent ∧
      (s.core (0 : Site)).waits m (m + 4) true = false ∧ s.isUe (coreAddr (0 : Site) m) = false) := by
  refine ⟨⟨issuingRegs _ _ _ _, ?_⟩, ?_, ?_, issuingRegs _ _ _ _, ?_⟩ <;> decide

theorem wit_vectorMemory :
    (let s := issueSeq (encRI 5 0x00 (2 : Reg) (1 : Reg) (0xFFF : BitVec 12).toNat) (regs 3904 0 0)
     let m := (((s.core (0 : Site)).seq.sreg 1) + 64 * (0xFFF : BitVec 12).signExtend 64).toNat
     s.issuing (0 : Site) run1 (encRI 5 0x00 (2 : Reg) (1 : Reg) (0xFFF : BitVec 12).toNat) ∧
       s.coreCheck (0 : Site) run1 m 256 4 false = .ok) ∧
    (let s := issueSeq (encRR 5 0x02 (2 : Reg) (1 : Reg) (4 : Reg) (1 : PReg) 0) (regs 4080 0 0)
     s.issuing (0 : Site) run1 (encRR 5 0x02 (2 : Reg) (1 : Reg) (4 : Reg) (1 : PReg) 0) ∧
       lanesCheck s (0 : Site) (s.core (0 : Site)) run1 (1 : Reg) (4 : Reg) (1 : PReg) false = .ok) ∧
    (let s := issueSeq (encRI 5 0x01 (2 : Reg) (1 : Reg) 0) (regs 3840 0 0)
     s.siteState (0 : Site) = 0 ∧ run1.extent ≤ 24576 ∧
      s.issuing (0 : Site) run1 (encRI 5 0x01 (2 : Reg) (1 : Reg) (0 : BitVec 12).toNat) ∧
       s.coreCheck (0 : Site) run1 (((s.core (0 : Site)).seq.sreg 1) + 64 * (0 : BitVec 12).signExtend 64).toNat 256 4 true = .ok) ∧
    (let s := issueSeq (encRR 5 0x03 (2 : Reg) (1 : Reg) (4 : Reg) (0 : PReg) 0) (regs 4080 0 0)
     s.siteState (0 : Site) = 0 ∧ run1.extent ≤ 24576 ∧
      s.issuing (0 : Site) run1 (encRR 5 0x03 (2 : Reg) (1 : Reg) (4 : Reg) (0 : PReg) 0) ∧
       lanesCheck s (0 : Site) (s.core (0 : Site)) run1 (1 : Reg) (4 : Reg) (0 : PReg) true = .ok) := by
  refine ⟨⟨issuingRegs _ _ _ _, ?_⟩, ⟨issuingRegs _ _ _ _, ?_⟩, ⟨?_, ?_, issuingRegs _ _ _ _, ?_⟩, ?_, ?_, issuingRegs _ _ _ _, ?_⟩ <;>
    decide +kernel

theorem wit_vectorFloats :
    (∀ e ∈ floatOps, ∀ sb : Bool, (issue (encRR 4 e.2.1 (31 : Reg) (0 : Reg) (1 : Reg) (7 : PReg) (if sb then 8 else 0))).issuing (0 : Site) run1
      (encRR 4 e.2.1 (31 : Reg) (0 : Reg) (1 : Reg) (7 : PReg) (if sb then 8 else 0))) ∧
    (∀ e ∈ estimateOps, (issue (encRR 4 e.2.1 (31 : Reg) (0 : Reg) 0 (0 : PReg) 0)).issuing (0 : Site) run1
      (encRR 4 e.2.1 (31 : Reg) (0 : Reg) 0 (0 : PReg) 0)) :=
  ⟨fun _ _ _ => issuing _, fun _ _ => issuing _⟩

theorem wit_vectorIntegers :
    (∀ e ∈ compareOps, ∀ d : Reg, d.val < 8 → (issue (encRR 4 e.2.1 d (0 : Reg) (1 : Reg) (7 : PReg) 8)).issuing (0 : Site) run1
      (encRR 4 e.2.1 d (0 : Reg) (1 : Reg) (7 : PReg) 8)) ∧
    (∀ e ∈ integerOps, (issue (encRR 4 e.2.1 (31 : Reg) (0 : Reg) (1 : Reg) (7 : PReg) 0)).issuing (0 : Site) run1
      (encRR 4 e.2.1 (31 : Reg) (0 : Reg) (1 : Reg) (7 : PReg) 0)) ∧
    (∀ op ∈ [0x14, 0x20, 0x21], (issue (encRR 4 op (31 : Reg) 0 0 (7 : PReg) 0)).issuing (0 : Site) run1 (encRR 4 op (31 : Reg) 0 0 (7 : PReg) 0)) ∧
    (∀ e ∈ predicateOps, (issue (encRR 4 e.2.1 (31 : Reg) (0 : Reg) (1 : Reg) (7 : PReg) 0)).issuing (0 : Site) run1
      (encRR 4 e.2.1 (31 : Reg) (0 : Reg) (1 : Reg) (7 : PReg) 0)) ∧
    (∀ op ∈ [0x2A, 0x2B], (issue (encRR 4 op (31 : Reg) (0 : Reg) 0 (7 : PReg) 0)).issuing (0 : Site) run1
      (encRR 4 op (31 : Reg) (0 : Reg) 0 (7 : PReg) 0)) ∧
    ((15 : Reg).val < 16 ∧ (issue (encRR 4 0x2C (15 : Reg) (0 : Reg) 0 (7 : PReg) 0)).issuing (0 : Site) run1
        (encRR 4 0x2C (15 : Reg) (0 : Reg) 0 (7 : PReg) 0) ∧
      ∀ q ∈ ((issue (encRR 4 0x2C (15 : Reg) (0 : Reg) 0 (7 : PReg) 0)).core 0).tile.queue, q.isTmm = true → twMaskEn q.word = true →
        twMaskId q.word ≠ 15) := by
  refine ⟨fun _ _ _ _ => issuing _, fun _ _ => issuing _, fun _ _ => issuing _, fun _ _ => issuing _, fun _ _ => issuing _, by decide,
    issuing _, ?_⟩
  rw [show (issue _).core 0 = _ from core_issueWith _ id]; intro q h; cases h

/-- The last of the formats, and stochastic rounding with RNE in its field. -/
theorem wit_conversions :
    ((0xC : BitVec 4).toNat ≤ 0xC ∧ (1 : BitVec 2).toNat ≤ 1 ∧ (0 : BitVec 2).toNat = 0) ∧
    (issue (encCV 0x00 (31 : Reg) (0 : Reg) (0xC : BitVec 4).toNat (0 : BitVec 2).toNat (b01 true) (b01 true))).issuing (0 : Site) run1
      (encCV 0x00 (31 : Reg) (0 : Reg) (0xC : BitVec 4).toNat (0 : BitVec 2).toNat (b01 true) (b01 true)) ∧
    (issue (encCV 0x01 (31 : Reg) (0 : Reg) (0xC : BitVec 4).toNat (1 : BitVec 2).toNat (b01 false) (b01 false))).issuing (0 : Site) run1
      (encCV 0x01 (31 : Reg) (0 : Reg) (0xC : BitVec 4).toNat (1 : BitVec 2).toNat (b01 false) (b01 false)) :=
  ⟨by decide, issuing _, issuing _⟩

theorem wit_reductions : ∀ e ∈ reduceOps, (issue (encRR 6 e.2.1 (31 : Reg) (0 : Reg) 0 (7 : PReg) 0)).issuing (0 : Site) run1
    (encRR 6 e.2.1 (31 : Reg) (0 : Reg) 0 (7 : PReg) 0) := fun _ _ => issuing _

/-- An item of queue 0 with the default windows. -/
def item (op : Nat) (w : Work) (ph : Phase) : Item :=
  { k := 1, op := op, iflags := 0, len := 1, tag := 7, addr := 0x1000, lseq := 1, ctx := 0, wins := defaultWins, gen := 0, csig := none,
    due := none, trap := false, acceptDtc := 0, boundarySeen := false, phase := ph, cmd := [], work := w, status := 0, fl := {},
    saturated := false, retried := false, progress := 0, detail := 0, startDtc := some 0, endDtc := 0 }
/-- A running queue with items. -/
def queueOf (l : List Item) : QueueSt := { QueueSt.reset with st := .running, aseq := 1, items := l }
/-- An active stream of context 0. -/
def streamed : Stream := { Stream.free with phase := .active, ctx := 0 }

theorem wit_streamInstructions :
    (∀ op ∈ [0x00, 0x01], ((issue (encRR 7 op (1 : Reg) (2 : Reg) (3 : Reg) 0 0)).issuing (0 : Site) run1
        (encRR 7 op (1 : Reg) (2 : Reg) (3 : Reg) 0 0)) ∧
      (((issue (encRR 7 op (1 : Reg) (2 : Reg) (3 : Reg) 0 0)).core (0 : Site)).seq.sreg (3 : Reg)).toNat = 0) ∧
    (let s := (issueSeq (encRR 7 0x00 (1 : Reg) (2 : Reg) (3 : Reg) 0 0) (regs 5 60 4)).putStream 5 streamed
     let x := (s.core (0 : Site)).seq
     s.issuing (0 : Site) run1 (encRR 7 0x00 (1 : Reg) (2 : Reg) (3 : Reg) 0 0) ∧ (x.sreg 3).toNat ≠ 0 ∧ (x.sreg 3).toNat ≤ 24576 ∧
      (x.sreg 2).toNat + (x.sreg 3).toNat ≤ run1.extent ∧ x.slots.length < 8 ∧ (s.stream (x.sreg 1).toNat).phase = .active ∧
      (s.stream (x.sreg 1).toNat).ctx = run1.ctx ∧ (s.core (0 : Site)).waits (64 * 60) (64 * 64) true = false) ∧
    (let s := (issueSeq (encRR 7 0x01 (1 : Reg) (2 : Reg) (3 : Reg) 0 0) (regs 4096 60 4)).putQueue 0 (queueOf [item 0x11 .none .running])
     let x := (s.core (0 : Site)).seq
     s.issuing (0 : Site) run1 (encRR 7 0x01 (1 : Reg) (2 : Reg) (3 : Reg) 0 0) ∧ (x.sreg 3).toNat ≠ 0 ∧ (x.sreg 3).toNat ≤ 24576 ∧
      (x.sreg 2).toNat + (x.sreg 3).toNat ≤ run1.extent ∧ x.slots.length < 8 ∧
      (s.core (0 : Site)).waits (64 * 60) (64 * 64) false = false ∧ (x.sreg 1).toNat % 64 = 0 ∧
      (∀ i, i < 4 → s.checkLine (s.runWins run1) rightW ((x.sreg 1).toNat + 64 * i) = none) ∧
      (∀ l ∈ linesOf (coreAddr (0 : Site) (64 * 60)) (64 * 4), s.isUe l = false)) ∧
    (issue (encRR 7 0x02 0 0 0 0 0)).issuing (0 : Site) run1 (encRR 7 0x02 0 0 0 0 0) := by
  refine ⟨fun op h => ⟨issuing _, ?_⟩, ⟨And.intro ?_ ?_, ?_⟩, ⟨And.intro ?_ ?_, ?_⟩, issuing _⟩
  · revert op; decide
  all_goals decide +kernel

/-- Bytes given by fields: offset, length, value; zeros elsewhere. -/
def fields (n : Nat) (l : List (Nat × Nat × Nat)) : List Byte :=
  (List.range n).map fun i =>
    match l.find? fun e => decide (e.1 ≤ i) && decide (i < e.1 + e.2.1) with
    | some e => BitVec.ofNat 8 (e.2.2 / 256 ^ (i - e.1))
    | none => 0

/-- A descriptor of one line of bytes at address 0x2000. -/
def oneLine : List Byte := fields 64 [(0, 8, 0x2000), (8, 2, 63), (29, 1, 2)]
/-- The same with a lead of one line. -/
def leadLine : List Byte := fields 64 [(0, 8, 0x2000), (8, 2, 63), (29, 1, 2), (32, 2, 1)]
/-- The module with an instance that has one slot, and its item. -/
def slotted (o : SlotOp) : State :=
  ((issueSeq 0 fun q => { q with slots := [o] }).putStream 5 { streamed with desc := oneLine }).putQueue 0 (queueOf [item 0x11 .none .running])

theorem wit_streamSlots :
    (let s := slotted (.srd 63 1 5 none)
     let x := s.stream 5
     (s.core (0 : Site)).seq.run = some run1 ∧ (s.core (0 : Site)).seq.slots[0]? = some (.srd 63 1 5 none) ∧ x.phase = .active ∧
      x.ctx = run1.ctx ∧ x.pos + 1 ≤ (readDesc x.desc).length ∧
      (readDesc x.desc).checkLines s ((readDesc x.desc).layFor x.lay x.pos (s.core (0 : Site)).arr) (s.runWins run1) (some 5) x.pos 1 = none) ∧
    (let s := slotted (.srd 24575 1 5 (some (List.replicate 64 1)))
     (s.core (0 : Site)).seq.run = some run1 ∧ (s.core (0 : Site)).seq.phase = .running ∧ s.siteState (0 : Site) = 0 ∧
      ((s.item? run1.q run1.k).map (·.status)) = some 0 ∧
      (s.core (0 : Site)).seq.slots[0]? = some (.srd 24575 1 5 (some (List.replicate 64 1))) ∧
      64 * 24575 + (List.replicate 64 (1 : Byte)).length ≤ coreBytes) ∧
    (let s := slotted (.swr 63 1 4096)
     (s.core (0 : Site)).seq.run = some run1 ∧ (s.core (0 : Site)).seq.phase = .running ∧
      ((s.item? run1.q run1.k).map (·.status)) = some 0 ∧ (s.core (0 : Site)).seq.slots[0]? = some (.swr 63 1 4096)) := by decide +kernel

/-- Counter 4095 at 7: a SIG, a WAITC that waits and one that claims. -/
def counted (w : Word) (x y : DWord) : State := (issueSeq w (regs x y 2)).setCounter 4095 7

theorem wit_counters :
    (let s := counted (encRR 8 0x00 (1 : Reg) (2 : Reg) 0 0 0) 4095 1
     s.mayUse 4095 run1.ctx = true ∧ s.sync.watches = [] ∧ s.issuing (0 : Site) run1 (encRR 8 0x00 (1 : Reg) (2 : Reg) 0 0 0) ∧
      (s.core (0 : Site)).seq.sreg (2 : Reg) ≠ 0) ∧
    (let s := counted (encRR 8 0x01 (1 : Reg) (2 : Reg) (3 : Reg) 0 2) 4095 1
     s.issuing (0 : Site) run1 (encRR 8 0x01 (1 : Reg) (2 : Reg) (3 : Reg) 0 2) ∧ s.sync.waiting = [] ∧
      (Watch.mk 4095 (.core 0) 1 2 none (s.counter 4095)).holds (s.counter 4095) = false) ∧
    (let s := counted (encRR 8 0x01 (1 : Reg) (2 : Reg) (3 : Reg) 0 4) 4095 7
     s.issuing (0 : Site) run1 (encRR 8 0x01 (1 : Reg) (2 : Reg) (3 : Reg) 0 4) ∧ s.sync.waiting = [] ∧
      (s.core (0 : Site)).seq.sreg (3 : Reg) ≠ 0 ∧ s.mayUse 4095 run1.ctx = true ∧
      (Watch.mk 4095 (.core 0) 7 0 (some 2) (s.counter 4095)).holds (s.counter 4095) = true) := by
  refine ⟨⟨?_, ?_, And.intro ?_ ?_, ?_⟩, ⟨And.intro ?_ ?_, ?_⟩, And.intro ?_ ?_, ?_⟩ <;> decide +kernel

/-- A core herd 63 of context 0 on sites 0 and 1, with the arrivals given. -/
def herded (w : Word) (l : List Nat) : State :=
  (issueSeq w (regs 63 0 0)).putHerd 63 { Herd.none with kind := 1, mask := 3, arrived := l }

theorem wit_wiresAndHerds :
    ((15 : BitVec 12).toNat ≤ 15 ∧ (issue (encRI 8 0x02 0 0 (15 : BitVec 12).toNat)).issuing (0 : Site) run1 (encRI 8 0x02 0 0 (15 : BitVec 12).toNat)) ∧
    ((0 : BitVec 12).toNat ≤ 15 ∧ (issue (encRI 8 0x03 0 0 (0 : BitVec 12).toNat)).issuing (0 : Site) run1 (encRI 8 0x03 0 0 (0 : BitVec 12).toNat)) ∧
    (let s := herded (encRR 8 0x04 (1 : Reg) 0 0 0 0) []
     let H := s.herd 63
     s.issuing (0 : Site) run1 (encRR 8 0x04 (1 : Reg) 0 0 0 0) ∧ ((s.core (0 : Site)).seq.sreg (1 : Reg)).toNat = 63 ∧ H.kind = 1 ∧
      H.ctx = run1.ctx ∧ H.mask.getLsbD (0 : Site) = true ∧ 0 ∉ H.arrived ∧ ∃ y ∈ s.participants H, y ∉ H.arrived ∧ y ≠ 0) ∧
    (let s := herded (encRR 8 0x04 (1 : Reg) 0 0 0 0) [1]
     let H := s.herd 63
     s.issuing (0 : Site) run1 (encRR 8 0x04 (1 : Reg) 0 0 0 0) ∧ ((s.core (0 : Site)).seq.sreg (1 : Reg)).toNat = 63 ∧ H.kind = 1 ∧
      H.ctx = run1.ctx ∧ H.mask.getLsbD (0 : Site) = true ∧ 0 ∉ H.arrived ∧ ∀ y ∈ s.participants H, y ∈ H.arrived ∨ y = 0) := by
  refine ⟨⟨by decide, issuing _⟩, ⟨by decide, issuing _⟩, ⟨And.intro ?_ ?_, ?_⟩, And.intro ?_ ?_, ?_⟩ <;> decide +kernel

/-- A JOB of five instances whose image lies at 0x3000. -/
def jobItem (ph : Phase) (started : Nat) : Item :=
  { item 0x11 (.job ⟨started, 0, [], 0, []⟩) ph with cmd := fields 64 [(12, 4, 64), (16, 8, 0x3000), (24, 4, 5)] }

/-- An entry at the first word of a group is a good one. -/
theorem goodEntry_zero (s : State) (i : Item) (h : i.fld 28 2 = 0) : goodEntry s i := by
  intro x _; simp [goodTarget, h]

theorem wit_instances :
    (let s := State.reset.putQueue 0 (queueOf [jobItem .running 4])
     let i := jobItem .running 4
     (s.queue 0).goes = true ∧ s.item? 0 1 = some i ∧ i.op = 0x11 ∧ i.live = true ∧ i.status = 0 ∧ 4 < i.fld 24 4 ∧
      s.coreFree 0 0 = true ∧ s.imageFail (i.fld 16 8) (i.fld 12 4) = none ∧ i.fld 28 2 = 0) ∧
    (let s := (issue (encCT 0x3F 0 0)).putQueue 0 (queueOf [jobItem .running 5])
     s.issuing (0 : Site) run1 (encCT 0x3F 0 0) ∧ (s.core (0 : Site)).seq.slots = [] ∧ (s.core (0 : Site)).tile.queue = [] ∧
      (s.core (0 : Site)).seq.outbox.length < 4 ∧ s.item? run1.q run1.k = some (jobItem .running 5)) ∧
    (let s := (issueSeq 0 fun q => { q with slots := [.swr 63 1 4096] }).putQueue 0 (queueOf [jobItem .running 5])
     (s.core (0 : Site)).seq.run = some run1 ∧ (s.core (0 : Site)).issues run1 = true ∧ (s.core (0 : Site)).seq.tileGroup 0 = false ∧
      wordOk ((s.core (0 : Site)).seq.word 0) = false ∧ (s.core (0 : Site)).seq.slots ≠ [] ∧ (s.core (0 : Site)).arr.auditRun = none ∧
      s.sitesOf run1.q run1.k = [0] ∧
      s.item? run1.q run1.k = some (jobItem .running 5)) := by
  refine ⟨?_, ⟨And.intro ?_ ?_, ?_⟩, ?_⟩ <;> decide +kernel

/-! ## Tiles and the array -/

/-- A tile instruction word from its kind and fields: low bit and value. -/
def tileWordOf (kind : Nat) (l : List (Nat × Nat)) : TWord :=
  BitVec.ofNat 128 (l.foldl (fun a e => a + e.2 * 2 ^ e.1) (15 * 2 ^ 124 + kind * 2 ^ 120))
/-- An instance with all of core memory. -/
def run2 : Run := { run1 with extent := 24576 }
/-- A core at site 0 whose instance stands at a tile instruction, with the tile state given. -/
def tileCore (w : TWord) (t : TileState) (ph : SeqPhase) : Core :=
  let l := (List.range 4).map fun i => (i, BitVec.ofNat 32 (w.toNat / 2 ^ (32 * i)))
  ⟨ArrayState.reset, t, { SeqState.reset with phase := ph, run := some run2, imem := l }⟩
def tiled (w : TWord) (t : TileState) (ph : SeqPhase) : State := State.reset.putCore 0 (tileCore w t ph)
/-- The module with bytes in memory, within one granule. -/
def withBytes (s : State) (a : Nat) (bs : List Byte) : State := s.setMem { s.mem with cells := putBytes s.mem.cells (s.loc a) bs }

/-- TZERO of 256 × 96 on tile 3, and TMM of 1 × 1 × 1 in BF16 with its header. -/
def tzeroW : TWord := tileWordOf 0 [(112, 255), (105, 95), (80, 3)]
def tmmW : TWord := tileWordOf 1 [(94, 1), (90, 1), (80, 3), (79, 1)]
def tmmState : State :=
  withBytes (tiled tmmW TileState.reset .running) (coreAddr 0 0) (fields 64 [(0, 2, 0xE7A5), (4, 1, 1), (7, 1, twC tmmW), (28, 4, twSteps tmmW)])

/-- A TZERO on an idle core, and one behind a TMM of its tile. -/
theorem wit_tileZero :
    (tileIssuing (tiled tzeroW TileState.reset .running) 0 run2 0 tzeroW ∧
      tileIdle ((tiled tzeroW TileState.reset .running).core 0)) ∧
    (let t := { TileState.reset with queue := [{ word := tmmW, issue := 0 }], issueNo := 1 }
     tileIssuing (tiled tzeroW t .running) 0 run2 0 tzeroW ∧ ((tiled tzeroW t .running).core 0).ready = none ∧
       ∃ y ∈ ((tiled tzeroW t .running).core 0).tile.queue, y.issue < ((tiled tzeroW t .running).core 0).tile.issueNo ∧
         twAcc y.word = twAcc tzeroW) := by
  unfold tileIssuing tileIdle; decide +kernel

/-- A ZERO TMM on an idle core; one behind another TMM; and one without ZERO on a stamped tile. -/
theorem wit_tileMultiplies :
    (let k := tmmState.core (0 : Site)
     tileIssuing tmmState 0 run2 1 tmmW ∧ operandsFail 0 run2.extent (tmmOperands tmmW) = none ∧ twZero tmmW = true ∧
      k.slotWait (tmmOperands tmmW) false = false ∧ twTr tmmW = false ∧ tmmState.isUe (coreAddr 0 (64 * twRaddr tmmW)) = false ∧
      headerOk tmmW (tmmState.bytes (coreAddr 0 (64 * twRaddr tmmW)) 64) = true ∧ tileIdle k) ∧
    (let k := tmmState.core 0
     let s := tmmState.putCore 0 { k with tile := { k.tile with queue := [{ word := tmmW, issue := 0 }], issueNo := 1 } }
     tileIssuing s 0 run2 1 tmmW ∧ (s.core 0).slotWait (tmmOperands tmmW) false = false ∧
      headerOk tmmW (s.bytes (coreAddr 0 (64 * twRaddr tmmW)) 64) = true ∧ (s.core 0).ready = none ∧
      ∃ y ∈ (s.core 0).tile.queue, y.issue < (s.core 0).tile.issueNo ∧ twAcc y.word = twAcc tmmW) ∧
    (let w := tileWordOf 1 [(94, 1), (90, 1), (80, 3)]
     let t := { TileState.reset with stamps := Vector.replicate 4 (twStamp w) }
     tileIssuing (tiled w t .running) 0 run2 1 w ∧ twZero w = false ∧ t.stamp (twAcc w) = twStamp w) := by
  unfold tileIssuing tileIdle; decide +kernel

/-- A valid stamp of 4 × 32 on tile 0, and TACCRDs of 4 × 32 to core memory in FP32 and in block-scaled MXFP8, and to v0 to v7. -/
def stamped : TileState := { TileState.reset with stamps := Vector.replicate 4 ⟨true, 31, 3⟩ }
def readW (ofmt dest rs : Nat) : TWord := tileWordOf 2 [(112, 3), (105, 31), (86, ofmt), (67, dest), (19, rs)]

/-- The common hypotheses of a readout. -/
def readable (w : TWord) (ph : SeqPhase) : Prop :=
  let s := tiled w stamped ph
  let k := s.core 0
  operandsFail 0 run2.extent (readOperands w) = none ∧ run2.extent ≤ 24576 ∧ s.siteState 0 = 0 ∧ readShape k w false = true ∧
    k.slotWait (readOperands w) true = false ∧ s.scaleUe 0 w = none ∧ run2.trap = false ∧ k.tile.queue = []

theorem wit_readoutPlain : readable (readW 0 0 0) .running ∧ tileIssuing (tiled (readW 0 0 0) stamped .running) 0 run2 2 (readW 0 0 0) ∧
    twDest (readW 0 0 0) = false ∧ fmtScaled (twOfmt (readW 0 0 0)) = false := by
  unfold readable tileIssuing; decide +kernel

theorem wit_readoutScaled : readable (readW 5 0 4) .running ∧ tileIssuing (tiled (readW 5 0 4) stamped .running) 0 run2 2 (readW 5 0 4) ∧
    twDest (readW 5 0 4) = false ∧ fmtScaled (twOfmt (readW 5 0 4)) = true ∧
    twM (readW 5 0 4) * rowBytes (twN (readW 5 0 4)) (fmtBits (twOfmt (readW 5 0 4))) ≤ 64 * twRsaddr (readW 5 0 4) := by
  unfold readable tileIssuing; decide +kernel

theorem wit_readoutVectors : readable (readW 0 1 0) .running ∧ tileIssuing (tiled (readW 0 1 0) stamped .running) 0 run2 2 (readW 0 1 0) ∧
    twDest (readW 0 1 0) = true := by
  unfold readable tileIssuing; decide +kernel

/-- A TACCRD of four rows that pauses after the third. -/
theorem wit_readoutPaused : (2 : Fin 256).val + 1 < twM (readW 0 0 0) := by decide

theorem wit_tileSaveAndRestore :
    (let w := tileWordOf 3 [(80, 3)]
     let s := tiled w stamped .running
     let k := s.core (0 : Site)
     operandsFail 0 run2.extent [(twRaddr w, 122944)] = none ∧ k.tile.queue = [] ∧ tileIssuing s 0 run2 3 w ∧ run2.extent ≤ 24576 ∧
      s.siteState 0 = 0 ∧ readShape k w true = true ∧ k.slotWait [(twRaddr w, 122944)] true = false) ∧
    (let w := tileWordOf 4 [(80, 3)]
     let s := withBytes (tiled w TileState.reset .running) (coreAddr 0 122880) (natLe 4 (95 * 256))
     let k := s.core (0 : Site)
     operandsFail 0 run2.extent [(twRaddr w, 122944)] = none ∧ k.tile.queue = [] ∧ tileIssuing s 0 run2 4 w ∧
      k.slotWait [(twRaddr w, 122944)] false = false ∧ s.operandUe 0 [(twRaddr w, 122944)] = none ∧
      bitsOf (s.num (coreAddr 0 (64 * twRaddr w) + 122880) 4) 14 8 < 96) := by
  unfold tileIssuing; decide +kernel

/-- A pass of a word in the tile queue, presented in cycle 0. -/
def passOf (w : TWord) (ph : PassPhase) (sums : List ChunkSum) : Pass :=
  { newPass (tmmState.core 0) w 0 with phase := ph, bank := if ph = .waiting then 0 else 2, sums := sums }
/-- The pass of `tmmW`. -/
def pass (ph : PassPhase) (sums : List ChunkSum) : Pass := passOf tmmW ph sums
/-- The module in tick 100 with passes in the tile queue of site 0. -/
def queueing (l : List Pass) (f : ArrayState → ArrayState) : State :=
  let k := tmmState.core 0
  ((tmmState.putCore 0 { k with tile := { k.tile with queue := l }, arr := f k.arr }).putQueue 0
    (queueOf [item 0x11 .none .running])).setSync { SyncSt.reset with dtc := 100 }
def passing (x : Pass) (epoch : BitVec 16) : State := queueing [x] fun a => { a with epoch := epoch }

/-- A TMM that loads its keeper, and one that reuses the latched one. -/
theorem wit_keeperLoads :
    (let s := passing (pass .waiting []) 0
     let x := pass .waiting []
     let k := s.core (0 : Site)
     let bank := loadBankOf k.arr x
     k.active = true ∧ k.arr.audits = false ∧ k.tile.queue.find? (fun y => y.isTmm && decide (y.phase = .waiting)) = some x ∧
      k.arr.reuses x.word = none ∧ k.tile.loadWaits x bank = false ∧ s.reached (k.arr.pipe.loadAt x.cycI bank (twTk x.word)) = true ∧
      s.operandUe (0 : Site) [(twKaddr x.word, twKeeperBytes x.word), (twKsaddr x.word, twKscaleBytes x.word)] = none) ∧
    (let w := tileWordOf 1 [(94, 1), (90, 1), (80, 3), (79, 1), (76, 1)]
     let x := passOf w .waiting []
     let s := queueing [x] fun a => { a with kLatch := some (kLatchOf w 2 []) }
     let k := s.core (0 : Site)
     k.active = true ∧ k.arr.audits = false ∧ k.tile.queue.find? (fun y => y.isTmm && decide (y.phase = .waiting)) = some x ∧
      k.arr.reuses x.word = some (kLatchOf w 2 [])) := by
  decide +kernel

/-- The tile's epoch is 0: a pass that starts, and one that waits for its tile to be laid out again. -/
def startReady (e : BitVec 16) : Prop :=
  let x := pass .loaded []
  let s := passing x e
  let k := s.core (0 : Site)
  k.active = true ∧ k.tile.nextPass = some x ∧ k.arr.audits = false ∧ x.phase = .loaded ∧ k.tile.startWaits x = false ∧
    s.reached (k.arr.startAt x) = true ∧ twTr x.word = false ∧ s.num (coreAddr 0 (64 * twRaddr x.word) + 2) 2 = 0 ∧
    k.arr.epoch = e ∧ (s.passUe (0 : Site) x k.arr).isNone = true
theorem wit_passStarts : startReady 0 ∧ startReady 1 := by
  unfold startReady; decide +kernel

theorem wit_restages :
    (let x := pass .restage []
     let s := passing x 1
     let k := s.core (0 : Site)
     k.active = true ∧ k.tile.nextPass = some x ∧ k.seq.run = some run2 ∧ x.phase = .restage ∧
      ∀ m, m < twM tmmW → s.checkReads (s.runWins run2) (s.num (coreAddr 0 (64 * twRaddr tmmW) + 16) 8 +
        m * s.num (coreAddr 0 (64 * twRaddr tmmW) + 24) 4) ((twK tmmW * fmtBits (twRfmt tmmW) + 7) / 8) = none) := by
  decide +kernel

/-- A chunk sum of 1 for (0, n). -/
def sum1 (n : Nat) : ChunkSum := ⟨0, n, 1, 0, false, false, false, false, false, none, false⟩
/-- A sum with another left, and the last sum of a pass. -/
theorem wit_chunkSums : ∀ l ∈ [[sum1 0, sum1 1], [sum1 0]],
    let x := pass .streaming l
    let s := passing x 0
    let k := s.core (0 : Site)
    k.tile.queue.find? (fun x => x.sums.any fun y => decide (y.m = 0 ∧ y.n = 0)) = some x ∧
      x.sums.find? (fun y => decide (y.m = 0 ∧ y.n = 0)) = some (sum1 0) ∧ (∀ z ∈ k.tile.earlier x, z.isTmm = true) ∧
      s.reached (x.writeAt k.arr 0 0) = true ∧ k.tile.queue = [x] ∧ x.phase = .streaming ∧
      (∀ i, s.item? run2.q run2.k = some i → i.status = 0) ∧ k.seq.run = some run2 ∧ run2.trap = false ∧
      (s.item? run2.q run2.k).isSome = true := by
  intro l h
  have e : ∀ l ∈ [[sum1 0, sum1 1], [sum1 0]], (passing (pass .streaming l) 0).item? run2.q run2.k = some (item 0x11 .none .running) := by
    decide +kernel
  have f : ∀ i, (passing (pass .streaming l) 0).item? run2.q run2.k = some i → i.status = 0 := by
    intro i hi; rw [e l h] at hi; cases hi; rfl
  clear e; refine ⟨?_, ?_, ?_, ?_, ?_, ?_, f, ?_, ?_, ?_⟩ <;> (clear f; revert l; decide +kernel)

/-- A stop among the rows of a TACCRD; of a TMM without its keeper; and of a TMM that streams, with no row begun, one of two, all. -/
theorem wit_stops :
    (let x := { passOf (readW 0 0 0) .streaming [] with row := 1 }
     let k := (queueing [x] id).core (0 : Site)
     k.arr.auditRun = none ∧ k.seq.phase = .running ∧ k.tile.queue.find? Pass.reading = some x) ∧
    (let x := pass .waiting []
     let k := (queueing [x] id).core (0 : Site)
     k.tile.queue = [x] ∧ x.isTmm = true ∧ x.phase = .waiting ∧ k.arr.reuses x.word = none) ∧
    (∀ e ∈ [((1301 : Int), 0), (1298, 1), (0, 2)],
      let x := { passOf (tileWordOf 1 [(112, 1), (94, 1), (90, 1), (80, 3), (79, 1)]) .streaming [] with cycS := e.1 }
      let s := queueing [x] id
      (s.core (0 : Site)).tile.queue = [x] ∧ x.isTmm = true ∧ x.phase = .streaming ∧ x.begun s.aclk = e.2 ∧ x.rows.length = 2) := by
  decide +kernel

/-- The module with the array of site 0 set. -/
def arrayed (a : ArrayState) : State := State.reset.putCore 0 { Core.reset with arr := a }

theorem wit_audits :
    (let k := (arrayed { ArrayState.reset with passes := 0x100000 }).core (0 : Site)
     k.arr.passes = 0x100000 ∧ k.arr.auditDue = false ∧ k.arr.auditRun = none) ∧
    (State.reset.barOpen = true ∧ (State.reset.core (0 : Site)).arr.audits = false) ∧
    (let k := (arrayed { ArrayState.reset with auditDue := true }).core (0 : Site)
     k.arr.auditDue = true ∧ k.seq.phase ≠ .stopping ∧ ∀ x ∈ k.tile.queue, x.sums = []) := by
  decide +kernel

/-- An audit that finds nothing, one that finds the last spare row, and one that a stop waits for. -/
theorem wit_auditEnds :
    (let k := (arrayed { ArrayState.reset with auditRun := some 9 }).core (0 : Site)
     let fresh := fun (rows : BitVec 100) => rows &&& ~~~(k.arr.failed ||| k.arr.newFailed)
     k.arr.auditRun = some 9 ∧ k.seq.run = none ∧ fresh 0 = 0 ∧ fresh (1#100 <<< 99) ≠ 0 ∧
      ∀ i, i < 100 → (fresh (1#100 <<< 99)).getLsbD i = true → k.arr.rowState i ≠ 0) ∧
    (let s := State.reset.putCore 0 ⟨{ ArrayState.reset with auditRun := some 9 }, TileState.reset,
       { SeqState.reset with phase := .running, stop := .save, run := some run2 }⟩
     let k := s.core (0 : Site)
     k.arr.auditRun = some 9 ∧ k.seq.run = some run2 ∧ k.seq.stop = .save ∧ k.seq.phase = .running ∧ k.tile.queue = [] ∧
      s.item? run2.q run2.k = none) := by
  decide +kernel

theorem wit_promotionAndLoss :
    (let s := arrayed { ArrayState.reset with newFailed := 1 }
     let k := s.core (0 : Site)
     k.arr.newFailed ≠ 0 ∧ k.seq.run = none ∧ k.arr.auditRun = none ∧ s.siteState (0 : Site) ≠ 2) ∧
    (State.reset.serving = true ∧ State.reset.siteState (0 : Site) ≠ 2 ∧ (State.reset.core (0 : Site)).seq.run = none ∧
      State.reset.sync.herds = []) ∧
    (∀ lc ∈ [7, 0], let i := { jobItem .running 5 with work := .job ⟨5, 0, [⟨3, lc⟩], 0, []⟩ }
     let s := State.reset.putQueue 0 (queueOf [i])
     s.item? (0 : Queue) 1 = some i ∧ i.live = true ∧ i.status = 0 ∧ (s.queue (0 : Queue)).goes = true ∧ s.coreFree (0 : Queue) (0 : Site) = true ∧
      (s.lcoreOf (0 : Site) = some lc ↔ lc = 0) ∧ s.imageFail (i.fld 16 8) (i.fld 12 4) = none ∧ i.fld 28 2 = 0) := by
  decide +kernel

theorem wit_contextSave :
    (let s := (tiled 0 TileState.reset .stopping).putQueue 0 { queueOf [jobItem .running 5] with st := .preempting }
     (s.core (0 : Site)).seq.run = some run2 ∧ s.lcoreOf (0 : Site) = some 0 ∧ s.item? run2.q run2.k = some (jobItem .running 5) ∧
      (jobItem .running 5).status = 0 ∧ (s.core (0 : Site)).seq.phase = .stopping ∧ (s.core (0 : Site)).seq.slots = [] ∧
      (s.core (0 : Site)).tile.queue = [] ∧ (s.core (0 : Site)).arr.auditRun = none ∧ (s.queue run2.q).st = .preempting ∧ run2.job = true ∧
      run2.extent ≤ 24576 ∧ s.saveRegion run2.ctx 0 + 0x210000 ≤ coreBase) := by
  decide +kernel

/-! ## Items -/

/-- An item that has not started, with its length in units of 16 bytes. -/
def waitingItem (op len : Nat) : Item := { item op .none .notStarted with len := len, startDtc := none }
/-- The module with that item at the head of a queue, and its command in memory. -/
def starting (q op len : Nat) (l : List (Nat × Nat × Nat)) : State :=
  withBytes (State.reset.putQueue q (queueOf [waitingItem op len])) 0x1000 (fields (16 * len) l)

theorem wit_orderingItems : (∀ e ∈ [0x03, 0x04, 0x08], starts (starting 0 e 1 []) 0 1 e (fun i => [i.zero 8 8]) (waitingItem e 1)) ∧
    fresh (waitingItem 3 1) ∧ (starting 0 3 1 []).sync.watches = [] := by
  unfold starts begun fresh; decide +kernel

/-- A SIGNAL of counter 4095. -/
theorem wit_signalItem : starts (starting 0 5 2 [(8, 2, 4095), (16, 8, 1)]) 0 1 0x05 (fun i =>
      [(8, decide (4096 ≤ i.fld 8 2)), i.zero 10 6, (16, decide (i.fld 16 8 = 0)), i.zero 24 8]) (waitingItem 5 2) ∧
    (starting 0 5 2 [(8, 2, 4095), (16, 8, 1)]).mayUse 4095 0 = true := by
  unfold starts begun; decide +kernel

def waitFields (i : Item) : List (Nat × Bool) :=
  [(8, decide (4096 ≤ i.fld 8 2)),
   (10, decide (8 ≤ i.fld 10 1 ∨ i.fld 10 1 % 4 = 3) || ((i.fld 10 1).testBit 2 && decide (i.fld 10 1 % 4 = 2))), i.zero 11 5,
   (24, (i.fld 10 1).testBit 2 == decide (i.fld 24 8 = 0))]

/-- A WAIT of counter 4095 that runs on, and a claim that is met. -/
theorem wit_waitItem :
    (let s := starting 0 6 2 [(8, 2, 4095), (16, 8, 1)]
     starts s 0 1 0x06 waitFields (waitingItem 6 2) ∧ s.mayUse 4095 0 = true ∧ s.sync.waiting = [] ∧
      (Watch.mk 4095 (.item 0 1) 1 0 none (s.counter 4095)).holds (s.counter 4095) = false) ∧
    (let s := (starting 0 6 2 [(8, 2, 4095), (10, 1, 4), (16, 8, 1), (24, 8, 2)]).setCounter 4095 7
     starts s 0 1 0x06 waitFields (waitingItem 6 2) ∧ s.mayUse 4095 0 = true ∧ s.sync.waiting = [] ∧ s.sync.watches = [] ∧
      (Watch.mk 4095 (.item 0 1) 1 0 (some 2) (s.counter 4095)).holds (s.counter 4095) = true) := by
  unfold starts begun; decide +kernel

/-- Two devices in a row, joined by port 0, and this one is device 0. -/
def pairImg : FabricImg := { FabricImg.alone with x := 2, roles := (Vector.replicate 16 0).set 0 1 }
def upLink : LinkSt := { LinkSt.reset with role := 1, phase := .up, routed := true, peerValid := true, peer := 1 }
def paired (s : State) : State :=
  (s.setStart { s.start with img := { s.start.img with fab := pairImg } }).setFab { s.fab with links := s.fab.links.set 0 upLink }
/-- A fabric herd 63 of both devices with a master and arrivals. -/
def fabricHerd (s : State) (master : Nat) (mask : BitVec 1536) (l : List Nat) : State :=
  s.putHerd 63 { Herd.none with kind := 2, master := master, mask := mask, arrived := l }

theorem wit_barrierItem :
    (let s := fabricHerd (starting 0 7 1 [(8, 1, 63)]) 0 3 []
     let x := s.herd 63
     starts s 0 1 0x07 (fun i => [(8, decide (64 ≤ i.fld 8 1)), i.zero 9 7]) (waitingItem 7 1) ∧ x.kind = 2 ∧ x.ctx = 0 ∧
      x.master = s.device ∧ ∃ d ∈ x.members, d ∉ x.arrived ∧ d ≠ s.device) ∧
    (let s := fabricHerd (starting 0 7 1 [(8, 1, 63)]) 0 3 [1]
     let x := s.herd 63
     starts s 0 1 0x07 (fun i => [(8, decide (64 ≤ i.fld 8 1)), i.zero 9 7]) (waitingItem 7 1) ∧ x.kind = 2 ∧
      x.master = s.device ∧ (∀ d ∈ x.members, d ∈ x.arrived ∨ d = s.device) ∧ s.sync.watches = []) ∧
    (let s := fabricHerd (paired (starting 0 7 1 [(8, 1, 63)])) 1 3 []
     let x := s.herd 63
     starts s 0 1 0x07 (fun i => [(8, decide (64 ≤ i.fld 8 1)), i.zero 9 7]) (waitingItem 7 1) ∧ x.kind = 2 ∧ x.master ≠ s.device ∧
      s.route (Fin.ofNat 512 s.device) (Fin.ofNat 512 x.master) (0 : Fin 32) = .port 0 ∧ s.route s.device x.master 0 = .port 0) := by
  unfold starts begun; decide +kernel

/-- A list at 0x4000: LIST_HEADER with one NOP behind it, or without. -/
def listed (pos : QPos) (bs : List Byte) : State :=
  withBytes (State.reset.putQueue 0 { QueueSt.reset with st := .running, pos := pos, cqBase := 0x8000000000010000 }) 0x4000 bs
def hostUp (s : State) : State := s.putPcie 0 { s.pcie 0 with speed := 5, width := 16 }
/-- A list of one NOP: LIST with LSEQ 1, NOP, LINK. -/
def nopList : List Byte := fields 64 [(0, 1, 1), (2, 2, 2), (16, 8, 1), (32, 1, 3), (34, 2, 1), (48, 1, 2), (50, 2, 1)]

theorem wit_listAccepted :
    let s := hostUp (listed (.list 0x4000) nopList)
    let x := s.queue 0
    s.serving = true ∧ s.fault.alwaysOn = false ∧ s.draining = false ∧ x.st = .running ∧ x.pos = .list 0x4000 ∧
      (s.readList 0 0x4000).fails = [] ∧ (s.readList 0 0x4000).link = some 3 ∧
      x.items.length + (s.readList 0 0x4000).cmds.length ≤ 4096 ∧ x.held = [] ∧ x.hostRing = true ∧ s.ringBar 0 = .open ∧
      x.irq.toNat.testBit 31 = false := by
  decide +kernel

/-- A list that is no list, and a LINK word of 0. -/
theorem wit_listRefused :
    (let s := listed (.list 0x4000) []
     s.serving = true ∧ s.fault.alwaysOn = false ∧ s.draining = false ∧ (s.queue 0).st = .running ∧ (s.queue 0).pos = .list 0x4000 ∧
      worst (s.readList 0 0x4000).fails = some (1, 0)) ∧
    (let s := listed (.link 0x4008) []
     (s.queue 0).st = .running ∧ (s.queue 0).pos = .link 0x4008 ∧ s.num 0x4008 8 = 0) := by
  decide +kernel

theorem wit_completion :
    (let i := { item 0x20 (.copy 0 0) .workDone with status := 0 }
     let s := State.reset.putQueue 128 (queueOf [i])
     s.item? 128 1 = some i ∧ i.phase = .workDone ∧ i.status = 0 ∧ i.ke? = none ∧ i.upd? = none ∧ i.op = 0x20 ∧ s.sync.watches = []) ∧
    (let i := item 0x20 .none .ended
     let s := hostUp (State.reset.putQueue 128 { queueOf [i] with cqBase := 0x8000000000010000 })
     let x := s.queue 128
     x.refusals = [] ∧ s.ringBar 128 = .open ∧ x.hostRing = true ∧ x.irq.toNat.testBit 31 = false ∧ x.held = [] ∧
      x.item? (x.rseq + 1) = some i ∧ i.phase = .ended) ∧
    (let i := item 0x20 .none .ended
     let s := State.reset.putQueue 128 { queueOf [i] with cqBase := 0x10000 }
     let x := s.queue 128
     x.refusals = [] ∧ s.ringBar 128 = .open ∧ x.hostRing = false ∧ x.held = [] ∧ x.item? (x.rseq + 1) = some i ∧ i.phase = .ended) ∧
    (let i := item 0x20 (.copy 0 0) .running
     let s := hostUp (State.reset.putQueue 128 { queueOf [i] with cqBase := 0x8000000000010000 })
     s.ringBar 128 = .open ∧ (s.queue 128).item? 1 = some i ∧ i.phase ≠ .ended) ∧
    (let s := hostUp (State.reset.putQueue 128
       { queueOf [] with cqBase := 0x8000000000010000, held := [List.replicate 32 0], ringHeld := true, heldAt := 5 })
     let s := s.setSync { s.sync with dtc := 100005 }
     s.ringBar 128 = .open ∧ (s.queue 128).hostRing = true ∧ (s.queue 128).held = [List.replicate 32 0] ∧ s.started = true ∧
      (s.queue 128).ringHeld = true ∧ 100000 ≤ (s.now - (s.queue 128).heldAt).toNat) ∧
    (State.reset.queue 128).ringHeld = false := by
  decide +kernel

theorem wit_holdAndDeadline :
    (let s := State.reset.putQueue 0 { queueOf [] with irq := 0x80101001, irqFirst := some (-1) }
     let x := s.queue 0
     x.irqFirst = some (-1) ∧ x.irq.toNat.testBit 31 = true ∧ 0 < bitsOf x.irq.toNat 11 0 ∧
      bitsOf x.irq.toNat 11 0 ≤ (s.now - (-1)).toNat ∧ (s.pcie (s.qOwner 0)).masked (bitsOf x.irq.toNat 30 20) = false) ∧
    (let i := { item 0x20 (.copy 0 0) .running with due := some 0 }
     let s := State.reset.putQueue 128 (queueOf [i])
     s.serving = true ∧ (s.queue 128).items = [i] ∧ i.undecided = true ∧ i.late s.now = true ∧ s.sitesOf 128 i.k = []) := by
  decide +kernel

theorem wit_queueCommands :
    (∀ st ∈ [QState.idle, .stopped], let s := State.reset.putQueue 0 { QueueSt.reset with st := st, cqBase := 0x10000 }
     s.commanding = true ∧ s.qOwner 0 = 0 ∧ (s.queue 0).st = st ∧ s.ringOk (s.queue 0) = true) ∧
    State.reset.qOwner 0 ≠ 1 ∧
    (let s := State.reset.putQueue 0 { QueueSt.reset with written := 64, rebase := true }
     s.barOpen = true ∧ s.qOwner 0 = 0 ∧ (s.queue 0).held = [] ∧ (BitVec.ofNat 32 (s.queue 0).written - 0).toNat ≤ 2 ^ (s.queue 0).log2 ∧
      2 ^ (s.queue 0).log2 < (BitVec.ofNat 32 (s.queue 0).written - 65).toNat ∧ (s.queue 0).rebase = true) ∧
    (State.reset.ctxOwner 0 = 0 ∧ State.reset.commitBusy 0 = false) := by
  decide +kernel

theorem wit_commitBusy :
    let s := (State.reset.putQueue 0 (queueOf [item 0x20 (.copy 0 0) .running])).putCtx 0 { CtxWins.reset with gen := 1 }
    s.ctxOwner 0 = 0 ∧ s.commitBusy 0 = true := by
  decide +kernel

theorem wit_preemption :
    (let s := State.reset.putQueue 0 { QueueSt.reset with st := .running }
     s.serving = true ∧ s.qOwner 0 = 0 ∧ (s.queue 0).st = .running ∧ ∀ i ∈ (s.queue 0).items, i.phase ≠ .running ∧ i.phase ≠ .workDone) ∧
    (let s := State.reset.putQueue 0 { queueOf [waitingItem 3 1] with st := .preempted }
     s.serving = true ∧ s.qOwner 0 = 0 ∧ (s.queue 0).st = .preempted ∧ (∀ i ∈ (s.queue 0).items, i.phase = .notStarted ∨ i.phase = .ended) ∧
      s.cores = []) ∧
    ((State.reset.queue 0).st ≠ .running ∧ (State.reset.queue 0).st ≠ .preempted) := by
  decide +kernel

/-- A MATMUL of 1 × 1 × 1 in BF16 with an FP32 result at 0x8000, as it starts and as it runs. -/
def matCmd1 : List (Nat × Nat × Nat) :=
  [(8, 1, 1), (9, 1, 0x11), (12, 4, 1), (16, 4, 1), (24, 8, 0x8000), (32, 4, 64), (80, 4, 1), (88, 8, 0x9000), (96, 4, 64), (100, 4, 64),
   (104, 8, 0xA000)]

theorem wit_matmulStarts :
    let s := starting 0 0x10 8 matCmd1
    let i := waitingItem 0x10 8
    let j := begun s i
    starts s 0 1 0x10 (matFields s) i ∧ fresh i ∧ j.matCmd.u ≤ 1 ∧ badLocal j.matLocals = none ∧
      s.checkReads i.wins j.matCmd.mask j.matCmd.maskBytes = none ∧ s.coreFree 0 0 = true := by
  unfold starts begun fresh; decide +kernel

def matRun (sums : List (List (BitVec 34))) : Run := { run1 with job := false, inst := 0, done := sums.length, sums := sums }
def matItem (fields1 : List (Nat × Nat × Nat)) (w : MatWork) : Item := { item 0x10 (.matmul w) .running with cmd := fields 128 fields1 }
def matState (i : Item) (sums : List (List (BitVec 34))) : State :=
  (State.reset.putQueue 0 (queueOf [i])).putCore 0
    { Core.reset with seq := { SeqState.reset with phase := .running, run := some (matRun sums) } }

/-- What a running region needs in all its steps. -/
def matRuns (i : Item) (sums : List (List (BitVec 34))) : Prop :=
  let s := matState i sums
  s.serving = true ∧ s.item? 0 1 = some i ∧ i.live = true ∧ i.status = 0 ∧ i.trap = false ∧
    (s.core 0).seq.run = some (matRun sums) ∧ (s.core 0).seq.phase = .running ∧ (s.core 0).seq.halted = false ∧
    (s.core 0).arr.audits = false ∧ ∀ u ∈ i.uses, u.kstream = false

/-- The only pass of a region of one element. -/
theorem wit_matmulPass :
    let i := matItem matCmd1 ⟨1, 1, [], [], 0, []⟩
    matRuns i [] ∧ i.regionRows 0 = [0] ∧ i.passes.length = 1 ∧
      ∀ p ∈ i.passes, (p.reads i.matCmd (i.area 0) [0]).findSome? (fun x => (matState i []).checkReads i.wins x.1 x.2) = none := by
  unfold matRuns; decide +kernel

/-- Its write-out, and a region of two whose row no bit of its mask form trains. -/
theorem wit_matmulEnds :
    (let i := matItem matCmd1 ⟨1, 1, [], [], 0, []⟩
     let m := i.matCmd
     let a := i.area 0
     let sums := [[(0x10B800000 : BitVec 34)]]
     matRuns i sums ∧ i.regionRows 0 = [0] ∧ i.passes[1]? = none ∧ sums.length = 1 ∧ fmtScaled m.ofmt = false ∧
      (a.cols * fmtBits m.ofmt + 7) / 8 ≤ m.ostride ∧ i.progress + 1 = 1 ∧
      (writeRows i.wins (([0].zip sums).map fun e => m.rowWrites a e.1 (outRow m a e.1 e.2)).flatten (matState i sums)).2 = none) ∧
    (let i := matItem ((11, 1, 2) :: matCmd1) ⟨2, 2, [], [], 0, [0]⟩
     matRuns i [] ∧ i.regionRows 0 = [] ∧ i.progress + 1 < 2) := by
  unfold matRuns; decide +kernel

theorem wit_jobItem :
    let s := starting 0 0x11 4 [(12, 4, 65536), (16, 8, 0x10000), (24, 4, 65536)]
    let i := waitingItem 0x11 4
    let j := begun s i
    starts s 0 1 0x11 jobFields i ∧ j.fld 16 8 < 2 ^ 42 ∧ j.wins.imageMiss (j.fld 16 8) (j.fld 12 4) = none ∧
      ∀ l ∈ linesOf (j.fld 16 8) (j.fld 12 4), s.checkLine j.wins rightX l = none := by
  unfold starts begun; decide +kernel

/-- A COPY of two rows of 100 bytes that starts, one that runs, and one from the other device. -/
def copyFields1 (src : Nat) : List (Nat × Nat × Nat) :=
  [(12, 4, 2), (16, 8, src), (24, 8, 0x8040), (32, 4, 100), (36, 4, 128), (40, 4, 256)]
def copying (src row off : Nat) : Item := { item 0x20 (.copy row off) .running with cmd := fields 48 (copyFields1 src) }

theorem wit_copyStarts : starts (starting 128 0x20 3 (copyFields1 0x9000)) 128 1 0x20 (copyFields 0) (waitingItem 0x20 3) := by
  unfold starts begun; decide +kernel

theorem wit_copyPiece :
    let i := copying 0x9000 1 64
    let s := State.reset.putQueue 128 (queueOf [i])
    let c := i.copyCmd
    s.serving = true ∧ s.item? 128 1 = some i ∧ i.live = true ∧ 1 < c.dRows ∧ 64 < c.dLen ∧ c.sdev = s.device ∧ c.ddev = s.device ∧
      (match s.pieceBytes i.wins c 1 64 (c.piece 1 64 false) with | .inr bs => decide (bs.length = 36) | .inl _ => false) = true ∧
      s.checkWrite i.wins (c.dstByte 1 64) (c.piece 1 64 false) = none := by
  decide +kernel

/-- Windows that grant reads of other devices too. -/
def fabricWins : WinSet := Vector.replicate 16 ⟨0, 0x3FFFFFFF, 0x1F⟩

theorem wit_copyFromAfar :
    let i := { copying (2 ^ 42 + 0x9000) 0 0 with wins := fabricWins }
    let s := paired (State.reset.putQueue 128 (queueOf [i]))
    let c := i.copyCmd
    s.serving = true ∧ s.item? 128 1 = some i ∧ i.live = true ∧ 0 < c.dRows ∧ 0 < c.dLen ∧ c.sdev ≠ s.device ∧ s.reachable c.sdev = true ∧
      s.freeTag = some 0 ∧ s.route (Fin.ofNat 512 s.device) (Fin.ofNat 512 c.sdev) (0 : Fin 32) = .port 0 ∧
      ∀ l ∈ linesOf (c.srcByte 0 0) (c.piece 0 0 true), i.wins.grants rightR true (max l (c.srcByte 0 0)) = true := by
  decide +kernel

/-- A GATHER of one line of bytes through 32-bit indices. -/
def gatherCmd : List (Nat × Nat × Nat) :=
  [(8, 8, 0x8000), (16, 8, 0x2000), (24, 2, 63), (32, 4, 64), (45, 1, 0x12), (56, 8, 0x6000)]

theorem wit_gatherItem :
    (let s := starting 128 0x21 5 gatherCmd
     let j := begun s (waitingItem 0x21 5)
     starts s 128 1 0x21 (gatherFields s) (waitingItem 0x21 5) ∧
      failFar [j.fld 8 8, (readDesc (j.cmd.drop 16)).base, (readDesc (j.cmd.drop 16)).ibase] = none) ∧
    (let i := { item 0x21 (.gather 0 none) .running with cmd := fields 80 gatherCmd }
     let s := State.reset.putQueue 128 (queueOf [i])
     let d := readDesc (i.cmd.drop 16)
     s.serving = true ∧ s.item? 128 1 = some i ∧ i.live = true ∧ 0 < d.length ∧
      (let a := d.layFor none 0 (s.gatherArray 0x8000) 0
       d.checkLines s (fun _ => a) i.wins none 0 1 = none ∧ (s.writeFor i.wins (0x8000 + 64 * 0) (d.lineBytes s a 0)).2 = none)) := by
  unfold starts begun; decide +kernel

theorem wit_streamItems :
    (let s := withBytes (starting 128 0x22 2 [(10, 2, 16383), (16, 8, 0x2000)]) 0x2000 oneLine
     let j := begun s (waitingItem 0x22 2)
     starts s 128 1 0x22 streamFields (waitingItem 0x22 2) ∧ j.fld 8 1 = 0 ∧ (s.stream 16383).phase = .free ∧
      s.checkReads defaultWins 0x2000 64 = none ∧ (readDesc (s.bytes 0x2000 64)).bad = none ∧
      failFar [(readDesc (s.bytes 0x2000 64)).base, (readDesc (s.bytes 0x2000 64)).ibase] = none) ∧
    (let s := (starting 128 0x22 2 [(8, 1, 1), (10, 2, 16383)]).putStream 16383 streamed
     let j := begun s (waitingItem 0x22 2)
     starts s 128 1 0x22 streamFields (waitingItem 0x22 2) ∧ j.fld 8 1 = 1 ∧ (s.stream 16383).phase ≠ .free ∧
      (s.stream 16383).ctx = 0 ∧ s.streamRead 16383 = false) ∧
    (let s := (starting 128 0x22 2 [(8, 1, 1), (10, 2, 5)]).putStream 5 streamed
     let s := s.putCore 0 { Core.reset with seq := { SeqState.reset with run := some run1, slots := [.srd 0 1 5 (some [])] } }
     starts s 128 1 0x22 streamFields (waitingItem 0x22 2) ∧ (s.stream 5).phase ≠ .free ∧ s.streamRead 5 = true) := by
  unfold starts begun; decide +kernel

/-- A ring of this device alone: fabric herd 63. -/
def ringItem (op seq : Nat) : State :=
  withBytes (fabricHerd (starting 160 op 2 [(8, 1, 63), (16, 8, seq), (24, 8, 0x2000)]) 0 1 []) 0x2000
    (fields 64 [(0, 8, 0x8000), (8, 8, 0xA000), (24, 4, 32), (32, 1, 1), (33, 1, 1), (34, 2, 1), (38, 1, 1)])

/-- A bucket above NEXT_BSEQ waits; one at NEXT_BSEQ starts. -/
theorem wit_collectiveItems : ∀ e ∈ ringOps,
    (let s := ringItem e.2 2
     let i := waitingItem e.2 2
     s.serving = true ∧ (s.queue 160).goes = true ∧ s.item? 160 1 = some i ∧ i.op = e.2 ∧ i.phase = .notStarted ∧ i.status = 0 ∧
      i.late s.now = false ∧ (s.queue 160).inOrder i = true ∧ s.keWaits 160 i = true ∧ i.bucket = none) ∧
    (let s := ringItem e.2 1
     let i := waitingItem e.2 2
     let j := begun s i
     let b := readBucket (s.bytes (j.fld 24 8) 64)
     starts s 160 1 e.2 (keFields s 160) i ∧ (s.keHerd 63).gone = [] ∧ j.fld 8 1 = 63 ∧ j.fld 24 8 < 2 ^ 42 ∧
      s.checkRead i.wins (j.fld 24 8) = none ∧ b.bad e.2 s.device (s.herd 63).master (s.herd 63).members = false ∧ s.keGated b = none ∧
      s.rings 63 = ⟨[1], [(s.device, [0])]⟩ ∧ b.elems = 32 ∧ (∀ n, n < 8 → (s.hub n).chunks = []) ∧
      (∀ n, n < b.n → s.checkReads i.wins (b.src + n * b.cstride) 64 = none) ∧ s.checkWrite i.wins b.dst 64 = none) := by
  unfold starts begun; decide +kernel

/-- An UPDATE of one block, MOMENTUM, at step `t`. -/
def updDesc (t : Nat) : List Byte :=
  fields 128 [(0, 8, 0x3000), (8, 8, 0x8000), (16, 8, 0x9000), (32, 8, 0xA000), (44, 4, 1), (48, 4, t), (64, 1, 1)]
def updState (t : Nat) (ph : Phase) (w : Work) (cmd : List Byte) : State :=
  let i := { waitingItem 0x40 2 with phase := ph, work := w, cmd := cmd, boundarySeen := true }
  withBytes (withBytes (withBytes (State.reset.putQueue 168 (queueOf [i])) 0x1000 (fields 32 [(8, 8, 0x2000)])) 0x2000 (updDesc t))
    0x3000 (fields 64 [(5, 1, 1)])
def updCmd : List Byte := fields 32 [(8, 8, 0x2000)]

theorem wit_updateCheckPass :
    let s := updState 1 .notStarted .none []
    let i := { waitingItem 0x40 2 with boundarySeen := true }
    let a := (begun s i).fld 8 8
    let u := readUpd (s.bytes a 128)
    starts s 168 1 0x40 (fun i => [(8, decide (i.fld 8 8 % 64 ≠ 0)), i.zero 16 16]) i ∧ a < 2 ^ 42 ∧ s.checkReads i.wins a 128 = none ∧
      u.bad s.betas = false ∧ failFar u.addresses = none ∧ u.policy = 0 ∧ u.report = 0 ∧ s.oxGated u = none ∧
      (∀ b ∈ u.blocks, s.checkRead i.wins (u.hdr b) = none) := by
  unfold starts begun; decide +kernel

/-- The item after its check pass: block 0 found with stamp 0, of a class. -/
def updWork (t c : Nat) (skew : Option (Nat × Nat)) (main : Bool) : UpdWork :=
  { desc := updDesc t, betas := State.reset.betas, flagWord := 0, checked := true, main := main, found := [(0, (0, c))], fault := false,
    finished := [], updated := 0, frozen := 0, skewed := 0, passed := 0, skipped := 0, firstSkewed := skew, firstBad := none }

theorem wit_updateMainPass :
    (∀ x ∈ [none, some (0, 0)],
      let w := updWork 1 6 x false
      let s := updState 1 .running (.update w) updCmd
      ((s.upd? 168 1).map (·.2)) = some w ∧ s.serving = true ∧ w.main = false ∧ w.fault = false ∧ w.firstSkewed = x ∧
        (readUpd w.desc).allowSkew = false ∧ ((s.upd? 168 1).map fun y => (y.1.status, y.1.late s.now)) = some (0, false) ∧
        s.sitesOf 168 1 = []) := by
  decide +kernel

/-- A frozen block: only its stamp is to be written. -/
theorem wit_updateBlockFrozen :
    let w := updWork 1 4 none true
    let s := updState 1 .running (.update w) updCmd
    let u := readUpd w.desc
    let h := s.blockHdr (u.hdr 0)
    ((s.upd? 168 1).map (·.2)) = some w ∧ s.serving = true ∧ w.main = true ∧ u.first ≤ 0 ∧ 0 < u.first + u.nblk ∧
      w.finished.elem 0 = false ∧ s.checkRead defaultWins (u.hdr 0) = none ∧ (tget (0, 0) w.found 0).1 = h.stamp ∧
      (tget (0, 0) w.found 0).2 = 4 ∧ s.checkWrite defaultWins (u.hdr 0) 64 = none ∧ u.hdr 0 % 64 = 0 := by
  decide +kernel

/-- A block to be updated, all zeros. -/
theorem wit_updateBlock :
    let w := updWork 1 6 none true
    let s := updState 1 .running (.update w) updCmd
    let u := readUpd w.desc
    let n := 0
    let h := s.blockHdr (u.hdr n)
    let gs := halves (s.bytes (u.grad n) 1024)
    let st := ((u.arrays n).map fun a => s.bytes a.1 a.2).flatten
    let out := u.newBytes (u.newElems (u.consts (vget w.betas (if u.betaFromHdr then h.beta else u.beta) (0, 0)))
      (words32 (st.take 2048)) (halves ((st.drop 2048).take 1024)) (halves (st.drop 3072)) gs)
    let hdr := hdrBytes u.t h.flags h (blockCheck u.rule out.flatten)
    ((s.upd? 168 1).map (·.2)) = some w ∧ s.serving = true ∧ w.main = true ∧ w.finished.elem 0 = false ∧
      s.checkRead defaultWins (u.hdr n) = none ∧ (tget (0, 0) w.found n).1 = h.stamp ∧ (tget (0, 0) w.found n).2 = 6 ∧
      (∀ a ∈ u.arrays n ++ [(u.grad n, 1024)], s.checkReads defaultWins a.1 a.2 = none) ∧ u.verify = false ∧
      gs.any bf16Special = false ∧ (s.writeAll defaultWins (((u.arrays n).map Prod.fst).zip out ++ [(u.hdr n, hdr)])).2 = none ∧
      (u.arrays n ++ [(u.hdr n, 64)]).Pairwise (fun (x y : Nat × Nat) => x.1 + x.2 ≤ y.1 ∨ y.1 + y.2 ≤ x.1) := by
  decide +kernel

theorem wit_stepBoundaries :
    starts (starting 168 0x41 1 []) 168 1 0x41 (fun i => [i.zero 8 8]) (waitingItem 0x41 1) ∧
    (let s := State.reset.setSync { State.reset.sync with run := some ⟨168, 1, 0, 1000, false⟩ }
     s.sync.run = some ⟨168, 1, 0, 1000, false⟩ ∧ s.sync.inIgnored = false) ∧
    (let r : BoundaryRun := ⟨168, 1, 5000, 1000, true⟩
     let s := State.reset.setSync { State.reset.sync with run := some r, pulse := some 5999, dtc := 6000 }
     s.sync.run = some r ∧ s.raiseLate r = false ∧ s.sync.pulse = some 5999 ∧ r.holds 5999 = true ∧
      (5999 : DWord).toNat < s.now.toNat ∧ s.sync.inIgnored = false) ∧
    (let r : BoundaryRun := ⟨168, 1, 5000, 1000, true⟩
     let i := { item 0x41 (.boundary 5000 1000 true) .running with due := some 5999 }
     let s := (State.reset.putQueue 168 (queueOf [i])).setSync { State.reset.sync with run := some r, pulse := some 5998, dtc := 6000 }
     s.raiseDue r ≠ none ∧ s.item? 168 1 = some i ∧ i.undecided = true ∧ i.late s.now = true ∧ i.work = .boundary r.b r.win r.waits ∧
      i.live = true ∧ s.sitesOf 168 1 = []) ∧
    (State.reset.sync.inIgnored = false ∧ State.reset.sync.run = none ∧
      (State.reset.setSync { State.reset.sync with unaligned := 4 }).sync.unaligned = 4) := by
  unfold starts begun; decide +kernel

/-- Every pulse of the past lies in the window, when the boundary waits. -/
theorem wit_boundaryStarts :
    let s := (starting 168 0x41 1 []).setSync { State.reset.sync with pulse := some 7, dtc := 1007 }
    s.now.toNat ≤ (7 : DWord).toNat + s.sync.stepWin.toNat := by decide +kernel

/-! ## The sync unit -/

theorem wit_hostCounterAdd :
    (State.reset.barOpen = true ∧ State.reset.portMayUse 0 4095 = true ∧ State.reset.sync.watches = []) ∧
    (let s := State.reset.setStart { State.reset.start with ctxOwner := 1 }
     let s := s.setSync { s.sync with groups := [(63, 0x40)] }
     s.barOpen = true ∧ s.portMayUse 0 4095 = false) := by
  decide +kernel

theorem wit_hostWatches :
    (let s := State.reset
     let v : Word := 0x80010FFF
     let w : Watch := ⟨4095, .host 1 63, 1, 0, none, s.counter 4095⟩
     let s := s.setSync { s.sync with host := [(127, ⟨0, 1⟩)] }
     s.barOpen = true ∧ bitsOf v.toNat 11 0 = 4095 ∧ v.getLsbD 31 = true ∧ bitsOf v.toNat 29 28 = 0 ∧ s.portMayUse 1 4095 = true ∧
      (s.hostWatch 1 63).thr = 1 ∧ s.sync.watches = [] ∧ s.sync.waiting = [] ∧ w.holds (s.counter 4095) = false) ∧
    (let s := State.reset
     let v : Word := 0x80010FFF
     let w : Watch := ⟨4095, .host 1 63, (s.hostWatch 1 63).thr, 0, none, s.counter 4095⟩
     w.holds (s.counter 4095) = true ∧ (s.pcie 1).masked (bitsOf v.toNat 26 16) = false) ∧
    (let x : Watch := ⟨4095, .core 0, 1, 0, none, 0⟩
     let s := State.reset.setSync { State.reset.sync with waiting := [x] }
     s.sync.waiting = [x] ∧ s.sync.watches.length < 16208 ∧ x.holds (s.counter x.counter) = false ∧ x.cond < 2) := by
  decide +kernel

theorem wit_stepPins :
    (State.reset.sync.inIgnored = false ∧ State.reset.sync.pulse = none ∧ State.reset.sync.outDisabled = false ∧ State.reset.barOpen = true) ∧
    (let s := State.reset.setSync { State.reset.sync with pulse := some 1, outEnd := some 10, dtc := 10 }
     s.sync.pulse ≠ none ∧ s.sync.outEnd = some 10 ∧ (10 : DWord) ≤ s.now) := by
  decide +kernel

/-! ## Hubs and the host's accesses -/

/-- The last line of HBM, of hub 7. -/
def lastHbm : Nat := 2 ^ 40 - 64
def hubSet (h : Nat) (f : HubSt → HubSt) : State := State.reset.putHub h (f (State.reset.hub h))

theorem wit_hubRequests :
    (hubsLine State.reset 7 (64 * (BitVec.ofNat 36 (lastHbm / 64)).toNat) ∧ (State.reset.hub 7).sorted.length < 65536 ∧
      State.reset.isUe lastHbm = false) ∧
    (let s := hubSet 7 fun x => { x with reqs := [⟨5, lastHbm / 64, true, true, false, true⟩] }
     let r : HubReq := ⟨5, lastHbm / 64, true, true, false, true⟩
     (s.hub 7).inSlots.find? (fun x => decide (x.id = 5)) = some r ∧ s.mayPerform (s.hub 7) r = true ∧ r.write = true) ∧
    (let s := hubSet 7 fun x => { x with copying := [255] }
     (s.hub 7).copying = [255]) ∧
    hubsLine State.reset 2 0x20000002000 := by
  unfold hubsLine; decide +kernel

theorem wit_prefetching :
    (let s := State.reset.putStream 16383 { streamed with desc := leadLine }
     let e : SrcLine := ⟨0x2000, none⟩
     (s.stream 16383).phase = .active ∧ (s.hub 2).buf.length + (s.hub 2).fetches.length < 524288 ∧ (s.hub 2).sorted.length < 65536 ∧
      (s.leadLines (s.stream 16383)).find? (fun e => s.fetchable 16383 2 (s.stream 16383) e) = some e) ∧
    (let f : Fetch := ⟨16383, 0x2000, 7, false, none, 4⟩
     let s := (hubSet 2 fun x => { x with fetches := [f], nextReq := 5 }).putStream 16383 { streamed with desc := leadLine }
     (s.hub 2).fetches[0]? = some f ∧ (∀ r ∈ (s.hub 2).reqs, r.id ≠ f.req) ∧ s.isUe f.line = false ∧ f.stale = false ∧
      (s.stream f.stream).phase = .active ∧
      (readDesc (s.stream f.stream).desc).usedFrom s (fun _ => anyCore) (s.stream f.stream).pos f.line = true) := by
  decide +kernel

/-- The last 64 bytes of a BAR2 of 64 GiB and of BAR2s' range; configuration before and after step 6. -/
theorem wit_hostAccesses :
    (let s := hostUp State.reset
     let off : BitVec 42 := 0xFFFFFFFC0
     s.hostReach 0 = true ∧ off.toNat + 64 ≤ s.bar2Bytes 0 ∧
      (∀ l ∈ linesOf (s.bar2Addr 0 off.toNat) 64, s.barLine (max l (s.bar2Addr 0 off.toNat)) = .data) ∧
      (∀ c ∈ cutLines 64 (s.bar2Addr 0 off.toNat) (List.replicate 64 1), s.barLine c.1 = .data)) ∧
    (let s := (hostUp State.reset).setStart { State.reset.start with step := 5 }
     (s.pcie 0).speed ≠ 0 ∧ s.start.step < 6 ∧ s.fwu.recovery = false) ∧
    (((hostUp State.reset).pcie 0).speed ≠ 0 ∧ 6 ≤ (hostUp State.reset).start.step) := by
  decide +kernel

/-! ## Links -/

/-- This device with port 0 UP to device 1, its port set. -/
def linked (f : LinkSt → LinkSt) : State := let s := paired State.reset
                                            s.putLink 0 (f (s.link 0))

/-- A value evaluated before it is used. -/
def forceW {α : Type} (w : Word) (f : Word → α) : α :=
  match w.toNat with
  | 0 => f 0
  | n + 1 => f (BitVec.ofNat 32 (n + 1))

theorem forceW_eq {α : Type} (w : Word) (f : Word → α) : forceW w f = f w := by
  unfold forceW; split <;> (rename_i h; congr 1; apply BitVec.eq_of_toNat_eq; simp [h]; try omega)

/-- The CRC step by step. -/
def crcStep (c : Word) (b : Byte) : Nat → (Word → Word) → Word
  | 0, f => f c
  | n + 1, f => forceW (crcBit c) fun d => crcStep d b n f
def crcRun : List Byte → Word → Word
  | [], c => c
  | b :: bs, c => forceW (c ^^^ b.zeroExtend 32) fun d => crcStep d b 8 (crcRun bs)

theorem crcRun_eq (bs : List Byte) (c : Word) : crcRun bs c = bs.foldl crcByte c := by
  induction bs generalizing c with
  | nil => rfl
  | cons b bs ih => simp [crcRun, crcStep, forceW_eq, ih, crcByte]

theorem crc32c_run (bs : List Byte) : crc32c bs = crcRun bs 0xFFFFFFFF ^^^ 0xFFFFFFFF#32 := by simp [crc32c, crcRun_eq]

/-- The check value of CRC-32C, of the digits 1 to 9. -/
theorem test_crc32c : crc32c [0x31, 0x32, 0x33, 0x34, 0x35, 0x36, 0x37, 0x38, 0x39] = 0xE3069283 := by
  rw [crc32c_run]; decide +kernel

theorem natLe_zero (k : Nat) : natLe k 0 = List.replicate k 0 := by
  induction k with
  | zero => rfl
  | succ k ih => simp [natLe, ih, List.replicate_succ]

theorem natLe_add (j k n : Nat) : natLe (j + k) n = natLe j n ++ natLe k (n / 256 ^ j) := by
  induction j generalizing n with
  | zero => simp [natLe]
  | succ j ih => rw [show j + 1 + k = j + k + 1 by omega]; simp [natLe, ih, Nat.div_div_eq_div_mul, Nat.pow_succ, Nat.mul_comm]

/-- The bytes of a flit without payload. -/
theorem flitBytes_short (f : Flit) (h : f.toNat < 256 ^ 16) : flitBytes f = natLe 16 f.toNat ++ List.replicate 240 0 := by
  rw [flitBytes, show 256 = 16 + 240 from rfl, natLe_add, Nat.div_eq_of_lt h, natLe_zero]

/-- Whether the CRC of such a flit is good. -/
theorem short_crc (f : Flit) (h : f.toNat < 256 ^ 16) : (readHead f).crcOk =
    ((crcRun ((natLe 16 f.toNat).take 12 ++ List.replicate 240 0) 0xFFFFFFFF ^^^ 0xFFFFFFFF#32).toNat == bitsOf f.toNat 127 96) := by
  have e : (natLe 16 f.toNat).length = 16 := rfl
  simp only [readHead, flitBytes_short f h, crc32c_run]
  rw [List.take_append_of_le_length (by omega), List.drop_append, e, List.drop_eq_nil_of_le (by omega)]; simp

/-- Flits without payload, their CRC from the polynomial of 11 R461: data of VC 3 with FSEQ 0, data of VC 0 with FSEQ 0x7FFF, an idle
flit with ASEQ 0xFFFF, and a NAK for FSEQ 0. -/
def flitA : Flit := 0xC3A31948000000000000000000000301
def flitB : Flit := 0x5E871ACF00000000000000007FFF0001
def flitC : Flit := 0x4CBB0A5E000000000000FFFF00000000
def flitD : Flit := 0x4FAB030B000000000000000000000002

theorem flit_crc : (readHead flitA).crcOk = true ∧ (readHead flitB).crcOk = true ∧ (readHead flitC).crcOk = true ∧
    (readHead flitD).crcOk = true := by
  refine ⟨?_, ?_, ?_, ?_⟩ <;> rw [short_crc _ (by decide +kernel)] <;> decide +kernel

theorem flit_good (f : Flit) (h : (readHead f).crcOk = true) (g : (decide ((readHead f).type ≤ 3) && (readHead f).zeros) = true) :
    (readHead f).good = true := by
  simp only [FlitHead.good, h]; simpa using g

theorem wit_flits :
    (paired State.reset).hears 0 = true ∧
    (let h := readHead flitA
     h.good = true ∧ h.type = 1 ∧ BitVec.ofNat 16 h.fseq = ((paired State.reset).link 0).rxSeq) ∧
    (let h := readHead flitB
     let d := (BitVec.ofNat 16 h.fseq - ((paired State.reset).link 0).rxSeq).toNat
     h.good = true ∧ h.type = 1 ∧ 0 < d ∧ d < 0x8000) ∧
    (let h := readHead flitC
     h.good = true ∧ h.type = 0) ∧
    (let h := readHead flitD
     h.good = true ∧ h.type = 2) := by
  refine ⟨by decide +kernel, ⟨flit_good _ flit_crc.1 ?_, ?_⟩, ⟨flit_good _ flit_crc.2.1 ?_, ?_⟩, ⟨flit_good _ flit_crc.2.2.1 ?_, ?_⟩,
    flit_good _ flit_crc.2.2.2 ?_, ?_⟩ <;> decide +kernel

theorem wit_otherFlits :
    (readHead 1).crcOk = false ∧
    (let s := linked fun x => { x with replay := [0] }
     let s := s.setSync { s.sync with dtc := 1000 }
     (s.link 0).phase = .up ∧ (s.link 0).replay ≠ [] ∧ 1000 ≤ (s.now - (s.link 0).lastAseq).toNat) :=
  ⟨by rw [short_crc _ (by decide +kernel)]; decide +kernel, by decide +kernel⟩

theorem wit_portStates :
    (let s := linked fun x => { x with phase := .disabled }
     s.power.phase = .on ∧ s.linkEnabled 0 = true ∧ ((s.link 0).phase = .down ∨ (s.link 0).phase = .disabled)) ∧
    ((paired State.reset).power.phase = .on ∧ ((paired State.reset).link 0).phase = .up) ∧
    (let s := linked fun x => { x with phase := .training, expect := 1 }
     let r : TrainFact := ⟨0x0F, true, 1, 0⟩
     (s.link 0).phase = .training ∧ r.locked = true ∧ r.peer.val = (s.link 0).expect ∧ 4 ≤ ((s.link 0).trained r).healthyCount) ∧
    (let s := linked fun x => { x with phase := .training, failsInRow := 2 }
     (s.link 0).phase = .training ∧ 2 ≤ (s.link 0).failsInRow) ∧
    (let s := linked fun x => { x with phase := .training, failsInRow := 1 }
     (s.link 0).phase = .training ∧ (s.link 0).failsInRow < 2 ∧ 4 ≤ ((s.link 0).trained ⟨0x1E, false, 0, 0⟩).healthyCount) ∧
    (((paired State.reset).link 0).phase = .up ∧ ((paired State.reset).link 0).healthy = 0x1F) ∧
    (let s := linked fun x => { x with healthy := 0x1E }
     (s.link 0).phase = .up ∧ (s.link 0).healthyCount = 4 ∧ (s.link 0).healthy.getLsbD 4 = true) ∧
    (let s := linked fun x => { x with phase := .sparing }
     let s := s.setSync { s.sync with dtc := 200000 }
     (s.link 0).phase = .sparing ∧ 200000 ≤ (s.now - (s.link 0).since).toNat) ∧
    ((paired State.reset).barOpen = true ∧ (paired State.reset).linkGate 0 = true) := by
  decide +kernel

/-- A message of device 1 to this device, and windows for other devices. -/
def head1 (tag : BitVec 16) (arg : DWord) : MsgHead := ⟨0, 1, 0, tag, arg⟩
def peered : State := let s := paired State.reset
                      s.setMem { s.mem with peer := fabricWins }

theorem wit_requestsOfOtherDevices :
    (heard peered 0 (head1 0x6000 0x8000) ∧ peered.route (Fin.ofNat 512 peered.device) (Fin.ofNat 512 1) (0 : Fin 32) = .port 0) ∧
    (bitsOf (head1 0x6000 0x8000).mtag.toNat 15 13 = 3 ∧ (∀ n, n < 5 → peered.room (head1 0x6000 0x8000) n = true) ∧
      peered.peerFail rightR (head1 0x6000 0x8000) (bitsOf (head1 0x6000 0x8000).mtag.toNat 15 13 + 1) 64 = none) ∧
    peered.peerFail rightW (head1 0 0x8000) 4 64 = none ∧
    (paired State.reset).peerFail rightW (head1 0 0x8000) 4 64 = some (0x13, 0x8000) ∧
    (heard (paired State.reset) 0 (head1 0 0x8000) ∧
      (paired State.reset).route (Fin.ofNat 512 (paired State.reset).device) (Fin.ofNat 512 1) (0 : Fin 32) = .port 0) ∧
    (peered.peerFail rightW (head1 0 0x8000) 1 0 = none ∧ (2 ^ 64 - 1 : Line).toNat < 2 ^ 64) := by
  unfold heard; decide +kernel

/-- Hub 2 with `n` requests in its sort queue. -/
def crowded (n : Nat) : State :=
  hubSet 2 fun x => { x with reqs := List.replicate n ⟨0, 0, true, true, false, false⟩ }
/-- A hub whose sort queue is full keeps a request of its line waiting. -/
theorem wit_fullHub (n : Nat) (h : n = 65536) : (crowded n).room (head1 0 0x2000) 1 = false := by
  have e : ((crowded n).hub 2).sorted.length = n := by
    rw [show (crowded n).hub 2 = { State.reset.hub 2 with reqs := List.replicate n ⟨0, 0, true, true, false, false⟩ } from rfl]
    simp [HubSt.sorted]
  have g : (crowded n).hubOf (msgLine (head1 0 0x2000) 0) = 2 := by
    rw [show (crowded n).hubOf = State.reset.hubOf from rfl]; decide +kernel
  have r : List.range 1 = [0] := rfl
  simp only [State.room, r, List.all_cons, List.all_nil, Bool.and_true, g, e]
  simp [h]

/-- A request of a COPY to device 1, a READ of two lines into 0x8010. -/
def outReq1 : OutReq := ⟨5, 128, 1, 1, true, 0, 0x8010, 16, 100, 0⟩
def requested : State :=
  let s := paired (State.reset.putQueue 128 (queueOf [copying (2 ^ 42 + 0x9000) 0 0]))
  s.setFab { s.fab with out := [outReq1] }

theorem wit_responses :
    let s := requested
    let i := copying (2 ^ 42 + 0x9000) 0 0
    let m := head1 5 0x9000
    let r := outReq1
    let bs := ((([0, 0] : List Line).map fun x => natLe 64 x.toNat).flatten.drop r.skip).take r.len
    s.item? r.q r.k = some i ∧ i.undecided = true ∧ i.late s.now = false ∧ i.work = .copy 0 0 ∧ i.op = 0x20 ∧ s.sitesOf r.q r.k = [] ∧
      heard s 0 m ∧ s.outReq m = some r ∧ r.read = true ∧ (s.writeFor i.wins r.dst bs).2 = none ∧
      s.fab.out.find? (fun x => decide (x.tag = m.mtag.toNat)) = some r ∧ s.hears 0 = true ∧
      (let t := s.setSync { s.sync with dtc := 1000000 }
       t.item? r.q r.k = some i ∧ i.late t.now = false ∧ t.sitesOf r.q r.k = [] ∧
        t.fab.out.find? (fun x => decide (x.tag = r.tag)) = some r ∧ 1000000 ≤ (t.now - r.sent).toNat) := by
  unfold heard; decide +kernel

/-! ## Messages of collectives and herds -/

/-- A bucket of two members, device 0 and device 1, that has begun: ALL_GATHER or REDUCE_SCATTER of two lines in two chunks. -/
def bucket2 (l : Table KeLine) : KeWork :=
  { keWaiting 63 1 with begun := true, stages := [⟨2, 0, [0, 1]⟩], elems := 64, src := 0x8000, dst := 0xA000, ncontrib := 1, sfmt := 1, lines := l }
def bucketed (op : Nat) (l : Table KeLine) : State :=
  fabricHerd (paired (State.reset.putQueue 160 (queueOf [item op (.ke (bucket2 l)) .running]))) 0 3 []

theorem wit_chunkMessages :
    (let s := fabricHerd (paired State.reset) 0 3 []
     heard s 0 (head1 63 0x100000000) ∧ s.serving = true ∧ s.bucketOf ⟨head1 63 0x100000000, [0]⟩ = none ∧
      s.chunkEarly ⟨head1 63 0x100000000, [0]⟩ = true ∧ (s.hub 0).heldKib < 8192) ∧
    (let s := fabricHerd (paired State.reset) 0 3 []
     heard s 0 (head1 63 0) ∧ s.bucketOf ⟨head1 63 0, [0]⟩ = none ∧ s.chunkEarly ⟨head1 63 0, [0]⟩ = false) := by
  unfold heard; decide +kernel

/-- A gathered line 0 and a partial of line 1. -/
theorem wit_chunkLines :
    (let w := bucket2 [(0, ⟨0, .gather 0⟩)]
     let s := bucketed 0x31 [(0, ⟨0, .gather 0⟩)]
     let m := head1 (63 + 256 + 2048) 0x100000000
     s.bucketOf ⟨m, [7]⟩ = some (160, 1, 0x31) ∧ (s.ke? 160 1).map (·.2) = some w ∧ m.arg.toNat % 2 ^ 32 = 0 ∧ w.early = [] ∧
      w.badLine 0x31 (bitsOf m.mtag.toNat 12 11 + 0x30) ⟨m.mtag.toNat.testBit 8, bitsOf m.mtag.toNat 7 6, 0, 7⟩ = false ∧
      (w.dst + 64 * 0) % 64 = 0 ∧ s.checkWrite defaultWins (w.dst + 64 * 0) 64 = none ∧ w.stages.length = 1 ∧
      m.mtag.toNat.testBit 8 = true ∧ tget keDone w.lines 0 = ⟨0, .gather 0⟩ ∧ (w.takeGather 0 0 7).2 = [.result 7]) ∧
    (let w := bucket2 [(1, ⟨9, .reduce 0⟩)]
     let s := bucketed 0x30 [(1, ⟨9, .reduce 0⟩)]
     let m := head1 63 0x100000001
     s.bucketOf ⟨m, [7]⟩ = some (160, 1, 0x30) ∧ (s.ke? 160 1).map (·.2) = some w ∧ w.early = [] ∧
      w.badLine 0x30 (bitsOf m.mtag.toNat 12 11 + 0x30) ⟨m.mtag.toNat.testBit 8, bitsOf m.mtag.toNat 7 6, 1, 7⟩ = false ∧
      s.checkWrite defaultWins (w.dst + 64 * 1) 64 = none ∧ m.mtag.toNat.testBit 8 = false ∧ tget keDone w.lines 1 = ⟨9, .reduce 0⟩ ∧
      ((w.stage 0).pos + (w.stage 0).len - w.startPos 0 (w.chunkOf 1)) % (w.stage 0).len + 1 = (w.stage 0).len) := by
  decide +kernel

theorem wit_herdMessages :
    (let s := fabricHerd (paired State.reset) 0 7 []
     let m := head1 63 0
     let h := s.herd (msgHerd m)
     heard s 0 m ∧ h.kind = 2 ∧ h.mask.getLsbD m.src = true ∧ h.master = s.device ∧ m.arg = h.gen ∧ m.src.val ∉ h.arrived ∧
      ∃ d ∈ h.members, d ∉ h.arrived ∧ d ≠ m.src.val) ∧
    (let s := fabricHerd (paired State.reset) 1 3 []
     let h := s.herd (msgHerd (head1 63 0))
     h.master ≠ s.device ∧ h.kind = 2 ∧ h.mask.getLsbD (head1 63 0).src = true ∧ h.master = (head1 63 0).src.val ∧ s.sync.watches = []) ∧
    (((paired State.reset).herd (msgHerd (head1 63 0))).kind ≠ 2) ∧
    ((paired State.reset).fab.seen.elem ((head1 511 0).src.val, 0) = false ∧
      (paired State.reset).fab.lost.getLsbD ((head1 511 0).mtag.toNat % 512) = false) := by
  unfold heard; decide +kernel

/-- A BARRIER item that a RELEASE completes. -/
theorem wit_released :
    let i := item 7 (.barrier 63 0) .running
    let s := fabricHerd (paired (State.reset.putQueue 0 (queueOf [i]))) 1 3 []
    (0, 1) ∈ s.barriersOf 63 ∧ s.item? 0 1 = some i ∧ i.live = true ∧ i.op = 7 ∧ i.work = .barrier 63 0 ∧ i.status = 0 ∧
      i.late s.now = false ∧ i.fl.counts = false := by
  decide +kernel

/-! ## Resets, power and clocks -/

theorem wit_warmResets :
    (State.reset.commanding = true ∧ State.reset.draining = false ∧ State.reset.hot = false ∧ State.reset.sync.watches = [] ∧
      State.reset.fault.alwaysOn = false) ∧
    (let i := { item 0x20 (.copy 0 0) .running with due := some 0 }
     let s := State.reset.putQueue 175 (queueOf [i])
     s.commanding = true ∧ s.item? 175 1 = some i ∧ (175, 1) ∈ s.openItems ∧ i.undecided = true) ∧
    (let u := State.reset.setFault { State.reset.fault with pending := some (4, 1), hold := false }
     u.fault.pending = some (4, 1) ∧ State.reset.queues = []) := by
  decide +kernel

/-- A queue whose ring lies with a host. -/
theorem wit_hostRings : ∀ e ∈ (hostUp (listed .none [])).queues, e.2.hostRing = true := by
  decide +kernel

/-- The module in a power phase. -/
def powered (ph : PowerPhase) : State := State.reset.setPower { State.reset.power with phase := ph }
/-- Facts of a start-up that finds no failed part. -/
def goodStart : StartFacts := ⟨0, 0, 0, [], [], [], 500⟩

theorem wit_powerOn :
    ((powered .off).power.phase = .off ∧ 3600 ≤ (3600 : BitVec 16).toNat) ∧ (powered .booting).power.phase = .booting ∧
    (let s := State.reset.setPower { State.reset.power with phase := .standby, pwrEn := false }
     s.power.pwrEn = false ∧ s.power.phase = .standby ∧ s.power.overVolt = false ∧ 4400 ≤ (4400 : BitVec 16).toNat) ∧
    (∀ b : Bool, let s := (powered .ready).setStart { State.reset.start with step := 2, cfgSrc := b }
     s.tapHolds = false ∧ s.power.phase = .ready ∧ s.start.step = 2 ∧ s.fwu.recovery = false ∧ goodStart.fwBad = 0 ∧
      goodStart.hbmFailed = 0 ∧ s.start.cfgSrc = b) ∧
    (let s := State.reset.setStart { State.reset.start with step := 9 }
     s.tapHolds = false ∧ s.power.phase = .on ∧ s.start.step = 9) := by
  decide +kernel

theorem wit_powerOff :
    (State.reset.power.phase = .on ∧ State.reset.power.pwrEn = true ∧ (4299 : BitVec 16).toNat < 4300 ∧ 6100 < (6101 : BitVec 16).toNat) ∧
    (let s := (powered .tripped).setPower { (powered .tripped).power with openings := [5] }
     let s := s.setSync { s.sync with dtc := 10000005 }
     s.power.phase = .tripped ∧ s.power.openings.getLast? = some 5 ∧ 10000000 ≤ (s.now - 5).toNat ∧ s.power.phase ≠ .off) := by
  decide +kernel

theorem wit_referenceClock :
    (let s := State.reset
     s.power.phase = .on ∧ s.power.refOk = true ∧ 4 ≤ s.start.step ∧ s.commanding = true ∧ s.sync.watches = []) ∧
    (let s := (State.reset.setPower { State.reset.power with refOk := false }).setFault { FaultSt.reset with hold := true, pending := some (4, 0) }
     s.power.phase = .on ∧ s.power.refOk = false ∧ s.fault.hold = true ∧ s.fault.pending.isSome = true) := by
  decide +kernel

theorem wit_gates :
    (let s := State.reset.setPower { State.reset.power with gate0 := 0x7FFFFFFF }
     State.reset.barOpen = true ∧ s.power.gate0.getLsbD 31 = false ∧ s.power.stat0.getLsbD 31 = true ∧ s.blockIdle 31 = true) ∧
    State.reset.lpGated 7 = false ∧
    (let v : Word := 0x00019005
     (State.reset.setPower { State.reset.power with stat1 := 0xFFF }).power.stat1.getLsbD 11 = true ∧ bitsOf v.toNat 15 12 ≤ 9 ∧ bitsOf v.toNat 20 16 < obsCount (bitsOf v.toNat 15 12)) := by
  decide +kernel

/-- Measures with every temperature the same, in quarter degrees. -/
def measured (watts temp : Nat) : Measures := ⟨5400, 0, BitVec.ofNat 16 watts, Vector.replicate 40 (BitVec.ofNat 12 temp)⟩
def limited (steps : Nat) : State :=
  let s := State.reset.setPower { State.reset.power with steps := steps }
  s.setSync { s.sync with dtc := 10000 }

theorem wit_limiter :
    ((limited 0).power.phase = .on ∧ 10000 ≤ ((limited 0).now - (limited 0).power.limitAt).toNat ∧ (limited 0).power.sensors = 0 ∧
      (limited 0).fault.wanted = none ∧ (limited 0).power.tripped = false ∧ (limited 0).power.steps < (limited 0).stepLimit) ∧
    ((∃ i : Fin 40, 380 ≤ (measured 100 380).temps[i].toInt) ∧ (∀ i : Fin 40, (measured 100 380).temps[i].toInt < 420)) ∧
    (profWatts State.reset.profile < (measured 65535 0).watts.toNat) ∧
    ((limited 1).power.phase = .on ∧ 10000 ≤ ((limited 1).now - (limited 1).power.limitAt).toNat ∧ (limited 1).power.sensors = 0 ∧
      (limited 1).fault.wanted = none ∧ (∀ i : Fin 40, (measured 100 359).temps[i].toInt < 360) ∧
      100 * (measured 100 359).watts.toNat < 95 * profWatts (limited 1).profile ∧ 0 < (limited 1).power.steps) ∧
    (∃ i : Fin 40, i.val < 32 ∧ 440 ≤ (measured 0 440).temps[i].toInt) ∧
    (∃ i : Fin 40, 32 ≤ i.val ∧ 420 ≤ (measured 0 420).temps[i].toInt) := by
  refine ⟨by decide +kernel, ⟨⟨0, by decide +kernel⟩, by decide +kernel⟩, by decide +kernel, by decide +kernel, ⟨0, by decide +kernel⟩,
    ⟨39, by decide +kernel⟩⟩

theorem wit_sensorsAndPorts :
    (State.reset.power.phase = .on ∧ State.reset.sensorBad 31 1 = false) ∧
    (State.reset.power.phase ≠ .off ∧ State.reset.power.phase ≠ .booting ∧ State.reset.start.cfgSrc ≠ true) ∧
    (((hostUp State.reset).pcie 0).speed ≠ 0 ∧ (vget (hostUp State.reset).fault.irq 1 0).getLsbD 31 = false) ∧
    ((State.reset.pcie 1).speed = 0 ∧ State.reset.endpointReady = true ∧ State.reset.power.gate1.getLsbD 9 = true) := by
  decide +kernel

/-! ## Security -/

theorem natLe_length (k n : Nat) : (natLe k n).length = k := by
  induction k generalizing n with
  | zero => rfl
  | succ k ih => simp [natLe, ih]

theorem squeeze_length (k : Nat) (a : Lanes) : (squeeze k a).length = 136 * k := by
  induction k generalizing a with
  | zero => rfl
  | succ k ih =>
    have e : ((List.range 17).map fun i => natLe 8 (laneAt a i).toNat).flatten.length = 136 := by
      rw [List.length_flatten, List.map_map, List.map_congr_left (g := fun _ => 8) (by intro i _; exact natLe_length _ _)]; rfl
    rw [squeeze, List.length_append, e, ih]; omega

theorem sponge_length (d : Byte) (bs : List Byte) (n : Nat) : (sponge d bs n).length = n := by
  simp [sponge, squeeze_length]; omega

theorem chunks_flatten (bs : List Byte) (n : Nat) :
    ((List.range n).map fun i => (bs.drop (4 * i)).take 4).flatten = bs.take (4 * n) := by
  induction n with
  | zero => simp
  | succ n ih => simp [List.range_succ, ih, Nat.mul_succ, List.take_add]

theorem natLe_leNat (bs : List Byte) : natLe bs.length (leNat bs) = bs := by
  induction bs with
  | nil => rfl
  | cons b bs ih =>
    have e : (b.toNat + 256 * leNat bs) / 256 = leNat bs := by omega
    simp only [List.length_cons, natLe, leNat, e, ih, List.cons.injEq, and_true]
    apply BitVec.eq_of_toNat_eq; simp; omega

theorem leNat_lt (bs : List Byte) : leNat bs < 256 ^ bs.length := by
  induction bs with
  | nil => simp [leNat]
  | cons b bs ih => simp only [leNat, List.length_cons, Nat.pow_succ]; omega

/-- A mailbox of port 0 with a key, whose command bytes are given. -/
def boxOf (bs : List Byte) : Mailbox :=
  { Mailbox.reset with
      busy := true
      key := some 5
      cmd := Vector.ofFn fun i : Fin 16 => BitVec.ofNat 32 (leNat ((bs.drop (4 * i.val)).take 4)) }

theorem boxOf_bytes (bs : List Byte) (h : bs.length = 64) : (boxOf bs).bytes = bs := by
  have e : ∀ i, i < 16 → natLe 4 (BitVec.ofNat 32 (leNat ((bs.drop (4 * i)).take 4))).toNat = (bs.drop (4 * i)).take 4 := by
    intro i hi
    have l : ((bs.drop (4 * i)).take 4).length = 4 := by simp [h]; omega
    have b := leNat_lt ((bs.drop (4 * i)).take 4)
    rw [l] at b
    rw [BitVec.toNat_ofNat, Nat.mod_eq_of_lt (by omega)]
    have := natLe_leNat ((bs.drop (4 * i)).take 4)
    rwa [l] at this
  have c := chunks_flatten bs 16
  rw [List.take_of_length_le (by omega)] at c
  refine Eq.trans ?_ c
  simp only [Mailbox.bytes, boxOf]
  congr 1
  apply List.ext_getElem
  · simp
  · intro i h1 h2
    simp at h1 ⊢
    exact e i h1

/-- The tag of a command's first 48 bytes under the key 5, and the whole command. -/
def goodTag (body : List Byte) : List Byte :=
  kmac256 (natLe 32 5) (natLe 8 State.reset.start.serial.toNat ++ body) 16 "IFESIA RSD1440 CMD"
/-- A command of port 0 with COUNTER 1 and operand bytes. -/
def secBody (op : Nat) (opr : List Byte) : List Byte := fields 16 [(0, 1, op), (8, 8, 1)] ++ (opr ++ List.replicate 32 0).take 32
def secBytes (op : Nat) (opr : List Byte) : List Byte := secBody op opr ++ goodTag (secBody op opr)
/-- A state with that command sent. -/
def sent (s : State) (bs : List Byte) : State := s.setSec { s.sec with box := vset s.sec.box 0 (boxOf bs), order := [0] }

theorem box_sent (s : State) (bs : List Byte) : (sent s bs).box 0 = boxOf bs := by
  simp [sent, State.box, State.setSec, vget, vset]

theorem secBytes_length (op : Nat) (opr : List Byte) : (secBody op opr).length = 48 ∧ (secBytes op opr).length = 64 := by
  have h : (secBody op opr).length = 48 := by simp [secBody, fields]
  exact ⟨h, by simp [secBytes, h, goodTag, kmac256, sponge_length]⟩

theorem secBytes_bytes (op : Nat) (opr : List Byte) : (boxOf (secBytes op opr)).bytes = secBody op opr ++ goodTag (secBody op opr) :=
  boxOf_bytes _ (secBytes_length op opr).2

/-- Operand fields of the command, its tag whatever it is. -/
theorem secBytes_field (op : Nat) (opr : List Byte) (o n : Nat) (h : o + n ≤ 48) :
    (boxOf (secBytes op opr)).field o n = fieldOf (secBody op opr) o n := by
  have l := (secBytes_length op opr).1
  simp only [Mailbox.field, secBytes_bytes, fieldOf]
  rw [List.drop_append_of_le_length (by omega), List.take_append_of_le_length (by simp; omega)]

theorem secBytes_zero (op : Nat) (opr : List Byte) (lo hi : Nat) (h : lo ≤ hi) (g : hi ≤ 48) :
    zeroIn (boxOf (secBytes op opr)).bytes lo hi = zeroIn (secBody op opr) lo hi := by
  have l := (secBytes_length op opr).1
  simp only [secBytes_bytes, zeroIn]
  rw [List.drop_append_of_le_length (by omega), List.take_append_of_le_length (by simp; omega)]

/-- A command whose first 48 bytes are in form passes every check, when the serial is the module's and no backoff runs. -/
theorem goes (s : State) (op : Nat) (opr : List Byte) (hs : s.start.serial = State.reset.start.serial) (hr : s.secReady = true)
    (hf : (decide (op < 10) && secOpcodes.elem op && fieldOf (secBody op opr) 0 1 == op && fieldOf (secBody op opr) 1 1 == 0 &&
      fieldOf (secBody op opr) 8 8 == 1 && zeroIn (secBody op opr) 2 4) = true) : secGoes (sent s (secBytes op opr)) 0 op := by
  simp only [Bool.and_eq_true, decide_eq_true_eq, beq_iff_eq] at hf
  obtain ⟨⟨⟨⟨⟨hop, he⟩, f0⟩, f1⟩, f8⟩, z2⟩ := hf
  have len := secBytes_length op opr
  have o : (boxOf (secBytes op opr)).op = op := by
    unfold Mailbox.op; rw [← Mailbox.field, secBytes_field op opr 0 1 (by omega)]; exact f0
  have m1 : (boxOf (secBytes op opr)).field 1 1 = 0 := (secBytes_field op opr 1 1 (by omega)).trans f1
  have m8 : (boxOf (secBytes op opr)).counter = 1 := by
    unfold Mailbox.counter; rw [secBytes_field op opr 8 8 (by omega)]; exact f8
  have mz := (secBytes_zero op opr 2 4 (by omega) (by omega)).trans z2
  have tag : (sent s (secBytes op opr)).secTag 0 = (boxOf (secBytes op opr)).bytes.drop 48 := by
    have ser : (sent s (secBytes op opr)).start.serial = State.reset.start.serial := hs
    rw [State.secTag, box_sent, secBytes_bytes, List.take_append_of_le_length (by omega), List.drop_append_of_le_length (by omega),
      List.take_of_length_le (by omega), List.drop_eq_nil_of_le (by omega), ser]
    rfl
  refine ⟨hr, by rw [show ((0 : Port) : Nat) = 0 from rfl, box_sent]; rfl, rfl, by rw [show ((0 : Port) : Nat) = 0 from rfl, box_sent, o], ?_⟩
  have nb : (sent s (secBytes op opr)).inBackoff 0 = false := by rw [State.inBackoff, box_sent]; rfl
  have fm : (boxOf (secBytes op opr)).formed = true := by
    simp only [Mailbox.formed, o, mz, secTagged, decide_eq_true (show op < 0x10 by omega)]
    simpa using he
  have k : (boxOf (secBytes op opr)).key.isNone = false := rfl
  have c : (boxOf (secBytes op opr)).ctr = 0 := rfl
  rw [show ((0 : Port) : Nat) = 0 from rfl]
  simp only [State.secCheck, nb, tag, box_sent, fm, m1, m8, o, k, c, secTagged, Mailbox.exhausted]
  simp

theorem sent_field (s : State) (op : Nat) (opr : List Byte) (o n v : Nat) (h : o + n ≤ 48) (g : fieldOf (secBody op opr) o n = v) :
    ((sent s (secBytes op opr)).box 0).field o n = v := by
  rw [box_sent, secBytes_field op opr o n h, g]
theorem sent_zero (s : State) (op : Nat) (opr : List Byte) (lo : Nat) (h : lo ≤ 48) (g : zeroIn (secBody op opr) lo 48 = true) :
    ((sent s (secBytes op opr)).box 0).zeroFrom lo = true := by
  rw [box_sent, Mailbox.zeroFrom, secBytes_zero op opr lo 48 h (Nat.le_refl _), g]

theorem wit_authenticatedSettings :
    (let s := sent State.reset (secBytes 3 [3])
     secGoes s 0 3 ∧ (s.box 0).zeroFrom 17 = true ∧ (s.box 0).field 16 1 = 3) ∧
    (let s := sent State.reset (secBytes 4 [])
     secGoes s 0 4 ∧ (s.box 0).zeroFrom 16 = true ∧ ∀ n, (s.hostWatch (1 - 0) n).ctl.getLsbD 31 = false) ∧
    (∀ v ∈ [0, 1], let s := sent State.reset (secBytes 5 [BitVec.ofNat 8 v])
     secGoes s 0 5 ∧ (s.box 0).zeroFrom 17 = true ∧ (s.box 0).field 16 1 = v ∧ s.start.img.allowDebug = false) ∧
    (let s := sent (State.reset.setStart { State.reset.start with img := { Image.builtIn with allowDebug := true } }) (secBytes 5 [])
     secGoes s 0 5 ∧ (s.box 0).zeroFrom 17 = true ∧ (s.box 0).field 16 1 = 0 ∧ s.start.img.allowDebug = true ∧ s.sec.debugOff = false) := by
  refine ⟨⟨goes _ _ _ rfl rfl (by decide +kernel), sent_zero _ _ _ _ (by decide) (by decide +kernel),
      sent_field _ _ _ _ _ _ (by decide) (by decide +kernel)⟩,
    ⟨goes _ _ _ rfl rfl (by decide +kernel), sent_zero _ _ _ _ (by decide) (by decide +kernel), fun n => ?_⟩,
    fun v h => ⟨goes _ _ _ rfl rfl ?_, sent_zero _ _ _ _ (by decide) ?_, sent_field _ _ _ _ _ _ (by decide) ?_, rfl⟩,
    goes _ _ _ rfl rfl (by decide +kernel), sent_zero _ _ _ _ (by decide) (by decide +kernel),
    sent_field _ _ _ _ _ _ (by decide) (by decide +kernel), rfl, rfl⟩
  · have h : (sent State.reset (secBytes 4 [])).sync.host = [] := rfl
    simp [State.hostWatch, h, tget]
  all_goals revert v; decide +kernel

/-- The digest of no bytes, as the standard's publication gives it (FIPS 202 examples). -/
def emptyDigest : List Byte :=
  [0x46, 0xB9, 0xDD, 0x2B, 0x0B, 0xA8, 0x8D, 0x13, 0x23, 0x3B, 0x3F, 0xEB, 0x74, 0x3E, 0xEB, 0x24,
   0x3F, 0xCD, 0x52, 0xEA, 0x62, 0xB8, 0x1B, 0x82, 0xB5, 0x0C, 0x27, 0x64, 0x6E, 0xD5, 0x76, 0x2F]
theorem shake256_empty : shake256 [] 32 = emptyDigest := by decide +kernel

/-- An image with no section: every default. -/
def emptyImage : List Byte := fields 32 [(0, 4, 0x57525542), (4, 2, 1), (8, 4, 64)] ++ emptyDigest

theorem emptyImage_read (e : ImageEnv) (src : BitVec 2) (live : Bool) (h : e.sigFloor = false) (g : e.verFloor = 0) :
    ∃ i, readImage e src live emptyImage = .inl i := by
  have hd : imageHead e emptyImage = true := by
    have d : (emptyImage.take (fieldOf emptyImage 8 4)).drop 64 = [] := by decide +kernel
    have f : emptyImage.length = 64 ∧ fieldOf emptyImage 0 4 = 0x57525542 ∧ fieldOf emptyImage 4 2 = 1 ∧ fieldOf emptyImage 6 2 = 0 ∧
        fieldOf emptyImage 8 4 = 64 ∧ fieldOf emptyImage 12 4 = 0 ∧ fieldOf emptyImage 16 8 = 0 ∧
        (emptyImage.drop 32).take 32 = emptyDigest := by decide +kernel
    obtain ⟨f1, f2, f3, f4, f5, f6, f7, f8⟩ := f
    rw [f5] at d
    simp [imageHead, d, shake256_empty, h, g, f1, f2, f3, f4, f5, f6, f7, f8]
  have r : readSections (fieldOf emptyImage 6 2) 0 ((emptyImage.take (fieldOf emptyImage 8 4)).drop 64) = some [] := by decide +kernel
  have f : fieldOf emptyImage 12 4 = 0 := by decide +kernel
  simp only [readImage, hd, r, f]
  simp [takeSections, ringsFit, Image.builtIn]

/-- Operands of LOAD_CONFIG: the image at 0x2000, 64 bytes, with its options. -/
def loadOps (o : Nat) : List Byte := fields 16 [(0, 8, 0x2000), (8, 4, 64), (12, 1, o)]
theorem sent_reads (s : State) (bs : List Byte) : (sent s bs).quiet = s.quiet ∧ (sent s bs).tapHolds = s.tapHolds ∧
    (sent s bs).waitsImage = s.waitsImage ∧ (∀ a n, (sent s bs).loadRead a n = s.loadRead a n) ∧ (∀ a n, (sent s bs).bytes a n = s.bytes a n) ∧
    (sent s bs).imageEnv = s.imageEnv := ⟨rfl, rfl, rfl, fun _ _ => rfl, fun _ _ => rfl, rfl⟩

def imageIn : State := withBytes State.reset 0x2000 emptyImage
def loading (o : Nat) : State := sent imageIn (secBytes 1 (loadOps o))

theorem imageIn_reads : imageIn.quiet = true ∧ imageIn.tapHolds = false ∧ imageIn.waitsImage = false ∧ imageIn.loadRead 0x2000 64 = none ∧
    imageIn.bytes 0x2000 64 = emptyImage ∧ imageIn.imageEnv.sigFloor = false ∧ imageIn.imageEnv.verFloor = 0 ∧
    imageIn.start.serial = State.reset.start.serial ∧ imageIn.secReady = true := by
  decide +kernel

theorem wit_loadConfig (o : Nat) (ho : o ∈ [0, 1]) : let s := loading o
    let m := s.box 0
    secGoes s 0 1 ∧ s.tapHolds = false ∧ m.loadForm = true ∧ m.field 28 1 = o ∧ s.quiet = true ∧ s.waitsImage = false ∧
      s.loadRead (m.field 16 8) (m.field 24 4) = none ∧
      ∃ i, readImage s.imageEnv 2 (decide (o = 1)) (s.bytes (m.field 16 8) (m.field 24 4)) = .inl i := by
  have form : (decide (1 < 10) && secOpcodes.elem 1 && fieldOf (secBody 1 (loadOps o)) 0 1 == 1 && fieldOf (secBody 1 (loadOps o)) 1 1 == 0 &&
      fieldOf (secBody 1 (loadOps o)) 8 8 == 1 && zeroIn (secBody 1 (loadOps o)) 2 4) = true := by revert o; decide +kernel
  obtain ⟨r1, r2, r3, r4, r5, r6, r7, r8, r9⟩ := imageIn_reads
  have f : (fieldOf (secBody 1 (loadOps o)) 16 8 = 0x2000 ∧ fieldOf (secBody 1 (loadOps o)) 24 4 = 64 ∧
      fieldOf (secBody 1 (loadOps o)) 28 1 = o ∧ zeroIn (secBody 1 (loadOps o)) 29 48 = true) ∧ o < 3 := by
    clear form; revert o; decide +kernel
  have a := sent_field imageIn 1 (loadOps o) 16 8 _ (by decide) f.1.1
  have n := sent_field imageIn 1 (loadOps o) 24 4 _ (by decide) f.1.2.1
  have b := sent_field imageIn 1 (loadOps o) 28 1 _ (by decide) f.1.2.2.1
  have z := sent_zero imageIn 1 (loadOps o) 29 (by decide) f.1.2.2.2
  have q := sent_reads imageIn (secBytes 1 (loadOps o))
  have g : secGoes (loading o) 0 1 := goes _ _ _ r8 r9 form
  refine ⟨g, ?_⟩
  unfold loading
  simp only [q.1, q.2.1, q.2.2.1, q.2.2.2.1, q.2.2.2.2.1, q.2.2.2.2.2, a, n, b, r1, r2, r3, r4, r5, Mailbox.loadForm, z]
  have d : (decide (0x2000 % 64 = 0) && decide (64 ≤ 64) && decide (64 ≤ 1048576) && true && true &&
    (decide (0x2000 + 64 ≤ hbmTop) || (decide (lpBase ≤ 0x2000) && decide (0x2000 + 64 ≤ localTop)))) = true := by decide +kernel
  exact ⟨trivial, by rw [decide_eq_true f.2]; exact d, trivial, trivial, trivial, trivial, emptyImage_read _ _ _ r6 r7⟩

/-- A unit whose other slot holds a staged image with the factory's manifest. -/
def withStaged (s : State) : State := s.putUnit 0 { s.unit 0 with other := 2, oth := ⟨factoryManifest 0, []⟩ }

theorem wit_activateAndReset :
    (let s := sent (withStaged State.reset) (secBytes 2 (fields 16 [(0, 8, 1), (8, 1, 0x80)]))
     let m := s.box 0
     secGoes s 0 2 ∧ m.zeroFrom 25 = true ∧ m.field 24 1 = 0x80 ∧ m.field 16 8 = 1 ∧ s.activateCheck 1 0 true = none) ∧
    (let s := sent (withStaged ((fabricHerd State.reset 1 3 []).putHerd 63 { (fabricHerd State.reset 1 3 []).herd 63 with step := true }))
       (secBytes 2 (fields 16 [(8, 1, 63)]))
     let m := s.box 0
     secGoes s 0 2 ∧ m.zeroFrom 25 = true ∧ m.field 24 1 = 63 ∧ m.field 16 8 = 0 ∧ s.activateCheck 0 63 false = none ∧
      (s.herd 63).master ≠ s.device) ∧
    (let s := sent State.reset (secBytes 8 [])
     secGoes s 0 8 ∧ (s.box 0).zeroFrom 16 = true ∧ s.commanding = true ∧ s.draining = false ∧ s.hot = false) ∧
    (let s := sent State.reset (secBytes 9 [0xA5])
     secGoes s 0 9 ∧ (s.box 0).field 16 1 = 0xA5 ∧ (s.box 0).zeroFrom 17 = true ∧ s.quiet = true ∧ s.draining = false ∧
      s.hot = false ∧ s.commanding = true) := by
  refine ⟨⟨goes _ _ _ rfl rfl (by decide +kernel), sent_zero _ _ _ _ (by decide) (by decide +kernel),
      sent_field _ _ _ _ _ _ (by decide) (by decide +kernel), sent_field _ _ _ _ _ _ (by decide) (by decide +kernel), by decide +kernel⟩,
    ⟨goes _ _ _ rfl rfl (by decide +kernel), sent_zero _ _ _ _ (by decide) (by decide +kernel),
      sent_field _ _ _ _ _ _ (by decide) (by decide +kernel), sent_field _ _ _ _ _ _ (by decide) (by decide +kernel), by decide +kernel,
      by decide +kernel⟩,
    ⟨goes _ _ _ rfl rfl (by decide +kernel), sent_zero _ _ _ _ (by decide) (by decide +kernel), by decide +kernel⟩,
    goes _ _ _ rfl rfl (by decide +kernel), sent_field _ _ _ _ _ _ (by decide) (by decide +kernel),
    sent_zero _ _ _ _ (by decide) (by decide +kernel), by decide +kernel⟩

theorem wit_fuses :
    (let s := sent State.reset (secBytes 7 [5])
     secGoes s 0 7 ∧ (s.box 0).zeroFrom 17 = true ∧ (s.box 0).field 16 1 = 5 ∧ s.sec.rev0 = false ∧ s.sec.rev1 = false) ∧
    (let s := sent State.reset (secBytes 7 [3])
     secGoes s 0 7 ∧ (s.box 0).field 16 1 = 3) := by
  refine ⟨⟨goes _ _ _ rfl rfl (by decide +kernel), sent_zero _ _ _ _ (by decide) (by decide +kernel),
      sent_field _ _ _ _ _ _ (by decide) (by decide +kernel), rfl, rfl⟩,
    goes _ _ _ rfl rfl (by decide +kernel), sent_field _ _ _ _ _ _ (by decide) (by decide +kernel)⟩

/-- A command without tag, all other fields zero. -/
def asking (op : Nat) : State := sent State.reset (fields 64 [(0, 1, op)])

theorem wit_identity :
    (secGoes (asking 0x10) 0 0x10 ∧ ((asking 0x10).box 0).zeroFrom 16 = true) ∧
    (secGoes (asking 0x11) 0 0x11 ∧ (asking 0x11).sec.next < 1048576) ∧
    (let s := State.reset.setSec { SecSt.reset with box := vset SecSt.reset.box 1 { boxOf (fields 64 [(0, 1, 3)]) with busy := false } }
     (s.box 1).busy = false ∧ s.barOpen = true ∧ s.secReady = true ∧ s.inBackoff 1 = false ∧ s.sec.order = [] ∧
      secOpcodes.elem (s.box 1).op = true) ∧
    (let s := (State.reset.putBox 0 { Mailbox.reset with backoff := some 0 }).setSync { SyncSt.reset with dtc := 1000000 }
     (s.box 0).backoff.isSome = true ∧ s.inBackoff 0 = false) ∧
    (let s := State.reset.putBox 0 { Mailbox.reset with backoff := some 0 }
     let s := s.setSync { SyncSt.reset with dtc := 999999 }
     (s.box 0).busy = false ∧ s.barOpen = true ∧ s.inBackoff 0 = true) := by
  unfold secGoes; decide +kernel

/-- A command whose tag is the right one with its bits changed. -/
def badTagged (op : Nat) : State := sent State.reset (secBody op [] ++ (goodTag (secBody op [])).map (~~~ ·))

theorem wit_badTag (op : Nat) (h : op ∈ [1, 2, 3, 4, 5, 6, 7, 8, 9]) : let s := badTagged op
    s.secReady = true ∧ (s.box 0).busy = true ∧ s.sec.order = [0] ∧ (s.box 0).op = op ∧ s.tapHolds = false ∧
      s.secCheck 0 = some (secAuth 1) := by
  have len := secBytes_length op []
  have tl : (goodTag (secBody op [])).length = 16 := by simp [goodTag, kmac256, sponge_length]
  have hb : (boxOf (secBody op [] ++ (goodTag (secBody op [])).map (~~~ ·))).bytes = secBody op [] ++ (goodTag (secBody op [])).map (~~~ ·) :=
    boxOf_bytes _ (by simp [len.1, tl])
  have fo : ∀ o n, o + n ≤ 48 → (boxOf (secBody op [] ++ (goodTag (secBody op [])).map (~~~ ·))).field o n = fieldOf (secBody op []) o n := by
    intro o n h
    have l := len.1
    rw [Mailbox.field, hb, fieldOf, fieldOf, List.drop_append_of_le_length (by omega), List.take_append_of_le_length (by simp; omega)]
  have fz : zeroIn (boxOf (secBody op [] ++ (goodTag (secBody op [])).map (~~~ ·))).bytes 2 4 = zeroIn (secBody op []) 2 4 := by
    have l := len.1
    rw [hb, zeroIn, zeroIn, List.drop_append_of_le_length (by omega), List.take_append_of_le_length (by simp; omega)]
  have f : fieldOf (secBody op []) 0 1 = op ∧ fieldOf (secBody op []) 1 1 = 0 ∧ zeroIn (secBody op []) 2 4 = true ∧
      secOpcodes.elem op = true ∧ op < 16 ∧ op ≠ 0 := by clear fo fz hb tl len; revert op; decide +kernel
  have o : (boxOf (secBody op [] ++ (goodTag (secBody op [])).map (~~~ ·))).op = op := by
    unfold Mailbox.op; rw [← Mailbox.field, fo 0 1 (by omega)]; exact f.1
  have m1 := (fo 1 1 (by omega)).trans f.2.1
  have tag : (badTagged op).secTag 0 = goodTag (secBody op []) := by
    rw [State.secTag, badTagged, box_sent, hb, List.take_append_of_le_length (by omega), List.take_of_length_le (by omega)]; rfl
  have ne : goodTag (secBody op []) ≠ (goodTag (secBody op [])).map (~~~ ·) := by
    intro e
    generalize goodTag (secBody op []) = g at e tl
    cases g with
    | nil => simp at tl
    | cons b g =>
      have e := (List.cons.inj e).1
      have : ∀ b : Byte, b ≠ ~~~b := by decide +kernel
      exact this b e
  have fm : (boxOf (secBody op [] ++ (goodTag (secBody op [])).map (~~~ ·))).formed = true := by
    simp only [Mailbox.formed, o, fz, secTagged, decide_eq_true f.2.2.2.2.1]; simpa [f.2.2.1] using f.2.2.2.1
  have nb : (badTagged op).inBackoff 0 = false := by rw [State.inBackoff, badTagged, box_sent]; rfl
  have k : (boxOf (secBody op [] ++ (goodTag (secBody op [])).map (~~~ ·))).key.isNone = false := rfl
  have d : (boxOf (secBody op [] ++ (goodTag (secBody op [])).map (~~~ ·))).bytes.drop 48 = (goodTag (secBody op [])).map (~~~ ·) := by
    rw [hb, List.drop_append_of_le_length (by omega), List.drop_eq_nil_of_le (by omega)]; rfl
  refine ⟨rfl, by rw [badTagged, box_sent]; rfl, rfl, by rw [badTagged, box_sent, o], rfl, ?_⟩
  have b := box_sent State.reset (secBody op [] ++ (goodTag (secBody op [])).map (~~~ ·))
  simp only [State.secCheck, nb, tag, show (badTagged op).box 0 = _ from b, fm, m1, o, k, d, secTagged, decide_eq_true f.2.2.2.2.1]
  simp [ne]

/-- A KEY_ROLL under the key 5 whose ENC is given. -/
def rollMask : List Byte := kmac256 (natLe 32 5) (natLe 8 State.reset.start.serial.toNat ++ natLe 8 1) 32 "IFESIA RSD1440 ROLL"
def rolling (enc : List Byte) : State := sent State.reset (secBytes 6 enc)

theorem leNat_natLe (k n : Nat) : leNat (natLe k n) = n % 256 ^ k := by
  induction k generalizing n with
  | zero => simp [natLe, leNat, Nat.mod_one]
  | succ k ih =>
    simp only [natLe, leNat, ih, BitVec.toNat_ofNat]
    rw [show 256 ^ (k + 1) = 256 * 256 ^ k by rw [Nat.pow_succ, Nat.mul_comm], Nat.mod_mul]

theorem take_fieldOf (l r : List Byte) (h : l.length = 16) (g : r.length = 32) : fieldOf (l ++ r) 16 32 = leNat r := by
  rw [fieldOf, List.drop_append_of_le_length (by omega), List.drop_eq_nil_of_le (by omega)]; simp [← g]

theorem wit_keyRolls (enc : List Byte) (g : enc.length = 32) :
    secGoes (rolling enc) 0 6 ∧ ((rolling enc).box 0).counter = 1 ∧ ((rolling enc).box 0).key = some 5 ∧
      ((rolling enc).box 0).field 16 32 = leNat enc := by
  have e : (enc ++ List.replicate 32 (0 : Byte)).take 32 = enc := by rw [List.take_append_of_le_length (by omega), List.take_of_length_le (by omega)]
  have h : (fields 16 [(0, 1, 6), (8, 8, 1)]).length = 16 := by decide +kernel
  have f0 : ∀ o n, o + n ≤ 16 → fieldOf (secBody 6 enc) o n = fieldOf (fields 16 [(0, 1, 6), (8, 8, 1)]) o n := by
    intro o n hn
    rw [secBody, fieldOf, fieldOf, List.drop_append_of_le_length (by omega), List.take_append_of_le_length (by simp; omega)]
  have z : zeroIn (secBody 6 enc) 2 4 = zeroIn (fields 16 [(0, 1, 6), (8, 8, 1)]) 2 4 := by
    rw [secBody, zeroIn, zeroIn, List.drop_append_of_le_length (by omega), List.take_append_of_le_length (by simp; omega)]
  refine ⟨goes _ _ _ rfl rfl ?_, ?_, by rw [rolling, box_sent]; rfl, ?_⟩
  · rw [f0 0 1 (by omega), f0 1 1 (by omega), f0 8 8 (by omega), z]; decide +kernel
  · rw [rolling, box_sent, Mailbox.counter, secBytes_field 6 enc 8 8 (by omega), f0 8 8 (by omega)]; decide +kernel
  · rw [rolling, box_sent, secBytes_field 6 enc 16 32 (by omega), secBody, e, take_fieldOf _ _ h g]

/-- ENC as the mask itself gives a key of zero, and with its lowest bit changed a key of 1. -/
theorem wit_keyRollKeys :
    BitVec.ofNat 256 (leNat rollMask) ^^^ BitVec.ofNat 256 (leNat rollMask) = 0 ∧ rollMask.length = 32 ∧
      BitVec.ofNat 256 (leNat (natLe 32 (leNat rollMask ^^^ 1))) ^^^ BitVec.ofNat 256 (leNat rollMask) ≠ 0 := by
  have l : rollMask.length = 32 := by simp [rollMask, kmac256, sponge_length]
  have b := leNat_lt rollMask
  rw [l] at b
  have c : leNat rollMask ^^^ 1 < 2 ^ 256 := Nat.xor_lt_two_pow (by omega) (by omega)
  refine ⟨by simp, l, ?_⟩
  have e : leNat (natLe 32 (leNat rollMask ^^^ 1)) = leNat rollMask ^^^ 1 := by rw [leNat_natLe]; exact Nat.mod_eq_of_lt (by omega)
  rw [e]
  intro h
  have h := congrArg (fun x : BitVec 256 => x.getLsbD 0) h
  simp at h

/-! ## Firmware, the Tally, management and registers -/

/-- The digest of 16 zero bytes, computed by the standard. -/
def zeroDigest : List Byte :=
  [0xD5, 0x70, 0xB2, 0x3C, 0x45, 0x5F, 0x4F, 0x43, 0xC4, 0xBF, 0x34, 0xAA, 0x6F, 0x2B, 0x76, 0x28,
   0xC9, 0x3D, 0xD6, 0x17, 0x8D, 0xE7, 0xCB, 0xD3, 0x2E, 0x81, 0xAE, 0xB8, 0x79, 0x63, 0x03, 0x26]
theorem shake256_zeros : shake256 (List.replicate 16 0) 32 = zeroDigest := by decide +kernel

/-- A package's manifest: unit 0, a whole image of 16 bytes, version 1, every record in layout 1. -/
def stageManifest : List Byte :=
  fields 40 [(0, 4, 0x4D575546), (4, 2, 1), (8, 8, 1), (32, 4, 16), (36, 4, 16)] ++ zeroDigest ++
    fields 184 [(64, 2, 1), (68, 2, 1), (72, 2, 1), (76, 2, 1)]
def packed : Nat → List Byte → Table Byte
  | _, [] => []
  | k, b :: bs => (k, b) :: packed (k + 1) bs

theorem tget_packed_lt (k : Nat) (bs : List Byte) (j : Nat) (h : j < k) : tget 0 (packed k bs) j = 0 := by
  induction bs generalizing k with
  | nil => rfl
  | cons b bs ih => simp only [packed, tget]; rw [if_neg (by omega)]; exact ih (k + 1) (by omega)

theorem tget_packed (k : Nat) (bs : List Byte) (i : Nat) : tget 0 (packed k bs) (k + i) = bs.getD i 0 := by
  induction bs generalizing k i with
  | nil => simp [packed, tget]
  | cons b bs ih =>
    cases i with
    | zero => simp [packed, tget]
    | succ i =>
      simp only [packed, tget]; rw [if_neg (by omega), show k + (i + 1) = k + 1 + i by omega, ih]; simp

theorem tget_filter_range (off n k : Nat) (h : off ≤ k) (g : k < off + n) (t : Table Byte) :
    tget 0 (t.filter fun e => decide (off ≤ e.1) && decide (e.1 < off + n)) k = tget 0 t k := by
  induction t with
  | nil => rfl
  | cons e t ih =>
    obtain ⟨a, b⟩ := e
    rw [List.filter_cons]
    split <;> rename_i c <;> simp only [tget, ih]
    simp only [Bool.and_eq_true, decide_eq_true_eq] at c
    rw [if_neg (by omega)]

/-- A session of port 0 whose package is the manifest, a signature, and 16 zero bytes. -/
def staging (sig : List Byte) : State :=
  State.reset.setFwu { FwuSt.reset with isOpen := true, package := packed 0 (stageManifest ++ sig) }

theorem pkg_staging (sig : List Byte) (off n : Nat) :
    (staging sig).pkg off n = (List.range n).map fun i => (stageManifest ++ sig).getD (off + i) 0 := by
  simp only [State.pkg]
  apply List.map_congr_left
  intro i hi
  have hi : i < n := by simpa using hi
  rw [tget_filter_range off n (off + i) (by omega) (by omega)]
  have := tget_packed 0 (stageManifest ++ sig) (off + i)
  rwa [Nat.zero_add] at this

theorem range_getD (l : List Byte) (off n : Nat) (h : off + n ≤ l.length) :
    ((List.range n).map fun i => l.getD (off + i) 0) = (l.drop off).take n := by
  apply List.ext_getElem
  · simp; omega
  · intro i h1 h2
    simp at h1
    simp [List.getElem?_eq_getElem (show off + i < l.length by omega)]

/-- A package whose signature a vendor key verifies passes the staging checks; which signatures do is no part of the model (log 11). -/
theorem wit_fwuStage (sig : List Byte) (l : sig.length = 2820) (v : vendorVerifies false false stageManifest sig = true) :
    session (staging sig) 0 ∧ (staging sig).fwu.recovery = false ∧
      (staging sig).stageChecks ((staging sig).pkg 0 256) = .inr (List.replicate 16 0) := by
  have ml : stageManifest.length = 256 := by decide +kernel
  have m : (staging sig).pkg 0 256 = stageManifest := by
    rw [pkg_staging, range_getD _ 0 256 (by simp; omega), List.drop_zero, List.take_append_of_le_length (by omega),
      List.take_of_length_le (by omega)]
  have s : (staging sig).pkg 256 2820 = sig := by
    rw [pkg_staging, range_getD _ 256 2820 (by simp; omega), List.drop_append_of_le_length (by omega), List.drop_eq_nil_of_le (by omega)]
    simp [← l]
  have b : (staging sig).pkg 4096 16 = List.replicate 16 0 := by
    rw [pkg_staging]
    apply List.ext_getElem
    · simp
    · intro i h1 h2
      simp at h1
      rw [List.getElem_replicate]
      simp [List.getElem?_eq_none (show (stageManifest ++ sig).length ≤ 4096 + i by simp; omega)]
  have f : manifestOk stageManifest = true ∧ fieldOf stageManifest 6 1 = 0 ∧ fieldOf stageManifest 7 1 = 0 ∧ fieldOf stageManifest 8 8 = 1 ∧
      fieldOf stageManifest 36 4 = 16 ∧ fieldOf stageManifest 32 4 = 16 ∧ (stageManifest.drop 40).take 32 = zeroDigest ∧
      (∀ r, r < 4 → FwImage.readsMin ⟨stageManifest, []⟩ r ≤ 1 ∧ FwImage.writes ⟨stageManifest, []⟩ r = 1) := by decide +kernel
  obtain ⟨f1, f2, f3, f4, f5, f6, f7, f8⟩ := f
  have r : ((List.range 4).any fun r => let v := (vget (staging sig).fwu.records r 0).toNat
      decide (v < FwImage.readsMin ⟨stageManifest, []⟩ r) || decide (FwImage.writes ⟨stageManifest, []⟩ r < v)) = false := by
    have e : (staging sig).fwu.records = Vector.replicate 4 1 := rfl
    rw [e]; decide +kernel
  have p : (staging sig).payloadImage stageManifest ((staging sig).unit 0).act.bytes = some (List.replicate 16 0) := by
    simp [State.payloadImage, f3, f5, b]
  refine ⟨⟨rfl, rfl, rfl, rfl⟩, rfl, ?_⟩
  have u : ((staging sig).unit 0).floor = 0 ∧ ((staging sig).unit 0).other = 0 := ⟨rfl, rfl⟩
  have c : (staging sig).sec.rev0 = false ∧ (staging sig).sec.rev1 = false ∧ (staging sig).fwu.actState = 0 := ⟨rfl, rfl, rfl⟩
  rw [m]
  simp only [State.stageChecks, f1, f2, f3, f4, f6, f7, s, c.1, c.2.1, c.2.2, v, u.1, u.2, p, shake256_zeros, r]
  simp

/-- A session of port 0 with unit 3 in a state, BAR4's window and the recovery mode as given. -/
def openFwu (other : Nat) (rec : Bool) (off len : Nat) : State :=
  let s := State.reset.setFwu { FwuSt.reset with isOpen := true, recovery := rec, off := BitVec.ofNat 20 off, len := BitVec.ofNat 17 len }
  s.putUnit 3 { s.unit 3 with other := other }

theorem wit_firmwareSession :
    (State.reset.fwuReady = true ∧ State.reset.fwu.busy = false ∧ State.reset.fwu.isOpen = false) ∧
    (session (openFwu 0 false 0 0) 0 ∧ (0xFFFFF : BitVec 20).toNat + [(7 : Byte)].length ≤ 2 ^ 20) ∧
    (let s := openFwu 0 false (1048576 - 65536) 65536
     session s 0 ∧ s.fwu.len.toNat = 65536 ∧ s.fwu.off.toNat + s.fwu.len.toNat ≤ 1048576) ∧
    (let s := openFwu 0 false 0 0
     session s 0 ∧ s.stageChecks (s.pkg 0 256) = .inl (0x1D, 0x01) ∧ s.draining = false) ∧
    (let s := openFwu 3 false 0 0
     session s 0 ∧ s.unitsIn 3 ≠ [] ∧ s.draining = false ∧ s.unitsIn 2 = []) ∧
    (session (openFwu 0 true 0 0) 0 ∧ (openFwu 0 true 0 0).fwu.recovery = true ∧ (openFwu 0 true 0 0).fwu.bad = 0) := by
  unfold session; decide +kernel

/-- An activation in progress, 150,000,000 ticks after it began, with the items of a queue. -/
def activating (l : List Item) : State :=
  let s := (withStaged State.reset).putQueue 0 (queueOf l)
  (s.setFwu { s.fwu with actState := 3, actTarget := 0, actDtc := 0 }).setSync { SyncSt.reset with dtc := 150000000 }

theorem wit_activation :
    ((activating []).draining = true ∧ (activating []).fault.wanted = none ∧ (activating []).drained = true) ∧
    (let s := activating [item 0x11 .none .running]
     s.draining = true ∧ s.fault.wanted = none ∧ s.drained = false ∧ 150000000 ≤ (s.now - s.fwu.actDtc).toNat) := by
  decide +kernel

theorem wit_tally :
    (let s := State.reset.setSync { SyncSt.reset with dtc := 100000000 }
     s.power.phase = .on ∧ s.start.step = 11 ∧ s.sampleDue = true ∧ ∀ i, i < 16 → (s.link i).phase ≠ .up) ∧
    (let s := State.reset.setTally { TallySt.reset with writeDue := true }
     s.alwaysOnPowered = true ∧ s.writeDue = true ∧ s.barOpen = true) ∧
    (let s := State.reset.setStart { State.reset.start with img := { Image.builtIn with twTicks := 1000 } }
     let s := s.setSync { SyncSt.reset with dtc := 1000 }
     s.start.img.twTicks ≠ 0 ∧ s.start.img.twTicks ≤ (s.now - s.tally.cur.start).toNat) := by
  decide +kernel

theorem wit_management :
    (∃ u, State.reset.addressed .smbus = some u) ∧ (∃ u, (hostUp State.reset).addressed (.pcie 0) = some u) ∧
    (∃ u, State.reset.addressed .smbus = some u ∧ (0x3FFFFC0 : BitVec 26).toNat % 4 = 0 ∧ (0x3FFFFC0 : BitVec 26).toNat + 4 * 16 ≤ 2 ^ 26 ∧
      ∀ i, i < 16 → u.mgmtReads ((0x3FFFFC0 : BitVec 26).toNat + 4 * i) = true) ∧
    (let s := State.reset.setStart { State.reset.start with step := 5 }
     ∃ u, s.addressed .smbus = some u ∧ u.mgmtReads (0xFFFC + 4 * 1) = false) ∧
    ((0x3FFFFFE : BitVec 26).toNat % 4 ≠ 0 ∧ 2 ^ 26 < (0x3FFFFFC : BitVec 26).toNat + 4 * 2) ∧
    (State.reset.slotSeq ((5 : DWord).toNat % 512) ≠ (5 : DWord).toNat ∧
      (let s := State.reset.logEvent 5 0 0 3 0 0
       s.slotSeq ((1 : DWord).toNat % 512) = (1 : DWord).toNat ∧ (s.setPins { s.pins with alert := none }).pins.alert ≠ some (1 : DWord) ∧
        (s.setPins { s.pins with alert := some 1 }).pins.alert = some (1 : DWord))) ∧
    (State.reset.nimtiaUp = true ∧ State.reset.pins.isolated = false ∧ State.reset.pins.transport = 0 ∧ State.reset.pins.badTries < 2) ∧
    (let s := State.reset.setPins { PinSt.reset with badTries := 2 }
     s.nimtiaUp = true ∧ s.pins.isolated = false ∧ 2 ≤ s.pins.badTries) ∧
    (let s := State.reset.setPins { PinSt.reset with isolated := true }
     s.nimtiaUp = true ∧ s.pins.isolated = true) ∧
    64 * 0 < ({ Image.builtIn with raw := [1] } : Image).raw.length := by
  refine ⟨⟨_, rfl⟩, ⟨_, rfl⟩, ⟨_, rfl, ?_⟩, ⟨_, rfl, ?_⟩, ?_⟩ <;> decide +kernel

theorem wit_testPort :
    (let s := State.reset.setStart { State.reset.start with step := 10 }
     s.power.phase = .on ∧ 3 ≤ s.start.step ∧ s.start.step < 11) ∧
    (State.reset.power.phase ≠ .off ∧ 11 ≤ State.reset.start.step ∧ State.reset.sec.unlocked = false) ∧
    (State.reset.setSec { SecSt.reset with unlocked := true }).sec.unlocked = true := by
  decide +kernel

/-- The last queue's and the last context's registers, of port 1 at reset. -/
theorem wit_registerWrites :
    ((0x3FFFFFE : BitVec 26).toNat % 4 ≠ 0 ∧ (0x3FFFFF8 : BitVec 26).toNat % 8 = 0) ∧
    (0x80000 + 0x80 * (175 : Queue).val ≤ (0x857FC : BitVec 26).toNat ∧ (0x857FC : BitVec 26).toNat < 0x80000 + 0x80 * (175 : Queue).val + 0x80 ∧
      State.reset.qOwner (175 : Queue) ≠ (0 : Port)) ∧
    (0xC0000 + 0x400 * (63 : Ctx).val ≤ (0xCFFFC : BitVec 26).toNat ∧ (0xCFFFC : BitVec 26).toNat < 0xC0000 + 0x400 * (63 : Ctx).val + 0x400 ∧
      State.reset.ctxOwner (63 : Ctx) ≠ (0 : Port)) ∧
    (State.reset.barOpen = true ∧ State.reset.fwu.recovery = false ∧ (0x85788 : BitVec 26).toNat = 0x80000 + 0x80 * (175 : Queue).val + 8 ∧
      State.reset.qOwner (175 : Queue) = (1 : Port)) ∧
    ((0x85780 : BitVec 26).toNat = 0x80000 + 0x80 * (175 : Queue).val ∧ (0xCFC00 : BitVec 26).toNat = 0xC0000 + 0x400 * (63 : Ctx).val ∧
      State.reset.ctxOwner (63 : Ctx) = (1 : Port)) := by
  decide +kernel

theorem wit_predicateZero :
    (∀ e ∈ compareOps, (issue (encRR 4 e.2.1 (0 : Reg) (31 : Reg) (1 : Reg) (7 : PReg) 8)).issuing (0 : Site) run1
      (encRR 4 e.2.1 (0 : Reg) (31 : Reg) (1 : Reg) (7 : PReg) 8)) ∧
    (∀ e ∈ predicateOps, (issue (encRR 4 e.2.1 (8 : Reg) (0 : Reg) (1 : Reg) (7 : PReg) 0)).issuing (0 : Site) run1
      (encRR 4 e.2.1 (8 : Reg) (0 : Reg) (1 : Reg) (7 : PReg) 0)) ∧
    (∀ op ∈ [0x2A, 0x2B], (issue (encRR 4 op (24 : Reg) (0 : Reg) 0 (7 : PReg) 0)).issuing (0 : Site) run1
      (encRR 4 op (24 : Reg) (0 : Reg) 0 (7 : PReg) 0)) :=
  ⟨fun _ _ => issuing _, fun _ _ => issuing _, fun _ _ => issuing _⟩

/-! ## Steps -/

theorem wit_steps :
    ((State.reset.setPending [.writeNow]).pending = .writeNow :: [] ∧ State.reset.pending = []) ∧
    (State.reset.wf = true ∧ State.reset.fault.wf = true ∧ State.reset.power.cold = false) ∧
    (∃ t, step State.reset = .next t) ∧ (∃ t, exec .writeNow State.reset = .next t) ∧
    (let s := State.reset.setPower { PowerSt.reset with cold := true, phase := .ready }
     s.power.cold = true ∧ s.power.phase ≠ .off ∧ ∃ t, exec (.startUp goodStart) s = .next t) := by
  refine ⟨⟨rfl, rfl⟩, by decide +kernel, ⟨_, rfl⟩, ⟨_, rfl⟩, rfl, by decide, _, rfl⟩

/-! ## Well-formed commands -/

/-- One ill-formed command for each check, and that it stops. -/
theorem test_illFormed :
    (Instr.hostBar4Write 0 0xFFFFF [0, 0]).wellFormed = false ∧
    (Instr.write 0 (head1 0 0) []).wellFormed = false ∧ (Instr.writeMasked 0 (head1 0 0) [0]).wellFormed = false ∧
    (Instr.readData 0 (head1 0 0) (List.replicate 5 0)).wellFormed = false ∧ (Instr.chunk 0 (head1 0 0) []).wellFormed = false ∧
    (Instr.unknownKindMessage 0 1 0x20 (head1 0 0) []).wellFormed = false ∧
    (Instr.unknownKindMessage 0 1 0x40 (head1 0 0) (List.replicate 8 0)).wellFormed = false := by decide +kernel

theorem test_wellFormed :
    (Instr.hostBar2Read 0 0 4096).wellFormed = true ∧ (Instr.hostBar4Write 0 0xFFFFF [0]).wellFormed = true ∧
    (Instr.write 0 (head1 0 0) [0, 0, 0, 0]).wellFormed = true ∧ (Instr.unknownKindMessage 0 1 0x40 (head1 0 0) []).wellFormed = true := by
  decide +kernel

theorem test_illFormedStops : exec (.write 0 (head1 0 0) []) (paired State.reset) = .refused .illFormed ∧
    exec (.chunk 0 (head1 0 0) []) (paired State.reset) = .refused .illFormed := ⟨rfl, rfl⟩

/-! ## The spec's worked examples -/

/-- The worked encoding of 06: VFMA with D = 3, A = 1, B = 2 and P = 2. -/
theorem test_encodeVfma : encV 0x03 3 1 2 2 false = 0x40C61120 := by decide

/-- The worked decode of 07: the byte at 0x012_3456_7890. -/
theorem test_hbmDecode : let a := 0x01234567890
    let s := State.reset
    s.hubOf a = 7 ∧ s.hubOffset a = 0x2468AC890 ∧ s.rowOf a = 4660 ∧ s.pseudo a = 8 ∧ s.bankOf a = 8 * 64 + 21 := by decide +kernel

/-- The worked block of 02: an MXFP8-E4M3 block with 1000, 3.3, −0.75, 0.001 and an infinity. -/
theorem test_mxBlock :
    let vs := [f32 0x447A0000, f32 0x40533333, f32 0xBF400000, f32 0x3A83126F, f32 0x7F800000] ++ List.replicate 27 (f32 0)
    let r := convBlock 5 false (vs.map fun v => (v, Rnd.rne))
    r.1 = 0x80 ∧ r.2.1 = [0x7E, 0x3D, 0xAC, 0x00, 0x7F] ++ List.replicate 27 0 ∧
      r.2.2 = { inexact := true, nonfinite := true } := by decide +kernel

/-- Its clamps: A = 2^140 with an element 2^120, and A = 2^-140. -/
theorem test_mxClamps :
    (convBlock 5 false (([Val.fin false 1 140, Val.fin false 1 120] ++ List.replicate 30 (Val.fin false 0 0)).map fun v => (v, Rnd.rne))).1 = 0xFE ∧
    ((convBlock 5 false (([Val.fin false 1 140, Val.fin false 1 120] ++ List.replicate 30 (Val.fin false 0 0)).map fun v => (v, Rnd.rne))).2.1.take 2) =
      [0x7E, 0x04] ∧
    (convBlock 5 false (([Val.fin false 1 (-140)] ++ List.replicate 31 (Val.fin false 0 0)).map fun v => (v, Rnd.rne))).1 = 0 := by decide +kernel

/-- The worked chunk of 03: column 0 with its scales, added to 2^24. -/
def chunk03 (rest : List (Nat × Prod)) : ChunkSum :=
  let run := fun b sc => scaleVal (elemVal 5 b) sc
  let ps := [(3, product 0 (elemVal 1 0x3F80) (run 0x38 0x7F)), (40, product 0 (elemVal 1 0x4000) (run 0xBE 0x9A)),
    (41, product 0 (elemVal 1 0x4000) (run 0x3E 0x9A))]
  chunkSum 0 0 (ps ++ rest)

theorem test_chunk03 :
    let cs := chunk03 [(70, product 0 (elemVal 1 0x4040) (scaleVal (elemVal 5 0x38) 0x40))]
    cs.v = 134217728 ∧ cs.e = -27 ∧ cs.sticky = true ∧ (addTile false 0x10B800000 cs).1 = 0x10B800001 ∧
      (addTile false 0x10B800000 (chunk03 [])).1 = 0x10B800000 ∧
      (addTile false 0 (chunkSum 0 1 [(5, product 0 (elemVal 1 0x7F80) (elemVal 5 0))])).1 = 0x1FFC00000 := by decide +kernel

/-- The worked case of 05: 1 and twice 2^-24 in one chunk and in two. -/
theorem test_oneCondition :
    let one := product 0 (elemVal 1 0x3F80) (elemVal 1 0x3F80)
    let small := product 0 (elemVal 1 0x3980) (elemVal 1 0x3980)
    let first := (addTile true 0 (chunkSum 0 0 [(0, one)])).1
    (addTile true 0 (chunkSum 0 0 [(0, one), (10, small), (60, small)])).1 = first + 1 ∧
      (addTile true 0 (chunkSum 0 0 [(0, one), (10, small)])).1 = first ∧
      (addTile false first (chunkSum 0 0 [(12, small)])).1 = first := by decide +kernel

/-- The table of 05 for two passes with TK = 1 and TR = 1 from I = 0: L and S of both, and the last cycle of each. -/
theorem test_passCycles :
    let l0 := (Pipe.drained 0).loadAt 0 1 true
    let a := (Pipe.drained 0).loaded l0 96 true
    let s0 := a.startAt 0 (l0 + 96) true
    let b := a.started s0 192 1 true
    let l1 := b.loadAt 0 2 true
    let c := b.loaded l1 96 true
    let s1 := c.startAt 0 (l1 + 96) true
    l0 = 96 ∧ s0 = 192 ∧ b.t = 383 ∧ l1 = 384 ∧ s1 = 480 ∧ (c.started s1 192 2 true).t = 671 := by decide

/-- The worked sum of 06: 1 and twice 2^-24 reduce to 1. -/
theorem test_reduceTree : treeReduce fadd ([0x3F800000, 0x33800000, 0x33800000] ++ List.replicate 61 0) = 0x3F800000 ∧
    fadd (fadd 0x33800000 0x33800000) 0x3F800000 = 0x3F800001 := by decide +kernel

/-- The worked ring of 12: the element's value by the chunk that it lies in. -/
theorem test_ringSums : let add := fun x v => (ringAdd x v).1
    add (add (add 0 0x4380) 0x3F80) 0x3F80 = 0x4380 ∧ add (add (add 0x4380 0x3F80) 0x3F80) 0 = 0x4380 ∧
      add (add (add 0x3F80 0x3F80) 0) 0x4380 = 0x4381 ∧ add (add (add 0x3F80 0) 0x4380) 0x3F80 = 0x4380 := by decide +kernel

/-- Its starts and owners on four devices. -/
theorem test_ringPaths : ∀ c, c < 4 →
    let w := { keWaiting 5 1 with stages := [⟨4, 0, [0, 1, 2, 3]⟩] }
    w.startPos 0 c = c ∧ w.ownerPos 0 c = (c + 3) % 4 := by decide +kernel

/-- The worked element of 13: SIGNMOM with β entry 0's defaults, η = 2^-10 and λ = 0.01. -/
theorem test_signmom : let u := { readUpd (updDesc 1000) with eta := 0x3A800000, lambda := 0x3C23D70A }
    let r := signmom (u.consts (0x3F666666, 0x3F7D70A4)) 0x3F800000 0x3F000000 0xC0000000
    r.p = 0x3F7FBF5C ∧ r.m = 0x3EF3 := by decide +kernel

/-- The worked route of 11: device 0 to device 301 in an 8 × 8 × 8 fabric, the ports by hop. -/
theorem test_route : let r := fun here => { FabricImg.alone with x := 8, y := 8, z := 8, device := here }.route (fun _ => true) (fun _ => false) 0 301 0
    r 0 = .port 5 ∧ r 7 = .port 5 ∧ r 6 = .port 5 ∧ r 5 = .port 7 ∧ r 61 = .port 7 ∧ r 45 = .port 9 ∧ r 237 = .port 9 := by
  decide +kernel

/-- The worked cases of 10: a window of 1,000 ticks at B = 50,000, by the pulse and the tick. -/
theorem test_boundaries : let r : BoundaryRun := ⟨168, 1, 50000, 1000, true⟩
    let due := fun p n => (State.reset.setSync { SyncSt.reset with pulse := p, dtc := n }).raiseDue r
    due (some 49000) 50000 = some ⟨1, BitVec.ofInt 18 (-1000), true⟩ ∧ due (some 48999) 50999 = none ∧
      due (some 48999) 51000 = some ⟨2, 0, false⟩ ∧ due (some 50600) 50601 = some ⟨1, 600, true⟩ ∧ due (some 50000) 50000 = none ∧
      due (some 50000) 50001 = some ⟨1, 0, true⟩ ∧ due (some 50999) 51000 = some ⟨1, 999, true⟩ ∧
      due (some 51000) 51000 = some ⟨2, 0, false⟩ := by decide +kernel

/-- The module of the marking example of 00: ID_REV, ID_SERIAL_HI and ID_SERIAL_LO are read at their offsets. -/
theorem test_marking : State.reset.start.serial = 0x000003A1F022C4B7 ∧ State.reset.idRev = 0x1103 := by decide

end Sys2Proof.Tests
end

section
/-!
PROOFS. Core programs: the instructions that write a predicate register, and the register p0 that takes no write (06 R223, R231).
-/
namespace Sys2Proof.Machine

open Sys2Proof.Claims

/-! ## What a predicate-writing instruction answers when it issues -/

section Issued

variable {s : State} {c : Site} {r : Run} {d a b : Reg} {p : PReg}

/-- A comparison whose D[4:3] is zero answers with one write of p(D): its relation on every lane (02 R91, 06 R231). -/
theorem exec_compareOps_of_issuing {e : (Site → Reg → Reg → Reg → PReg → Bool → Instr) × Nat × (Val → Val → Bool)} {sb : Bool}
    (he : e ∈ compareOps) (h : s.issuing c r (encV e.2.1 d a b p sb)) (hd : d.val < 8) :
    exec (e.1 c d a b p sb) s = .next (s.writeP c d (maskOf fun l =>
      e.2.2 (f32 (lane ((s.core c).seq.vreg a) l)) (f32 (lane ((s.core c).seq.bvec b sb) l)))) := by
  have hexec : exec (e.1 c d a b p sb) s = .next (vecCmp e.2.1 e.2.2 c d a b p sb s) := by
    simp only [compareOps, List.mem_cons, List.not_mem_nil, or_false] at he
    obtain rfl | rfl | rfl | rfl := he <;> rfl
  rw [hexec, vecCmp, State.issueAt_of_issuing h, if_neg (Nat.not_le.mpr hd)]

/-- PAND and POR answer with one write of p(D[2:0]): their function of p(A[2:0]) and p(B[2:0]) (06 R223, R231). -/
theorem exec_predicateOps_of_issuing {e : (Site → Reg → Reg → Reg → PReg → Instr) × Nat × (DWord → DWord → DWord)}
    (he : e ∈ predicateOps) (h : s.issuing c r (encV e.2.1 d a b p false)) :
    exec (e.1 c d a b p) s =
      .next (s.writeP c (d.val % 8) (e.2.2 ((s.core c).seq.preg (a.val % 8)) ((s.core c).seq.preg (b.val % 8)))) := by
  have hexec : exec (e.1 c d a b p) s = .next (predOp e.2.1 e.2.2 c d a b p s) := by
    simp only [predicateOps, List.mem_cons, List.not_mem_nil, or_false] at he
    obtain rfl | rfl := he <;> rfl
  rw [hexec, predOp, State.issueAt_of_issuing h]

theorem exec_pnot_of_issuing (h : s.issuing c r (encV 0x2A d a 0 p false)) :
    exec (.pnot c d a p) s = .next (s.writeP c (d.val % 8) (~~~((s.core c).seq.preg (a.val % 8)))) :=
  congrArg Host.Outcome.next (State.issueAt_of_issuing h _)

theorem exec_pmov_of_issuing (h : s.issuing c r (encV 0x2B d a 0 p false)) :
    exec (.pmov c d a p) s = .next (s.writeP c (d.val % 8) ((s.core c).seq.sreg a)) :=
  congrArg Host.Outcome.next (State.issueAt_of_issuing h _)

end Issued

/-! ## The write of p0 -/

theorem SeqState.wroteP_zero (x : SeqState) (v : DWord) : x.wroteP 0 v = { x with pc := x.pc + 1 } := rfl

/-- A predicate write moves PC alone when the register is p0 (06 R223). -/
theorem State.writeP_zero_only_pc (s : State) (c : Nat) {d : Nat} (v : DWord) (hd : d = 0) :
    OnlySeq s (s.writeP c d v) c { (s.core c).seq with pc := (s.core c).seq.pc + 1 } := by
  subst hd
  rw [← SeqState.wroteP_zero _ v]
  exact s.writeP_only c 0 v

/-- Settles O49: every instruction that writes a predicate register answers with `State.writeP`, which moves PC alone at p0. -/
theorem predicateZeroIsConstant : Obligations.PredicateZeroIsConstant := by
  unfold Obligations.PredicateZeroIsConstant
  refine ⟨SeqState.preg_zero, fun s c r d a b p sb hd => ⟨?comparison, ?andOr, ?pnot, ?pmov⟩⟩
  case comparison =>
    intro e he hd0 h
    exact ⟨_, exec_compareOps_of_issuing he h (by omega), s.writeP_zero_only_pc c _ hd0⟩
  case andOr =>
    intro e he h
    exact ⟨_, exec_predicateOps_of_issuing he h, s.writeP_zero_only_pc c _ hd⟩
  case pnot => exact fun h => ⟨_, exec_pnot_of_issuing h, s.writeP_zero_only_pc c _ hd⟩
  case pmov => exact fun h => ⟨_, exec_pmov_of_issuing h, s.writeP_zero_only_pc c _ hd⟩

end Sys2Proof.Machine
end

section
/-!
PROOFS. The power state under the shared operations: writes, messages, counters, items and rings leave it alone, so that a change
of gate enables shows exactly the enables asked for, and a port's own enable stays 1 (15 R597, R600).
-/
namespace Sys2Proof.Machine

/-- A fold leaves the power state alone when each of its steps does. -/
theorem foldl_power {β : Type} {f : State → β → State} (hf : ∀ t b, (f t b).power = t.power) (l : List β) (s : State) :
    (l.foldl f s).power = s.power :=
  foldl_keeps (P := fun t => t.power = s.power) f (fun t b h => (hf t b).trans h) l s rfl

/-! ## Memory writes and uncorrectable reads -/

@[simp] theorem State.fireLinks_power (s : State) (a n : Nat) : (s.fireLinks a n).power = s.power := rfl

@[simp] theorem State.invalidateAt_power (s : State) (line h : Nat) : (s.invalidateAt line h).power = s.power := by
  unfold State.invalidateAt
  dsimp only
  split <;> rfl

@[simp] theorem State.invalidate_power (s : State) (line : Nat) : (s.invalidate line).power = s.power :=
  foldl_power (fun t h => t.invalidateAt_power line h) _ s

@[simp] theorem State.dropRunner_power (s : State) (site lo hi : Nat) : (s.dropRunner site lo hi).power = s.power := by
  unfold State.dropRunner
  dsimp only
  split <;> rfl

@[simp] theorem State.writeLine_power (s : State) (a : Nat) (bs : List Byte) : (s.writeLine a bs).power = s.power := by
  unfold State.writeLine
  dsimp only
  split <;> simp

@[simp] theorem State.write_power (s : State) (a : Nat) (bs : List Byte) : (s.write a bs).power = s.power :=
  foldl_power (fun t (p : Nat × List Byte) => t.writeLine_power p.1 p.2) _ s

@[simp] theorem State.ueRead_power (s : State) (a sev : Nat) : (s.ueRead a sev).power = s.power := by
  unfold State.ueRead
  split <;> simp

@[simp] theorem State.noteUe_power (s : State) (f : Fail) : (s.noteUe f).power = s.power := by
  unfold State.noteUe
  split <;> simp

/-! ## Messages between devices -/

@[simp] theorem State.emitFlits_power (s : State) (l : Nat) (fs : List Flit) : (s.emitFlits l fs).power = s.power :=
  foldl_power (fun t f => t.emit_power (.flit l f)) fs s

@[simp] theorem State.pumpLink_power (s : State) (l : Nat) : (s.pumpLink l).power = s.power := by simp [State.pumpLink]

@[simp] theorem State.sendOn_power (s : State) (l kind : Nat) (m : MsgHead) (data : List Line) :
    (s.sendOn l kind m data).power = s.power := by
  simp [State.sendOn]

@[simp] theorem State.sendTo_power (s : State) (kind : Nat) (m : MsgHead) (data : List Line) :
    (s.sendTo kind m data).power = s.power := by
  unfold State.sendTo
  split <;> simp

@[simp] theorem State.originate_power (s : State) (kind dst mtag arg : Nat) (data : List Line) :
    (s.originate kind dst mtag arg data).power = s.power :=
  s.sendTo_power _ _ _

@[simp] theorem State.cancelFabric_power (s : State) (h : Nat) : (s.cancelFabric h).power = s.power := by
  unfold State.cancelFabric
  dsimp only
  split <;> simp

/-! ## The end of an item -/

@[simp] theorem State.mapItem_power (s : State) (q k : Nat) (f : Item → Item) : (s.mapItem q k f).power = s.power := rfl

@[simp] theorem State.dropChunks_power (s : State) (h b : Nat) : (s.dropChunks h b).power = s.power := by
  refine foldl_power (fun t n => ?_) _ s
  dsimp only
  split <;> simp

@[simp] theorem State.bseqGone_power (s : State) (q : Nat) (i : Item) : (s.bseqGone q i).power = s.power := by
  unfold State.bseqGone
  dsimp only
  split <;> split <;> simp

@[simp] theorem State.writeReport_power (s : State) (i : Item) : (s.writeReport i).power = s.power := by
  unfold State.writeReport
  split
  · dsimp only
    split <;> simp
  · rfl

@[simp] theorem State.endNow_power (s : State) (q k : Nat) (f : Option Fail) : (s.endNow q k f).1.power = s.power := by
  unfold State.endNow
  split
  · rfl
  · split
    · rfl
    · dsimp only
      rw [State.putQueue_power, State.writeReport_power]
      split <;> simp

/-! ## Counters and watches -/

@[simp] theorem State.dropWatch_power (s : State) (w : Watch) : (s.dropWatch w).power = s.power := rfl

@[simp] theorem State.releaseWaiter_power (s : State) (w : Watch) : (s.releaseWaiter w).1.power = s.power := by
  unfold State.releaseWaiter
  split
  case h_1 => exact s.endNow_power _ _ _
  case h_2 => dsimp only; split <;> simp
  case h_3 => simp

@[simp] theorem State.fireWatch_power (s : State) (w : Watch) : (s.fireWatch w).1.power = s.power :=
  (s.dropWatch w).releaseWaiter_power w

@[simp] theorem fireAll_power (s : State) (ws : List Watch) : (fireAll s ws).1.power = s.power := by
  induction ws generalizing s with
  | nil => rfl
  | cons w ws ih => exact (ih _).trans (s.fireWatch_power w)

@[simp] theorem State.tryClaim_power (s : State) (c : Nat) : (s.tryClaim c).1.power = s.power := by
  unfold State.tryClaim
  split
  · rfl
  · split <;> simp

@[simp] theorem State.change1_power (s : State) (c : Nat) (d : DWord) : (s.change1 c d).1.power = s.power := by
  simp [State.change1, State.setCounter]

@[simp] theorem runOps_power (n : Nat) (s : State) (l : List (Nat × DWord)) : (runOps n s l).power = s.power := by
  induction n generalizing s l with
  | zero => rfl
  | succ n ih =>
    cases l with
    | nil => rfl
    | cons e l => exact (ih _ _).trans (s.change1_power e.1 e.2)

@[simp] theorem State.ops_power (s : State) (l : List (Nat × DWord)) : (s.ops l).power = s.power := runOps_power _ s l

@[simp] theorem State.withdraw_power (s : State) (who : Waiter) : (s.withdraw who).power = s.power := by
  unfold State.withdraw
  dsimp only
  split
  · simp
  · split <;> simp

@[simp] theorem State.withdrawAll_power (s : State) (gone : Waiter → Bool) : (s.withdrawAll gone).power = s.power := by
  unfold State.withdrawAll
  refine (foldl_power (fun u c => ?_) _ _).trans (foldl_power State.dropWatch_power _ _)
  rw [State.ops_power, State.tryClaim_power]

/-! ## Cores that run a part of an item -/

@[simp] theorem State.releaseCore_power (s : State) (site : Nat) : (s.releaseCore site).power = s.power := by
  unfold State.releaseCore
  dsimp only
  split <;> simp

@[simp] theorem State.leaveWait_power (s : State) (site : Nat) : (s.leaveWait site).power = s.power := by
  unfold State.leaveWait
  dsimp only
  split
  · simp
  · split <;> rfl

@[simp] theorem State.stopNow_power (s : State) (site : Nat) : (s.stopNow site).power = s.power := s.leaveWait_power site

@[simp] theorem State.stopWith_power (s : State) (site : Nat) (x : StopReq) : (s.stopWith site x).power = s.power := by
  unfold State.stopWith
  dsimp only
  split <;> simp

@[simp] theorem State.stopCore_power (s : State) (site : Nat) : (s.stopCore site).power = s.power := s.stopWith_power site .drop

/-! ## A failing item -/

@[simp] theorem State.settleItem_power (s : State) (q k : Nat) : (s.settleItem q k).power = s.power := by
  have hrelease (l : List Nat) : (l.foldl (fun t c => t.releaseCore c) s).power = s.power :=
    foldl_power State.releaseCore_power l s
  unfold State.settleItem
  split
  · rfl
  · split
    · dsimp only
      split <;> simp [hrelease]
    · rfl

@[simp] theorem State.withdrawItem_power (s : State) (i : Item) : (s.withdrawItem i).power = s.power := by
  unfold State.withdrawItem
  split <;> simp

@[simp] theorem State.failItem_power (s : State) (q k : Nat) (f : Fail) : (s.failItem q k f).power = s.power := by
  unfold State.failItem
  dsimp only
  split
  · simp
  · split
    · rw [State.settleItem_power, foldl_power State.stopCore_power, State.mapItem_power]
      split <;> simp
    · simp

/-! ## Records and rings -/

@[simp] theorem State.queueIrq_power (s : State) (q : Nat) : (s.queueIrq q).power = s.power := by
  unfold State.queueIrq
  dsimp only
  split <;> simp

@[simp] theorem State.writeRecord_power (s : State) (q : Nat) (r : List Byte) : (s.writeRecord q r).power = s.power := by
  unfold State.writeRecord
  dsimp only
  rw [State.queueIrq_power, State.putQueue_power]
  split <;> simp

@[simp] theorem State.holdLine_power (s : State) (q : Nat) : (s.holdLine q).power = s.power := by
  unfold State.holdLine
  dsimp only
  split <;> simp

@[simp] theorem drainHeld_power (n : Nat) (s : State) (q : Nat) : (drainHeld n s q).power = s.power := by
  induction n generalizing s with
  | zero => rfl
  | succ n ih =>
    unfold drainHeld
    split
    · rfl
    · split
      · rfl
      · exact s.holdLine_power q
      · rw [ih, State.writeRecord_power, State.putQueue_power]

@[simp] theorem State.drain_power (s : State) (q : Nat) : (s.drain q).power = s.power := drainHeld_power _ s q

/-! ## Gate enables -/

@[simp] theorem State.gateLinks_power (s : State) : s.gateLinks.power = s.power := by
  refine foldl_power (fun t p => ?_) _ s
  split <;> simp

@[simp] theorem State.gateUpdates_power (s : State) : s.gateUpdates.power = s.power := by
  refine foldl_power (fun t e => ?_) _ s
  split
  · rfl
  · dsimp only
    split <;> simp

@[simp] theorem State.drainAll_power (s : State) : s.drainAll.power = s.power :=
  foldl_power (fun t (e : Nat × QueueSt) => t.drain_power e.1) _ s

/-- New enables change the two enable registers and the two status registers, and no other part of the power state (15 R597). -/
theorem State.setGates_power (s : State) (g : Word) (g1 : BitVec 12) :
    (s.setGates g g1).power = { s.power with
      gate0 := g, gate1 := g1, stat0 := s.power.stat0 ||| (g &&& 0xFFFF00FF#32),
      stat1 := ((s.power.stat1 ||| g1) &&& 0x3FF#12) ||| (g1 &&& 0xC00#12) } := by
  simp [State.setGates]

@[simp] theorem State.setGates_gate1 (s : State) (g : Word) (g1 : BitVec 12) : (s.setGates g g1).power.gate1 = g1 := by
  rw [State.setGates_power]

/-- With BAR0 open, a write of PWR_GATE1 sets the enables to the written ones with the port's own added (15 R597, R600). -/
theorem exec_pwrGateWrite_hi {s : State} (p : Port) (v : Word) (h : s.barOpen = true) :
    exec (.pwrGateWrite p true v) s = .next (s.setGates s.power.gate0 (v.setWidth 12 ||| (1#12 <<< (8 + p.val)))) := by
  simp [exec, execPwrGateWrite, h]

/-- The written enables with one more bit set. -/
theorem getLsbD_setWidth_or_one_shiftLeft (v : Word) {i k : Nat} (hi : i < 12) :
    (v.setWidth 12 ||| (1#12 <<< k)).getLsbD i = (v.getLsbD i || decide (i = k)) := by
  rw [BitVec.getLsbD_or, BitVec.getLsbD_setWidth, ← BitVec.twoPow_eq, BitVec.getLsbD_twoPow]
  by_cases hik : i = k
  · simp [← hik, hi]
  · simp [hik, Ne.symm hik, hi]

/-- Settles O52: the write sets PWR_GATE1 to the written word with the port's own bit added, and what follows a change of
enables leaves them alone. -/
theorem ownGateStaysOpen : Obligations.OwnGateStaysOpen := by
  unfold Obligations.OwnGateStaysOpen
  intro s p v hopen
  have hown : 8 + p.val < 12 := by omega
  refine ⟨_, exec_pwrGateWrite_hi p v hopen, ?own, fun i hi hne => ?others⟩
  case own => rw [State.setGates_gate1, getLsbD_setWidth_or_one_shiftLeft v hown]; simp
  case others => rw [State.setGates_gate1, getLsbD_setWidth_or_one_shiftLeft v hi]; simp [hne]

end Sys2Proof.Machine
end

section
/-!
PROOFS. The security state under the operations that the families share: writes, messages, counters, items, records and rings all
leave it alone (17 R666 speaks of what does not).
-/
namespace Sys2Proof.Machine

/-- A choice between two states keeps the security state when both of them do. -/
theorem sec_ite {c : Prop} [Decidable c] {a b : State} {x : SecSt} (ha : a.sec = x) (hb : b.sec = x) :
    (if c then a else b).sec = x := by
  split
  · exact ha
  · exact hb

/-- A fold leaves the security state alone when each of its steps does. -/
theorem foldl_sec {β : Type} {f : State → β → State} (hf : ∀ t b, (f t b).sec = t.sec) (l : List β) (s : State) :
    (l.foldl f s).sec = s.sec :=
  foldl_keeps (P := fun t => t.sec = s.sec) f (fun t b h => (hf t b).trans h) l s rfl

/-! ## Memory writes and uncorrectable reads -/

@[simp] theorem State.tallyBin_sec (s : State) (off ovf k : Nat) : (s.tallyBin off ovf k).sec = s.sec := s.setTally_sec _

@[simp] theorem State.forget_sec (s : State) (lo hi : Nat) : (s.forget lo hi).sec = s.sec :=
  sec_ite (s.forgetLoc_sec _ _) (foldl_sec (fun t _ => t.forgetLoc_sec _ _) _ s)

@[simp] theorem State.invalidateAt_sec (s : State) (line h : Nat) : (s.invalidateAt line h).sec = s.sec :=
  sec_ite rfl ((State.tallyAdd_sec _ _ _).trans (s.putHub_sec _ _))

@[simp] theorem State.invalidate_sec (s : State) (line : Nat) : (s.invalidate line).sec = s.sec :=
  foldl_sec (fun t h => t.invalidateAt_sec line h) _ s

@[simp] theorem State.fireLinks_sec (s : State) (a n : Nat) : (s.fireLinks a n).sec = s.sec := s.setQueues_sec _

@[simp] theorem State.dropRunner_sec (s : State) (site lo hi : Nat) : (s.dropRunner site lo hi).sec = s.sec :=
  sec_ite rfl (s.putCore_sec _ _)

@[simp] theorem State.writeLine_sec (s : State) (a : Nat) (bs : List Byte) : (s.writeLine a bs).sec = s.sec := by
  unfold State.writeLine
  dsimp only
  split <;> simp

@[simp] theorem State.write_sec (s : State) (a : Nat) (bs : List Byte) : (s.write a bs).sec = s.sec :=
  foldl_sec (fun t (p : Nat × List Byte) => t.writeLine_sec p.1 p.2) _ s

@[simp] theorem State.ueRead_sec (s : State) (a sev : Nat) : (s.ueRead a sev).sec = s.sec := by
  unfold State.ueRead
  split <;> simp

@[simp] theorem State.markUe_sec (s : State) (a : Nat) : (s.markUe a).sec = s.sec := s.setMem_sec _

@[simp] theorem State.noteUe_sec (s : State) (f : Fail) : (s.noteUe f).sec = s.sec := by
  unfold State.noteUe
  split <;> simp

@[simp] theorem writesFor_sec (ws : WinSet) (s : State) (l : List (Nat × List Byte)) : (writesFor ws s l).1.sec = s.sec := by
  induction l generalizing s with
  | nil => rfl
  | cons w l ih =>
    unfold writesFor
    split
    · rfl
    · exact (ih _).trans (s.writeLine_sec _ _)

@[simp] theorem State.writeFor_sec (s : State) (ws : WinSet) (a : Nat) (bs : List Byte) : (s.writeFor ws a bs).1.sec = s.sec :=
  writesFor_sec ws s _

/-! ## Messages between devices -/

@[simp] theorem State.emitFlits_sec (s : State) (l : Nat) (fs : List Flit) : (s.emitFlits l fs).sec = s.sec :=
  foldl_sec (fun t f => t.emit_sec (.flit l f)) fs s

@[simp] theorem State.pumpLink_sec (s : State) (l : Nat) : (s.pumpLink l).sec = s.sec :=
  (State.emitFlits_sec _ _ _).trans (s.putLink_sec _ _)

@[simp] theorem State.sendOn_sec (s : State) (l kind : Nat) (m : MsgHead) (data : List Line) :
    (s.sendOn l kind m data).sec = s.sec :=
  (State.pumpLink_sec _ _).trans ((State.putLink_sec _ _ _).trans (s.emit_sec _))

@[simp] theorem State.sendTo_sec (s : State) (kind : Nat) (m : MsgHead) (data : List Line) :
    (s.sendTo kind m data).sec = s.sec := by
  unfold State.sendTo
  split <;> simp

@[simp] theorem State.originate_sec (s : State) (kind dst mtag arg : Nat) (data : List Line) :
    (s.originate kind dst mtag arg data).sec = s.sec :=
  s.sendTo_sec _ _ _

@[simp] theorem State.takeMsg_sec (s : State) (l kind : Nat) (m : MsgHead) (data : List Line) :
    (s.takeMsg l kind m data).sec = s.sec :=
  s.putLink_sec _ _

@[simp] theorem State.transit_sec (s : State) (kind : Nat) (m : MsgHead) (data : List Line) :
    (s.transit kind m data).sec = s.sec := by
  unfold State.transit
  split
  · exact s.sendOn_sec _ _ _ _
  · exact sec_ite (s.originate_sec _ _ _ _ _) rfl

/-! ## The end of an item -/

@[simp] theorem State.mapItem_sec (s : State) (q k : Nat) (f : Item → Item) : (s.mapItem q k f).sec = s.sec := s.putQueue_sec _ _

@[simp] theorem State.dropChunks_sec (s : State) (h b : Nat) : (s.dropChunks h b).sec = s.sec :=
  foldl_sec (fun t _ => sec_ite rfl (t.putHub_sec _ _)) _ s

@[simp] theorem State.bseqGone_sec (s : State) (q : Nat) (i : Item) : (s.bseqGone q i).sec = s.sec :=
  sec_ite ((State.dropChunks_sec _ _ _).trans (s.putKeHerd_sec _ _)) rfl

@[simp] theorem State.writeReport_sec (s : State) (i : Item) : (s.writeReport i).sec = s.sec := by
  unfold State.writeReport
  split
  · exact sec_ite (s.write_sec _ _) rfl
  · rfl

@[simp] theorem State.endNow_sec (s : State) (q k : Nat) (f : Option Fail) : (s.endNow q k f).1.sec = s.sec := by
  unfold State.endNow
  split
  · rfl
  · split
    · rfl
    · exact (State.putQueue_sec _ _ _).trans ((State.writeReport_sec _ _).trans (sec_ite (s.bseqGone_sec _ _) rfl))

/-! ## Counters and watches -/

@[simp] theorem State.setCounter_sec (s : State) (c : Nat) (v : DWord) : (s.setCounter c v).sec = s.sec := s.setSync_sec _

@[simp] theorem State.dropWatch_sec (s : State) (w : Watch) : (s.dropWatch w).sec = s.sec := s.setSync_sec _

@[simp] theorem State.releaseWaiter_sec (s : State) (w : Watch) : (s.releaseWaiter w).1.sec = s.sec := by
  unfold State.releaseWaiter
  split
  case h_1 => exact s.endNow_sec _ _ _
  case h_2 => exact sec_ite (s.putCore_sec _ _) rfl
  case h_3 => exact (State.msix_sec _ _ _).trans (s.setSync_sec _)

@[simp] theorem State.fireWatch_sec (s : State) (w : Watch) : (s.fireWatch w).1.sec = s.sec :=
  ((s.dropWatch w).releaseWaiter_sec w).trans (s.dropWatch_sec w)

@[simp] theorem fireAll_sec (s : State) (ws : List Watch) : (fireAll s ws).1.sec = s.sec := by
  induction ws generalizing s with
  | nil => rfl
  | cons w ws ih => exact (ih _).trans (s.fireWatch_sec w)

@[simp] theorem State.tryClaim_sec (s : State) (c : Nat) : (s.tryClaim c).1.sec = s.sec := by
  unfold State.tryClaim
  split
  · rfl
  · split <;> simp

@[simp] theorem State.change1_sec (s : State) (c : Nat) (d : DWord) : (s.change1 c d).1.sec = s.sec :=
  (State.tryClaim_sec _ _).trans ((fireAll_sec _ _).trans (s.setCounter_sec _ _))

@[simp] theorem runOps_sec (n : Nat) (s : State) (l : List (Nat × DWord)) : (runOps n s l).sec = s.sec := by
  induction n generalizing s l with
  | zero => rfl
  | succ n ih =>
    cases l with
    | nil => rfl
    | cons e l => exact (ih _ _).trans (s.change1_sec e.1 e.2)

@[simp] theorem State.ops_sec (s : State) (l : List (Nat × DWord)) : (s.ops l).sec = s.sec := runOps_sec _ s l

@[simp] theorem State.signal_sec (s : State) (c : Nat) (d : DWord) : (s.signal c d).sec = s.sec := s.ops_sec _

@[simp] theorem State.place_sec (s : State) (w : Watch) : (s.place w).sec = s.sec :=
  sec_ite ((State.ops_sec _ _).trans ((State.fireWatch_sec _ _).trans (s.setSync_sec _))) (s.setSync_sec _)

@[simp] theorem State.register_sec (s : State) (w : Watch) : (s.register w).sec = s.sec := sec_ite (s.place_sec w) (s.setSync_sec _)

@[simp] theorem State.withdraw_sec (s : State) (who : Waiter) : (s.withdraw who).sec = s.sec := by
  unfold State.withdraw
  dsimp only
  split
  · simp
  · split <;> simp

@[simp] theorem State.withdrawAll_sec (s : State) (gone : Waiter → Bool) : (s.withdrawAll gone).sec = s.sec :=
  (foldl_sec (fun _ _ => (State.ops_sec _ _).trans (State.tryClaim_sec _ _)) _ _).trans
    ((foldl_sec State.dropWatch_sec _ _).trans (s.setSync_sec _))

/-! ## Cores that run a part of an item -/

@[simp] theorem State.releaseCore_sec (s : State) (site : Nat) : (s.releaseCore site).sec = s.sec := by
  unfold State.releaseCore
  dsimp only
  split <;> simp

@[simp] theorem State.unarrive_sec (s : State) (site : Nat) : (s.unarrive site).sec = s.sec := s.setSync_sec _

@[simp] theorem State.leaveWait_sec (s : State) (site : Nat) : (s.leaveWait site).sec = s.sec :=
  sec_ite (s.withdraw_sec _) (sec_ite (s.unarrive_sec site) rfl)

@[simp] theorem State.stopNow_sec (s : State) (site : Nat) : (s.stopNow site).sec = s.sec :=
  (State.putCore_sec _ _ _).trans (s.leaveWait_sec site)

@[simp] theorem State.stopWith_sec (s : State) (site : Nat) (x : StopReq) : (s.stopWith site x).sec = s.sec :=
  sec_ite (s.putCore_sec _ _) ((State.stopNow_sec _ _).trans (s.putCore_sec _ _))

@[simp] theorem State.stopCore_sec (s : State) (site : Nat) : (s.stopCore site).sec = s.sec := s.stopWith_sec site .drop

@[simp] theorem State.stopSave_sec (s : State) (site : Nat) : (s.stopSave site).sec = s.sec := s.stopWith_sec site .save

@[simp] theorem State.settleItem_sec (s : State) (q k : Nat) : (s.settleItem q k).sec = s.sec := by
  have hrelease (l : List Nat) : (l.foldl (fun t c => t.releaseCore c) s).sec = s.sec := foldl_sec State.releaseCore_sec l s
  unfold State.settleItem
  split
  · rfl
  · exact sec_ite (sec_ite ((State.endNow_sec _ _ _ _).trans (hrelease _)) (hrelease _)) rfl

/-! ## Herds -/

@[simp] theorem State.checkCoreHerd_sec (s : State) (h : Nat) : (s.checkCoreHerd h).sec = s.sec :=
  sec_ite ((foldl_sec (fun t _ => sec_ite (t.putCore_sec _ _) rfl) _ _).trans (s.putHerd_sec _ _)) rfl

@[simp] theorem State.releaseBarriers_sec (s : State) (h : Nat) : (s.releaseBarriers h).sec = s.sec :=
  foldl_sec (fun t _ => (State.ops_sec _ _).trans (t.endNow_sec _ _ _)) _ s

@[simp] theorem State.checkFabricHerd_sec (s : State) (h : Nat) : (s.checkFabricHerd h).sec = s.sec :=
  sec_ite ((State.releaseBarriers_sec _ _).trans
    ((foldl_sec (fun t _ => t.originate_sec _ _ _ _ _) _ _).trans (s.putHerd_sec _ _))) rfl

@[simp] theorem State.arriveFabric_sec (s : State) (h : Nat) : (s.arriveFabric h).sec = s.sec :=
  sec_ite ((State.checkFabricHerd_sec _ _).trans (s.putHerd_sec _ _)) (s.originate_sec _ _ _ _ _)

@[simp] theorem State.cancelFabric_sec (s : State) (h : Nat) : (s.cancelFabric h).sec = s.sec :=
  sec_ite (s.putHerd_sec _ _) (s.originate_sec _ _ _ _ _)

/-! ## A failing item -/

@[simp] theorem State.withdrawItem_sec (s : State) (i : Item) : (s.withdrawItem i).sec = s.sec := by
  unfold State.withdrawItem
  split <;> simp

@[simp] theorem State.failItem_sec (s : State) (q k : Nat) (f : Fail) : (s.failItem q k f).sec = s.sec := by
  unfold State.failItem
  dsimp only
  split
  · exact s.noteUe_sec f
  · split
    · rw [State.settleItem_sec, foldl_sec State.stopCore_sec, State.mapItem_sec,
        sec_ite (State.withdrawItem_sec _ _) rfl, State.withdrawAll_sec, State.noteUe_sec]
    · rw [State.settleItem_sec, State.noteUe_sec]

@[simp] theorem State.workDone_sec (s : State) (q k : Nat) : (s.workDone q k).sec = s.sec := s.mapItem_sec _ _ _

@[simp] theorem State.finishNow_sec (s : State) (q k n : Nat) : (s.finishNow q k n).sec = s.sec :=
  (State.ops_sec _ _).trans ((State.endNow_sec _ _ _ _).trans (s.mapItem_sec _ _ _))

/-! ## Records and rings -/

@[simp] theorem State.queueIrq_sec (s : State) (q : Nat) : (s.queueIrq q).sec = s.sec :=
  sec_ite ((State.msix_sec _ _ _).trans (s.putQueue_sec _ _)) rfl

@[simp] theorem State.writeRecord_sec (s : State) (q : Nat) (r : List Byte) : (s.writeRecord q r).sec = s.sec :=
  (State.queueIrq_sec _ _).trans ((State.putQueue_sec _ _ _).trans (sec_ite (s.emit_sec _) (s.write_sec _ _)))

@[simp] theorem State.holdLine_sec (s : State) (q : Nat) : (s.holdLine q).sec = s.sec :=
  sec_ite rfl ((State.logEvent_sec _ _ _ _ _ _ _).trans (s.putQueue_sec _ _))

@[simp] theorem drainHeld_sec (n : Nat) (s : State) (q : Nat) : (drainHeld n s q).sec = s.sec := by
  induction n generalizing s with
  | zero => rfl
  | succ n ih =>
    unfold drainHeld
    split
    · rfl
    · split
      · rfl
      · exact s.holdLine_sec q
      · exact (ih _).trans ((State.writeRecord_sec _ _ _).trans (s.putQueue_sec _ _))

@[simp] theorem State.drain_sec (s : State) (q : Nat) : (s.drain q).sec = s.sec := drainHeld_sec _ s q

@[simp] theorem State.drainFree_sec (s : State) (q : Nat) : (s.drainFree q).sec = s.sec := sec_ite rfl (s.drain_sec q)

@[simp] theorem State.post_sec (s : State) (q : Nat) (r : List Byte) : (s.post q r).sec = s.sec :=
  (State.drainFree_sec _ _).trans (s.putQueue_sec _ _)

@[simp] theorem State.releaseRecord_sec (s : State) (q : Nat) : (s.releaseRecord q).sec = s.sec := by
  unfold State.releaseRecord
  dsimp only
  split
  · simp
  · split <;> simp

end Sys2Proof.Machine
end

section
/-!
PROOFS. The security state under what core programs, tile instructions, audits and saved instances do: none of it writes there.
-/
namespace Sys2Proof.Machine

/-! ## Issue and the sequencer -/

/-- An instruction keeps the security state when its effect does. -/
theorem State.issueAt_sec {s : State} {site : Nat} {w : Word} {f : Core → Run → State} (hf : ∀ k r, (f k r).sec = s.sec) :
    (s.issueAt site w f).sec = s.sec := by
  obtain h | ⟨r, -, h⟩ := s.issueAt_cases site w f
  · rw [h]
  · rw [h, hf]

@[simp] theorem State.failAt_sec (s : State) (site status : Nat) : (s.failAt site status).sec = s.sec := by
  unfold State.failAt
  split <;> simp

@[simp] theorem State.malformedAt_sec (s : State) (site : Nat) : (s.malformedAt site).sec = s.sec := s.failAt_sec site _

@[simp] theorem State.failCore_sec (s : State) (site : Nat) (f : Fail) : (s.failCore site f).sec = s.sec := by
  unfold State.failCore
  split <;> simp

/-- A tile instruction keeps the security state when its effect does. -/
theorem State.tileIssue_sec {s : State} {site top : Nat} {w : TWord} {f : Core → Run → State} (hf : ∀ k r, (f k r).sec = s.sec) :
    (s.tileIssue site top w f).sec = s.sec := by
  obtain h | h | ⟨r, -, -, -, -, h⟩ := s.tileIssue_cases site top w f
  · rw [h]
  · rw [h, State.malformedAt_sec]
  · rw [h, hf]

/-- An access to core memory keeps the security state when its effect does. -/
theorem State.withMem_sec {s : State} {site : Nat} {m : MemCheck} {k : State} (hk : k.sec = s.sec) :
    (s.withMem site m k).sec = s.sec := by
  obtain ⟨-, h⟩ | ⟨-, h⟩ | ⟨f, -, h⟩ | ⟨-, h⟩ := s.withMem_cases site m k
  · rw [h, hk]
  · rw [h]
  · rw [h, State.failCore_sec]
  · rw [h, State.malformedAt_sec]

@[simp] theorem State.seqTo_sec (s : State) (site : Nat) (x : SeqState) : (s.seqTo site x).sec = s.sec := s.putCore_sec _ _
@[simp] theorem State.writeS_sec (s : State) (site d : Nat) (v : DWord) : (s.writeS site d v).sec = s.sec := s.seqTo_sec _ _
@[simp] theorem State.writeP_sec (s : State) (site d : Nat) (v : DWord) : (s.writeP site d v).sec = s.sec := s.seqTo_sec _ _
@[simp] theorem State.writeV_sec (s : State) (site d : Nat) (v : Vector Word 64) : (s.writeV site d v).sec = s.sec :=
  s.seqTo_sec _ _
@[simp] theorem State.writeVF_sec (s : State) (site : Nat) (r : Run) (d p : Nat) (f : Nat → Word) (fl : Nat → Flags) :
    (s.writeVF site r d p f fl).sec = s.sec :=
  s.putCore_sec _ _
@[simp] theorem State.jump_sec (s : State) (site : Nat) (x : SeqState) (target : BitVec 14) : (s.jump site x target).sec = s.sec :=
  sec_ite (s.malformedAt_sec site) (s.putCore_sec _ _)

/-! ## Families of instructions -/

section Instructions

variable (s : State) (c : Site) (d a b : Reg) (p : PReg) (sb : Bool)

@[simp] theorem scalarRR_sec (op : Nat) (f : DWord → DWord → DWord) : (scalarRR op f c d a b s).sec = s.sec :=
  State.issueAt_sec fun _ _ => s.writeS_sec _ _ _

@[simp] theorem scalarRI_sec (op : Nat) (f : DWord → DWord → DWord) (imm : BitVec 12) : (scalarRI op f c d a imm s).sec = s.sec :=
  State.issueAt_sec fun _ _ => s.writeS_sec _ _ _

@[simp] theorem movk_sec (h : Nat) (imm : BitVec 16) : (movk h c d imm s).sec = s.sec :=
  State.issueAt_sec fun _ _ => s.writeS_sec _ _ _

@[simp] theorem branchIf_sec (op : Nat) (cond : DWord → Bool) (t : BitVec 14) : (branchIf op cond c a t s).sec = s.sec :=
  State.issueAt_sec fun _ _ => sec_ite (s.jump_sec _ _ _) (s.seqTo_sec _ _)

@[simp] theorem loadN_sec (op n : Nat) (imm : BitVec 12) : (loadN op n c d a imm s).sec = s.sec :=
  State.issueAt_sec fun _ _ => State.withMem_sec (s.writeS_sec _ _ _)

@[simp] theorem storeN_sec (op n : Nat) (imm : BitVec 12) : (storeN op n c d a imm s).sec = s.sec :=
  State.issueAt_sec fun _ _ => State.withMem_sec ((State.seqTo_sec _ _ _).trans (s.write_sec _ _))

@[simp] theorem vecF_sec (op : Nat) (f : Word → Word → Word → Word) (inv : Val → Val → Val → Bool) (third : Bool) :
    (vecF op f inv third c d a b p sb s).sec = s.sec :=
  State.issueAt_sec fun _ _ => s.writeVF_sec _ _ _ _ _ _

@[simp] theorem vecE_sec (op : Nat) (f : Word → Word) : (vecE op f c d a p s).sec = s.sec :=
  State.issueAt_sec fun _ _ => s.writeVF_sec _ _ _ _ _ _

@[simp] theorem vecCmp_sec (op : Nat) (f : Val → Val → Bool) : (vecCmp op f c d a b p sb s).sec = s.sec :=
  State.issueAt_sec fun _ _ => sec_ite (s.malformedAt_sec _) (s.writeP_sec _ _ _)

@[simp] theorem vecI_sec (op : Nat) (f : Word → Word → Word) : (vecI op f c d a b p sb s).sec = s.sec :=
  State.issueAt_sec fun _ _ => s.writeV_sec _ _ _

@[simp] theorem predOp_sec (op : Nat) (f : DWord → DWord → DWord) : (predOp op f c d a b p s).sec = s.sec :=
  State.issueAt_sec fun _ _ => s.writeP_sec _ _ _

@[simp] theorem vecReduce_sec (op : Nat) (f : Word → Word → Word) (ident : Word) : (vecReduce op f ident c d a p s).sec = s.sec :=
  State.issueAt_sec fun _ _ => s.writeS_sec _ _ _

end Instructions

@[simp] theorem haltInstance_sec (s : State) (site : Nat) (r : Run) : (haltInstance s site r).sec = s.sec :=
  (State.mapItem_sec _ _ _ _).trans ((State.putCore_sec _ _ _).trans (s.releaseCore_sec site))

/-! ## Streams and slots -/

@[simp] theorem State.takeSlot_sec (s : State) (site : Nat) (o : SlotOp) : (s.takeSlot site o).sec = s.sec := s.seqTo_sec _ _

@[simp] theorem State.setSlot_sec (s : State) (site i : Nat) (o : Option SlotOp) : (s.setSlot site i o).sec = s.sec :=
  s.putCore_sec _ _

@[simp] theorem State.slotsMoved_sec (s : State) (site : Nat) : (s.slotsMoved site).sec = s.sec := by
  unfold State.slotsMoved
  dsimp only
  split
  · exact (State.settleItem_sec _ _ _).trans (sec_ite (s.putCore_sec _ _) rfl)
  · exact sec_ite (s.putCore_sec _ _) rfl

@[simp] theorem State.freeDelivered_sec (s : State) (stream : Nat) (d : Desc) (a : Nat → ArrayState) (pos : Nat) :
    (s.freeDelivered stream d a pos).sec = s.sec :=
  s.setMem_sec _

@[simp] theorem State.bufferEcc_sec (s : State) (stream : Nat) (lines : List Nat) (es : List (BitVec 42 × EccFact)) :
    (s.bufferEcc stream lines es).sec = s.sec := by
  refine foldl_sec (fun t e => sec_ite ?_ rfl) _ s
  split
  · rfl
  · exact t.putHub_sec _ _
  · exact t.putHub_sec _ _

@[simp] theorem State.consume_sec (s : State) (stream ctx : Nat) (ws : WinSet) (a : ArrayState) (count : Nat) (bad : Fail)
    (es : List (BitVec 42 × EccFact)) : (s.consume stream ctx ws a count bad es).1.sec = s.sec := by
  unfold State.consume
  dsimp only
  split
  · rfl
  · split
    · exact s.bufferEcc_sec _ _ _
    · exact (State.freeDelivered_sec _ _ _ _ _).trans ((State.putStream_sec _ _ _).trans (s.bufferEcc_sec _ _ _))

/-! ## Tiles -/

@[simp] theorem State.shapeAt_sec (s : State) (site : Nat) : (s.shapeAt site).sec = s.sec := s.failAt_sec site _

@[simp] theorem rowToMemory_sec (s : State) (site : Nat) (w : TWord) (m : Nat) (row : List Nat × List Nat × Flags) :
    (rowToMemory s site w m row).sec = s.sec :=
  sec_ite (s.write_sec _ _) ((State.write_sec _ _ _).trans (s.write_sec _ _))

@[simp] theorem readOut_sec (s : State) (site : Nat) (x : Pass) (r : Run) (m : Nat) : (readOut s site x r m).sec = s.sec :=
  sec_ite (s.putCore_sec _ _) ((rowToMemory_sec _ _ _ _ _).trans (s.putCore_sec _ _))

@[simp] theorem State.readOn_sec (s : State) (site : Nat) (x : Pass) (r : Run) : (s.readOn site x r).sec = s.sec := by
  have hrows (l : List Nat) : (l.foldl (fun t m => readOut t site x r m) s).sec = s.sec :=
    foldl_sec (fun t m => readOut_sec t site x r m) l s
  exact sec_ite ((State.putCore_sec _ _ _).trans (hrows _))
    (sec_ite ((State.failAt_sec _ _ _).trans ((State.putCore_sec _ _ _).trans (hrows _))) ((State.putCore_sec _ _ _).trans (hrows _)))

@[simp] theorem State.perform_sec (s : State) (site : Nat) (x : Pass) (r : Run) : (s.perform site x r).sec = s.sec := by
  unfold State.perform
  dsimp only
  split
  · exact s.putCore_sec _ _
  · exact s.putCore_sec _ _
  · exact s.readOn_sec _ _ _
  · exact (State.write_sec _ _ _).trans (s.putCore_sec _ _)
  · split
    · exact s.failCore_sec _ _
    · exact s.putCore_sec _ _

@[simp] theorem runTile_sec (n : Nat) (s : State) (site : Nat) : (runTile n s site).sec = s.sec := by
  induction n generalizing s with
  | zero => rfl
  | succ n ih =>
    unfold runTile
    dsimp only
    split
    · exact sec_ite rfl ((ih _).trans (s.perform_sec _ _ _))
    · rfl

@[simp] theorem State.tilesOn_sec (s : State) (site : Nat) : (s.tilesOn site).sec = s.sec := runTile_sec _ s site

@[simp] theorem retirePass_sec (s : State) (site : Nat) (x : Pass) : (retirePass s site x).sec = s.sec := by
  unfold retirePass
  dsimp only
  split
  · rfl
  · split
    · exact s.putCore_sec _ _
    · exact (State.tilesOn_sec _ _).trans
        (sec_ite ((State.failAt_sec _ _ _).trans (s.putCore_sec _ _)) ((State.settleItem_sec _ _ _).trans (s.putCore_sec _ _)))

/-! ## Audits and lost cores -/

@[simp] theorem State.logAt_sec (s : State) (dtc : DWord) (c k u v x y : Nat) : (s.logAt dtc c k u v x y).sec = s.sec :=
  (State.setFault_sec _ _).trans (s.logEvent_sec _ _ _ _ _ _)

@[simp] theorem State.mapHerds_sec (s : State) (f : Herd → Herd) : (s.mapHerds f).sec = s.sec := s.setSync_sec _

@[simp] theorem State.failSite_sec (s : State) (site : Nat) : (s.failSite site).sec = s.sec := by
  unfold State.failSite
  dsimp only
  split
  · exact s.setStart_sec _
  · split <;> simp

@[simp] theorem State.settleSave_sec (s : State) (q k : Nat) : (s.settleSave q k).sec = s.sec :=
  sec_ite ((State.putQueue_sec _ _ _).trans (s.mapItem_sec _ _ _)) rfl

@[simp] theorem State.loseRun_sec (s : State) (site lcore : Nat) (r : Run) : (s.loseRun site lcore r).sec = s.sec := by
  unfold State.loseRun
  dsimp only
  split
  · simp
  · split
    · simp
    · split <;> simp

@[simp] theorem State.checkCoreHerds_sec (s : State) : s.checkCoreHerds.sec = s.sec :=
  foldl_sec (fun t (e : Nat × Herd) => t.checkCoreHerd_sec e.1) _ s

@[simp] theorem State.loseCore_sec (s : State) (site cause : Nat) (fails : Bool) : (s.loseCore site cause fails).sec = s.sec := by
  unfold State.loseCore
  dsimp only
  rw [State.checkCoreHerds_sec]
  split <;> split <;> simp

@[simp] theorem State.auditOver_sec (s : State) (site : Nat) : (s.auditOver site).sec = s.sec := by
  unfold State.auditOver
  dsimp only
  split
  · exact s.putCore_sec _ _
  · split <;> simp

/-! ## Instances that start, are saved and are restored -/

@[simp] theorem State.beginInstance_sec (s : State) (q site inst : Nat) (i : Item) : (s.beginInstance q site inst i).sec = s.sec := by
  unfold State.beginInstance
  dsimp only
  split
  · exact s.failItem_sec _ _ _
  · exact sec_ite ((State.malformedAt_sec _ _).trans (s.putCore_sec _ _)) (s.putCore_sec _ _)

@[simp] theorem State.saveCore_sec (s : State) (site lcore : Nat) (k : Core) (r : Run) : (s.saveCore site lcore k r).sec = s.sec := by
  have hsave (a : Nat) (x y : List Byte) : ((s.write a x).write (a + 0x90000) y).sec = s.sec := by simp
  have hopen (a : Nat) (l : List (Nat × Nat)) (t : State) :
      (l.foldl (fun u p => u.forget (a + p.1) (a + p.2)) t).sec = t.sec := foldl_sec (fun u _ => u.forget_sec _ _) l t
  exact sec_ite (hsave _ _ _) ((hopen _ _ _).trans (hsave _ _ _))

@[simp] theorem State.matCore_sec (s : State) (site : Nat) (r : Run) (t : TileState) (wake : BitVec 16) :
    (s.matCore site r t wake).sec = s.sec :=
  (State.forget_sec _ _ _).trans (s.putCore_sec _ _)

@[simp] theorem State.restoreJob_sec (s : State) (site : Nat) (x : SavedRun) : (s.restoreJob site x).sec = s.sec :=
  (State.tilesOn_sec _ _).trans ((State.write_sec _ _ _).trans (s.putCore_sec _ _))

@[simp] theorem State.restageMat_sec (s : State) (site : Nat) (i : Item) (x : SavedRun) : (s.restageMat site i x).sec = s.sec := by
  unfold State.restageMat
  dsimp only
  split
  · exact sec_ite rfl ((State.tallyAdd_sec _ _ _).trans (s.putCore_sec _ _))
  · rfl

@[simp] theorem State.restoreMat_sec (s : State) (q k site : Nat) (x : SavedRun) : (s.restoreMat q k site x).sec = s.sec := by
  -- unfolded as an equation of functions, so that the kernel need not evaluate the item that the definition looks up
  obtain ⟨f, hf⟩ : ∃ f, f = @State.restoreMat := ⟨_, rfl⟩
  have h : s.restoreMat q k site x = f s q k site x := by rw [hf]
  delta State.restoreMat at hf
  rw [hf] at h
  dsimp only at h
  rw [h]
  have ht := s.matCore_sec site x.run (s.readTile (s.saveRegion x.run.ctx x.lcore) x) (BitVec.allOnes 16)
  generalize s.matCore _ _ _ _ = t at ht ⊢
  split
  · exact (t.restageMat_sec _ _ _).trans ht
  · exact ht

@[simp] theorem State.loseSaved_sec (s : State) (q k : Nat) (x : SavedRun) : (s.loseSaved q k x).sec = s.sec := by
  unfold State.loseSaved
  dsimp only
  split
  · simp
  · split <;> simp

@[simp] theorem State.resumeRun_sec (s : State) (q k : Nat) (x : SavedRun) : (s.resumeRun q k x).sec = s.sec := by
  unfold State.resumeRun
  split
  · exact s.loseSaved_sec _ _ _
  · refine sec_ite (s.loseSaved_sec _ _ _) (sec_ite rfl ?_)
    split
    · exact s.failItem_sec _ _ _
    · exact sec_ite ((State.restoreJob_sec _ _ _).trans (s.mapItem_sec _ _ _))
        ((State.restoreMat_sec _ _ _ _ _).trans (s.mapItem_sec _ _ _))

@[simp] theorem State.resumeItem_sec (s : State) (q k : Nat) : (s.resumeItem q k).sec = s.sec := by
  unfold State.resumeItem
  split
  · rfl
  · refine (foldl_sec (fun t x => ?_) _ _).trans (s.mapItem_sec _ _ _)
    split
    · exact sec_ite (t.resumeRun_sec _ _ _) rfl
    · rfl

@[simp] theorem State.stageMarks_sec (s : State) (site : Nat) (i : Item) (region : Nat) : (s.stageMarks site i region).sec = s.sec :=
  (State.setFreeCount_sec _ _).trans (s.putCore_sec _ _)

@[simp] theorem State.takeRegion_sec (s : State) (q site region : Nat) (i : Item) : (s.takeRegion q site region i).sec = s.sec :=
  (State.stageMarks_sec _ _ _ _).trans (s.matCore_sec _ _ _ _)

end Sys2Proof.Machine
end

section
/-!
PROOFS. The security state under the engines' work: lists and items, collectives, copies and streams, updates and MATMUL, none of
which writes there.
-/
namespace Sys2Proof.Machine

/-! ## Lists and the start of an item -/

@[simp] theorem State.acceptList_sec (s : State) (q base : Nat) (w : Walk) (link : Nat) : (s.acceptList q base w link).sec = s.sec :=
  (State.post_sec _ _ _).trans (s.putQueue_sec _ _)

@[simp] theorem State.refuseList_sec (s : State) (q base reason off : Nat) : (s.refuseList q base reason off).sec = s.sec :=
  sec_ite ((State.post_sec _ _ _).trans (s.putQueue_sec _ _)) (s.putQueue_sec _ _)

@[simp] theorem State.takeList_sec (s : State) (q base : Nat) : (s.takeList q base).sec = s.sec := by
  unfold State.takeList
  dsimp only
  split
  · exact (State.refuseList_sec _ _ _ _ _).trans (foldl_sec (fun t a => t.ueRead_sec a 2) _ s)
  · rfl
  · exact sec_ite rfl (s.acceptList_sec _ _ _ _)

@[simp] theorem State.begin_sec (s : State) (q k : Nat) : (s.begin q k).sec = s.sec :=
  (State.mapItem_sec _ _ _ _).trans (s.setTurns_sec _)

/-- The start of an item keeps the security state when what its kind does then keeps it. -/
theorem State.startItem_sec {s : State} {q k op : Nat} {fields : Item → List (Nat × Bool)} {go : State → Item → State}
    (hgo : ∀ t i, (go t i).sec = t.sec) : (s.startItem q k op fields go).sec = s.sec := by
  obtain h | ⟨f, h⟩ | ⟨_, j, -, -, -, -, -, -, h⟩ := s.startItem_cases q k op fields go
  · rw [h]
  · rw [h, State.failItem_sec, State.begin_sec]
  · rw [h, hgo, State.begin_sec]

@[simp] theorem State.setWork_sec (s : State) (q k : Nat) (w : Work) : (s.setWork q k w).sec = s.sec := s.mapItem_sec _ _ _

@[simp] theorem State.take1_sec (s : State) (q k site : Nat) : (s.take1 q k site).sec = s.sec := s.putCore_sec _ _

@[simp] theorem State.collect_sec (s : State) (q k : Nat) : (s.collect q k).sec = s.sec := foldl_sec (fun t x => t.take1_sec q k x) _ s

@[simp] theorem State.flagWord_sec (s : State) (i : Item) : (s.flagWord i).1.sec = s.sec := by
  unfold State.flagWord
  split
  · split
    · rfl
    · exact s.writeFor_sec _ _ _
  · rfl

@[simp] theorem State.askPoint_sec (s : State) (q : Nat) : (s.askPoint q).sec = s.sec := s.putQueue_sec _ _

@[simp] theorem State.askNow_sec (s : State) (q : Nat) : (s.askNow q).sec = s.sec :=
  (foldl_sec (fun t _ => (State.settleSave_sec _ _ _).trans (foldl_sec State.stopSave_sec _ t)) _ _).trans
    ((State.putQueue_sec _ _ _).trans ((State.withdrawAll_sec _ _).trans (s.putQueue_sec _ _)))

/-! ## Collectives -/

@[simp] theorem State.setKeWork_sec (s : State) (q k : Nat) (w : KeWork) : (s.setKeWork q k w).sec = s.sec := s.setWork_sec _ _ _

@[simp] theorem State.keAdds_sec (s : State) (hub n : Nat) : (s.keAdds hub n).sec = s.sec := s.putHub_sec _ _

@[simp] theorem State.keSend_sec (s : State) (q k op : Nat) (w : KeWork) (j : Nat) (gather : Bool) (t : Nat) (v : Line) :
    (s.keSend q k op w j gather t v).sec = s.sec := by
  unfold State.keSend
  dsimp only
  split
  · exact s.sendOn_sec _ _ _ _
  · exact sec_ite (s.sendTo_sec _ _ _) (s.failItem_sec _ _ _)

@[simp] theorem State.keResult_sec (s : State) (q k : Nat) (i : Item) (w : KeWork) (j : Nat) (v : Line) :
    (s.keResult q k i w j v).sec = s.sec := by
  unfold State.keResult
  split
  · exact (State.mapItem_sec _ _ _ _).trans (s.setKeWork_sec _ _ _)
  · dsimp only
    split
    · exact (State.failItem_sec _ _ _ _).trans (s.writeFor_sec _ _ _)
    · exact (State.putHub_sec _ _ _).trans
        ((State.mapItem_sec _ _ _ _).trans ((State.setKeWork_sec _ _ _ _).trans (s.writeFor_sec _ _ _)))

@[simp] theorem keActs_sec (q k op j : Nat) (l : List KeAct) (s : State) : (keActs q k op j l s).sec = s.sec := by
  induction l generalizing s with
  | nil => rfl
  | cons a l ih =>
    unfold keActs
    split
    · rfl
    · rw [ih]
      split <;> simp

@[simp] theorem State.keMove_sec (s : State) (q k op j : Nat) (r : KeLine × List KeAct) (reduced : Bool) (v : Line) :
    (s.keMove q k op j r reduced v).sec = s.sec := by
  unfold State.keMove
  split
  · rfl
  · exact (keActs_sec _ _ _ _ _ _).trans (s.setKeWork_sec _ _ _)

@[simp] theorem State.kePartial_sec (s : State) (q k op j t : Nat) (x : Line) : (s.kePartial q k op j t x).sec = s.sec := by
  unfold State.kePartial
  split
  · rfl
  · exact sec_ite (s.keMove_sec _ _ _ _ _ _ _)
      ((State.keMove_sec _ _ _ _ _ _ _ _).trans ((State.setKeWork_sec _ _ _ _).trans
        ((State.mapItem_sec _ _ _ _).trans (s.keAdds_sec _ _))))

@[simp] theorem keRun_sec (q k op n : Nat) (s : State) : (keRun q k op n s).sec = s.sec := by
  induction n generalizing s with
  | zero => rfl
  | succ n ih =>
    unfold keRun
    split
    · rfl
    · split
      · rw [ih]
        split <;> simp
      · split
        · simp [ih]
        · split <;> simp

@[simp] theorem State.keLineStart_sec (s : State) (q k op j : Nat) : (s.keLineStart q k op j).sec = s.sec := by
  unfold State.keLineStart
  split
  · rfl
  · split
    · split
      · exact s.failItem_sec _ _ _
      · exact (State.keMove_sec _ _ _ _ _ _ _ _).trans ((State.setKeWork_sec _ _ _ _).trans
          ((State.mapItem_sec _ _ _ _).trans (s.keAdds_sec _ _)))
    · split
      · exact s.setKeWork_sec _ _ _
      · split
        · exact s.failItem_sec _ _ _
        · exact s.keMove_sec _ _ _ _ _ _ _

@[simp] theorem State.dropHeld_sec (s : State) (h b : Nat) : (s.dropHeld h b).sec = s.sec := foldl_sec (fun t _ => t.putHub_sec _ _) _ s

@[simp] theorem State.keTake_sec (s : State) (q k op hub : Nat) (c : HeldChunk) : (s.keTake q k op hub c).sec = s.sec := by
  unfold State.keTake
  split
  · rfl
  · exact sec_ite ((State.logEvent_sec _ _ _ _ _ _ _).trans (s.putHub_sec _ _)) (s.setKeWork_sec _ _ _)

@[simp] theorem State.keBegin_sec (s : State) (q k op h b : Nat) (w : KeWork) : (s.keBegin q k op h b w).sec = s.sec := by
  have hlines (l : List Nat) (t : State) : (l.foldl (fun u j => u.keLineStart q k op j) t).sec = t.sec :=
    foldl_sec (fun u j => u.keLineStart_sec q k op j) l t
  have hstart : ∀ x, (((s.putKeHerd h x).setKeWork q k w)).sec = s.sec := fun x =>
    (State.setKeWork_sec _ _ _ _).trans (s.putKeHerd_sec _ _)
  exact sec_ite ((State.dropChunks_sec _ _ _).trans ((hlines _ _).trans (hstart _)))
    ((keRun_sec _ _ _ _ _).trans ((foldl_sec (fun t _ => t.keTake_sec _ _ _ _ _) _ _).trans
      ((State.dropHeld_sec _ _ _).trans ((hlines _ _).trans (hstart _)))))

@[simp] theorem State.keStart_sec (q k op : Nat) (s : State) (i : Item) : (State.keStart q k op s i).sec = s.sec := by
  unfold State.keStart
  refine sec_ite (s.failItem_sec _ _ _) ?_
  split
  · exact s.failItem_sec _ _ _
  · refine sec_ite (s.failItem_sec _ _ _) ?_
    split
    · exact s.failItem_sec _ _ _
    · exact s.keBegin_sec _ _ _ _ _ _

@[simp] theorem State.keItem_sec (s : State) (q k op : Nat) : (s.keItem q k op).sec = s.sec := by
  unfold State.keItem
  split
  · rfl
  · exact sec_ite (sec_ite rfl ((State.mapItem_sec _ _ _ _).trans (s.setKeWork_sec _ _ _)))
      (State.startItem_sec fun t i => t.keStart_sec q k op i)

@[simp] theorem State.chunkHere_sec (s : State) (l : Nat) (c : HeldChunk) : (s.chunkHere l c).sec = s.sec := by
  unfold State.chunkHere
  dsimp only
  split
  · split
    · rfl
    · exact (keRun_sec _ _ _ _ _).trans ((State.keTake_sec _ _ _ _ _ _).trans (s.takeMsg_sec _ _ _ _))
  · exact sec_ite (sec_ite rfl ((State.putHub_sec _ _ _).trans (s.takeMsg_sec _ _ _ _)))
      ((State.putHub_sec _ _ _).trans (s.takeMsg_sec _ _ _ _))

/-! ## Copies, gathers and streams -/

@[simp] theorem State.noteReq_sec (s : State) (r : OutReq) : (s.noteReq r).sec = s.sec := s.setFab_sec _

@[simp] theorem State.settleCopy_sec (s : State) (q k : Nat) : (s.settleCopy q k).sec = s.sec := by
  unfold State.settleCopy
  split
  · rfl
  · split
    · exact sec_ite rfl (sec_ite ((State.workDone_sec _ _ _).trans (s.mapItem_sec _ _ _)) (s.mapItem_sec _ _ _))
    · rfl

@[simp] theorem State.copyPiece_sec (s : State) (q : Nat) (i : Item) (row t : Nat) : (s.copyPiece q i row t).sec = s.sec := by
  unfold State.copyPiece
  dsimp only
  split
  · split
    · exact s.failItem_sec _ _ _
    · refine sec_ite (s.failItem_sec _ _ _) ?_
      split
      · rfl
      · exact (State.setWork_sec _ _ _ _).trans ((State.originate_sec _ _ _ _ _ _).trans (s.noteReq_sec _))
  · split
    · exact s.failItem_sec _ _ _
    · split
      · refine sec_ite (s.failItem_sec _ _ _) (sec_ite (s.failItem_sec _ _ _) ?_)
        split
        · rfl
        · exact (State.setWork_sec _ _ _ _).trans (sec_ite ((State.originate_sec _ _ _ _ _ _).trans (s.noteReq_sec _))
            ((State.originate_sec _ _ _ _ _ _).trans (s.noteReq_sec _)))
      · split
        · exact (State.failItem_sec _ _ _ _).trans (s.writeFor_sec _ _ _)
        · exact (State.setWork_sec _ _ _ _).trans (s.writeFor_sec _ _ _)

@[simp] theorem copyPieces_sec (q k n : Nat) (s : State) : (copyPieces q k n s).sec = s.sec := by
  induction n generalizing s with
  | zero => rfl
  | succ n ih =>
    unfold copyPieces
    split
    · rfl
    · split
      · exact sec_ite ((ih _).trans ((State.settleCopy_sec _ _ _).trans (s.copyPiece_sec _ _ _ _))) rfl
      · rfl

@[simp] theorem gatherLines_sec (q k n : Nat) (s : State) : (gatherLines q k n s).sec = s.sec := by
  induction n generalizing s with
  | zero => rfl
  | succ n ih =>
    unfold gatherLines
    split
    · rfl
    · split
      · dsimp only
        split
        · rfl
        · split
          · exact s.failItem_sec _ _ _
          · split
            · exact (State.failItem_sec _ _ _ _).trans (s.writeFor_sec _ _ _)
            · rw [ih]
              split <;> simp
      · rfl

@[simp] theorem State.freeStream_sec (s : State) (n : Nat) : (s.freeStream n).sec = s.sec :=
  (State.setMem_sec _ _).trans (s.putStream_sec _ _)

/-! ## Updates -/

@[simp] theorem State.setUpd_sec (s : State) (q k : Nat) (w : UpdWork) : (s.setUpd q k w).sec = s.sec := s.setWork_sec _ _ _

@[simp] theorem State.oxCount_sec (s : State) (h : Nat) (f : HubSt → HubSt) : (s.oxCount h f).sec = s.sec := s.putHub_sec _ _

@[simp] theorem checkPass_sec (q k : Nat) (u : Upd) (l : List Nat) (s : State) : (checkPass q k u l s).sec = s.sec := by
  induction l generalizing s with
  | nil => rfl
  | cons b bs ih =>
    unfold checkPass
    split
    · rfl
    · split
      · exact s.failItem_sec _ _ _
      · rw [ih]
        exact sec_ite ((State.oxCount_sec _ _ _).trans (s.setUpd_sec _ _ _)) (s.setUpd_sec _ _ _)

@[simp] theorem State.updStart_sec (q k : Nat) (s : State) (i : Item) : (State.updStart q k s i).sec = s.sec := by
  unfold State.updStart
  refine sec_ite (s.failItem_sec _ _ _) ?_
  split
  · exact s.failItem_sec _ _ _
  · refine sec_ite (s.failItem_sec _ _ _) ?_
    split
    · exact s.failItem_sec _ _ _
    · split
      · exact s.failItem_sec _ _ _
      · exact s.failItem_sec _ _ _
      · exact s.failItem_sec _ _ _
      · exact (checkPass_sec _ _ _ _ _).trans ((State.mapItem_sec _ _ _ _).trans (s.setUpd_sec _ _ _))

@[simp] theorem State.writeAll_sec (s : State) (ws : WinSet) (l : List (Nat × List Byte)) : (s.writeAll ws l).1.sec = s.sec := by
  unfold State.writeAll
  dsimp only
  split
  · rfl
  · exact foldl_sec (fun t (w : Nat × List Byte) => t.writeLine_sec w.1 w.2) _ s

@[simp] theorem State.blockDone_sec (s : State) (q k b : Nat) (f : UpdWork → UpdWork) (fl : Flags) :
    (s.blockDone q k b f fl).sec = s.sec := by
  unfold State.blockDone
  split
  · rfl
  · exact sec_ite ((State.workDone_sec _ _ _).trans ((State.mapItem_sec _ _ _ _).trans (s.setUpd_sec _ _ _)))
      ((State.mapItem_sec _ _ _ _).trans (s.setUpd_sec _ _ _))

@[simp] theorem State.blockWrites_sec (s : State) (q k b : Nat) (ws : WinSet) (l : List (Nat × List Byte)) (hub : Nat)
    (f : UpdWork → UpdWork) (g : HubSt → HubSt) (fl : Flags) : (s.blockWrites q k b ws l hub f g fl).sec = s.sec := by
  unfold State.blockWrites
  dsimp only
  split
  · exact (State.failItem_sec _ _ _ _).trans ((State.mapItem_sec _ _ _ _).trans (s.writeAll_sec _ _))
  · exact (State.blockDone_sec _ _ _ _ _ _).trans ((State.oxCount_sec _ _ _).trans (s.writeAll_sec _ _))

@[simp] theorem State.blockNormal_sec (s : State) (q k b : Nat) (i : Item) (w : UpdWork) (u : Upd) (h : BlockHdr) :
    (s.blockNormal q k b i w u h).sec = s.sec := by
  unfold State.blockNormal
  dsimp only
  split
  · exact s.failItem_sec _ _ _
  · exact sec_ite (s.failItem_sec _ _ _)
      (sec_ite (s.blockWrites_sec _ _ _ _ _ _ _ _ _) (s.blockWrites_sec _ _ _ _ _ _ _ _ _))

@[simp] theorem State.mainBlock_sec (s : State) (q k b : Nat) (i : Item) (w : UpdWork) (u : Upd) :
    (s.mainBlock q k b i w u).sec = s.sec := by
  have hskew (v : UpdWork) (n : Nat) (f : HubSt → HubSt) : ((s.setUpd q k v).oxCount n f).sec = s.sec :=
    (State.oxCount_sec _ _ _).trans (s.setUpd_sec _ _ _)
  unfold State.mainBlock
  dsimp only
  split
  · exact s.failItem_sec _ _ _
  · refine sec_ite (s.blockDone_sec _ _ _ _ _) (sec_ite (s.blockDone_sec _ _ _ _ _) (sec_ite ?_ ?_))
    · exact sec_ite ((State.blockDone_sec _ _ _ _ _ _).trans (hskew _ _ _)) ((State.failItem_sec _ _ _ _).trans (hskew _ _ _))
    · exact sec_ite (s.blockWrites_sec _ _ _ _ _ _ _ _ _)
        (sec_ite (s.blockWrites_sec _ _ _ _ _ _ _ _ _) (s.blockNormal_sec _ _ _ _ _ _ _))

/-! ## MATMUL -/

@[simp] theorem takeKeeper_sec (s : State) (i : Item) (c : MatCmd) (p : MatPass) (es : List (BitVec 42 × EccFact)) :
    (takeKeeper s i c p es).1.sec = s.sec := by
  unfold takeKeeper
  split
  · exact s.consume_sec _ _ _ _ _ _ _
  · rfl

@[simp] theorem writeRows_sec (ws : WinSet) (l : List (Nat × List Byte)) (s : State) : (writeRows ws l s).1.sec = s.sec := by
  induction l generalizing s with
  | nil => rfl
  | cons w l ih =>
    unfold writeRows
    dsimp only
    split
    · exact s.writeFor_sec _ _ _
    · exact (ih _).trans (s.writeFor_sec _ _ _)

@[simp] theorem State.nextRegion_sec (s : State) (q site : Nat) (i : Item) : (s.nextRegion q site i).sec = s.sec := by
  unfold State.nextRegion
  split
  · dsimp only
    split <;> split <;> simp
  · rfl

@[simp] theorem State.matPass_sec (s : State) (q site : Nat) (i : Item) (r : Run) (p : MatPass) (es : List (BitVec 42 × EccFact)) :
    (s.matPass q site i r p es).sec = s.sec := by
  unfold State.matPass
  dsimp only
  split
  · exact s.failItem_sec _ _ _
  · split
    · exact (State.failItem_sec _ _ _ _).trans (takeKeeper_sec _ _ _ _ _)
    · exact sec_ite ((State.failItem_sec _ _ _ _).trans ((State.putCore_sec _ _ _).trans (takeKeeper_sec _ _ _ _ _)))
        ((State.putCore_sec _ _ _).trans (takeKeeper_sec _ _ _ _ _))

@[simp] theorem State.matOut_sec (s : State) (q site : Nat) (i : Item) (r : Run) : (s.matOut q site i r).sec = s.sec := by
  unfold State.matOut
  dsimp only
  split
  · exact (State.failItem_sec _ _ _ _).trans ((State.putCore_sec _ _ _).trans (writeRows_sec _ _ _))
  · exact sec_ite
      ((State.failItem_sec _ _ _ _).trans ((State.nextRegion_sec _ _ _ _).trans ((State.putCore_sec _ _ _).trans (writeRows_sec _ _ _))))
      ((State.nextRegion_sec _ _ _ _).trans ((State.putCore_sec _ _ _).trans (writeRows_sec _ _ _)))

@[simp] theorem State.matStep_sec (s : State) (q k site : Nat) (es : List (BitVec 42 × EccFact)) :
    (s.matStep q k site es).sec = s.sec := by
  unfold State.matStep
  dsimp only
  split
  · refine sec_ite rfl (sec_ite (s.nextRegion_sec _ _ _) ?_)
    split
    · exact s.matPass_sec _ _ _ _ _ _
    · exact s.matOut_sec _ _ _ _
  · rfl

@[simp] theorem matSteps_sec (q k site : Nat) (es : List (BitVec 42 × EccFact)) (n : Nat) (s : State) :
    (matSteps q k site es n s).sec = s.sec := by
  induction n generalizing s with
  | zero => rfl
  | succ n ih => exact (ih _).trans (s.matStep_sec q k site es)

@[simp] theorem State.matJoin_sec (s : State) (q k site : Nat) : (s.matJoin q k site).sec = s.sec := by
  unfold State.matJoin
  split
  · rfl
  · split
    · refine sec_ite rfl ?_
      split
      · exact s.resumeRun_sec _ _ _
      · exact sec_ite ((State.takeRegion_sec _ _ _ _ _).trans (s.mapItem_sec _ _ _)) rfl
    · rfl

@[simp] theorem State.startMat_sec (s : State) (q k : Nat) (i : Item) : (s.startMat q k i).sec = s.sec := by
  unfold State.startMat
  refine sec_ite (s.failItem_sec _ _ _) ?_
  split
  · exact s.failItem_sec _ _ _
  · split
    · exact s.failItem_sec _ _ _
    · exact s.setWork_sec _ _ _

end Sys2Proof.Machine
end

section
/-!
PROOFS. The security state under the rest of the module: links, resets, power, firmware, images, the sync unit, hubs and pins. Where
one of these does write it, the three fuses stay (17 R666).
-/
namespace Sys2Proof.Machine

/-- The three fuses: both vendor slots' revocations and debug (17 R666). -/
def SecSt.fuses (x : SecSt) : Bool × Bool × Bool := (x.rev0, x.rev1, x.debugOff)

/-! ## The Tally -/

@[simp] theorem State.tallyFlash_sec (s : State) (ok : Bool) : (s.tallyFlash ok).sec = s.sec :=
  sec_ite (c := ok = true) (s.setTally_sec _) (s.setTally_sec _)

@[simp] theorem State.tallyLoad_sec (s : State) : s.tallyLoad.sec = s.sec := s.setTally_sec _
@[simp] theorem State.rollWindow_sec (s : State) : s.rollWindow.sec = s.sec := s.setTally_sec _
@[simp] theorem State.tallyHbm_sec (s : State) (n bits : Nat) : (s.tallyHbm n bits).sec = s.sec :=
  (State.setTally_sec _ _).trans (s.tallyBin_sec _ _ _)
@[simp] theorem State.tallyReplay_sec (s : State) : s.tallyReplay.sec = s.sec := s.setTally_sec _

/-! ## Links -/

@[simp] theorem State.sendNak_sec (s : State) (p : Nat) : (s.sendNak p).sec = s.sec :=
  sec_ite rfl ((State.emit_sec _ _).trans (s.putLink_sec _ _))

@[simp] theorem State.badFlit_sec (s : State) (p : Nat) (h : FlitHead) : (s.badFlit p h).sec = s.sec :=
  sec_ite (s.putLink_sec _ _) ((State.sendNak_sec _ _).trans (s.putLink_sec _ _))

@[simp] theorem State.flitCover_sec (s : State) (p : Nat) (h : FlitHead) : (s.flitCover p h).sec = s.sec := s.putLink_sec _ _

@[simp] theorem State.resend_sec (s : State) (p seq : Nat) : (s.resend p seq).sec = s.sec := s.emitFlits_sec _ _

@[simp] theorem State.countReplay_sec (s : State) (p : Nat) : (s.countReplay p).sec = s.sec :=
  (State.tallyReplay_sec _).trans (s.putLink_sec _ _)

@[simp] theorem State.spare_sec (s : State) (p : Nat) : (s.spare p).sec = s.sec := s.putLink_sec _ _

@[simp] theorem State.replayed_sec (s : State) (p : Nat) : (s.replayed p).sec = s.sec :=
  sec_ite ((State.spare_sec _ _).trans ((State.putLink_sec _ _ _).trans (s.countReplay_sec p)))
    ((State.putLink_sec _ _ _).trans (s.countReplay_sec p))

/-- A flit that arrives keeps the security state when what its type does keeps it. -/
theorem State.flitIn_sec {s : State} {l type : Nat} {fec : Option Nat} {f : Flit} {take : FlitHead → State}
    (htake : ∀ h, (take h).sec = s.sec) : (s.flitIn l fec f type take).sec = s.sec := by
  unfold State.flitIn
  refine sec_ite rfl ?_
  split
  · exact s.putLink_sec _ _
  · exact sec_ite (s.badFlit_sec _ _) (sec_ite rfl (htake _))

@[simp] theorem State.floodLost_sec (s : State) (m : MsgHead) : (s.floodLost m).sec = s.sec :=
  foldl_sec (fun t _ => sec_ite (t.sendOn_sec _ _ _ _) rfl) _ s

@[simp] theorem State.markLost_sec (s : State) (e : Nat) : (s.markLost e).sec = s.sec :=
  sec_ite rfl ((State.logEvent_sec _ _ _ _ _ _ _).trans (s.setFab_sec _))

@[simp] theorem State.checkLost_sec (s : State) (e : Nat) : (s.checkLost e).sec = s.sec :=
  sec_ite ((State.floodLost_sec _ _).trans ((State.markLost_sec _ _).trans (s.setFab_sec _))) rfl

@[simp] theorem State.dropReq_sec (s : State) (r : OutReq) : (s.dropReq r).sec = s.sec := s.setFab_sec _

@[simp] theorem State.failReq_sec (s : State) (tag : Nat) : (s.failReq tag).sec = s.sec := by
  unfold State.failReq
  split <;> simp

@[simp] theorem State.reroute_sec (s : State) (kind : Nat) (m : MsgHead) (data : List Line) : (s.reroute kind m data).sec = s.sec := by
  unfold State.reroute
  split
  · exact s.sendOn_sec _ _ _ _
  · exact sec_ite rfl (sec_ite (s.failReq_sec _) (s.originate_sec _ _ _ _ _))

@[simp] theorem State.linkDown_sec (s : State) (p : Nat) : (s.linkDown p).sec = s.sec :=
  (State.checkLost_sec _ _).trans ((foldl_sec (fun u _ => u.reroute_sec _ _ _) _ _).trans
    ((State.logEvent_sec _ _ _ _ _ _ _).trans (s.putLink_sec _ _)))

@[simp] theorem State.endTraining_sec (s : State) (l : Nat) (r : TrainFact) : (s.endTraining l r).sec = s.sec := by
  unfold State.endTraining
  extract_lets x y t z
  have ht : t.sec = s.sec := sec_ite (s.logEvent_sec _ _ _ _ _ _) rfl
  exact sec_ite ((State.putLink_sec _ _ _).trans ht)
    (sec_ite ((State.linkDown_sec _ _).trans ((State.putLink_sec _ _ _).trans ht)) ((State.putLink_sec _ _ _).trans ht))

@[simp] theorem State.failLane_sec (s : State) (l i : Nat) : (s.failLane l i).sec = s.sec := by
  unfold State.failLane
  dsimp only
  split
  · split
    · simp
    · split <;> simp
  · rfl

@[simp] theorem State.laneSample_sec (s : State) (e : Fin 80 × BitVec 32) : (s.laneSample e).sec = s.sec := by
  unfold State.laneSample
  dsimp only
  split
  · split <;> simp
  · simp

@[simp] theorem State.respond_sec (s : State) (kind : Nat) (m : MsgHead) (tag arg : Nat) (data : List Line) :
    (s.respond kind m tag arg data).sec = s.sec :=
  s.originate_sec _ _ _ _ _

@[simp] theorem State.refuse_sec (s : State) (m : MsgHead) (tag : Nat) (f : Nat × Nat) : (s.refuse m tag f).sec = s.sec :=
  (State.respond_sec _ _ _ _ _ _).trans (sec_ite (s.ueRead_sec _ _) rfl)

/-- A message that arrives keeps the security state when what it does here keeps it. -/
theorem State.receive_sec {s : State} {l kind : Nat} {m : MsgHead} {data : List Line} {here : State → State}
    (hhere : ∀ t, (here t).sec = t.sec) : (s.receive l kind m data here).sec = s.sec :=
  sec_ite rfl (sec_ite ((hhere _).trans (s.takeMsg_sec _ _ _ _)) ((State.transit_sec _ _ _ _).trans (s.takeMsg_sec _ _ _ _)))

@[simp] theorem State.respFail_sec (s : State) (r : OutReq) (a : Nat) (f : Fail) : (s.respFail r a f).sec = s.sec := by
  unfold State.respFail
  dsimp only
  split
  · rfl
  · split
    · simp
    · split
      · exact sec_ite ((State.setFab_sec _ _).trans (s.mapItem_sec _ _ _)) rfl
      · rfl

@[simp] theorem State.failResp_sec (s : State) (l kind status : Nat) (m : MsgHead) : (s.failResp l kind status m).sec = s.sec := by
  refine State.receive_sec fun t => ?_
  split
  · rfl
  · exact (State.respFail_sec _ _ _ _).trans (t.dropReq_sec _)

@[simp] theorem State.takeCount_sec (s : State) (h k : Nat) : (s.takeCount h k).sec = s.sec := sec_ite (s.setFwu_sec _) rfl

/-! ## Every item at once -/

@[simp] theorem State.failAll_sec (s : State) (f : Fail) : (s.failAll f).sec = s.sec :=
  (foldl_sec (fun t (e : Nat × Nat) => t.failItem_sec e.1 e.2 f) _ _).trans (s.withdrawAll_sec _)

@[simp] theorem State.finishWrites_sec (s : State) (site : Nat) : (s.finishWrites site).sec = s.sec := by
  refine foldl_sec (fun t o => ?_) _ s
  split
  · exact t.write_sec _ _
  · rfl

@[simp] theorem State.endOpen_sec (s : State) : s.endOpen.sec = s.sec := foldl_sec (fun t (e : Nat × Nat) => t.endNow_sec e.1 e.2 none) _ s

@[simp] theorem State.endAll_sec (s : State) (f : Fail) : (s.endAll f).sec = s.sec :=
  (State.endOpen_sec _).trans
    ((foldl_sec (fun _ _ => (State.releaseCore_sec _ _).trans (State.finishWrites_sec _ _)) _ _).trans (s.failAll_sec f))

@[simp] theorem State.cutAll_sec (s : State) : s.cutAll.sec = s.sec :=
  (State.endOpen_sec _).trans ((foldl_sec (fun t _ => t.putCore_sec _ _) _ _).trans
    (foldl_sec (fun t (e : Nat × Nat) => t.mapItem_sec e.1 e.2 Item.cutOff) _ s))

@[simp] theorem releaseMany_sec (n : Nat) (s : State) (q : Nat) : (releaseMany n s q).sec = s.sec := by
  induction n generalizing s with
  | zero => rfl
  | succ n ih => exact (ih _).trans (s.releaseRecord_sec q)

@[simp] theorem State.releaseAll_sec (s : State) : s.releaseAll.sec = s.sec := foldl_sec (fun t _ => releaseMany_sec _ t _) _ s

/-! ## Resets -/

@[simp] theorem State.dropWatches_sec (s : State) : s.dropWatches.sec = s.sec := s.setSync_sec _

/-- A reset of the warm domain locks debug, and no fuse changes (17 R666, R677). -/
@[simp] theorem State.resetDomain_sec (s : State) : s.resetDomain.sec = { s.sec with unlocked := false } := rfl

@[simp] theorem State.logRows_sec (s : State) (site : Nat) (rows : BitVec 100) (last : DWord) : (s.logRows site rows last).sec = s.sec :=
  foldl_sec (fun t _ => t.logEvent_sec _ _ _ _ _ _) _ s

@[simp] theorem State.startSites_sec (s : State) (facts : List SiteFact) (warm : Bool) : (s.startSites facts warm).sec = s.sec := by
  unfold State.startSites
  dsimp only
  rw [State.zeroLoc_sec, State.setStart_sec, State.setFreeCount_sec, State.setCores_sec]
  exact foldl_sec (fun t _ => t.logRows_sec _ _ _) _ s

@[simp] theorem State.reopen_sec (s : State) : s.reopen.sec = s.sec := s.setQueues_sec _

/-- What is done at another tick keeps the security state when it keeps it now. -/
theorem State.atTick_sec {s : State} {tk : DWord} {f : State → State} (hf : ∀ t, (f t).sec = t.sec) : (s.atTick tk f).sec = s.sec :=
  (State.setSync_sec _ _).trans ((hf _).trans (s.setSync_sec _))

@[simp] theorem State.beginReset_sec (s : State) (trigger : Nat) : (s.beginReset trigger).sec = s.sec :=
  (State.failAll_sec _ _).trans ((State.tallyAdd_sec _ _ _).trans ((State.logEvent_sec _ _ _ _ _ _ _).trans (s.setFault_sec _)))

@[simp] theorem State.requestReset_sec (s : State) (trigger : Nat) (tk : DWord) : (s.requestReset trigger tk).sec = s.sec :=
  sec_ite rfl (sec_ite (s.setFault_sec _) (State.atTick_sec fun t => t.beginReset_sec trigger))

@[simp] theorem State.takeWanted_sec (s : State) : s.takeWanted.sec = s.sec := by
  unfold State.takeWanted
  split
  · exact sec_ite (s.beginReset_sec _) rfl
  · rfl

@[simp] theorem State.warmReset_fuses (s : State) (sites : List SiteFact) : (s.warmReset sites).sec.fuses = s.sec.fuses := by
  simp [State.warmReset, SecSt.fuses]

/-! ## Host ports, firmware and activations -/

@[simp] theorem State.portDown_sec (s : State) (p : Nat) : (s.portDown p).sec = s.sec :=
  (State.logEvent_sec _ _ _ _ _ _ _).trans (s.putPcie_sec _ _)

@[simp] theorem State.drainPort_sec (s : State) (p : Nat) : (s.drainPort p).sec = s.sec :=
  foldl_sec (fun t _ => sec_ite (t.drain_sec _) rfl) _ s

@[simp] theorem State.dropHostWatches_sec (s : State) (p : Nat) : (s.dropHostWatches p).sec = s.sec :=
  foldl_sec (fun t _ => sec_ite ((State.setSync_sec _ _).trans (t.withdraw_sec _)) rfl) _ s

@[simp] theorem State.takeover_sec (s : State) (p : Nat) : (s.takeover p).sec = s.sec :=
  (State.logEvent_sec _ _ _ _ _ _ _).trans ((State.setFwu_sec _ _).trans ((State.setTakeLast_sec _ _).trans
    ((State.dropHostWatches_sec _ _).trans ((State.setStart_sec _ _).trans (s.setQueues_sec _)))))

@[simp] theorem State.putUnit_sec (s : State) (u : Nat) (x : FwUnit) : (s.putUnit u x).sec = s.sec := s.setFwu_sec _
@[simp] theorem State.fwuEnd_sec (s : State) (cmd status reason : Byte) : (s.fwuEnd cmd status reason).sec = s.sec := s.setFwu_sec _
@[simp] theorem State.fwuForbidden_sec (s : State) (cmd : Byte) : (s.fwuForbidden cmd).sec = s.sec := s.fwuEnd_sec _ _ _

/-- A firmware command keeps the security state when what it does keeps it. -/
theorem State.fwuDo_sec {s : State} {p : Nat} {cmd : Byte} {f : State → State} (hf : (f s).sec = s.sec) :
    (s.fwuDo p cmd f).sec = s.sec :=
  sec_ite rfl (sec_ite (s.fwuForbidden_sec cmd) hf)

@[simp] theorem State.staged_sec (s : State) (u : Nat) (i : FwImage) : (s.staged u i).sec = s.sec :=
  sec_ite ((State.setFwu_sec _ _).trans (s.putUnit_sec _ _)) (s.putUnit_sec _ _)

@[simp] theorem State.activate_sec (s : State) (target herd : Nat) (noHerd : Bool) : (s.activate target herd noHerd).sec = s.sec :=
  s.setFwu_sec _

@[simp] theorem State.migrate_sec (s : State) : s.migrate.sec = s.sec :=
  foldl_sec (fun t _ => foldl_sec (fun u _ => sec_ite (u.setFwu_sec _) rfl) _ t) _ s

@[simp] theorem State.restoreRecords_sec (s : State) : s.restoreRecords.sec = s.sec := s.setFwu_sec _

@[simp] theorem State.beginActivation_sec (s : State) : s.beginActivation.sec = s.sec := sec_ite (s.setFwu_sec _) rfl

@[simp] theorem State.endActivation_sec (s : State) (result : Nat) (reason : Byte) : (s.endActivation result reason).sec = s.sec :=
  (State.takeWanted_sec _).trans (s.setFwu_sec _)

/-! ## Power, gates and the limiter -/

@[simp] theorem State.powerDown_sec (s : State) (phase : PowerPhase) : (s.powerDown phase).sec = { s.sec with unlocked := false } := by
  simp [State.powerDown]

@[simp] theorem State.orderly_fuses (s : State) : s.orderly.sec.fuses = s.sec.fuses := by
  simp [State.orderly, SecSt.fuses]

@[simp] theorem State.gateUpdates_sec (s : State) : s.gateUpdates.sec = s.sec := by
  refine foldl_sec (fun t e => ?_) _ s
  split
  · rfl
  · dsimp only
    split <;> simp

@[simp] theorem State.gateLinks_sec (s : State) : s.gateLinks.sec = s.sec := foldl_sec (fun t _ => sec_ite rfl (t.putLink_sec _ _)) _ s

@[simp] theorem State.drainAll_sec (s : State) : s.drainAll.sec = s.sec := foldl_sec (fun t (e : Nat × QueueSt) => t.drain_sec e.1) _ s

@[simp] theorem State.setGates_sec (s : State) (g : Word) (g1 : BitVec 12) : (s.setGates g g1).sec = s.sec :=
  (State.drainAll_sec _).trans ((State.gateUpdates_sec _).trans ((State.gateLinks_sec _).trans
    ((State.setTally_sec _ _).trans (s.setPower_sec _))))

@[simp] theorem State.linkOff_sec (s : State) (p : Nat) : (s.linkOff p).sec = s.sec := s.putLink_sec _ _
@[simp] theorem State.measured_sec (s : State) (m : Measures) : (s.measured m).sec = s.sec := s.setPower_sec _
@[simp] theorem State.limitWindow_sec (s : State) : s.limitWindow.sec = s.sec := s.setTally_sec _

@[simp] theorem State.trip_sec (s : State) : s.trip.sec = s.sec :=
  (State.tallyAdd_sec _ _ _).trans ((State.logEvent_sec _ _ _ _ _ _ _).trans ((State.setQueues_sec _ _).trans
    ((State.releaseAll_sec _).trans ((State.endAll_sec _ _).trans (s.setPower_sec _)))))

@[simp] theorem State.limit_sec (s : State) : s.limit.sec = s.sec :=
  sec_ite (sec_ite rfl s.trip_sec) (sec_ite (sec_ite (s.setPower_sec _) rfl) (sec_ite (s.setPower_sec _) rfl))

/-! ## Images and start-up -/

@[simp] theorem State.setHerds_sec (s : State) (l : List HerdEntry) : (s.setHerds l).sec = s.sec := s.setSync_sec _
@[simp] theorem State.linkUnder_sec (s : State) (p : Nat) : (s.linkUnder p).sec = s.sec := s.putLink_sec _ _

@[simp] theorem State.applyImage_sec (s : State) (m : Image) (gate1 : BitVec 12) : (s.applyImage m gate1).sec = s.sec := by
  unfold State.applyImage
  dsimp only
  rw [foldl_sec State.linkUnder_sec, State.setFab_sec, State.setGates_sec, State.setPower_sec, State.setHerds_sec,
    State.setSync_sec, State.setMem_sec, State.setStart_sec]

@[simp] theorem State.setOwners_sec (s : State) (m : Image) : (s.setOwners m).sec = s.sec := s.setStart_sec _

@[simp] theorem State.logKeys_sec (s : State) : s.logKeys.sec = s.sec := by
  have hlog : (if vendorKeyGood 0 then s else s.logEvent 0x60 0 0 2 0 0).sec = s.sec := sec_ite rfl (s.logEvent_sec _ _ _ _ _ _)
  exact sec_ite hlog ((State.logEvent_sec _ _ _ _ _ _ _).trans hlog)

@[simp] theorem State.startFailed_sec (s : State) (step : Nat) : (s.startFailed step).sec = s.sec := s.setStart_sec _

@[simp] theorem State.rails_sec (s : State) : s.rails.sec = s.sec :=
  (State.setStart_sec _ _).trans ((State.logKeys_sec _).trans ((State.setSync_sec _ _).trans (s.setPower_sec _)))

@[simp] theorem State.spareAt_sec (s : State) (p : Hub × Fin 32) : (s.spareAt p).sec = s.sec := sec_ite rfl (s.putHub_sec _ _)

@[simp] theorem State.trainMemory_sec (s : State) (lp : BitVec 8) (spares : List (Hub × Fin 32)) :
    (s.trainMemory lp spares).sec = s.sec :=
  (foldl_sec State.spareAt_sec _ _).trans ((State.setStart_sec _ _).trans (s.setPower_sec _))

@[simp] theorem State.startImage_sec (s : State) (m : Image) : (s.startImage m).sec = s.sec := by
  unfold State.startImage
  dsimp only
  rw [State.setStart_sec, State.applyImage_sec, State.setKe_sec, State.setMem_sec]
  exact sec_ite (s.setOwners_sec m) rfl

@[simp] theorem State.firstTraining_sec (l : List (Link × TrainFact)) (s : State) (p : Nat) :
    (State.firstTraining l s p).sec = s.sec := by
  refine sec_ite ?_ rfl
  split
  · exact s.endTraining_sec _ _
  · exact s.endTraining_sec _ _

@[simp] theorem State.finishStart_sec (s : State) (f : StartFacts) : (s.finishStart f).sec = s.sec :=
  (State.releaseAll_sec _).trans ((State.setStart_sec _ _).trans ((State.reopen_sec _).trans
    (foldl_sec (State.firstTraining_sec f.links) _ s)))

@[simp] theorem State.startUp_sec (s : State) (f : StartFacts) : (s.startUp f).sec = s.sec := by
  have hrails (x : FwuSt) : (s.rails.setFwu x).sec = s.sec := (State.setFwu_sec _ _).trans s.rails_sec
  have hsites (x : StartSt) : (((s.rails.migrate.trainMemory f.lpFailed f.spares).startSites f.sites false).setStart x).sec = s.sec := by
    simp only [State.setStart_sec, State.startSites_sec, State.trainMemory_sec, State.migrate_sec, State.rails_sec]
  unfold State.startUp
  refine sec_ite ((State.startFailed_sec _ _).trans (hrails _)) (sec_ite ?_ (sec_ite ?_ ?_))
  · exact (State.startFailed_sec _ _).trans ((State.migrate_sec _).trans s.rails_sec)
  · exact (State.setStart_sec _ _).trans (hsites _)
  · exact (State.finishStart_sec _ _).trans ((State.startImage_sec _ _).trans (hsites _))

@[simp] theorem State.freeStreams_sec (s : State) : s.freeStreams.sec = s.sec := s.setMem_sec _

@[simp] theorem State.reclock_sec (s : State) (old : BitVec 2) (p : Nat) : (s.reclock old p).sec = s.sec := sec_ite rfl (s.putPcie_sec _ _)

@[simp] theorem State.persist_sec (s : State) (raw : List Byte) : (s.persist raw).sec = s.sec := s.setStart_sec _

@[simp] theorem State.liveLoad_sec (s : State) (m : Image) : (s.liveLoad m).sec = s.sec := s.setStart_sec _

/-- A full load can only lock debug, and no fuse changes (16 R644, 17 R666). -/
@[simp] theorem State.fullLoad_sec (s : State) (p : Nat) (m : Image) (keep : Bool) :
    (s.fullLoad p m keep).sec = { s.sec with unlocked := s.sec.unlocked && m.allowDebug } := by
  unfold State.fullLoad
  dsimp only
  refine sec_ite ((State.persist_sec _ _).trans ?_) ?_
  all_goals
    simp only [State.setSec_sec, State.rollWindow_sec, State.reclock_sec, State.setQueues_sec, State.setKe_sec,
      State.dropHostWatches_sec, State.freeStreams_sec, State.applyImage_sec, State.setOwners_sec]

/-! ## Sync unit and step boundaries -/

@[simp] theorem State.putHostWatch_sec (s : State) (p i : Nat) (x : HostWatch) : (s.putHostWatch p i x).sec = s.sec := s.setSync_sec _

@[simp] theorem State.reloadHerd_sec (s : State) (e : Nat × Option HerdEntry × Option RingEntry) : (s.reloadHerd e).sec = s.sec :=
  sec_ite (s.setStart_sec _) ((State.setStart_sec _ _).trans ((State.putKeHerd_sec _ _ _).trans (s.putHerd_sec _ _)))

@[simp] theorem State.applyLive_sec (s : State) : s.applyLive.sec = s.sec := (foldl_sec State.reloadHerd_sec _ _).trans (s.setStart_sec _)

@[simp] theorem State.dropMembers_sec (s : State) (h : Nat) (mask : BitVec 1536) : (s.dropMembers h mask).sec = s.sec :=
  s.putKeHerd_sec _ _

@[simp] theorem State.takeoverHerd_sec (s : State) (h : Nat) : (s.takeoverHerd h).sec = s.sec := by
  unfold State.takeoverHerd
  split
  · rfl
  · extract_lets x mask master t y u v w
    have ht : w.sec = s.sec := (State.setFwu_sec _ _).trans ((State.putHerd_sec _ _ _).trans
      ((State.logEvent_sec _ _ _ _ _ _ _).trans (s.dropMembers_sec _ _)))
    exact sec_ite ((State.arriveFabric_sec _ _).trans ht) (sec_ite ((State.checkFabricHerd_sec _ _).trans ht) ht)

@[simp] theorem State.seeBoundary_sec (s : State) : s.seeBoundary.sec = s.sec := s.setQueues_sec _

@[simp] theorem State.boundaryWindow_sec (s : State) : s.boundaryWindow.sec = s.sec :=
  (State.setTally_sec _ _).trans (sec_ite s.rollWindow_sec rfl)

@[simp] theorem State.boundarySteps_sec (s : State) : s.boundarySteps.sec = s.sec :=
  (foldl_sec State.takeoverHerd_sec _ _).trans ((State.applyLive_sec _).trans ((State.beginActivation_sec _).trans
    ((State.boundaryWindow_sec _).trans ((State.seeBoundary_sec _).trans (s.setSync_sec _)))))

@[simp] theorem State.ignoreIn_sec (s : State) : s.ignoreIn.sec = s.sec :=
  (State.tallyAdd_sec _ _ _).trans ((State.logEvent_sec _ _ _ _ _ _ _).trans (s.setSync_sec _))

@[simp] theorem State.noteRaise_sec (s : State) (x : Raise) : (s.noteRaise x).sec = s.sec := by
  have hlog (y : SyncSt) : (if x.result = 2 then (s.setSync y).logEvent 0x42 0 0 0 0 0 else s.setSync y).sec = s.sec :=
    sec_ite ((State.logEvent_sec _ _ _ _ _ _ _).trans (s.setSync_sec _)) (s.setSync_sec _)
  exact sec_ite ((State.ignoreIn_sec _).trans (hlog _)) (hlog _)

@[simp] theorem State.driveOut_sec (s : State) : s.driveOut.sec = s.sec := sec_ite ((State.setPins_sec _ _).trans (s.setSync_sec _)) rfl

@[simp] theorem State.raise_sec (s : State) (r : BoundaryRun) (x : Raise) : (s.raise r x).sec = s.sec :=
  (State.finishNow_sec _ _ _ _).trans ((State.boundarySteps_sec _).trans ((State.noteRaise_sec _ _).trans s.driveOut_sec))

@[simp] theorem State.raiseOr_sec (s : State) (r : BoundaryRun) (x : Raise) : (s.raiseOr r x).sec = s.sec :=
  sec_ite (s.failItem_sec _ _ _) (s.raise_sec r x)

/-! ## Hubs and the host's accesses -/

@[simp] theorem State.countUe_sec (s : State) (a : Nat) : (s.countUe a).sec = s.sec := by
  unfold State.countUe
  dsimp only
  split
  · exact s.putHub_sec _ _
  · exact s.putHub_sec _ _
  · rfl

@[simp] theorem State.retirePc_sec (s : State) (h pc : Nat) : (s.retirePc h pc).sec = s.sec :=
  sec_ite rfl (sec_ite ((State.logEvent_sec _ _ _ _ _ _ _).trans (s.putHub_sec _ _))
    ((State.logEvent_sec _ _ _ _ _ _ _).trans (s.putHub_sec _ _)))

@[simp] theorem State.correction_sec (s : State) (a bits : Nat) : (s.correction a bits).sec = s.sec := by
  unfold State.correction
  dsimp only
  split
  · exact s.putHub_sec _ _
  · exact sec_ite ((State.retirePc_sec _ _ _).trans ((State.tallyHbm_sec _ _ _).trans (s.putHub_sec _ _)))
      ((State.tallyHbm_sec _ _ _).trans (s.putHub_sec _ _))
  · rfl

@[simp] theorem State.readFact_sec (s : State) (a : Nat) (e : ReadFact) (mended : Bool) : (s.readFact a e mended).sec = s.sec := by
  unfold State.readFact
  refine sec_ite ((State.countUe_sec _ _).trans (sec_ite rfl (s.markUe_sec _))) ?_
  split
  · exact s.correction_sec _ _
  · rfl

@[simp] theorem State.slotsAt_sec (s : State) (h : Nat) : (s.slotsAt h).sec = s.sec := s.putHub_sec _ _

@[simp] theorem State.enterHub_sec (s : State) (h line : Nat) (write whole prefetch : Bool) :
    (s.enterHub h line write whole prefetch).sec = s.sec :=
  (State.slotsAt_sec _ _).trans (s.putHub_sec _ _)

@[simp] theorem State.acceptWrite_sec (s : State) (a : Nat) (mask : BitVec 64) (data : Line) : (s.acceptWrite a mask data).sec = s.sec :=
  sec_ite rfl (sec_ite (s.writeLine_sec _ _) (sec_ite (s.countUe_sec _) (s.writeLine_sec _ _)))

@[simp] theorem State.barRead_sec (s : State) (p a n : Nat) : (s.barRead p a n).1.sec = s.sec := by
  unfold State.barRead
  split <;> simp

@[simp] theorem barReads_sec (p : Nat) (l : List (Nat × Nat)) (s : State) : (barReads p l s).1.sec = s.sec := by
  induction l generalizing s with
  | nil => rfl
  | cons e l ih => exact (ih _).trans (s.barRead_sec _ _ _)

@[simp] theorem State.barWrite_sec (s : State) (p a : Nat) (bs : List Byte) : (s.barWrite p a bs).sec = s.sec := by
  unfold State.barWrite
  split
  · rfl
  · exact s.logEvent_sec _ _ _ _ _ _
  · exact s.writeLine_sec _ _
  · exact sec_ite (s.writeLine_sec _ _) ((State.logEvent_sec _ _ _ _ _ _ _).trans (s.countUe_sec _))

/-! ## Time, management and the test port -/

@[simp] theorem tick_sec (s : State) : (tick s).sec = s.sec := sec_ite rfl (s.setSync_sec _)

/-- Taking a management message on a transport keeps the security state. -/
theorem State.addressed_sec {s u : State} {t : Transport} (h : s.addressed t = some u) : u.sec = s.sec := by
  cases t <;> simp only [State.addressed, Option.ite_none_right_eq_some, Option.some.injEq] at h <;> obtain ⟨-, rfl⟩ := h <;> rfl

@[simp] theorem State.mgmt_sec (s : State) (t : Transport) (f : State → Nat × List Byte) : (s.mgmt t f).sec = s.sec := by
  unfold State.mgmt
  split
  · next u h => exact (u.emit_sec _).trans (State.addressed_sec h)
  · rfl

@[simp] theorem State.setTap_sec (s : State) (x : TapSel) : (s.setTap x).sec = s.sec := s.setPins_sec _

@[simp] theorem State.takePins_sec (s : State) (x : TapSel) : (s.takePins x).sec = s.sec :=
  sec_ite rfl (sec_ite (s.setTap_sec x) ((State.logEvent_sec _ _ _ _ _ _ _).trans (s.setTap_sec _)))

end Sys2Proof.Machine
end

section
/-!
PROOFS. The security mailboxes: what ends a command, what a command that passes its checks does, and the backoff that a bad tag begins
(17 R654 to R663).
-/
namespace Sys2Proof.Machine

open Sys2Proof.Claims

/-! ## A mailbox put at its port -/

@[simp] theorem State.box_putBox_same (s : State) (p : Port) (x : Mailbox) : (s.putBox p x).box p = x := by
  rw [State.box_putBox _ _ _ _ p.isLt, if_pos rfl]

/-- A change of the security state that keeps the mailboxes keeps what each port reads. -/
theorem State.box_congr {s t : State} (p : Nat) (h : t.sec.box = s.sec.box) : t.box p = s.box p := by rw [State.box, State.box, h]

theorem vget_map {α : Type} {n : Nat} (f : α → α) (v : Vector α n) {i : Nat} (d : α) (h : i < n) :
    vget (v.map f) i d = f (vget v i d) := by
  simp [vget, h]

/-! ## What a command's operands are read from -/

section Operands

variable {m n : Mailbox} (h : m.cmd = n.cmd)
include h

theorem Mailbox.bytes_congr : m.bytes = n.bytes := by rw [Mailbox.bytes, Mailbox.bytes, h]
theorem Mailbox.op_congr : m.op = n.op := by rw [Mailbox.op, Mailbox.op, Mailbox.bytes_congr h]
theorem Mailbox.field_congr (off k : Nat) : m.field off k = n.field off k := by
  rw [Mailbox.field, Mailbox.field, Mailbox.bytes_congr h]
theorem Mailbox.zeroFrom_congr (lo : Nat) : m.zeroFrom lo = n.zeroFrom lo := by
  rw [Mailbox.zeroFrom, Mailbox.zeroFrom, Mailbox.bytes_congr h]
theorem Mailbox.counter_congr : m.counter = n.counter := Mailbox.field_congr h 8 8

end Operands

/-! ## The end of a command -/

/-- A mailbox once its command is completed, before a bad tag begins its backoff (17 R655, R660). -/
def Mailbox.completed (m : Mailbox) (e : SecEnd) : Mailbox :=
  { m with busy := false, opcode := BitVec.ofNat 8 m.op, status := BitVec.ofNat 8 e.status, detail := BitVec.ofNat 32 e.reason,
           htag := BitVec.ofNat 32 (m.field 4 4), out := e.out }

/-- A mailbox once its command has ended at a time: a bad tag begins its backoff then (17 R662). -/
def Mailbox.ended (m : Mailbox) (e : SecEnd) (now : DWord) : Mailbox :=
  { m.completed e with backoff := if e.status = 0x18 ∧ e.reason = 1 then some now else m.backoff }

/-- The state with the command of a port completed and out of the order. -/
def State.secClosed (s : State) (p : Nat) (e : SecEnd) : State :=
  (s.setSec { s.sec with order := s.sec.order.filter (· ≠ p) }).putBox p ((s.box p).completed e)

@[simp] theorem State.putBox_fuses (s : State) (p : Nat) (x : Mailbox) : (s.putBox p x).sec.fuses = s.sec.fuses := rfl
@[simp] theorem State.putBox_order (s : State) (p : Nat) (x : Mailbox) : (s.putBox p x).sec.order = s.sec.order := rfl

/-- What a failed authentication logs and counts keeps the security state and the time; a bad tag begins the backoff then (17
R660, R662). -/
theorem State.secFailed_cases (s : State) (p reason : Nat) :
    ∃ t : State, t.sec = s.sec ∧ t.sync = s.sync ∧
      s.secFailed p reason = if reason = 1 then t.putBox p { t.box p with backoff := some t.now } else t :=
  ⟨_, (State.tallyAdd_sec _ _ _).trans (s.logEvent_sec _ _ _ _ _ _),
    (State.tallyAdd_sync _ _ _).trans (s.logEvent_sync _ _ _ _ _ _), rfl⟩

@[simp] theorem State.secFailed_fuses (s : State) (p reason : Nat) : (s.secFailed p reason).sec.fuses = s.sec.fuses := by
  obtain ⟨t, ht, -, h⟩ := s.secFailed_cases p reason
  rw [h]
  split <;> simp [ht]

@[simp] theorem State.secFailed_order (s : State) (p reason : Nat) : (s.secFailed p reason).sec.order = s.sec.order := by
  obtain ⟨t, ht, -, h⟩ := s.secFailed_cases p reason
  rw [h]
  split <;> simp [ht]

theorem State.secFailed_box (s : State) (p : Port) (reason : Nat) :
    (s.secFailed p reason).box p = { s.box p with backoff := if reason = 1 then some s.now else (s.box p).backoff } := by
  obtain ⟨t, ht, hn, h⟩ := s.secFailed_cases p reason
  have hb : t.box p = s.box p := State.box_congr p (congrArg SecSt.box ht)
  rw [h]
  split
  · rw [State.box_putBox_same, hb, State.now, hn, State.now]
  · exact hb

/-- The interrupt of a completion leaves the security state alone (17 R655). -/
theorem State.secEnd_sec (s : State) (p : Nat) (e : SecEnd) : (s.secEnd p e).sec =
    (if e.status = 0x18 then (s.secClosed p e).secFailed p e.reason else s.secClosed p e).sec :=
  sec_ite (State.msix_sec _ _ _) rfl

@[simp] theorem State.secEnd_fuses (s : State) (p : Nat) (e : SecEnd) : (s.secEnd p e).sec.fuses = s.sec.fuses := by
  rw [State.secEnd_sec]
  split
  · exact State.secFailed_fuses _ _ _
  · rfl

@[simp] theorem State.secEnd_order (s : State) (p : Nat) (e : SecEnd) : (s.secEnd p e).sec.order = s.sec.order.filter (· ≠ p) := by
  rw [State.secEnd_sec]
  split
  · exact State.secFailed_order _ _ _
  · rfl

theorem State.secEnd_box (s : State) (p : Port) (e : SecEnd) : (s.secEnd p e).box p = (s.box p).ended e s.now := by
  have hb : (s.secClosed p e).box p = (s.box p).completed e := State.box_putBox_same _ _ _
  rw [State.box_congr p (congrArg SecSt.box (s.secEnd_sec p e))]
  by_cases h : e.status = 0x18
  · rw [if_pos h, State.secFailed_box, hb]
    simp [Mailbox.ended, h]
    rfl
  · rw [if_neg h, hb]
    simp [Mailbox.ended, h]
    rfl

/-! ## The commands that wait behind -/

theorem State.secStray_of_order_nil {s : State} (h : s.sec.order = []) : s.secStray = none := by rw [State.secStray, h]

theorem State.secNext1_of_order_nil {s : State} (h : s.sec.order = []) : s.secNext1 = s := by
  rw [State.secNext1, State.secStray_of_order_nil h]

/-- With no other command sent, the end of one is all that happens (17 R654). -/
theorem State.secNext_of_order_nil {s : State} (h : s.sec.order = []) : s.secNext = s := by
  rw [State.secNext, State.secNext1_of_order_nil h, State.secNext1_of_order_nil h]

@[simp] theorem State.secNext1_fuses (s : State) : s.secNext1.sec.fuses = s.sec.fuses := by
  unfold State.secNext1
  split
  · exact State.secEnd_fuses _ _ _
  · rfl

@[simp] theorem State.secNext_fuses (s : State) : s.secNext.sec.fuses = s.sec.fuses :=
  (State.secNext1_fuses _).trans s.secNext1_fuses

/-! ## A command that is taken -/

theorem State.secEnd_order_only {s : State} {p : Port} (e : SecEnd) (h : s.sec.order = [p.val]) : (s.secEnd p e).sec.order = [] := by
  simp [h]

theorem secEnded_secEnd {s u : State} {p : Port} (e : SecEnd) (hcmd : (u.box p).cmd = (s.box p).cmd) (ho : u.sec.order = [p.val]) :
    secEnded s (u.secEnd p e) p (BitVec.ofNat 8 e.status) := by
  rw [secEnded, State.secEnd_box, State.secEnd_order_only e ho, ← Mailbox.op_congr hcmd, ← Mailbox.field_congr hcmd]
  exact ⟨rfl, rfl, rfl, rfl, rfl⟩

theorem order_of_secGoes {s : State} {p : Port} {op : Nat} (h : secGoes s p op) : s.sec.order = [p.val] := by
  obtain ⟨-, -, ho, -, -⟩ := h
  exact ho

/-- The state in which a command with a tag acts: its counter is used (17 R659). -/
def State.secUsed (s : State) (p : Nat) : State := s.putBox p { s.box p with ctr := BitVec.ofNat 64 (s.box p).counter }

theorem State.secUsed_box (s : State) (p : Port) : (s.secUsed p).box p = { s.box p with ctr := BitVec.ofNat 64 (s.box p).counter } :=
  State.box_putBox_same _ _ _

theorem State.secUsed_cmd (s : State) (p : Port) : ((s.secUsed p).box p).cmd = (s.box p).cmd := by rw [State.secUsed_box]

/-- A command whose check fails ends with what the check gives, and does nothing else (17 R658). -/
theorem State.secTake_of_check {s : State} {p : Port} {op : Nat} {e : SecEnd} (f : State → Mailbox → State × SecEnd)
    (hr : s.secReady = true) (hb : (s.box p).busy = true) (ho : s.sec.order = [p.val]) (hop : (s.box p).op = op)
    (hc : s.secCheck p = some e) : s.secTake p op f = s.secEnd p e := by
  unfold State.secTake
  rw [if_neg (by simp [hr, hb, ho, hop]), hc]
  exact State.secNext_of_order_nil (State.secEnd_order_only e ho)

/-- A command with a tag that passes its checks acts with its counter used, and ends with what it answers (17 R658, R659). -/
theorem State.secTake_of_goes {s u : State} {p : Port} {op : Nat} {e : SecEnd} {f : State → Mailbox → State × SecEnd}
    (h : secGoes s p op) (ht : secTagged op = true) (hf : f (s.secUsed p) ((s.secUsed p).box p) = (u, e))
    (ho : u.sec.order = [p.val]) : s.secTake p op f = u.secEnd p e := by
  obtain ⟨hr, hb, hs, hop, hc⟩ := h
  have hu : s.secTake p op f = (u.secEnd p e).secNext := by
    unfold State.secTake
    rw [if_neg (by simp [hr, hb, hs, hop]), hc]
    dsimp only
    rw [if_pos ht]
    change ((f (s.secUsed p) ((s.secUsed p).box p)).1.secEnd p (f (s.secUsed p) ((s.secUsed p).box p)).2).secNext = _
    rw [hf]
  rw [hu, State.secNext_of_order_nil (State.secEnd_order_only e ho)]

/-! ## Keys -/

theorem State.secUsed_rolledKey (s : State) (p : Port) : (s.secUsed p).rolledKey ((s.secUsed p).box p) = s.rolledKey (s.box p) := by
  have hc := s.secUsed_cmd p
  have hk : ((s.secUsed p).box p).keyBytes = (s.box p).keyBytes := by rw [State.secUsed_box, Mailbox.keyBytes, Mailbox.keyBytes]
  rw [State.rolledKey, State.rolledKey, Mailbox.counter_congr hc, Mailbox.field_congr hc, hk, State.secUsed, State.putBox_start]

/-- A new key at a port, with its counter 0 (17 R663). -/
def State.keySet (s : State) (p : Nat) (k : BitVec 256) : State := s.putBox p { s.box p with key := some k, ctr := 0 }

theorem State.keySet_box (s : State) (p : Port) (k : BitVec 256) : (s.keySet p k).box p = { s.box p with key := some k, ctr := 0 } :=
  State.box_putBox_same _ _ _

/-- KEY_ROLL with a key that is not zero sets it with the counter 0 (17 R663). -/
theorem exec_keyRoll_sets {s : State} {p : Port} (h : secGoes s p 6) (hk : s.rolledKey (s.box p) ≠ 0) :
    exec (.keyRoll p) s = .next (((s.secUsed p).keySet p (s.rolledKey (s.box p))).secEnd p secDone) := by
  have ho := order_of_secGoes h
  refine congrArg Host.Outcome.next (State.secTake_of_goes h rfl ?_ ho)
  dsimp only
  rw [State.secUsed_rolledKey, if_neg hk, State.keySet]

/-- KEY_ROLL with a key of zero fails (17 R663). -/
theorem exec_keyRoll_zero {s : State} {p : Port} (h : secGoes s p 6) (hk : s.rolledKey (s.box p) = 0) :
    exec (.keyRoll p) s = .next ((s.secUsed p).secEnd p secBad) := by
  have ho := order_of_secGoes h
  refine congrArg Host.Outcome.next (State.secTake_of_goes h rfl ?_ ho)
  dsimp only
  rw [State.secUsed_rolledKey, if_pos hk]

/-- What a loss of always-on power makes of the security state: the keys, the counters, the fuses and the reserved indices stay
(14 R557, 17 R663, R669). -/
def SecSt.powerLost (x : SecSt) : SecSt :=
  { x with box := x.box.map Mailbox.powerOff, order := [], next := x.block, unlocked := false }

theorem alwaysOnPowerLoss_sec {s u : State} (h : exec .alwaysOnPowerLoss s = .next u) : u.sec = s.sec ∨ u.sec = s.sec.powerLost := by
  change execAlwaysOnPowerLoss s = .next u at h
  injection h with h
  split at h
  · exact .inl (h ▸ rfl)
  · have hd := congrArg SecSt.powerLost (s.powerDown_sec .off)
    rw [← h]
    exact .inr hd

theorem alwaysOnPowerLoss_box {s u : State} (h : exec .alwaysOnPowerLoss s = .next u) (p : Port) :
    (u.box p).key = (s.box p).key ∧ (u.box p).ctr = (s.box p).ctr := by
  obtain hs | hs := alwaysOnPowerLoss_sec h
  · rw [State.box_congr p (congrArg SecSt.box hs)]
    exact ⟨rfl, rfl⟩
  · rw [State.box, hs, SecSt.powerLost, vget_map _ _ _ p.isLt]
    exact ⟨rfl, rfl⟩

/-- Settles O50: the command acts on the mailbox whose counter it uses, and its end and a loss of power leave key and counter. -/
theorem keyRolls : Obligations.KeyRolls := by
  unfold Obligations.KeyRolls
  intro s p h m old mask new
  have ho := order_of_secGoes h
  constructor
  · intro hk
    have hcmd : (((s.secUsed p).keySet p new).box p).cmd = (s.box p).cmd := by rw [State.keySet_box, State.secUsed_cmd]
    have hbox := ((s.secUsed p).keySet p new).secEnd_box p secDone
    rw [State.keySet_box] at hbox
    have hkey := congrArg Mailbox.key hbox
    have hctr := congrArg Mailbox.ctr hbox
    refine ⟨_, exec_keyRoll_sets h hk, secEnded_secEnd secDone hcmd ho, hkey, hctr, fun u hu => ?_⟩
    obtain ⟨hlost, hlostCtr⟩ := alwaysOnPowerLoss_box hu p
    exact ⟨hlost.trans hkey, hlostCtr.trans hctr⟩
  · intro hk
    refine ⟨_, exec_keyRoll_zero h hk, secEnded_secEnd secBad (s.secUsed_cmd p) ho, ?_⟩
    rw [State.secEnd_box, State.secUsed_box]
    rfl

/-! ## Backoff -/

/-- The commands that carry a tag, with their opcodes (17 R657). -/
def taggedCommands : List ((Port → Instr) × Nat) :=
  [(.loadConfig, 1), (.activateFirmware, 2), (.setPowerProfile, 3), (.takeoverQueues, 4), (.debugUnlock, 5), (.keyRoll, 6),
    (.fuseCommit, 7), (.resetDevice, 8), (.zeroize, 9)]

/-- Each command with a tag ends with the check that fails; it asks for no reset (17 R658). -/
theorem exec_taggedCommand_of_check {s : State} {p : Port} {e : SecEnd} {c : (Port → Instr) × Nat} (hm : c ∈ taggedCommands)
    (hr : s.secReady = true) (hb : (s.box p).busy = true) (ho : s.sec.order = [p.val]) (hop : (s.box p).op = c.2)
    (ht : s.tapHolds = false) (hc : s.secCheck p = some e) : exec (c.1 p) s = .next (s.secEnd p e) := by
  have take (f : State → Mailbox → State × SecEnd) : s.secTake p c.2 f = s.secEnd p e := State.secTake_of_check f hr hb ho hop hc
  have answer {t : State} (h : t = s.secEnd p e) : (Host.Outcome.next t : Answer) = .next (s.secEnd p e) := congrArg _ h
  simp only [taggedCommands, List.mem_cons, List.not_mem_nil, or_false] at hm
  obtain rfl | rfl | rfl | rfl | rfl | rfl | rfl | rfl | rfl := hm
  case inl => exact answer ((if_neg (by simp [ht])).trans (take _))
  case inr.inr.inr.inr.inr.inr.inr.inl => exact answer ((if_neg (by simp [hc])).trans (take _))
  case inr.inr.inr.inr.inr.inr.inr.inr => exact answer ((if_neg (by simp [hc])).trans (take _))
  all_goals exact answer (take _)

/-- A port whose backoff began at a time is in it for 1,000,000 ticks from then (17 R662). -/
theorem State.inBackoff_iff {u : State} {p : Nat} {since : DWord} (h : (u.box p).backoff = some since) :
    u.inBackoff p = true ↔ (u.sync.dtc - since).toNat < 1000000 := by
  rw [State.inBackoff, h]
  exact decide_eq_true_iff

/-- A mailbox command that is sent (17 R653). -/
def State.secSent (s : State) (p : Nat) : State :=
  let t := s.putBox p { s.box p with busy := true }
  t.setSec { t.sec with order := t.sec.order ++ [p] }

theorem State.secSent_box (s : State) (p : Port) : (s.secSent p).box p = { s.box p with busy := true } := State.box_putBox_same _ _ _

/-- A command sent in backoff ends at once (17 R662). -/
theorem exec_secCtlGo_inBackoff {s : State} {p : Port} (hr : s.secReady = true) (hb : (s.box p).busy = false) (ho : s.barOpen = true)
    (hf : s.inBackoff p = true) : exec (.secCtlGo p) s = .next ((s.secSent p).secEnd p (secAuth 0x0A)) := by
  have hin : (s.secSent p).inBackoff p = true := by
    rw [← hf, State.inBackoff, State.inBackoff, State.secSent_box]
    rfl
  have hready : (s.secSent p).secReady = true := hr
  change execSecCtlGo p s = _
  rw [execSecCtlGo, if_neg (by simp [hb, ho])]
  exact congrArg Host.Outcome.next (if_pos (by rw [Bool.and_eq_true]; exact ⟨hready, hin⟩))

/-- Settles O51: the end of the command records its time, and the check of a command that is sent reads it. -/
theorem backoffAfterABadTag : Obligations.BackoffAfterABadTag := by
  unfold Obligations.BackoffAfterABadTag
  intro s p hr
  constructor
  · intro c hm hb ho hop ht hc
    have hbox := s.secEnd_box p (secAuth 1)
    refine ⟨_, exec_taggedCommand_of_check hm hr hb ho hop ht hc, secEnded_secEnd _ rfl ho, ?_, fun u hu => ?_⟩
    · rw [hbox]
      rfl
    · rw [hbox] at hu
      exact State.inBackoff_iff hu
  · intro hb ho hf
    refine ⟨_, exec_secCtlGo_inBackoff hr hb ho hf, ?_, ?_, ?_, ?_⟩
    · rw [State.secEnd_box]; rfl
    · rw [State.secEnd_box]; rfl
    · rw [State.secEnd_box]; rfl
    · rw [State.secEnd_order]
      simp [State.secSent]

end Sys2Proof.Machine
end

section
/-!
PROOFS. What commands leave of the fuses: every command but FUSE_COMMIT keeps them (17 R666). Each lemma says so of one command that
does more than one operation; the commands of one operation each are in the theorem over all commands.
-/
namespace Sys2Proof.Machine

/-- A command's answer in a state keeps the fuses: so does the next state, if there is one. -/
def KeepsFuses (s : State) (a : Answer) : Prop := ∀ t, a = .next t → t.sec.fuses = s.sec.fuses

theorem keepsFuses_next {s t : State} (h : t.sec.fuses = s.sec.fuses) : KeepsFuses s (.next t) := by
  rintro _ ⟨⟩
  exact h

theorem keepsFuses_of_sec {s t : State} (h : t.sec = s.sec) : KeepsFuses s (.next t) := keepsFuses_next (congrArg SecSt.fuses h)

theorem keepsFuses_refused (s : State) (r : Refusal) : KeepsFuses s (.refused r) := by
  intro t h
  cases h

/-- A choice between two states keeps the fuses when both of them do. -/
theorem fuses_ite {c : Prop} [Decidable c] {a b : State} {x : Bool × Bool × Bool} (ha : a.sec.fuses = x) (hb : b.sec.fuses = x) :
    (if c then a else b).sec.fuses = x := by
  split
  · exact ha
  · exact hb

/-! ## Core programs -/

/-- A core that fails, or else goes on, keeps the security state when what it goes on to does. -/
theorem failCore_or_sec {s t : State} {site : Nat} (o : Option Fail) (ht : t.sec = s.sec) :
    (match o with | some f => s.failCore site f | none => t).sec = s.sec := by
  cases o with
  | none => exact ht
  | some f => exact s.failCore_sec site f

/-- A list of writes, whatever the address and the bytes of each, keeps the security state. -/
theorem foldl_write_sec {β : Type} (addr : β → Nat) (data : β → List Byte) (l : List β) (s : State) :
    (l.foldl (fun t b => t.write (addr b) (data b)) s).sec = s.sec :=
  foldl_sec (fun t b => t.write_sec (addr b) (data b)) l s

theorem execSwr_keeps (c : Site) (d a b : Reg) (s : State) : KeepsFuses s (execSwr c d a b s) := by
  refine keepsFuses_of_sec (State.issueAt_sec fun k r => sec_ite (s.seqTo_sec _ _) (State.withMem_sec (failCore_or_sec _ ?_)))
  split
  · exact s.failCore_sec _ _
  · exact s.takeSlot_sec _ _

theorem execConsumingRead_keeps (c : Site) (n : Nat) (es : List (BitVec 42 × EccFact)) (s : State) :
    KeepsFuses s (execConsumingRead c n es s) := by
  refine keepsFuses_of_sec ?_
  split
  · dsimp only
    split
    · exact (State.failCore_sec _ _ _).trans ((State.setSlot_sec _ _ _ _).trans (s.consume_sec _ _ _ _ _ _ _))
    · exact (State.setSlot_sec _ _ _ _).trans (s.consume_sec _ _ _ _ _ _ _)
  · rfl

theorem execStreamOperationComplete_keeps (c : Site) (n : Nat) (s : State) :
    KeepsFuses s (execStreamOperationComplete c n s) := by
  refine keepsFuses_of_sec ?_
  split
  · exact (State.slotsMoved_sec _ _).trans ((State.write_sec _ _ _).trans (s.setSlot_sec _ _ _))
  · exact (State.slotsMoved_sec _ _).trans ((State.write_sec _ _ _).trans (s.setSlot_sec _ _ _))
  · rfl

theorem execMalformedInstruction_keeps (c : Site) (s : State) : KeepsFuses s (execMalformedInstruction c s) := by
  refine keepsFuses_of_sec ?_
  split
  · exact sec_ite (s.malformedAt_sec _) rfl
  · rfl

/-! ## Tiles and audits -/

theorem execTmm_keeps (c : Site) (w : BitVec 128) (s : State) : KeepsFuses s (execTmm c w s) :=
  keepsFuses_of_sec (State.tileIssue_sec fun _ _ => failCore_or_sec _ (sec_ite (s.shapeAt_sec _) (sec_ite rfl
    (sec_ite (s.failCore_sec _ _) (sec_ite (s.malformedAt_sec _) ((State.tilesOn_sec _ _).trans (s.putCore_sec _ _)))))))

theorem execTaccrd_keeps (c : Site) (w : BitVec 128) (stop : Option (Fin 256)) (s : State) : KeepsFuses s (execTaccrd c w stop s) := by
  refine keepsFuses_of_sec ?_
  dsimp only
  split
  · exact sec_ite ((State.tilesOn_sec _ _).trans (s.putCore_sec _ _)) rfl
  · exact State.tileIssue_sec fun _ _ => failCore_or_sec _ (sec_ite (s.shapeAt_sec _) (sec_ite rfl
      (failCore_or_sec _ ((State.tilesOn_sec _ _).trans (s.putCore_sec _ _)))))

theorem execTsave_keeps (c : Site) (w : BitVec 128) (s : State) : KeepsFuses s (execTsave c w s) :=
  keepsFuses_of_sec (State.tileIssue_sec fun _ _ => failCore_or_sec _ (sec_ite (s.shapeAt_sec _) (sec_ite rfl
    ((State.tilesOn_sec _ _).trans (s.putCore_sec _ _)))))

theorem execTrestore_keeps (c : Site) (w : BitVec 128) (s : State) : KeepsFuses s (execTrestore c w s) :=
  keepsFuses_of_sec (State.tileIssue_sec fun _ _ => failCore_or_sec _ (sec_ite rfl (failCore_or_sec _
    (sec_ite (s.malformedAt_sec _) ((State.tilesOn_sec _ _).trans (s.putCore_sec _ _))))))

theorem execKeeperLoad_keeps (c : Site) (s : State) : KeepsFuses s (execKeeperLoad c s) := by
  refine keepsFuses_of_sec ?_
  dsimp only
  split
  · rfl
  · refine sec_ite rfl ?_
    split
    · exact s.putCore_sec _ _
    · refine sec_ite rfl ?_
      split
      · exact (State.failCore_sec _ _ _).trans (s.putCore_sec _ _)
      · exact s.putCore_sec _ _

theorem execPassStart_keeps (c : Site) (s : State) : KeepsFuses s (execPassStart c s) := by
  refine keepsFuses_of_sec ?_
  dsimp only
  split
  · rfl
  · exact sec_ite rfl (sec_ite ((State.tallyAdd_sec _ _ _).trans (s.putCore_sec _ _)) (failCore_or_sec _
      (sec_ite ((State.setFreeCount_sec _ _).trans (s.putCore_sec _ _)) (s.putCore_sec _ _))))

theorem execRestage_keeps (c : Site) (s : State) : KeepsFuses s (execRestage c s) := by
  refine keepsFuses_of_sec ?_
  dsimp only
  split
  · exact sec_ite rfl (failCore_or_sec _ ((State.write_sec _ _ _).trans (s.putCore_sec _ _)))
  · rfl

theorem execChunkSumWrite_keeps (c : Site) (m : Fin 256) (n : Fin 96) (s : State) : KeepsFuses s (execChunkSumWrite c m n s) := by
  refine keepsFuses_of_sec ?_
  dsimp only
  split
  · rfl
  · split
    · rfl
    · exact sec_ite rfl (sec_ite ((retirePass_sec _ _ _).trans (s.putCore_sec _ _)) (s.putCore_sec _ _))

theorem execAuditEnd_keeps (c : Site) (rows : BitVec 100) (s : State) : KeepsFuses s (execAuditEnd c rows s) := by
  refine keepsFuses_of_sec ?_
  dsimp only
  split
  · rfl
  · have hlog (l : List Nat) (began : DWord) (x : Nat) (t : State) :
        (l.foldl (fun t r => t.logAt began 0x11 1 c 3 x r) t).sec = t.sec := foldl_sec (fun t r => t.logAt_sec _ _ _ _ _ _ _) l t
    exact sec_ite ((State.auditOver_sec _ _).trans ((hlog _ _ _ _).trans (s.putCore_sec _ _)))
      ((State.loseCore_sec _ _ _ _).trans ((State.putCore_sec _ _ _).trans ((hlog _ _ _ _).trans (s.putCore_sec _ _))))

theorem execContextSave_keeps (c : Site) (s : State) : KeepsFuses s (execContextSave c s) := by
  refine keepsFuses_of_sec ?_
  dsimp only
  split
  · split
    · rfl
    · exact sec_ite rfl ((State.settleSave_sec _ _ _).trans ((State.putCore_sec _ _ _).trans ((State.mapItem_sec _ _ _ _).trans
        (s.saveCore_sec _ _ _ _))))
  · rfl

/-! ## Queues and items -/

theorem execInstanceStart_keeps (q : Queue) (k : Nat) (c : Site) (s : State) : KeepsFuses s (execInstanceStart q k c s) := by
  refine keepsFuses_of_sec ?_
  split
  · rfl
  · split
    · refine sec_ite rfl ?_
      split
      · exact s.resumeRun_sec _ _ _
      · exact sec_ite ((State.beginInstance_sec _ _ _ _ _).trans (s.mapItem_sec _ _ _)) rfl
    · rfl

theorem execItemRetry_keeps (q : Queue) (k : Nat) (c : Site) (s : State) : KeepsFuses s (execItemRetry q k c s) := by
  refine keepsFuses_of_sec ?_
  split
  · rfl
  · refine sec_ite rfl ?_
    split
    · split
      · rfl
      · exact (State.beginInstance_sec _ _ _ _ _).trans ((State.logEvent_sec _ _ _ _ _ _ _).trans (s.mapItem_sec _ _ _))
    · split
      · rfl
      · exact (State.takeRegion_sec _ _ _ _ _).trans ((State.logEvent_sec _ _ _ _ _ _ _).trans (s.mapItem_sec _ _ _))
    · rfl

theorem execListAcceptance_keeps (q : Queue) (s : State) : KeepsFuses s (execListAcceptance q s) := by
  refine keepsFuses_of_sec (sec_ite rfl ?_)
  split
  · rfl
  · rfl
  · exact s.takeList_sec _ _
  · exact sec_ite (s.putQueue_sec _ _) ((State.takeList_sec _ _ _).trans (s.putQueue_sec _ _))

theorem execSignal_keeps (q : Queue) (k : Nat) (s : State) : KeepsFuses s (execSignal q k s) :=
  keepsFuses_of_sec (State.startItem_sec fun t _ => sec_ite (t.failItem_sec _ _ _)
    ((State.ops_sec _ _).trans ((State.endNow_sec _ _ _ _).trans (t.mapItem_sec _ _ _))))

theorem execWait_keeps (q : Queue) (k : Nat) (s : State) : KeepsFuses s (execWait q k s) :=
  keepsFuses_of_sec (State.startItem_sec fun t _ => sec_ite (t.failItem_sec _ _ _)
    ((State.register_sec _ _).trans (t.setWork_sec _ _ _)))

theorem execBarrier_keeps (q : Queue) (k : Nat) (s : State) : KeepsFuses s (execBarrier q k s) :=
  keepsFuses_of_sec (State.startItem_sec fun t _ => sec_ite (t.failItem_sec _ _ _) (sec_ite (t.failItem_sec _ _ _)
    ((State.arriveFabric_sec _ _).trans (t.setWork_sec _ _ _))))

theorem execItemCompletion_keeps (q : Queue) (k : Nat) (s : State) : KeepsFuses s (execItemCompletion q k s) := by
  refine keepsFuses_of_sec ?_
  dsimp only
  split
  · refine sec_ite ?_ (s.collect_sec _ _)
    split
    · exact (State.failItem_sec _ _ _ _).trans ((State.flagWord_sec _ _).trans (s.collect_sec _ _))
    · exact (State.ops_sec _ _).trans ((State.endNow_sec _ _ _ _).trans ((State.flagWord_sec _ _).trans (s.collect_sec _ _)))
  · exact s.collect_sec _ _

theorem execIrqHoldExpiry_keeps (q : Queue) (s : State) : KeepsFuses s (execIrqHoldExpiry q s) := by
  refine keepsFuses_of_sec ?_
  dsimp only
  split
  · exact sec_ite ((State.msix_sec _ _ _).trans (s.putQueue_sec _ _)) rfl
  · rfl

theorem execDeadline_keeps (q : Queue) (l : Nat) (s : State) : KeepsFuses s (execDeadline q l s) :=
  keepsFuses_of_sec (sec_ite ((foldl_sec (fun t (i : Item) => t.failItem_sec q i.k ⟨0x14, 0, none⟩) _ _).trans
    (s.withdrawAll_sec _)) rfl)

theorem execStart_keeps (p : Port) (q : Queue) (s : State) : KeepsFuses s (execStart p q s) :=
  keepsFuses_of_sec (sec_ite (s.putQueue_sec _ _) rfl)

theorem execPreemptNow_keeps (p : Port) (q : Queue) (s : State) : KeepsFuses s (execPreemptNow p q s) :=
  keepsFuses_of_sec (sec_ite (sec_ite (s.askNow_sec _) (s.askPoint_sec _)) rfl)

theorem execPreemptAtPoint_keeps (p : Port) (q : Queue) (s : State) : KeepsFuses s (execPreemptAtPoint p q s) :=
  keepsFuses_of_sec (sec_ite (s.askPoint_sec _) rfl)

theorem execResume_keeps (p : Port) (q : Queue) (s : State) : KeepsFuses s (execResume p q s) :=
  keepsFuses_of_sec (sec_ite ((foldl_sec (fun t (i : Item) => t.resumeItem_sec q i.k) _ _).trans (s.putQueue_sec _ _)) rfl)

theorem execAbort_keeps (p : Port) (q : Queue) (s : State) : KeepsFuses s (execAbort p q s) :=
  keepsFuses_of_sec (sec_ite ((foldl_sec (fun t (i : Item) => t.failItem_sec q i.k ⟨0x1C, 0, none⟩) _ _).trans
    (s.putQueue_sec _ _)) rfl)

theorem execCqHeadWrite_keeps (p : Port) (q : Queue) (v : Word) (s : State) : KeepsFuses s (execCqHeadWrite p q v s) :=
  keepsFuses_of_sec (sec_ite ((State.drain_sec _ _).trans (sec_ite (s.putQueue_sec _ _) rfl)) rfl)

theorem execQeWinCommitGo_keeps (p : Port) (x : Ctx) (s : State) : KeepsFuses s (execQeWinCommitGo p x s) :=
  keepsFuses_of_sec (sec_ite (s.putCtx_sec _ _) rfl)

theorem execQeQTakeGo_keeps (p : Port) (q : Queue) (s : State) : KeepsFuses s (execQeQTakeGo p q s) :=
  keepsFuses_of_sec (sec_ite ((State.drain_sec _ _).trans (s.putQueue_sec _ _)) rfl)

theorem execMatmul_keeps (q : Queue) (k : Nat) (c : Site) (n : Nat) (es : List (BitVec 42 × EccFact)) (s : State) :
    KeepsFuses s (execMatmul q k c n es s) := by
  have hstart : (s.startItem q k 0x10 (matFields s) fun t i => t.startMat q k i).sec = s.sec :=
    State.startItem_sec fun t i => t.startMat_sec _ _ _
  exact keepsFuses_of_sec (sec_ite ((matSteps_sec _ _ _ _ _ _).trans ((State.matJoin_sec _ _ _ _).trans hstart)) hstart)

theorem execJob_keeps (q : Queue) (k : Nat) (s : State) : KeepsFuses s (execJob q k s) := by
  refine keepsFuses_of_sec (State.startItem_sec fun t i => sec_ite (t.failItem_sec _ _ _) ?_)
  split
  · exact t.failItem_sec _ _ _
  · split
    · exact t.failItem_sec _ _ _
    · exact t.setWork_sec _ _ _

theorem execCopy_keeps (q : Queue) (k n : Nat) (s : State) : KeepsFuses s (execCopy q k n s) := by
  have hstart : (s.startItem q k 0x20 (copyFields s.device) fun t _ => t.setWork q k (.copy 0 0)).sec = s.sec :=
    State.startItem_sec fun t i => t.setWork_sec _ _ _
  exact keepsFuses_of_sec (sec_ite ((copyPieces_sec _ _ _ _).trans hstart) hstart)

theorem execGather_keeps (q : Queue) (k n : Nat) (s : State) : KeepsFuses s (execGather q k n s) := by
  refine keepsFuses_of_sec ?_
  extract_lets t
  have hstart : t.sec = s.sec := by
    refine State.startItem_sec fun t i => ?_
    dsimp only
    split
    · exact t.failItem_sec _ _ _
    · exact t.setWork_sec _ _ _
  exact sec_ite ((gatherLines_sec _ _ _ _).trans hstart) hstart

theorem execStreamOpen_keeps (q : Queue) (k : Nat) (s : State) : KeepsFuses s (execStreamOpen q k s) := by
  refine keepsFuses_of_sec ?_
  split
  · rfl
  · refine sec_ite rfl (State.startItem_sec fun t i => sec_ite (t.failItem_sec _ _ _) (sec_ite (t.failItem_sec _ _ _) ?_))
    split
    · exact t.failItem_sec _ _ _
    · refine sec_ite (t.failItem_sec _ _ _) ?_
      split
      · exact t.failItem_sec _ _ _
      · exact (State.workDone_sec _ _ _).trans ((State.mapItem_sec _ _ _ _).trans (t.putStream_sec _ _))

theorem execStreamClose_keeps (q : Queue) (k : Nat) (s : State) : KeepsFuses s (execStreamClose q k s) := by
  refine keepsFuses_of_sec ?_
  extract_lets t
  have hstart : t.sec = s.sec := by
    unfold t
    split
    · rfl
    · exact sec_ite rfl (State.startItem_sec fun t i => sec_ite (t.failItem_sec _ _ _) (t.setWork_sec _ _ _))
  split
  · exact hstart
  · split
    · exact sec_ite ((State.workDone_sec _ _ _).trans ((State.mapItem_sec _ _ _ _).trans ((State.freeStream_sec _ _).trans hstart))) hstart
    · exact hstart

theorem execChunk_keeps (l : Link) (m : MsgHead) (data : List Line) (s : State) : KeepsFuses s (execChunk l m data s) := by
  unfold execChunk
  split
  · exact keepsFuses_refused _ _
  · exact keepsFuses_of_sec (sec_ite (sec_ite (s.chunkHere_sec _ _) ((State.transit_sec _ _ _ _).trans (s.takeMsg_sec _ _ _ _))) rfl)

theorem execUpdateMainPass_keeps (q : Queue) (k : Nat) (s : State) : KeepsFuses s (execUpdateMainPass q k s) := by
  refine keepsFuses_of_sec ?_
  split
  · rfl
  · refine sec_ite rfl (sec_ite (s.failItem_sec _ _ _) ?_)
    split
    · exact sec_ite (s.setUpd_sec _ _ _) (s.failItem_sec _ _ _)
    · exact s.setUpd_sec _ _ _

theorem execUpdateBlock_keeps (q : Queue) (k : Nat) (b : BitVec 32) (s : State) : KeepsFuses s (execUpdateBlock q k b s) := by
  refine keepsFuses_of_sec ?_
  split
  · rfl
  · exact sec_ite (s.mainBlock_sec _ _ _ _ _ _) rfl

end Sys2Proof.Machine
end

section
/-!
PROOFS. What commands leave of the fuses, continued: time, sync, memory, links, resets, power, management and the mailboxes.
-/
namespace Sys2Proof.Machine

/-! ## Sync unit, telemetry and step boundaries -/

theorem execSnap_keeps (p : Port) (s : State) : KeepsFuses s (execSnap p s) := keepsFuses_of_sec (sec_ite rfl (s.setTally_sec _))

theorem execWriteNow_keeps (s : State) : KeepsFuses s (execWriteNow s) := keepsFuses_of_sec (sec_ite (s.setTally_sec _) rfl)

theorem execTallySample_keeps (lanes : List (Fin 80 × BitVec 32)) (s : State) : KeepsFuses s (execTallySample lanes s) := by
  refine keepsFuses_of_sec (sec_ite rfl ?_)
  extract_lets live t u v w idle
  have hv : v.sec = s.sec := (State.tallyBin_sec _ _ _ _).trans ((State.tallyAdd_sec _ _ _).trans (s.setTally_sec _))
  have hw : w.sec = s.sec := (foldl_sec (fun u i => u.tallyBin_sec _ _ _) _ v).trans hv
  exact sec_ite ((foldl_sec State.laneSample_sec _ w).trans hw) hv

theorem execSuCtrAdd_keeps (p : Port) (n : Counter) (v : Word) (s : State) : KeepsFuses s (execSuCtrAdd p n v s) :=
  keepsFuses_of_sec (sec_ite rfl (sec_ite (s.signal_sec _ _) (s.logEvent_sec _ _ _ _ _ _)))

theorem execWatchGrant_keeps (s : State) : KeepsFuses s (execWatchGrant s) := by
  refine keepsFuses_of_sec ?_
  split
  · rfl
  · exact sec_ite ((State.place_sec _ _).trans (s.setSync_sec _)) rfl

theorem execHostWatchRegister_keeps (p : Port) (n : Fin 64) (v : Word) (s : State) : KeepsFuses s (execHostWatchRegister p n v s) :=
  keepsFuses_of_sec (sec_ite rfl (sec_ite
    ((State.logEvent_sec _ _ _ _ _ _ _).trans ((State.putHostWatch_sec _ _ _ _).trans (s.withdraw_sec _)))
    ((State.register_sec _ _).trans ((State.putHostWatch_sec _ _ _ _).trans (s.withdraw_sec _)))))

theorem execHostWatchWithdraw_keeps (p : Port) (n : Fin 64) (v : Word) (s : State) : KeepsFuses s (execHostWatchWithdraw p n v s) :=
  keepsFuses_of_sec (sec_ite rfl ((State.putHostWatch_sec _ _ _ _).trans (s.withdraw_sec _)))

theorem execStepSyncInPulse_keeps (s : State) : KeepsFuses s (execStepSyncInPulse s) :=
  keepsFuses_of_sec (sec_ite (s.logEvent_sec _ _ _ _ _ _) ((State.setSync_sec _ _).trans (sec_ite (s.logEvent_sec _ _ _ _ _ _) rfl)))

theorem execStepSyncOutEnd_keeps (s : State) : KeepsFuses s (execStepSyncOutEnd s) := by
  refine keepsFuses_of_sec ?_
  split
  · exact sec_ite ((State.setPins_sec _ _).trans (s.setSync_sec _)) rfl
  · rfl

theorem execStepSyncInIgnore_keeps (pin : Bool) (s : State) : KeepsFuses s (execStepSyncInIgnore pin s) := by
  refine keepsFuses_of_sec (sec_ite rfl ?_)
  dsimp only
  split
  · exact (State.raiseOr_sec _ _ _).trans s.ignoreIn_sec
  · exact s.ignoreIn_sec

theorem execStepSyncOutDisable_keeps (s : State) : KeepsFuses s (execStepSyncOutDisable s) :=
  keepsFuses_of_sec (sec_ite rfl ((State.tallyAdd_sec _ _ _).trans ((State.logEvent_sec _ _ _ _ _ _ _).trans
    ((State.setPins_sec _ _).trans (s.setSync_sec _)))))

theorem execRearm_keeps (s : State) : KeepsFuses s (execRearm s) := keepsFuses_of_sec (sec_ite (s.setSync_sec _) rfl)

theorem execBoundary_keeps (q : Queue) (k : Nat) (s : State) : KeepsFuses s (execBoundary q k s) := by
  refine keepsFuses_of_sec (State.startItem_sec fun t _ => ?_)
  extract_lets win sync u
  have hu : u.sec = t.sec := (State.setSync_sec _ _).trans (t.setWork_sec _ _ _)
  split
  · exact sec_ite ((State.logEvent_sec _ _ _ _ _ _ _).trans ((State.setSync_sec _ _).trans hu)) hu
  · exact hu

theorem execBoundaryRaise_keeps (s : State) : KeepsFuses s (execBoundaryRaise s) := by
  refine keepsFuses_of_sec ?_
  split
  · split
    · exact s.raiseOr_sec _ _
    · rfl
  · rfl

/-! ## Memory and the host's accesses -/

theorem execSpareCopyEnd_keeps (h : Hub) (s : State) : KeepsFuses s (execSpareCopyEnd h s) := by
  refine keepsFuses_of_sec ?_
  dsimp only
  split
  · rfl
  · exact s.putHub_sec _ _

theorem execPatrolScrub_keeps (h : Hub) (a : BitVec 42) (e : ReadFact) (s : State) : KeepsFuses s (execPatrolScrub h a e s) :=
  keepsFuses_of_sec (sec_ite (sec_ite ((State.logEvent_sec _ _ _ _ _ _ _).trans (s.readFact_sec _ _ _)) (s.readFact_sec _ _ _)) rfl)

theorem execHubRequestArrival_keeps (h : Hub) (r : MemReq) (s : State) : KeepsFuses s (execHubRequestArrival h r s) := by
  refine keepsFuses_of_sec (sec_ite ((State.enterHub_sec _ _ _ _ _ _).trans ?_) rfl)
  split
  · exact s.acceptWrite_sec _ _ _
  · rfl

theorem execRequestPerformed_keeps (h : Hub) (n : Nat) (e : ReadFact) (s : State) : KeepsFuses s (execRequestPerformed h n e s) := by
  refine keepsFuses_of_sec ?_
  dsimp only
  split
  · rfl
  · exact sec_ite rfl (sec_ite ((State.slotsAt_sec _ _).trans (s.putHub_sec _ _))
      ((State.readFact_sec _ _ _ _).trans ((State.slotsAt_sec _ _).trans (s.putHub_sec _ _))))

theorem execPrefetchFetch_keeps (n : StreamNo) (h : Hub) (s : State) : KeepsFuses s (execPrefetchFetch n h s) := by
  refine keepsFuses_of_sec (sec_ite rfl ?_)
  split
  · rfl
  · exact (State.enterHub_sec _ _ _ _ _ _).trans (s.putHub_sec _ _)

theorem execFetchReturn_keeps (h : Hub) (n : Nat) (s : State) : KeepsFuses s (execFetchReturn h n s) := by
  refine keepsFuses_of_sec ?_
  dsimp only
  split
  · rfl
  · exact sec_ite rfl (sec_ite (s.putHub_sec _ _) ((State.putHub_sec _ _ _).trans (s.putHub_sec _ _)))

theorem execHostBar2Read_keeps (p : Port) (off : BitVec 42) (len : Nat) (s : State) : KeepsFuses s (execHostBar2Read p off len s) :=
  keepsFuses_of_sec (sec_ite rfl ((State.emit_sec _ _).trans (barReads_sec _ _ _)))

theorem execHostBar2Write_keeps (p : Port) (off : BitVec 42) (bytes : List Byte) (s : State) :
    KeepsFuses s (execHostBar2Write p off bytes s) :=
  keepsFuses_of_sec (sec_ite rfl (foldl_sec (fun t (c : Nat × List Byte) => t.barWrite_sec p c.1 c.2) _ s))

theorem execPcieConfigRequest_keeps (p : Port) (r : CfgReq) (s : State) : KeepsFuses s (execPcieConfigRequest p r s) := by
  refine keepsFuses_of_sec (sec_ite rfl (sec_ite (s.emit_sec _) ?_))
  cases r with
  | read reg => exact s.emit_sec _
  | write => exact s.emit_sec _
  | powerState d => exact (State.emit_sec _ _).trans (s.putPcie_sec _ _)
  | bar2Size n => exact (State.emit_sec _ _).trans (s.putPcie_sec _ _)

/-! ## Links -/

theorem execDataFlit_keeps (l : Link) (fec : Option Nat) (f : Flit) (s : State) : KeepsFuses s (execDataFlit l fec f s) :=
  keepsFuses_of_sec (State.flitIn_sec fun _ => (State.pumpLink_sec _ _).trans (sec_ite
    ((State.putLink_sec _ _ _).trans (s.flitCover_sec _ _))
    (sec_ite ((State.sendNak_sec _ _).trans (s.flitCover_sec _ _)) (s.flitCover_sec _ _))))

theorem execNak_keeps (l : Link) (fec : Option Nat) (f : Flit) (s : State) : KeepsFuses s (execNak l fec f s) :=
  keepsFuses_of_sec (State.flitIn_sec fun _ => (State.pumpLink_sec _ _).trans ((State.replayed_sec _ _).trans
    ((State.resend_sec _ _ _).trans (s.flitCover_sec _ _))))

theorem execRetrain_keeps (l : Link) (s : State) : KeepsFuses s (execRetrain l s) := by
  refine keepsFuses_of_sec (sec_ite rfl ?_)
  split
  · exact s.spare_sec _
  · exact sec_ite (s.putLink_sec _ _) rfl
  · rfl

theorem execSparingEnd_keeps (l : Link) (s : State) : KeepsFuses s (execSparingEnd l s) :=
  keepsFuses_of_sec (sec_ite ((State.pumpLink_sec _ _).trans ((State.emitFlits_sec _ _ _).trans (s.putLink_sec _ _))) rfl)

theorem execReplayTimeout_keeps (l : Link) (s : State) : KeepsFuses s (execReplayTimeout l s) :=
  keepsFuses_of_sec (sec_ite ((State.replayed_sec _ _).trans ((State.putLink_sec _ _ _).trans (s.emitFlits_sec _ _))) rfl)

theorem execRead_keeps (l : Link) (m : MsgHead) (s : State) : KeepsFuses s (execRead l m s) := by
  refine keepsFuses_of_sec (sec_ite rfl (State.receive_sec fun t => sec_ite rfl ?_))
  split
  · exact t.refuse_sec _ _ _
  · exact t.respond_sec _ _ _ _ _

theorem execWrite_keeps (l : Link) (m : MsgHead) (data : List Line) (s : State) : KeepsFuses s (execWrite l m data s) := by
  unfold execWrite
  split
  · exact keepsFuses_refused _ _
  · refine keepsFuses_of_sec (sec_ite rfl (State.receive_sec fun t => ?_))
    split
    · exact t.refuse_sec _ _ _
    · exact (State.respond_sec _ _ _ _ _ _).trans (foldl_sec (fun u _ => u.writeLine_sec _ _) _ t)

theorem execWriteMasked_keeps (l : Link) (m : MsgHead) (data : List Line) (s : State) : KeepsFuses s (execWriteMasked l m data s) := by
  unfold execWriteMasked
  split
  · refine keepsFuses_of_sec (sec_ite rfl (State.receive_sec fun t => ?_))
    dsimp only
    split
    · exact t.refuse_sec _ _ _
    · exact (State.respond_sec _ _ _ _ _ _).trans (sec_ite rfl (t.writeLine_sec _ _))
  · exact keepsFuses_refused _ _

theorem execReadData_keeps (l : Link) (m : MsgHead) (data : List Line) (s : State) : KeepsFuses s (execReadData l m data s) := by
  unfold execReadData
  split
  · exact keepsFuses_refused _ _
  · refine keepsFuses_of_sec (State.receive_sec fun t => ?_)
    split
    · rfl
    · dsimp only
      split
      · exact t.dropReq_sec _
      · refine sec_ite (t.dropReq_sec _) ?_
        split
        · exact (State.failItem_sec _ _ _ _).trans ((State.writeFor_sec _ _ _ _).trans (t.dropReq_sec _))
        · exact (State.settleCopy_sec _ _ _).trans ((State.writeFor_sec _ _ _ _).trans (t.dropReq_sec _))

theorem execWriteDone_keeps (l : Link) (m : MsgHead) (s : State) : KeepsFuses s (execWriteDone l m s) := by
  refine keepsFuses_of_sec (State.receive_sec fun t => ?_)
  split
  · rfl
  · exact (State.settleCopy_sec _ _ _).trans (t.dropReq_sec _)

theorem execRequestTimeout_keeps (tag : Nat) (s : State) : KeepsFuses s (execRequestTimeout tag s) := by
  refine keepsFuses_of_sec ?_
  split
  · rfl
  · exact sec_ite (s.failReq_sec _) rfl

theorem execUnknownKindMessage_keeps (l : Link) (vc : Fin 4) (kind : Byte) (m : MsgHead) (data : List Line) (s : State) :
    KeepsFuses s (execUnknownKindMessage l vc kind m data s) := by
  unfold execUnknownKindMessage
  split
  · exact keepsFuses_refused _ _
  · exact keepsFuses_of_sec (sec_ite ((State.logEvent_sec _ _ _ _ _ _ _).trans (s.putLink_sec _ _)) rfl)

theorem execArrive_keeps (l : Link) (m : MsgHead) (s : State) : KeepsFuses s (execArrive l m s) :=
  keepsFuses_of_sec (State.receive_sec fun t => sec_ite (t.logEvent_sec _ _ _ _ _ _) (sec_ite (t.putHerd_sec _ _)
    (sec_ite ((State.checkFabricHerd_sec _ _).trans (t.putHerd_sec _ _)) rfl)))

theorem execRelease_keeps (l : Link) (m : MsgHead) (s : State) : KeepsFuses s (execRelease l m s) :=
  keepsFuses_of_sec (State.receive_sec fun t => sec_ite (t.logEvent_sec _ _ _ _ _ _) ((State.releaseBarriers_sec _ _).trans
    ((State.takeCount_sec _ _ _).trans (t.putHerd_sec _ _))))

theorem execCancel_keeps (l : Link) (m : MsgHead) (s : State) : KeepsFuses s (execCancel l m s) :=
  keepsFuses_of_sec (State.receive_sec fun t => sec_ite (t.logEvent_sec _ _ _ _ _ _) (sec_ite (t.putHerd_sec _ _)
    (sec_ite (t.putHerd_sec _ _) rfl)))

theorem execLost_keeps (l : Link) (m : MsgHead) (s : State) : KeepsFuses s (execLost l m s) :=
  keepsFuses_of_sec (sec_ite rfl (sec_ite (s.takeMsg_sec _ _ _ _) ((State.floodLost_sec _ _).trans ((State.markLost_sec _ _).trans
    ((State.setFab_sec _ _).trans (s.takeMsg_sec _ _ _ _))))))

/-! ## Resets, ports and firmware -/

theorem execAlwaysOnFault_keeps (s : State) : KeepsFuses s (execAlwaysOnFault s) :=
  keepsFuses_of_sec (sec_ite ((State.setFault_sec _ _).trans (s.logEvent_sec _ _ _ _ _ _)) rfl)

theorem execHostPortLinkUp_keeps (p : Port) (speed : Fin 6) (faults : BitVec 16) (s : State) :
    KeepsFuses s (execHostPortLinkUp p speed faults s) :=
  keepsFuses_of_sec (sec_ite rfl (sec_ite ((State.logEvent_sec _ _ _ _ _ _ _).trans (s.putPcie_sec _ _))
    ((State.drainPort_sec _ _).trans (sec_ite ((State.logEvent_sec _ _ _ _ _ _ _).trans (s.putPcie_sec _ _)) (s.putPcie_sec _ _)))))

theorem execFwuBegin_keeps (p : Port) (s : State) : KeepsFuses s (execFwuBegin p s) :=
  keepsFuses_of_sec (sec_ite rfl (sec_ite (s.fwuForbidden_sec _) ((State.fwuEnd_sec _ _ _ _).trans (s.setFwu_sec _))))

theorem execHostBar4Write_keeps (p : Port) (off : BitVec 20) (bytes : List Byte) (s : State) :
    KeepsFuses s (execHostBar4Write p off bytes s) := by
  unfold execHostBar4Write
  split
  · exact keepsFuses_refused _ _
  · exact keepsFuses_of_sec (sec_ite rfl (s.setFwu_sec _))

theorem execWriteBlock_keeps (p : Port) (s : State) : KeepsFuses s (execWriteBlock p s) :=
  keepsFuses_of_sec (State.fwuDo_sec (sec_ite (s.fwuEnd_sec _ _ _) ((State.fwuEnd_sec _ _ _ _).trans (s.setFwu_sec _))))

theorem execFwuStage_keeps (p : Port) (s : State) : KeepsFuses s (execFwuStage p s) := by
  refine keepsFuses_of_sec (State.fwuDo_sec ?_)
  dsimp only
  split
  · exact (State.fwuEnd_sec _ _ _ _).trans (s.staged_sec _ _)
  · exact (State.fwuEnd_sec _ _ _ _).trans (sec_ite (s.putUnit_sec _ _) rfl)

theorem execFwuAbort_keeps (p : Port) (s : State) : KeepsFuses s (execFwuAbort p s) :=
  keepsFuses_of_sec (State.fwuDo_sec ((State.fwuEnd_sec _ _ _ _).trans ((State.setFwu_sec _ _).trans
    (sec_ite rfl (s.setFwu_sec _)))))

theorem execFwuCommit_keeps (p : Port) (s : State) : KeepsFuses s (execFwuCommit p s) :=
  keepsFuses_of_sec (State.fwuDo_sec (sec_ite (s.fwuForbidden_sec _) ((State.fwuEnd_sec _ _ _ _).trans (s.setFwu_sec _))))

theorem execFwuRevert_keeps (p : Port) (s : State) : KeepsFuses s (execFwuRevert p s) :=
  keepsFuses_of_sec (State.fwuDo_sec (sec_ite (s.fwuForbidden_sec _) ((State.fwuEnd_sec _ _ _ _).trans (s.setFwu_sec _))))

theorem execFwuRestart_keeps (p : Port) (s : State) : KeepsFuses s (execFwuRestart p s) :=
  keepsFuses_of_sec (State.fwuDo_sec (sec_ite (s.fwuForbidden_sec _) ((State.fwuEnd_sec _ _ _ _).trans
    ((State.setFwu_sec _ _).trans ((State.setStart_sec _ _).trans (s.setPower_sec _))))))

theorem execActivationSwitch_keeps (s : State) : KeepsFuses s (execActivationSwitch s) :=
  keepsFuses_of_sec (sec_ite rfl ((State.endActivation_sec _ _ _).trans (sec_ite
    ((State.restoreRecords_sec _).trans (s.setFwu_sec _)) ((State.migrate_sec _).trans (s.setFwu_sec _)))))

/-! ## Power -/

theorem execPwrEnAssert_keeps (vin : BitVec 16) (s : State) : KeepsFuses s (execPwrEnAssert vin s) :=
  keepsFuses_of_sec (sec_ite rfl (sec_ite ((State.setPower_sec _ _).trans (s.setPower_sec _)) (s.setPower_sec _)))

theorem execPwrEnDeassert_keeps (s : State) : KeepsFuses s (execPwrEnDeassert s) := by
  refine keepsFuses_next (fuses_ite rfl ?_)
  dsimp only
  split
  · exact (State.orderly_fuses _).trans rfl
  all_goals rfl

theorem execVinUndervoltage_keeps (vin : BitVec 16) (s : State) : KeepsFuses s (execVinUndervoltage vin s) :=
  keepsFuses_next (fuses_ite ((State.orderly_fuses _).trans
    (congrArg SecSt.fuses ((State.logEvent_sec _ _ _ _ _ _ _).trans (s.setPower_sec _)))) rfl)

theorem execVinOvervoltage_keeps (vin : BitVec 16) (s : State) : KeepsFuses s (execVinOvervoltage vin s) :=
  keepsFuses_next (fuses_ite ((State.orderly_fuses _).trans
    (congrArg SecSt.fuses ((State.logEvent_sec _ _ _ _ _ _ _).trans (s.setPower_sec _)))) rfl)

theorem State.powerDown_fuses (s : State) (phase : PowerPhase) : (s.powerDown phase).sec.fuses = s.sec.fuses := by
  rw [State.powerDown_sec]
  rfl

theorem execEfuseTrip_keeps (s : State) : KeepsFuses s (execEfuseTrip s) := by
  refine keepsFuses_next (fuses_ite rfl ((congrArg SecSt.fuses (State.setPower_sec _ _)).trans ((State.powerDown_fuses _ _).trans
    (congrArg SecSt.fuses ?_))))
  exact (State.cutAll_sec _).trans ((State.tallyAdd_sec _ _ _).trans (s.logEvent_sec _ _ _ _ _ _))

theorem execEfuseRetry_keeps (s : State) : KeepsFuses s (execEfuseRetry s) := by
  refine keepsFuses_of_sec ?_
  split
  · exact sec_ite (s.setPower_sec _) rfl
  · rfl

theorem execAlwaysOnPowerLoss_keeps (s : State) : KeepsFuses s (exec .alwaysOnPowerLoss s) := by
  intro t h
  obtain ht | ht := alwaysOnPowerLoss_sec h
  · exact congrArg SecSt.fuses ht
  · rw [ht]
    rfl

theorem execNimtiaBoot_keeps (cool : Fin 4) (slot : Fin 64) (cfg fwOk : Bool) (s : State) :
    KeepsFuses s (execNimtiaBoot cool slot cfg fwOk s) :=
  keepsFuses_of_sec (sec_ite rfl ((State.setStart_sec _ _).trans ((State.setFwu_sec _ _).trans ((State.setPins_sec _ _).trans
    ((State.setPower_sec _ _).trans ((State.tallyAdd_sec _ _ _).trans s.tallyLoad_sec))))))

theorem execReferenceLoss_keeps (s : State) : KeepsFuses s (execReferenceLoss s) := by
  refine keepsFuses_of_sec (sec_ite rfl ?_)
  extract_lets power t u v
  have hu : u.sec = s.sec := (State.logEvent_sec _ _ _ _ _ _ _).trans ((State.tallyAdd_sec _ _ _).trans (s.setPower_sec _))
  exact (State.setFault_sec _ _).trans (sec_ite ((State.beginReset_sec _ _).trans hu) hu)

theorem execHoldoverEnd_keeps (s : State) : KeepsFuses s (execHoldoverEnd s) :=
  keepsFuses_of_sec (sec_ite rfl ((State.endOpen_sec _).trans
    ((foldl_sec (fun u _ => u.putCore_sec _ _) _ _).trans (s.failAll_sec _))))

theorem execGateOff_keeps (b : Fin 44) (s : State) : KeepsFuses s (execGateOff b s) := by
  refine keepsFuses_of_sec (sec_ite rfl ?_)
  exact sec_ite ((State.linkOff_sec _ _).trans (s.setPower_sec _))
    (sec_ite (sec_ite (s.setPower_sec _) ((State.portDown_sec _ _).trans (s.setPower_sec _))) (s.setPower_sec _))

theorem execSensorFault_keeps (u : Fin 32) (n : Fin 2) (s : State) : KeepsFuses s (execSensorFault u n s) := by
  refine keepsFuses_of_sec (sec_ite rfl ?_)
  extract_lets power t power' v
  have hv : v.sec = s.sec := sec_ite ((State.setPower_sec _ _).trans (s.setPower_sec _)) (s.setPower_sec _)
  exact sec_ite ((State.logEvent_sec _ _ _ _ _ _ _).trans hv) ((State.logEvent_sec _ _ _ _ _ _ _).trans hv)

theorem execClkObsWrite_keeps (v : Word) (s : State) : KeepsFuses s (execClkObsWrite v s) :=
  keepsFuses_of_sec (sec_ite rfl (s.setPower_sec _))

theorem execPwrGateWrite_keeps (p : Port) (hi : Bool) (v : Word) (s : State) : KeepsFuses s (execPwrGateWrite p hi v s) :=
  keepsFuses_of_sec (sec_ite rfl (sec_ite (s.setGates_sec _ _) (s.setGates_sec _ _)))

theorem execAuditNow_keeps (c : Site) (s : State) : KeepsFuses s (execAuditNow c s) :=
  keepsFuses_of_sec (sec_ite rfl (s.putCore_sec _ _))

/-! ## Management and the test port -/

theorem execReadLog_keeps (t : Transport) (n : DWord) (s : State) : KeepsFuses s (execReadLog t n s) :=
  keepsFuses_of_sec (sec_ite ((State.setPins_sec _ _).trans (s.mgmt_sec _ _)) (s.mgmt_sec _ _))

theorem execAlertResponse_keeps (s : State) : KeepsFuses s (execAlertResponse s) := by
  refine keepsFuses_of_sec ?_
  split
  · next t h => exact (t.setPins_sec _).trans (State.addressed_sec h)
  · rfl

theorem execBusRecovery_keeps (ok : Bool) (s : State) : KeepsFuses s (execBusRecovery ok s) :=
  keepsFuses_of_sec (sec_ite rfl (sec_ite ((State.logEvent_sec _ _ _ _ _ _ _).trans (s.setPins_sec _)) (s.setPins_sec _)))

theorem execDbgAccess_keeps (halt : Option (Site × Bool)) (s : State) : KeepsFuses s (execDbgAccess halt s) := by
  refine keepsFuses_of_sec (sec_ite rfl (sec_ite (s.setTap_sec _) ?_))
  dsimp only
  split
  · exact (State.putCore_sec _ _ _).trans (s.setTap_sec _)
  · exact s.setTap_sec _

end Sys2Proof.Machine
end

section
/-!
PROOFS. The fuses: what the mailbox commands and the writes of registers leave of them (17 R666).
-/
namespace Sys2Proof.Machine

/-! ## Mailbox commands -/

/-- A mailbox command keeps the fuses when what it does once taken keeps them (17 R658, R659). -/
theorem State.secTake_fuses {s : State} {p op : Nat} {f : State → Mailbox → State × SecEnd}
    (hf : ∀ t m, (f t m).1.sec.fuses = t.sec.fuses) : (s.secTake p op f).sec.fuses = s.sec.fuses := by
  obtain h | ⟨e, -, h⟩ | ⟨-, t, ht, h⟩ := s.secTake_cases p op f
  · rw [h]
  · rw [h, State.secNext_fuses, State.secEnd_fuses]
  · rw [h, State.secNext_fuses, State.secEnd_fuses, hf, ht]
    split <;> rfl

theorem keepsFuses_secTake {s : State} {p op : Nat} {f : State → Mailbox → State × SecEnd}
    (hf : ∀ t m, (f t m).1.sec.fuses = t.sec.fuses) : KeepsFuses s (.next (s.secTake p op f)) :=
  keepsFuses_next (State.secTake_fuses hf)

/-- A choice between two answers of a mailbox command keeps the fuses when both of them do. -/
theorem fst_fuses_ite {c : Prop} [Decidable c] {a b : State × SecEnd} {x : Bool × Bool × Bool} (ha : a.1.sec.fuses = x)
    (hb : b.1.sec.fuses = x) : (if c then a else b).1.sec.fuses = x := by
  split
  · exact ha
  · exact hb

@[simp] theorem State.loaded_fuses (s : State) (p : Nat) (i : Image) (live keep : Bool) :
    (s.loaded p i live keep).sec.fuses = s.sec.fuses := by
  refine fuses_ite (congrArg SecSt.fuses (s.liveLoad_sec i)) (fuses_ite ?_ ?_)
  · exact congrArg SecSt.fuses (sec_ite ((State.persist_sec _ _).trans (s.startImage_sec _)) (s.startImage_sec _))
  · rw [State.fullLoad_sec]
    rfl

theorem State.loadConfig_fuses (s : State) (p : Nat) (m : Mailbox) : (s.loadConfig p m).1.sec.fuses = s.sec.fuses := by
  refine fst_fuses_ite rfl (fst_fuses_ite rfl ?_)
  split
  · dsimp only
    split
    · exact congrArg SecSt.fuses (s.ueRead_sec _ _)
    · rfl
  · split
    · rfl
    · rfl
    · exact s.loaded_fuses _ _ _ _

theorem execLoadConfig_keeps (p : Port) (s : State) : KeepsFuses s (execLoadConfig p s) :=
  keepsFuses_next (fuses_ite rfl (State.secTake_fuses fun t m => t.loadConfig_fuses p m))

theorem execActivateFirmware_keeps (p : Port) (s : State) : KeepsFuses s (execActivateFirmware p s) := by
  refine keepsFuses_secTake fun t m => fst_fuses_ite rfl ?_
  dsimp only
  split
  · rfl
  · exact congrArg SecSt.fuses (t.activate_sec _ _ _)

theorem execDebugUnlock_keeps (p : Port) (s : State) : KeepsFuses s (execDebugUnlock p s) :=
  keepsFuses_secTake fun _ _ => fst_fuses_ite rfl (fst_fuses_ite rfl (fst_fuses_ite rfl (fst_fuses_ite rfl rfl)))

theorem execKeyRoll_keeps (p : Port) (s : State) : KeepsFuses s (execKeyRoll p s) :=
  keepsFuses_secTake fun _ _ => fst_fuses_ite rfl rfl

theorem SecSt.useIndex_fuses (x : SecSt) : x.useIndex.fuses = x.fuses := rfl

theorem execAttest_keeps (p : Port) (s : State) : KeepsFuses s (execAttest p s) :=
  keepsFuses_secTake fun t _ => fst_fuses_ite rfl ((congrArg SecSt.fuses (t.setSec_sec _)).trans t.sec.useIndex_fuses)

theorem execResetDevice_keeps (p : Port) (s : State) : KeepsFuses s (execResetDevice p s) := by
  have htake := State.secTake_fuses (s := s) (p := p) (op := 8)
    (f := fun t m => if m.zeroFrom 16 then (t, secDone) else (t, secBad)) fun _ _ => fst_fuses_ite rfl rfl
  exact keepsFuses_next (fuses_ite ((congrArg SecSt.fuses (State.requestReset_sec _ _ _)).trans htake) htake)

theorem execZeroize_keeps (p : Port) (s : State) : KeepsFuses s (execZeroize p s) := by
  have htake := State.secTake_fuses (s := s) (p := p) (op := 9)
    (f := fun t m => (if t.zeroizeEnd m = secDone then t.zeroized else t, t.zeroizeEnd m)) fun _ _ => fuses_ite rfl rfl
  exact keepsFuses_next (fuses_ite ((congrArg SecSt.fuses (State.requestReset_sec _ _ _)).trans htake) htake)

theorem execBackoffEnd_keeps (p : Port) (s : State) : KeepsFuses s (execBackoffEnd p s) := keepsFuses_next (fuses_ite rfl rfl)

theorem execSecCtlGo_keeps (p : Port) (s : State) : KeepsFuses s (execSecCtlGo p s) :=
  keepsFuses_next (fuses_ite rfl (fuses_ite (State.secEnd_fuses _ _ _) (State.secNext_fuses _)))

/-! ## Register writes -/

/-- A write that does what a command does keeps the fuses when the command does. -/
theorem State.after_fuses {s : State} {c : State → Answer} (h : KeepsFuses s (c s)) : (s.after c).sec.fuses = s.sec.fuses := by
  unfold State.after
  split
  · next t ht => exact h t ht
  · rfl

theorem State.queueCmd_fuses (s : State) (p : Port) (q : Queue) (n : Nat) : (s.queueCmd p q n).sec.fuses = s.sec.fuses :=
  fuses_ite (State.after_fuses (execStart_keeps p q s)) (fuses_ite (State.after_fuses (execPreemptNow_keeps p q s))
    (fuses_ite (State.after_fuses (execPreemptAtPoint_keeps p q s)) (fuses_ite (State.after_fuses (execResume_keeps p q s))
      (fuses_ite (State.after_fuses (execAbort_keeps p q s)) rfl))))

theorem State.writeQueue_fuses (s : State) (p : Port) (q : Queue) (o : Nat) (v : Word) :
    (s.writeQueue p q o v).sec.fuses = s.sec.fuses := by
  refine fuses_ite rfl (fuses_ite rfl (fuses_ite (s.queueCmd_fuses _ _ _) (fuses_ite rfl (fuses_ite (fuses_ite rfl rfl)
    (fuses_ite (fuses_ite rfl rfl) (fuses_ite (State.after_fuses (execCqHeadWrite_keeps p q v s)) (fuses_ite ?_
      (fuses_ite (State.after_fuses (execQeQTakeGo_keeps p q s)) rfl))))))))
  exact congrArg SecSt.fuses ((State.queueIrq_sec _ _).trans (s.putQueue_sec _ _))

theorem State.writeCtx_fuses (s : State) (p : Port) (x : Ctx) (o : Nat) (v : Word) : (s.writeCtx p x o v).sec.fuses = s.sec.fuses :=
  fuses_ite rfl (fuses_ite rfl (fuses_ite (State.after_fuses (execQeWinCommitGo_keeps p x s)) rfl))

theorem State.writeSu_fuses (s : State) (p : Port) (o : Nat) (v : Word) : (s.writeSu p o v).sec.fuses = s.sec.fuses := by
  unfold State.writeSu
  split
  · exact fuses_ite (State.after_fuses (execSuCtrAdd_keeps _ _ _ s)) rfl
  · dsimp only
    by_cases hw : (if p = 0 then 0x1A000 else 0x1A800) ≤ o ∧ (o - (if p = 0 then 0x1A000 else 0x1A800)) / 0x10 < 64
    · rw [dif_pos hw]
      exact fuses_ite (fuses_ite (State.after_fuses (execHostWatchRegister_keeps _ _ _ s))
        (State.after_fuses (execHostWatchWithdraw_keeps _ _ _ s))) (fuses_ite (congrArg SecSt.fuses (s.putHostWatch_sec _ _ _)) rfl)
    · rw [dif_neg hw]
      exact fuses_ite (fuses_ite ((State.after_fuses (execRearm_keeps _)).trans (congrArg SecSt.fuses (s.setSync_sec _)))
        (congrArg SecSt.fuses (s.setSync_sec _))) rfl

theorem State.writeSec_fuses (s : State) (p : Port) (o : Nat) (v : Word) : (s.writeSec p o v).sec.fuses = s.sec.fuses :=
  fuses_ite rfl (fuses_ite (fuses_ite rfl rfl) (fuses_ite (fuses_ite (State.after_fuses (execSecCtlGo_keeps _ _)) rfl) rfl))

theorem State.writeFwu_fuses (s : State) (p : Port) (o : Nat) (v : Word) : (s.writeFwu p o v).sec.fuses = s.sec.fuses :=
  fuses_ite rfl (fuses_ite
    (fuses_ite (State.after_fuses (execFwuBegin_keeps p s)) (fuses_ite (State.after_fuses (execWriteBlock_keeps p s))
      (fuses_ite (State.after_fuses (execFwuStage_keeps p s)) (fuses_ite (State.after_fuses (execFwuAbort_keeps p s))
        (fuses_ite (State.after_fuses (execFwuCommit_keeps p s)) (fuses_ite (State.after_fuses (execFwuRevert_keeps p s))
          (fuses_ite (State.after_fuses (execFwuRestart_keeps p s)) rfl)))))))
    (fuses_ite rfl (fuses_ite rfl rfl)))

theorem State.writeBeta_sec (s : State) (i : Nat) (second : Bool) (v : Word) : (s.writeBeta i second v).sec = s.sec := s.setBetas_sec _
theorem State.writeFlt_sec (s : State) (p : Port) (v : Word) : (s.writeFlt p v).sec = s.sec := s.setFault_sec _

theorem State.writeMsix_sec (s : State) (p : Port) (o : Nat) (v : Word) : (s.writeMsix p o v).sec = s.sec :=
  sec_ite (sec_ite ((State.msix_sec _ _ _).trans ((State.putPcie_sec _ _ _).trans (s.putPcie_sec _ _))) (s.putPcie_sec _ _))
    (s.putPcie_sec _ _)

theorem State.writeOpen_fuses (s : State) (p : Port) (o : Nat) (v : Word) : (s.writeOpen p o v).sec.fuses = s.sec.fuses := by
  have snap : (if v.getLsbD 1 then s.after (execSnap p) else s).sec.fuses = s.sec.fuses :=
    fuses_ite (State.after_fuses (execSnap_keeps p s)) rfl
  unfold State.writeOpen
  refine fuses_ite (congrArg SecSt.fuses (s.putPcie_sec _ _)) <| fuses_ite (State.after_fuses (execClkObsWrite_keeps v s)) <|
    fuses_ite (State.after_fuses (execPwrGateWrite_keeps p false v s)) <|
    fuses_ite (State.after_fuses (execPwrGateWrite_keeps p true v s)) <| fuses_ite (s.writeSec_fuses p _ v) <|
    fuses_ite (s.writeSu_fuses p _ v) ?_
  split
  · exact s.writeQueue_fuses p _ _ v
  split
  · exact s.writeCtx_fuses p _ _ v
  refine fuses_ite (congrArg SecSt.fuses (s.writeBeta_sec _ _ v)) ?_
  split
  · exact fuses_ite (State.after_fuses (execRetrain_keeps _ s)) rfl
  refine fuses_ite (fuses_ite ((State.after_fuses (execWriteNow_keeps _)).trans snap) snap) <|
    fuses_ite (congrArg SecSt.fuses (s.writeFlt_sec p v)) <| fuses_ite (congrArg SecSt.fuses (s.writeMsix_sec p _ v)) ?_
  split
  · exact fuses_ite (State.after_fuses (execAuditNow_keeps _ s)) rfl
  · rfl

theorem State.writeWord_fuses (s : State) (p : Port) (o : Nat) (v : Word) : (s.writeWord p o v).sec.fuses = s.sec.fuses :=
  fuses_ite (s.writeFwu_fuses p _ v) (fuses_ite (s.writeOpen_fuses p o v) rfl)

theorem execRegisterWrite_keeps (p : Port) (off : BitVec 26) (width : Nat) (v : DWord) (s : State) :
    KeepsFuses s (execRegisterWrite p off width v s) :=
  keepsFuses_next (fuses_ite (s.writeWord_fuses _ _ _) (fuses_ite ((State.writeWord_fuses _ _ _ _).trans (s.writeWord_fuses _ _ _)) rfl))

end Sys2Proof.Machine
end

section
/-!
PROOFS. The fuses under every command but FUSE_COMMIT (17 R666).
-/
namespace Sys2Proof.Machine

/-! ## Every command but FUSE_COMMIT keeps the fuses -/

/-- The commands by what they do: those with one operation are settled here by that operation's lemma, the others by their own. -/
theorem exec_keepsFuses (i : Instr) (s : State) (hi : ∀ p, i ≠ .fuseCommit p) : KeepsFuses s (exec i s) := by
  cases i with
  | fuseCommit p => exact absurd rfl (hi p)
  -- core programs
  | add | sub | mul | and | or | xor | shl | shr | sar | slt | sltu | seq | min | max => exact keepsFuses_of_sec (scalarRR_sec ..)
  | addi | andi | ori | xori | shli | shri | sari => exact keepsFuses_of_sec (scalarRI_sec ..)
  | movk0 | movk1 | movk2 | movk3 => exact keepsFuses_of_sec (movk_sec ..)
  | br | call | ret => exact keepsFuses_of_sec (State.issueAt_sec fun _ _ => s.jump_sec _ _ _)
  | beqz | bnez | bltz => exact keepsFuses_of_sec (branchIf_sec ..)
  | mfsr => exact keepsFuses_of_sec (State.issueAt_sec fun _ _ => sec_ite (s.malformedAt_sec _) (s.writeS_sec _ _ _))
  | ezganNop => exact keepsFuses_of_sec (State.issueAt_sec fun _ _ => s.seqTo_sec _ _)
  | halt => exact keepsFuses_of_sec (State.issueAt_sec fun _ _ => sec_ite (haltInstance_sec _ _ _) rfl)
  | ld | ldw => exact keepsFuses_of_sec (loadN_sec ..)
  | st | stw => exact keepsFuses_of_sec (storeN_sec ..)
  | vadd | vsub | vmul | vfma | vmax | vmin | vrcps | vrsqs => exact keepsFuses_of_sec (vecF_sec ..)
  | vrcpe | vrsqe | vexp2e | vlog2e => exact keepsFuses_of_sec (vecE_sec ..)
  | vceq | vcne | vclt | vcle => exact keepsFuses_of_sec (vecCmp_sec ..)
  | viadd | visub | vand | vor | vxor | vshl | vshr => exact keepsFuses_of_sec (vecI_sec ..)
  | vsel | vlane | vbcast => exact keepsFuses_of_sec (State.issueAt_sec fun _ _ => s.writeV_sec _ _ _)
  | pand | por | pnot => exact keepsFuses_of_sec (predOp_sec ..)
  | pmov => exact keepsFuses_of_sec (State.issueAt_sec fun _ _ => s.writeP_sec _ _ _)
  | vmsk =>
    exact keepsFuses_of_sec (State.issueAt_sec fun _ _ => sec_ite (s.malformedAt_sec _) (sec_ite rfl (s.putCore_sec _ _)))
  | vld | vgather => exact keepsFuses_of_sec (State.issueAt_sec fun _ _ => State.withMem_sec (s.writeV_sec _ _ _))
  | vst => exact keepsFuses_of_sec (State.issueAt_sec fun _ _ => State.withMem_sec ((State.seqTo_sec _ _ _).trans (s.write_sec _ _)))
  | vscatter =>
    exact keepsFuses_of_sec (State.issueAt_sec fun _ _ => State.withMem_sec ((State.seqTo_sec _ _ _).trans (foldl_write_sec _ _ _ s)))
  | vcvto | vcvti => exact keepsFuses_of_sec (State.issueAt_sec fun _ _ => sec_ite (s.malformedAt_sec _) (s.putCore_sec _ _))
  | vrsum | vrmax | vrmin => exact keepsFuses_of_sec (vecReduce_sec ..)
  | srd =>
    exact keepsFuses_of_sec (State.issueAt_sec fun _ _ => sec_ite (s.seqTo_sec _ _) (sec_ite (s.malformedAt_sec _)
      (State.withMem_sec (s.takeSlot_sec _ _))))
  | swr => apply execSwr_keeps
  | streamOperationComplete => apply execStreamOperationComplete_keeps
  | consumingRead => apply execConsumingRead_keeps
  | sfence => exact keepsFuses_of_sec (State.issueAt_sec fun _ _ => sec_ite (s.seqTo_sec _ _) (s.putCore_sec _ _))
  | sig =>
    exact keepsFuses_of_sec (State.issueAt_sec fun _ _ => sec_ite (s.malformedAt_sec _) (sec_ite (s.failCore_sec _ _)
      ((State.signal_sec _ _ _).trans (s.seqTo_sec _ _))))
  | waitc =>
    exact keepsFuses_of_sec (State.issueAt_sec fun _ _ => sec_ite (s.malformedAt_sec _) (sec_ite (s.failCore_sec _ _)
      ((State.register_sec _ _).trans (s.putCore_sec _ _))))
  | wwait =>
    exact keepsFuses_of_sec (State.issueAt_sec fun _ _ => sec_ite (s.malformedAt_sec _) (sec_ite (s.seqTo_sec _ _) (s.putCore_sec _ _)))
  | wfire =>
    exact keepsFuses_of_sec (State.issueAt_sec fun _ _ => sec_ite (s.malformedAt_sec _)
      ((foldl_sec (fun t _ => t.putCore_sec _ _) _ _).trans (s.seqTo_sec _ _)))
  | hbar =>
    exact keepsFuses_of_sec (State.issueAt_sec fun _ _ => sec_ite (s.malformedAt_sec _) (sec_ite
      ((State.checkCoreHerd_sec _ _).trans ((State.putHerd_sec _ _ _).trans (s.putCore_sec _ _))) (s.putCore_sec _ _)))
  | malformedInstruction => apply execMalformedInstruction_keeps
  -- tiles, audits and instances
  | tzero => exact keepsFuses_of_sec (State.tileIssue_sec fun _ _ => (State.tilesOn_sec _ _).trans (s.putCore_sec _ _))
  | tmm => apply execTmm_keeps
  | taccrd => apply execTaccrd_keeps
  | tsave => apply execTsave_keeps
  | trestore => apply execTrestore_keeps
  | keeperLoad => apply execKeeperLoad_keeps
  | passStart => apply execPassStart_keeps
  | restage => apply execRestage_keeps
  | chunkSumWrite => apply execChunkSumWrite_keeps
  | auditDue => exact keepsFuses_of_sec (sec_ite (s.putCore_sec _ _) rfl)
  | auditNow => apply execAuditNow_keeps
  | rowAudit => exact keepsFuses_of_sec (sec_ite ((State.setFreeCount_sec _ _).trans (s.putCore_sec _ _)) rfl)
  | auditEnd => apply execAuditEnd_keeps
  | promotion => exact keepsFuses_of_sec (sec_ite rfl ((State.tallyAdd_sec _ _ _).trans (s.putCore_sec _ _)))
  | coreLoss => exact keepsFuses_of_sec (sec_ite rfl (s.loseCore_sec _ _ _))
  | contextSave => apply execContextSave_keeps
  | instanceStart => apply execInstanceStart_keeps
  | itemRetry => apply execItemRetry_keeps
  -- lists, queues and items
  | listAcceptance => apply execListAcceptance_keeps
  | nop | fence | preemptPoint => exact keepsFuses_of_sec (State.startItem_sec fun t _ => t.finishNow_sec _ _ _)
  | signal => apply execSignal_keeps
  | wait => apply execWait_keeps
  | barrier => apply execBarrier_keeps
  | itemCompletion => apply execItemCompletion_keeps
  | recordRelease => exact keepsFuses_of_sec (sec_ite (s.releaseRecord_sec _) rfl)
  | completionRingRetry => exact keepsFuses_of_sec (sec_ite ((State.drain_sec _ _).trans (s.putQueue_sec _ _)) rfl)
  | irqHoldExpiry => apply execIrqHoldExpiry_keeps
  | deadline => apply execDeadline_keeps
  | start => apply execStart_keeps
  | preemptNow => apply execPreemptNow_keeps
  | preemptAtPoint => apply execPreemptAtPoint_keeps
  | resume => apply execResume_keeps
  | abort => apply execAbort_keeps
  | cqHeadWrite => apply execCqHeadWrite_keeps
  | qeWinCommitGo => apply execQeWinCommitGo_keeps
  | qeQTakeGo => apply execQeQTakeGo_keeps
  | matmul => apply execMatmul_keeps
  | job => apply execJob_keeps
  | copy => apply execCopy_keeps
  | gather => apply execGather_keeps
  | streamOpen => apply execStreamOpen_keeps
  | streamClose => apply execStreamClose_keeps
  | reduceScatter | allGather | allReduce | broadcast => exact keepsFuses_of_sec (s.keItem_sec _ _ _)
  | chunk => apply execChunk_keeps
  | update => exact keepsFuses_of_sec (State.startItem_sec fun t _ => t.updStart_sec _ _ _)
  | updateMainPass => apply execUpdateMainPass_keeps
  | updateBlock => apply execUpdateBlock_keeps
  | boundary => apply execBoundary_keeps
  | boundaryRaise => apply execBoundaryRaise_keeps
  -- sync unit and telemetry
  | suCtrAdd => apply execSuCtrAdd_keeps
  | watchGrant => apply execWatchGrant_keeps
  | hostWatchRegister => apply execHostWatchRegister_keeps
  | hostWatchWithdraw => apply execHostWatchWithdraw_keeps
  | stepSyncInPulse => apply execStepSyncInPulse_keeps
  | stepSyncOutEnd => apply execStepSyncOutEnd_keeps
  | stepSyncInIgnore => apply execStepSyncInIgnore_keeps
  | stepSyncOutDisable => apply execStepSyncOutDisable_keeps
  | rearm => apply execRearm_keeps
  | telemetryRoll => exact keepsFuses_of_sec (sec_ite s.rollWindow_sec rfl)
  | tallyWrite => exact keepsFuses_of_sec (sec_ite (s.tallyFlash_sec _) rfl)
  | tallySample => apply execTallySample_keeps
  | snap => apply execSnap_keeps
  | writeNow => apply execWriteNow_keeps
  -- memory and the host's accesses
  | hubRequestArrival => apply execHubRequestArrival_keeps
  | requestPerformed => apply execRequestPerformed_keeps
  | spareCopyEnd => apply execSpareCopyEnd_keeps
  | patrolScrub => apply execPatrolScrub_keeps
  | prefetchFetch => apply execPrefetchFetch_keeps
  | fetchReturn => apply execFetchReturn_keeps
  | hostBar2Read => apply execHostBar2Read_keeps
  | hostBar2Write => apply execHostBar2Write_keeps
  | pcieConfigRequest => apply execPcieConfigRequest_keeps
  | registerWrite => apply execRegisterWrite_keeps
  -- links
  | dataFlit => apply execDataFlit_keeps
  | idleFlit => exact keepsFuses_of_sec (State.flitIn_sec fun _ => (State.pumpLink_sec _ _).trans (s.flitCover_sec _ _))
  | nak => apply execNak_keeps
  | replayTimeout => apply execReplayTimeout_keeps
  | training => exact keepsFuses_of_sec (sec_ite (s.putLink_sec _ _) (sec_ite (s.spare_sec _) rfl))
  | trainingEnd => exact keepsFuses_of_sec (sec_ite (s.endTraining_sec _ _) rfl)
  | laneFail => exact keepsFuses_of_sec (s.failLane_sec _ _)
  | sparingEnd => apply execSparingEnd_keeps
  | sparingTimeout => exact keepsFuses_of_sec (sec_ite (s.linkDown_sec _) rfl)
  | retrain => apply execRetrain_keeps
  | read => apply execRead_keeps
  | write => apply execWrite_keeps
  | writeMasked => apply execWriteMasked_keeps
  | readData => apply execReadData_keeps
  | writeDone => apply execWriteDone_keeps
  | refused | gated | eccFail => exact keepsFuses_of_sec (s.failResp_sec _ _ _ _)
  | unreachable => exact keepsFuses_of_sec (State.receive_sec fun t => t.failReq_sec _)
  | requestTimeout => apply execRequestTimeout_keeps
  | arrive => apply execArrive_keeps
  | release => apply execRelease_keeps
  | cancel => apply execCancel_keeps
  | lost => apply execLost_keeps
  | unknownKindMessage => apply execUnknownKindMessage_keeps
  -- resets, start-up, clocks, power and ports
  | warmReset => exact keepsFuses_next (fuses_ite (s.warmReset_fuses _) rfl)
  | modResetN => exact keepsFuses_of_sec (s.requestReset_sec _ _)
  | deviceFault => exact keepsFuses_of_sec (sec_ite ((State.requestReset_sec _ _ _).trans (s.logEvent_sec _ _ _ _ _ _)) rfl)
  | alwaysOnFault => apply execAlwaysOnFault_keeps
  | powerOn => exact keepsFuses_of_sec (sec_ite (s.setPower_sec _) rfl)
  | nimtiaBoot => apply execNimtiaBoot_keeps
  | pwrEnAssert => apply execPwrEnAssert_keeps
  | startUp => exact keepsFuses_of_sec (sec_ite rfl (sec_ite (s.startUp_sec _) (sec_ite (s.finishStart_sec _) rfl)))
  | pwrEnDeassert => apply execPwrEnDeassert_keeps
  | vinUndervoltage => apply execVinUndervoltage_keeps
  | vinOvervoltage => apply execVinOvervoltage_keeps
  | efuseTrip => apply execEfuseTrip_keeps
  | efuseRetry => apply execEfuseRetry_keeps
  | alwaysOnPowerLoss => apply execAlwaysOnPowerLoss_keeps
  | referenceLoss => apply execReferenceLoss_keeps
  | referenceReturn => exact keepsFuses_of_sec (sec_ite rfl ((State.setFault_sec _ _).trans (s.setPower_sec _)))
  | holdoverEnd => apply execHoldoverEnd_keeps
  | limiterPeriod =>
    exact keepsFuses_of_sec (sec_ite rfl ((State.takeWanted_sec _).trans ((State.limitWindow_sec _).trans ((State.limit_sec _).trans
      (s.measured_sec _)))))
  | sensorFault => apply execSensorFault_keeps
  | strapChange => exact keepsFuses_of_sec (sec_ite rfl ((State.logEvent_sec _ _ _ _ _ _ _).trans (s.setStart_sec _)))
  | perstN => exact keepsFuses_of_sec ((State.putPcie_sec _ _ _).trans (sec_ite rfl (s.portDown_sec _)))
  | hostPortLost => exact keepsFuses_of_sec (sec_ite rfl (s.portDown_sec _))
  | hostPortLinkUp => apply execHostPortLinkUp_keeps
  | pwrGateWrite => apply execPwrGateWrite_keeps
  | gateOff => apply execGateOff_keeps
  | lpddr5xGroupReady => exact keepsFuses_of_sec (sec_ite (s.setPower_sec _) rfl)
  | clkObsWrite => apply execClkObsWrite_keeps
  -- mailboxes
  | loadConfig => apply execLoadConfig_keeps
  | activateFirmware => apply execActivateFirmware_keeps
  | setPowerProfile => exact keepsFuses_secTake fun t _ => fst_fuses_ite rfl (congrArg SecSt.fuses (t.setPower_sec _))
  | takeoverQueues => exact keepsFuses_secTake fun t _ => fst_fuses_ite (congrArg SecSt.fuses (t.takeover_sec _)) rfl
  | debugUnlock => apply execDebugUnlock_keeps
  | keyRoll => apply execKeyRoll_keeps
  | resetDevice => apply execResetDevice_keeps
  | zeroize => apply execZeroize_keeps
  | getIdentity => exact keepsFuses_secTake fun _ _ => fst_fuses_ite rfl rfl
  | attest => apply execAttest_keeps
  | backoffEnd => apply execBackoffEnd_keeps
  | secCtlGo => apply execSecCtlGo_keeps
  -- firmware
  | fwuBegin => apply execFwuBegin_keeps
  | hostBar4Write => apply execHostBar4Write_keeps
  | writeBlock => apply execWriteBlock_keeps
  | fwuStage => apply execFwuStage_keeps
  | fwuAbort => apply execFwuAbort_keeps
  | fwuCommit => apply execFwuCommit_keeps
  | fwuRevert => apply execFwuRevert_keeps
  | fwuRestart => apply execFwuRestart_keeps
  | activationSwitch => apply execActivationSwitch_keeps
  | activationCancel | activationRevert => exact keepsFuses_of_sec (sec_ite (s.endActivation_sec _ _) rfl)
  -- management and the test port
  | readReg | readImage => exact keepsFuses_of_sec ((State.setFreeCount_sec _ _).trans (s.mgmt_sec _ _))
  | readTally | getStatus => exact keepsFuses_of_sec (s.mgmt_sec _ _)
  | readLog => apply execReadLog_keeps
  | alertResponse => apply execAlertResponse_keeps
  | entdaa => exact keepsFuses_of_sec (sec_ite (s.setPins_sec _) rfl)
  | busRecovery => apply execBusRecovery_keeps
  | busSense => exact keepsFuses_of_sec (sec_ite ((State.logEvent_sec _ _ _ _ _ _ _).trans (s.setPins_sec _)) rfl)
  | extest | clamp | highz => exact keepsFuses_of_sec (s.takePins_sec _)
  | samplePreload => exact keepsFuses_of_sec (sec_ite (s.setPins_sec _) rfl)
  | dbgAccess => apply execDbgAccess_keeps
  | bypass | testLogicReset => exact keepsFuses_of_sec (sec_ite (s.setTap_sec _) rfl)

end Sys2Proof.Machine
end

section
/-!
PROOFS. FUSE_COMMIT, and the fuses under every step (17 R666).
-/
namespace Sys2Proof.Machine

open Sys2Proof.Claims

/-! ## What FUSE_COMMIT does when it is taken -/

/-- The fuse bits that an operand of FUSE_COMMIT names are burned (17 R666). -/
def State.burned (s : State) (o : Nat) : State :=
  s.setSec { s.sec with rev0 := s.sec.rev0 || o.testBit 0, rev1 := s.sec.rev1 || o.testBit 1, debugOff := s.sec.debugOff || o.testBit 2 }

/-- FUSE_COMMIT refuses its operands: no bit, an unknown one, or both slots to be revoked (17 R656, R666). -/
def State.BurnBad (s : State) (m : Mailbox) : Prop :=
  m.zeroFrom 17 = false ∨ m.field 16 1 = 0 ∨ 8 ≤ m.field 16 1 ∨
    ((s.sec.rev0 || (m.field 16 1).testBit 0) = true ∧ (s.sec.rev1 || (m.field 16 1).testBit 1) = true)

/-- FUSE_COMMIT once it is taken, as `execFuseCommit` has it. -/
def State.fuseCommit (s : State) (m : Mailbox) : State × SecEnd :=
  let o := m.field 16 1
  if !m.zeroFrom 17 ∨ o = 0 ∨ 8 ≤ o ∨ ((s.sec.rev0 || o.testBit 0) ∧ (s.sec.rev1 || o.testBit 1)) then (s, secBad)
  else (s.burned o, secDone)

theorem exec_fuseCommit (p : Port) (s : State) : exec (.fuseCommit p) s = .next (s.secTake p 7 State.fuseCommit) := rfl

theorem State.fuseCommit_bad {s : State} {m : Mailbox} (h : s.BurnBad m) : s.fuseCommit m = (s, secBad) :=
  if_pos (by simpa [State.BurnBad] using h)

theorem State.fuseCommit_burns {s : State} {m : Mailbox} (h : ¬s.BurnBad m) : s.fuseCommit m = (s.burned (m.field 16 1), secDone) :=
  if_neg (by simpa [State.BurnBad] using h)

/-- The used counter changes nothing that FUSE_COMMIT reads. -/
theorem State.secUsed_burnBad (s : State) (p : Port) : (s.secUsed p).BurnBad ((s.secUsed p).box p) ↔ s.BurnBad (s.box p) := by
  rw [State.BurnBad, Mailbox.field_congr (s.secUsed_cmd p), Mailbox.zeroFrom_congr (s.secUsed_cmd p)]
  exact Iff.rfl

theorem exec_fuseCommit_bad {s : State} {p : Port} (h : secGoes s p 7) (hb : s.BurnBad (s.box p)) :
    exec (.fuseCommit p) s = .next ((s.secUsed p).secEnd p secBad) := by
  have ho := order_of_secGoes h
  rw [exec_fuseCommit, State.secTake_of_goes h rfl (State.fuseCommit_bad ((s.secUsed_burnBad p).mpr hb)) ho]

theorem exec_fuseCommit_burns {s : State} {p : Port} (h : secGoes s p 7) (hb : ¬s.BurnBad (s.box p)) :
    exec (.fuseCommit p) s = .next (((s.secUsed p).burned ((s.box p).field 16 1)).secEnd p secDone) := by
  have ho := order_of_secGoes h
  rw [exec_fuseCommit, State.secTake_of_goes h rfl (State.fuseCommit_burns (mt (s.secUsed_burnBad p).mp hb)) ho,
    Mailbox.field_congr (s.secUsed_cmd p)]

/-! ## No step clears a fuse -/

/-- Each fuse that is burned stays so. -/
def FusesStay (x y : Bool × Bool × Bool) : Prop :=
  (x.1 = true → y.1 = true) ∧ (x.2.1 = true → y.2.1 = true) ∧ (x.2.2 = true → y.2.2 = true)

theorem FusesStay.rfl {x : Bool × Bool × Bool} : FusesStay x x := ⟨id, id, id⟩

theorem State.burned_fusesStay (s : State) (o : Nat) : FusesStay s.sec.fuses (s.burned o).sec.fuses :=
  ⟨fun h => Bool.or_eq_true_iff.mpr (.inl h), fun h => Bool.or_eq_true_iff.mpr (.inl h), fun h => Bool.or_eq_true_iff.mpr (.inl h)⟩

theorem State.fuseCommit_fusesStay (s : State) (m : Mailbox) : FusesStay s.sec.fuses (s.fuseCommit m).1.sec.fuses := by
  by_cases h : s.BurnBad m
  · rw [State.fuseCommit_bad h]
    exact .rfl
  · rw [State.fuseCommit_burns h]
    exact s.burned_fusesStay _

theorem State.secTake_fuseCommit_fusesStay (s : State) (p : Port) :
    FusesStay s.sec.fuses (s.secTake p 7 State.fuseCommit).sec.fuses := by
  obtain h | ⟨e, -, h⟩ | ⟨-, t, ht, h⟩ := s.secTake_cases p 7 State.fuseCommit
  · rw [h]
    exact .rfl
  · rw [h, State.secNext_fuses, State.secEnd_fuses]
    exact .rfl
  · have hts : t.sec.fuses = s.sec.fuses := ht ▸ rfl
    rw [h, State.secNext_fuses, State.secEnd_fuses, ← hts]
    exact t.fuseCommit_fusesStay _

theorem exec_fusesStay {i : Instr} {s t : State} (h : exec i s = .next t) : FusesStay s.sec.fuses t.sec.fuses := by
  by_cases hi : ∃ p, i = .fuseCommit p
  · obtain ⟨p, rfl⟩ := hi
    rw [exec_fuseCommit] at h
    cases h
    exact s.secTake_fuseCommit_fusesStay p
  · rw [exec_keepsFuses i s (fun p hp => hi ⟨p, hp⟩) t h]
    exact .rfl

theorem State.idle_fuses (s : State) : s.idle.sec.fuses = s.sec.fuses :=
  (State.secNext_fuses _).trans (congrArg SecSt.fuses (tick_sec s))

/-- A step, which runs a command or idles for a tick, clears no fuse. -/
theorem step_fusesStay {s t : State} (h : step s = .next t) : FusesStay s.sec.fuses t.sec.fuses := by
  unfold step at h
  split at h
  · cases h
    rw [State.idle_fuses]
    exact .rfl
  · next c rest _ => exact exec_fusesStay (s := s.setPending rest) h

/-! ## The fuses after FUSE_COMMIT -/

theorem SecSt.eq_of_fuses {x y : SecSt} (h : x.fuses = y.fuses) : x.rev0 = y.rev0 ∧ x.rev1 = y.rev1 ∧ x.debugOff = y.debugOff := by
  simpa [SecSt.fuses] using h

/-- Settles O54: every command but FUSE_COMMIT keeps the fuses, and FUSE_COMMIT changes them by burning alone. -/
theorem fusesOnlyBurn : Obligations.FusesOnlyBurn := by
  unfold Obligations.FusesOnlyBurn
  refine ⟨fun s t h => step_fusesStay h, fun s p h => ⟨fun hb => ?bad, fun hz hne h8 hrev => ?burns⟩⟩
  case bad =>
    have ho := order_of_secGoes h
    exact ⟨_, exec_fuseCommit_bad h hb, secEnded_secEnd secBad (s.secUsed_cmd p) ho,
      SecSt.eq_of_fuses ((s.secUsed p).secEnd_fuses p secBad)⟩
  case burns =>
    have ho := order_of_secGoes h
    have hb : ¬s.BurnBad (s.box p) := by
      rintro (h | h | h | h)
      · simp [hz] at h
      · exact hne h
      · omega
      · exact hrev h
    exact ⟨_, exec_fuseCommit_burns h hb, secEnded_secEnd secDone (s.secUsed_cmd p) ho,
      SecSt.eq_of_fuses (((s.secUsed p).burned _).secEnd_fuses p secDone)⟩

end Sys2Proof.Machine
end

section
/-!
PROOFS. The counters and bins of the Tally at their limits, and the OVERFLOW bits (19 R703, R704).
-/
namespace Sys2Proof.Machine

/-- Only the live record differs, and put back it gives the state as it was. -/
theorem State.setTally_live_restore (s : State) (l : Table Nat) :
    (s.setTally { s.tally with live := l }).setTally { s.tally with live := s.tally.live } = s := rfl

theorem State.tallyAdd_restore (s : State) (off k : Nat) :
    (s.tallyAdd off k).setTally { (s.tallyAdd off k).tally with live := s.tally.live } = s :=
  s.setTally_live_restore _

theorem State.tallyBin_restore (s : State) (off ovf k : Nat) :
    (s.tallyBin off ovf k).setTally { (s.tallyBin off ovf k).tally with live := s.tally.live } = s :=
  s.setTally_live_restore _

/-! ## A bin of 32 bits -/

/-- A bin's count after `k` more events. -/
def State.binCount (s : State) (off k : Nat) : Nat := min (2 ^ 32 - 1) (tget 0 s.tally.live off + k)

theorem State.tallyBin_live_of_below (s : State) {off k : Nat} (ovf : Nat) (h : s.binCount off k ≠ 2 ^ 32 - 1) :
    (s.tallyBin off ovf k).tally.live = tput 0 s.tally.live off (s.binCount off k) :=
  if_neg h

theorem State.tallyBin_live_of_full (s : State) {off k : Nat} (ovf : Nat) (h : s.binCount off k = 2 ^ 32 - 1)
    (ho : off ≠ tallyOverflow) :
    (s.tallyBin off ovf k).tally.live =
      tput 0 (tput 0 s.tally.live off (s.binCount off k)) tallyOverflow (tget 0 s.tally.live tallyOverflow ||| 2 ^ ovf) := by
  rw [← tget_tput_ne (v := s.binCount off k) ho.symm]
  exact if_pos h

theorem State.tget_tallyBin (s : State) {off x : Nat} (ovf k : Nat) (ho : off ≠ tallyOverflow) (hx : x ≠ tallyOverflow) :
    tget 0 (s.tallyBin off ovf k).tally.live x = if x = off then s.binCount off k else tget 0 s.tally.live x := by
  by_cases hv : s.binCount off k = 2 ^ 32 - 1
  · rw [s.tallyBin_live_of_full ovf hv ho, tget_tput_ne hx, tget_tput]
  · rw [s.tallyBin_live_of_below ovf hv, tget_tput]

theorem State.tget_tallyBin_overflow (s : State) {off : Nat} (ovf k : Nat) (ho : off ≠ tallyOverflow) :
    tget 0 (s.tallyBin off ovf k).tally.live tallyOverflow =
      if s.binCount off k = 2 ^ 32 - 1 then tget 0 s.tally.live tallyOverflow ||| 2 ^ ovf
      else tget 0 s.tally.live tallyOverflow := by
  split
  · next hv => rw [s.tallyBin_live_of_full ovf hv ho, tget_tput_same]
  · next hv => rw [s.tallyBin_live_of_below ovf hv, tget_tput_ne ho.symm]

/-- The OVERFLOW bits stand, but for the histogram's own, which a full bin sets (19 R704). -/
theorem State.testBit_tallyBin_overflow (s : State) {off : Nat} (ovf k i : Nat) (ho : off ≠ tallyOverflow) :
    (tget 0 (s.tallyBin off ovf k).tally.live tallyOverflow).testBit i =
      ((tget 0 s.tally.live tallyOverflow).testBit i || (decide (s.binCount off k = 2 ^ 32 - 1) && decide (i = ovf))) := by
  rw [s.tget_tallyBin_overflow ovf k ho]
  split
  · next hv => simp only [Nat.testBit_or, Nat.testBit_two_pow, hv, decide_true, Bool.true_and, eq_comm (a := i)]
  · next hv => simp only [hv, decide_false, Bool.false_and, Bool.or_false]

/-- Settles O53: a counter and a bin take the saturated sum, and a full bin adds its own OVERFLOW bit and no other. -/
theorem tallyCountsSaturate : Obligations.TallyCountsSaturate := by
  unfold Obligations.TallyCountsSaturate
  intro s off n
  refine ⟨⟨tget_tput_same, fun x hx => tget_tput_ne hx, s.tallyAdd_restore off n⟩, fun ovf ho => ?bin⟩
  case bin =>
    refine ⟨?count, fun x hx hxo => ?frame, fun i => s.testBit_tallyBin_overflow ovf n i ho, s.tallyBin_restore off ovf n⟩
    case count => exact (s.tget_tallyBin ovf n ho ho).trans (if_pos rfl)
    case frame => exact (s.tget_tallyBin ovf n ho hxo).trans (if_neg hx)

end Sys2Proof.Machine
end

section
/-!
PROOFS. What every command keeps: the commands that wait, the device time, the canonical form of the tables and the form of the fault
log. This part says so of the updates of State and of the operations that the families share.
-/
namespace Sys2Proof.Machine

/-- `t` keeps of `s` the commands that wait and the device time, and the form of the tables and of the fault log. -/
structure KeptFrom (t s : State) : Prop where
  pending : t.pending = s.pending
  dtc : t.sync.dtc = s.sync.dtc
  wf : s.wf = true → t.wf = true
  log : s.fault.wf = true → t.fault.wf = true

@[refl] protected theorem KeptFrom.rfl {s : State} : KeptFrom s s := ⟨rfl, rfl, id, id⟩

theorem KeptFrom.trans {u t s : State} (h : KeptFrom u t) (g : KeptFrom t s) : KeptFrom u s :=
  ⟨h.pending.trans g.pending, h.dtc.trans g.dtc, h.wf ∘ g.wf, h.log ∘ g.log⟩

/-- A choice between two states keeps when both of them do. -/
theorem kept_ite {c : Prop} [Decidable c] {a b s : State} (ha : KeptFrom a s) (hb : KeptFrom b s) :
    KeptFrom (if c then a else b) s := by
  split
  · exact ha
  · exact hb

/-- A fold keeps when each of its steps does. -/
theorem foldl_kept {β : Type} {f : State → β → State} (hf : ∀ t b, KeptFrom (f t b) t) (l : List β) (s : State) :
    KeptFrom (l.foldl f s) s :=
  foldl_keeps (P := fun t => KeptFrom t s) f (fun t b h => (hf t b).trans h) l s .rfl

/-! ## The updates of State -/

theorem State.wf_iff (s : State) : s.wf = true ↔
    Memory.wf s.mem.cells = true ∧ tok Core.reset s.cores = true ∧ tok QueueSt.reset s.queues = true ∧ tok 0 s.turns = true ∧
      tok 0 s.sync.ctr = true ∧ tok Herd.none s.sync.herds = true ∧ tok CtxWins.reset s.mem.wins = true ∧
      tok Stream.free s.mem.streams = true ∧ tok KeHerd.reset s.ke = true := by
  simp only [State.wf, Bool.and_eq_true, and_assoc]

theorem State.setCores_kept (s : State) (x : Table Core) (h : tok Core.reset s.cores = true → tok Core.reset x = true) :
    KeptFrom (s.setCores x) s := by
  refine ⟨rfl, rfl, fun hs => ?_, id⟩
  simp only [State.wf_iff] at hs ⊢
  obtain ⟨hm, hc, hr⟩ := hs
  exact ⟨hm, h hc, hr⟩

theorem State.setQueues_kept (s : State) (x : Table QueueSt) (h : tok QueueSt.reset s.queues = true → tok QueueSt.reset x = true) :
    KeptFrom (s.setQueues x) s := by
  refine ⟨rfl, rfl, fun hs => ?_, id⟩
  simp only [State.wf_iff] at hs ⊢
  obtain ⟨hm, hc, hq, hr⟩ := hs
  exact ⟨hm, hc, h hq, hr⟩

theorem State.setTurns_kept (s : State) (x : Table Nat) (h : tok 0 s.turns = true → tok 0 x = true) : KeptFrom (s.setTurns x) s := by
  refine ⟨rfl, rfl, fun hs => ?_, id⟩
  simp only [State.wf_iff] at hs ⊢
  obtain ⟨hm, hc, hq, ht, hr⟩ := hs
  exact ⟨hm, hc, hq, h ht, hr⟩

/-- The new memory keeps the form of its cells, windows and streams; left to themselves they stand as they were. -/
theorem State.setMem_kept (s : State) (x : MemSt)
    (hc : Memory.wf s.mem.cells = true → Memory.wf x.cells = true)
    (hw : tok CtxWins.reset s.mem.wins = true → tok CtxWins.reset x.wins = true)
    (hs : tok Stream.free s.mem.streams = true → tok Stream.free x.streams = true) : KeptFrom (s.setMem x) s := by
  refine ⟨rfl, rfl, fun h => ?_, id⟩
  simp only [State.wf_iff] at h ⊢
  obtain ⟨cells, cores, queues, turns, ctr, herds, wins, streams, ke⟩ := h
  exact ⟨hc cells, cores, queues, turns, ctr, herds, hw wins, hs streams, ke⟩

/-- The sync unit keeps the device time and the form of its counters and herds; left to themselves they stand as they were. -/
theorem State.setSync_kept (s : State) (x : SyncSt) (hd : x.dtc = s.sync.dtc)
    (hc : tok 0 s.sync.ctr = true → tok 0 x.ctr = true)
    (hh : tok Herd.none s.sync.herds = true → tok Herd.none x.herds = true) : KeptFrom (s.setSync x) s := by
  refine ⟨rfl, hd, fun h => ?_, id⟩
  simp only [State.wf_iff] at h ⊢
  obtain ⟨cells, cores, queues, turns, ctr, herds, hr⟩ := h
  exact ⟨cells, cores, queues, turns, hc ctr, hh herds, hr⟩

theorem State.setKe_kept (s : State) (x : Table KeHerd) (h : tok KeHerd.reset s.ke = true → tok KeHerd.reset x = true) :
    KeptFrom (s.setKe x) s := by
  refine ⟨rfl, rfl, fun hs => ?_, id⟩
  simp only [State.wf_iff] at hs ⊢
  obtain ⟨cells, cores, queues, turns, ctr, herds, wins, streams, ke⟩ := hs
  exact ⟨cells, cores, queues, turns, ctr, herds, wins, streams, h ke⟩

/-- The faults keep the form of their log; left to itself it stands as it was. -/
theorem State.setFault_kept (s : State) (x : FaultSt) (h : s.fault.wf = true → x.wf = true) :
    KeptFrom (s.setFault x) s := ⟨rfl, rfl, id, h⟩

theorem State.setTakeLast_kept (s : State) (x : Word) : KeptFrom (s.setTakeLast x) s := ⟨rfl, rfl, id, id⟩
theorem State.setFab_kept (s : State) (x : FabricSt) : KeptFrom (s.setFab x) s := ⟨rfl, rfl, id, id⟩
theorem State.setBetas_kept (s : State) (x : Vector (Word × Word) 16) : KeptFrom (s.setBetas x) s := ⟨rfl, rfl, id, id⟩
theorem State.setPower_kept (s : State) (x : PowerSt) : KeptFrom (s.setPower x) s := ⟨rfl, rfl, id, id⟩
theorem State.setStart_kept (s : State) (x : StartSt) : KeptFrom (s.setStart x) s := ⟨rfl, rfl, id, id⟩
theorem State.setSec_kept (s : State) (x : SecSt) : KeptFrom (s.setSec x) s := ⟨rfl, rfl, id, id⟩
theorem State.setFwu_kept (s : State) (x : FwuSt) : KeptFrom (s.setFwu x) s := ⟨rfl, rfl, id, id⟩
theorem State.setTally_kept (s : State) (x : TallySt) : KeptFrom (s.setTally x) s := ⟨rfl, rfl, id, id⟩
theorem State.setPins_kept (s : State) (x : PinSt) : KeptFrom (s.setPins x) s := ⟨rfl, rfl, id, id⟩
theorem State.setSent_kept (s : State) (x : List Out) : KeptFrom (s.setSent x) s := ⟨rfl, rfl, id, id⟩
theorem State.setFreeCount_kept (s : State) (x : Nat) : KeptFrom (s.setFreeCount x) s := ⟨rfl, rfl, id, id⟩

/-! ## A part put at a number, messages and the Tally -/

theorem State.putCore_kept (s : State) (c : Nat) (x : Core) : KeptFrom (s.putCore c x) s := s.setCores_kept _ tok_tput
theorem State.putQueue_kept (s : State) (q : Nat) (x : QueueSt) : KeptFrom (s.putQueue q x) s := s.setQueues_kept _ tok_tput
theorem State.putHub_kept (s : State) (h : Nat) (x : HubSt) : KeptFrom (s.putHub h x) s := s.setMem_kept _ id id id
theorem State.putLink_kept (s : State) (l : Nat) (x : LinkSt) : KeptFrom (s.putLink l x) s := s.setFab_kept _
theorem State.putPcie_kept (s : State) (p : Nat) (x : PcieSt) : KeptFrom (s.putPcie p x) s := s.setPins_kept _
theorem State.putBox_kept (s : State) (p : Nat) (x : Mailbox) : KeptFrom (s.putBox p x) s := s.setSec_kept _
theorem State.putHerd_kept (s : State) (h : Nat) (x : Herd) : KeptFrom (s.putHerd h x) s := s.setSync_kept _ rfl id tok_tput
theorem State.putCtx_kept (s : State) (n : Nat) (x : CtxWins) : KeptFrom (s.putCtx n x) s := s.setMem_kept _ id tok_tput id
theorem State.putStream_kept (s : State) (n : Nat) (x : Stream) : KeptFrom (s.putStream n x) s := s.setMem_kept _ id id tok_tput
theorem State.putKeHerd_kept (s : State) (h : Nat) (x : KeHerd) : KeptFrom (s.putKeHerd h x) s := s.setKe_kept _ tok_tput
theorem State.emit_kept (s : State) (o : Out) : KeptFrom (s.emit o) s := s.setSent_kept _
theorem State.tallyAdd_kept (s : State) (off k : Nat) : KeptFrom (s.tallyAdd off k) s := s.setTally_kept _

theorem State.msix_kept (s : State) (p v : Nat) : KeptFrom (s.msix p v) s := kept_ite (s.putPcie_kept _ _) (s.emit_kept _)

/-! ## The fault log -/

theorem logFrom_drop {last : DWord} {l : List LogEntry} (h : logFrom last l = true) (n : Nat) : logFrom last (l.drop n) = true := by
  induction l generalizing n with
  | nil => rw [List.drop_nil]; rfl
  | cons e l ih =>
    cases n with
    | zero => exact h
    | succ n => exact ih (Bool.and_eq_true_iff.mp h).2 n

/-- A log that goes on with the next SEQ is numbered up to it (14 R580). -/
theorem logFrom_append {last : DWord} {l : List LogEntry} {e : LogEntry} (h : logFrom last l = true) (he : e.seq = last + 1) :
    logFrom (last + 1) (l ++ [e]) = true := by
  induction l with
  | nil => simp [logFrom, he]
  | cons x l ih =>
    obtain ⟨hx, hl⟩ := Bool.and_eq_true_iff.mp h
    have hseq : x.seq = last + 1 - BitVec.ofNat 64 (l.length + 1) := by
      rw [of_decide_eq_true hx]
      bv_omega
    simpa [logFrom, hseq] using ih hl

/-- A log whose entries keep their SEQ keeps its form. -/
theorem logFrom_map {last : DWord} {l : List LogEntry} {f : LogEntry → LogEntry} (hf : ∀ e, (f e).seq = e.seq)
    (h : logFrom last l = true) : logFrom last (l.map f) = true := by
  induction l with
  | nil => rfl
  | cons e l ih =>
    obtain ⟨he, hl⟩ := Bool.and_eq_true_iff.mp h
    simp only [List.map_cons, logFrom, List.length_map, hf, Bool.and_eq_true]
    exact ⟨he, ih hl⟩

theorem FaultSt.wf_iff (f : FaultSt) : f.wf = true ↔ f.log.length ≤ 512 ∧ logFrom f.seq f.log = true := by
  simp [FaultSt.wf]

theorem State.fltIrq_kept (s : State) (p sev : Nat) : KeptFrom (s.fltIrq p sev) s := kept_ite (s.msix_kept _ _) .rfl

theorem State.alertFor_kept (s : State) (sev : Nat) (n : DWord) : KeptFrom (s.alertFor sev n) s :=
  kept_ite (kept_ite ((State.emit_kept _ _).trans (s.setPins_kept _)) (s.setPins_kept _)) .rfl

theorem State.logEvent_kept (s : State) (cls kind unit sev x y : Nat) : KeptFrom (s.logEvent cls kind unit sev x y) s := by
  refine (State.alertFor_kept _ _ _).trans ((State.fltIrq_kept _ _ _).trans ((State.fltIrq_kept _ _ _).trans (s.setFault_kept _ ?_)))
  simp only [FaultSt.wf_iff]
  rintro ⟨hlen, hseq⟩
  exact ⟨by simp; omega, logFrom_drop (logFrom_append hseq rfl) _⟩

/-! ## Open and cleared memory -/

theorem State.forgetLoc_kept (s : State) (lo hi : Nat) : KeptFrom (s.forgetLoc lo hi) s :=
  (State.setFreeCount_kept _ _).trans (s.setMem_kept _ (memory_wf_filter _ _) id id)

theorem State.zeroLoc_kept (s : State) (lo hi : Nat) : KeptFrom (s.zeroLoc lo hi) s := s.setMem_kept _ (memory_wf_filter _ _) id id

end Sys2Proof.Machine
end

section
/-!
PROOFS. What operations keep, continued: memory, counters, items and their records, rings, herds and links.
-/
namespace Sys2Proof.Machine

/-! ## Memory writes and uncorrectable reads -/

theorem State.tallyBin_kept (s : State) (off ovf k : Nat) : KeptFrom (s.tallyBin off ovf k) s := s.setTally_kept _

theorem State.forget_kept (s : State) (lo hi : Nat) : KeptFrom (s.forget lo hi) s :=
  kept_ite (s.forgetLoc_kept _ _) (foldl_kept (fun t _ => t.forgetLoc_kept _ _) _ s)

theorem State.invalidateAt_kept (s : State) (line h : Nat) : KeptFrom (s.invalidateAt line h) s :=
  kept_ite .rfl ((State.tallyAdd_kept _ _ _).trans (s.putHub_kept _ _))

theorem State.invalidate_kept (s : State) (line : Nat) : KeptFrom (s.invalidate line) s :=
  foldl_kept (fun t h => t.invalidateAt_kept line h) _ s

/-- A watch that fires leaves a position that no queue has at power-on. -/
theorem QueueSt.fire_ne_reset {x : QueueSt} (a n : Nat) (h : x ≠ QueueSt.reset) : x.fire a n ≠ QueueSt.reset := by
  unfold QueueSt.fire
  split
  · split
    · exact fun hx => QPos.noConfusion (congrArg QueueSt.pos hx)
    · exact h
  · exact h

theorem State.fireLinks_kept (s : State) (a n : Nat) : KeptFrom (s.fireLinks a n) s := 
  s.setQueues_kept _ (tok_tmap _ fun x hx => QueueSt.fire_ne_reset a n hx)

theorem State.dropRunner_kept (s : State) (site lo hi : Nat) : KeptFrom (s.dropRunner site lo hi) s :=
  kept_ite .rfl (s.putCore_kept _ _)

@[simp] theorem MemSt.fix_wins (m : MemSt) (a : Nat) : (m.fix a).wins = m.wins := by
  unfold MemSt.fix
  split <;> rfl

@[simp] theorem MemSt.fix_streams (m : MemSt) (a : Nat) : (m.fix a).streams = m.streams := by
  unfold MemSt.fix
  split <;> rfl

theorem State.writeLine_kept (s : State) (a : Nat) (bs : List Byte) : KeptFrom (s.writeLine a bs) s := by
  have hmem (x : List Nat) : KeptFrom (s.setMem { s.mem.fix (s.loc a) with
      cells := putBytes (s.mem.fix (s.loc a)).cells (s.loc a) bs, ue := x }) s :=
    s.setMem_kept _ (fun h => memory_wf_putBytes _ _ _ (s.mem.fix_wf _ h)) (by rw [MemSt.fix_wins]; exact id)
      (by rw [MemSt.fix_streams]; exact id)
  unfold State.writeLine
  dsimp only
  split
  · exact (State.dropRunner_kept _ _ _ _).trans ((State.fireLinks_kept _ _ _).trans (hmem _))
  · exact (State.invalidate_kept _ _).trans ((State.fireLinks_kept _ _ _).trans (hmem _))

theorem State.write_kept (s : State) (a : Nat) (bs : List Byte) : KeptFrom (s.write a bs) s :=
  foldl_kept (fun t (p : Nat × List Byte) => t.writeLine_kept p.1 p.2) _ s

theorem State.ueRead_kept (s : State) (a sev : Nat) : KeptFrom (s.ueRead a sev) s := by
  unfold State.ueRead
  split
  case h_4 => rfl
  case h_3 => exact s.logEvent_kept _ _ _ _ _ _
  all_goals exact (State.logEvent_kept _ _ _ _ _ _ _).trans (s.putHub_kept _ _)

theorem State.markUe_kept (s : State) (a : Nat) : KeptFrom (s.markUe a) s := s.setMem_kept _ id id id

theorem State.noteUe_kept (s : State) (f : Fail) : KeptFrom (s.noteUe f) s := by
  unfold State.noteUe
  split
  · exact s.ueRead_kept _ _
  · rfl

theorem writesFor_kept (ws : WinSet) (s : State) (l : List (Nat × List Byte)) : KeptFrom (writesFor ws s l).1 s := by
  induction l generalizing s with
  | nil => rfl
  | cons w l ih =>
    unfold writesFor
    split
    · rfl
    · exact (ih _).trans (s.writeLine_kept _ _)

theorem State.writeFor_kept (s : State) (ws : WinSet) (a : Nat) (bs : List Byte) : KeptFrom (s.writeFor ws a bs).1 s :=
  writesFor_kept ws s _

/-! ## Messages between devices -/

theorem State.emitFlits_kept (s : State) (l : Nat) (fs : List Flit) : KeptFrom (s.emitFlits l fs) s :=
  foldl_kept (fun t f => t.emit_kept (.flit l f)) fs s

theorem State.pumpLink_kept (s : State) (l : Nat) : KeptFrom (s.pumpLink l) s :=
  (State.emitFlits_kept _ _ _).trans (s.putLink_kept _ _)

theorem State.sendOn_kept (s : State) (l kind : Nat) (m : MsgHead) (data : List Line) :
    KeptFrom (s.sendOn l kind m data) s :=
  (State.pumpLink_kept _ _).trans ((State.putLink_kept _ _ _).trans (s.emit_kept _))

theorem State.sendTo_kept (s : State) (kind : Nat) (m : MsgHead) (data : List Line) :
    KeptFrom (s.sendTo kind m data) s := by
  unfold State.sendTo
  split
  · exact s.sendOn_kept _ _ _ _
  · rfl

theorem State.originate_kept (s : State) (kind dst mtag arg : Nat) (data : List Line) :
    KeptFrom (s.originate kind dst mtag arg data) s :=
  s.sendTo_kept _ _ _

theorem State.takeMsg_kept (s : State) (l kind : Nat) (m : MsgHead) (data : List Line) :
    KeptFrom (s.takeMsg l kind m data) s :=
  s.putLink_kept _ _

theorem State.transit_kept (s : State) (kind : Nat) (m : MsgHead) (data : List Line) :
    KeptFrom (s.transit kind m data) s := by
  unfold State.transit
  split
  · exact s.sendOn_kept _ _ _ _
  · exact kept_ite (s.originate_kept _ _ _ _ _) .rfl

/-! ## The end of an item -/

theorem State.mapItem_kept (s : State) (q k : Nat) (f : Item → Item) : KeptFrom (s.mapItem q k f) s := s.putQueue_kept _ _

theorem State.dropChunks_kept (s : State) (h b : Nat) : KeptFrom (s.dropChunks h b) s :=
  foldl_kept (fun t _ => kept_ite .rfl (t.putHub_kept _ _)) _ s

theorem State.bseqGone_kept (s : State) (q : Nat) (i : Item) : KeptFrom (s.bseqGone q i) s :=
  kept_ite ((State.dropChunks_kept _ _ _).trans (s.putKeHerd_kept _ _)) .rfl

theorem State.writeReport_kept (s : State) (i : Item) : KeptFrom (s.writeReport i) s := by
  unfold State.writeReport
  split
  · exact kept_ite (s.write_kept _ _) .rfl
  · rfl

theorem State.endNow_kept (s : State) (q k : Nat) (f : Option Fail) : KeptFrom (s.endNow q k f).1 s := by
  unfold State.endNow
  split
  · rfl
  · split
    · rfl
    · exact (State.putQueue_kept _ _ _).trans ((State.writeReport_kept _ _).trans (kept_ite (s.bseqGone_kept _ _) .rfl))

/-! ## Counters and watches -/

theorem State.setCounter_kept (s : State) (c : Nat) (v : DWord) : KeptFrom (s.setCounter c v) s := s.setSync_kept _ rfl tok_tput id

theorem State.dropWatch_kept (s : State) (w : Watch) : KeptFrom (s.dropWatch w) s := s.setSync_kept _ rfl id id

theorem State.releaseWaiter_kept (s : State) (w : Watch) : KeptFrom (s.releaseWaiter w).1 s := by
  unfold State.releaseWaiter
  split
  case h_1 => exact s.endNow_kept _ _ _
  case h_2 => exact kept_ite (s.putCore_kept _ _) .rfl
  case h_3 => exact (State.msix_kept _ _ _).trans (s.setSync_kept _ rfl id id)

theorem State.fireWatch_kept (s : State) (w : Watch) : KeptFrom (s.fireWatch w).1 s :=
  ((s.dropWatch w).releaseWaiter_kept w).trans (s.dropWatch_kept w)

theorem fireAll_kept (s : State) (ws : List Watch) : KeptFrom (fireAll s ws).1 s := by
  induction ws generalizing s with
  | nil => rfl
  | cons w ws ih => exact (ih _).trans (s.fireWatch_kept w)

theorem State.tryClaim_kept (s : State) (c : Nat) : KeptFrom (s.tryClaim c).1 s := by
  unfold State.tryClaim
  split
  · rfl
  · split
    · exact s.fireWatch_kept _
    · rfl

theorem State.change1_kept (s : State) (c : Nat) (d : DWord) : KeptFrom (s.change1 c d).1 s :=
  (State.tryClaim_kept _ _).trans ((fireAll_kept _ _).trans (s.setCounter_kept _ _))

theorem runOps_kept (n : Nat) (s : State) (l : List (Nat × DWord)) : KeptFrom (runOps n s l) s := by
  induction n generalizing s l with
  | zero => rfl
  | succ n ih =>
    cases l with
    | nil => rfl
    | cons e l => exact (ih _ _).trans (s.change1_kept e.1 e.2)

theorem State.ops_kept (s : State) (l : List (Nat × DWord)) : KeptFrom (s.ops l) s := runOps_kept _ s l

theorem State.signal_kept (s : State) (c : Nat) (d : DWord) : KeptFrom (s.signal c d) s := s.ops_kept _

theorem State.place_kept (s : State) (w : Watch) : KeptFrom (s.place w) s :=
  kept_ite ((State.ops_kept _ _).trans ((State.fireWatch_kept _ _).trans (s.setSync_kept _ rfl id id))) (s.setSync_kept _ rfl id id)

theorem State.register_kept (s : State) (w : Watch) : KeptFrom (s.register w) s := kept_ite (s.place_kept w) (s.setSync_kept _ rfl id id)

theorem State.withdraw_kept (s : State) (who : Waiter) : KeptFrom (s.withdraw who) s := by
  unfold State.withdraw
  dsimp only
  split
  · exact s.setSync_kept _ rfl id id
  · exact kept_ite ((State.ops_kept _ _).trans ((State.tryClaim_kept _ _).trans ((State.dropWatch_kept _ _).trans
    (s.setSync_kept _ rfl id id))))
      ((State.dropWatch_kept _ _).trans (s.setSync_kept _ rfl id id))

theorem State.withdrawAll_kept (s : State) (gone : Waiter → Bool) : KeptFrom (s.withdrawAll gone) s :=
  (foldl_kept (fun _ _ => (State.ops_kept _ _).trans (State.tryClaim_kept _ _)) _ _).trans
    ((foldl_kept State.dropWatch_kept _ _).trans (s.setSync_kept _ rfl id id))

/-! ## Cores that run a part of an item -/

theorem State.releaseCore_kept (s : State) (site : Nat) : KeptFrom (s.releaseCore site) s := by
  unfold State.releaseCore
  dsimp only
  split
  · rfl
  · exact (State.putCore_kept _ _ _).trans (s.mapItem_kept _ _ _)

theorem State.unarrive_kept (s : State) (site : Nat) : KeptFrom (s.unarrive site) s :=
  s.setSync_kept _ rfl id (fun _ => tok_foldl_tput _ _ _ tok_nil)

theorem State.leaveWait_kept (s : State) (site : Nat) : KeptFrom (s.leaveWait site) s :=
  kept_ite (s.withdraw_kept _) (kept_ite (s.unarrive_kept site) .rfl)

theorem State.stopNow_kept (s : State) (site : Nat) : KeptFrom (s.stopNow site) s :=
  (State.putCore_kept _ _ _).trans (s.leaveWait_kept site)

theorem State.stopWith_kept (s : State) (site : Nat) (x : StopReq) : KeptFrom (s.stopWith site x) s :=
  kept_ite (s.putCore_kept _ _) ((State.stopNow_kept _ _).trans (s.putCore_kept _ _))

theorem State.stopCore_kept (s : State) (site : Nat) : KeptFrom (s.stopCore site) s := s.stopWith_kept site .drop

theorem State.stopSave_kept (s : State) (site : Nat) : KeptFrom (s.stopSave site) s := s.stopWith_kept site .save

theorem State.settleItem_kept (s : State) (q k : Nat) : KeptFrom (s.settleItem q k) s := by
  have hrelease (l : List Nat) : KeptFrom (l.foldl (fun t c => t.releaseCore c) s) s := foldl_kept State.releaseCore_kept l s
  unfold State.settleItem
  split
  · rfl
  · exact kept_ite (kept_ite ((State.endNow_kept _ _ _ _).trans (hrelease _)) (hrelease _)) .rfl

/-! ## Herds -/

theorem State.checkCoreHerd_kept (s : State) (h : Nat) : KeptFrom (s.checkCoreHerd h) s :=
  kept_ite ((foldl_kept (fun t _ => kept_ite (t.putCore_kept _ _) .rfl) _ _).trans (s.putHerd_kept _ _)) .rfl

theorem State.releaseBarriers_kept (s : State) (h : Nat) : KeptFrom (s.releaseBarriers h) s :=
  foldl_kept (fun t _ => (State.ops_kept _ _).trans (t.endNow_kept _ _ _)) _ s

theorem State.checkFabricHerd_kept (s : State) (h : Nat) : KeptFrom (s.checkFabricHerd h) s :=
  kept_ite ((State.releaseBarriers_kept _ _).trans
    ((foldl_kept (fun t _ => t.originate_kept _ _ _ _ _) _ _).trans (s.putHerd_kept _ _))) .rfl

theorem State.arriveFabric_kept (s : State) (h : Nat) : KeptFrom (s.arriveFabric h) s :=
  kept_ite ((State.checkFabricHerd_kept _ _).trans (s.putHerd_kept _ _)) (s.originate_kept _ _ _ _ _)

theorem State.cancelFabric_kept (s : State) (h : Nat) : KeptFrom (s.cancelFabric h) s :=
  kept_ite (s.putHerd_kept _ _) (s.originate_kept _ _ _ _ _)

/-! ## A failing item -/

theorem State.withdrawItem_kept (s : State) (i : Item) : KeptFrom (s.withdrawItem i) s := by
  unfold State.withdrawItem
  split
  · exact s.cancelFabric_kept _
  · exact s.setSync_kept _ rfl id id
  · rfl

theorem State.failItem_kept (s : State) (q k : Nat) (f : Fail) : KeptFrom (s.failItem q k f) s := by
  unfold State.failItem
  dsimp only
  split
  · exact s.noteUe_kept f
  · split
    · refine (State.settleItem_kept _ _ _).trans ((foldl_kept State.stopCore_kept _ _).trans ((State.mapItem_kept _ _ _ _).trans ?_))
      exact .trans (kept_ite (State.withdrawItem_kept _ _) .rfl) ((State.withdrawAll_kept _ _).trans (s.noteUe_kept f))
    · exact (State.settleItem_kept _ _ _).trans (s.noteUe_kept f)

theorem State.workDone_kept (s : State) (q k : Nat) : KeptFrom (s.workDone q k) s := s.mapItem_kept _ _ _

theorem State.finishNow_kept (s : State) (q k n : Nat) : KeptFrom (s.finishNow q k n) s :=
  (State.ops_kept _ _).trans ((State.endNow_kept _ _ _ _).trans (s.mapItem_kept _ _ _))

/-! ## Records and rings -/

theorem State.queueIrq_kept (s : State) (q : Nat) : KeptFrom (s.queueIrq q) s :=
  kept_ite ((State.msix_kept _ _ _).trans (s.putQueue_kept _ _)) .rfl

theorem State.writeRecord_kept (s : State) (q : Nat) (r : List Byte) : KeptFrom (s.writeRecord q r) s :=
  (State.queueIrq_kept _ _).trans ((State.putQueue_kept _ _ _).trans (kept_ite (s.emit_kept _) (s.write_kept _ _)))

theorem State.holdLine_kept (s : State) (q : Nat) : KeptFrom (s.holdLine q) s :=
  kept_ite .rfl ((State.logEvent_kept _ _ _ _ _ _ _).trans (s.putQueue_kept _ _))

theorem drainHeld_kept (n : Nat) (s : State) (q : Nat) : KeptFrom (drainHeld n s q) s := by
  induction n generalizing s with
  | zero => rfl
  | succ n ih =>
    unfold drainHeld
    split
    · rfl
    · split
      · rfl
      · exact s.holdLine_kept q
      · exact (ih _).trans ((State.writeRecord_kept _ _ _).trans (s.putQueue_kept _ _))

theorem State.drain_kept (s : State) (q : Nat) : KeptFrom (s.drain q) s := drainHeld_kept _ s q

theorem State.drainFree_kept (s : State) (q : Nat) : KeptFrom (s.drainFree q) s := kept_ite .rfl (s.drain_kept q)

theorem State.post_kept (s : State) (q : Nat) (r : List Byte) : KeptFrom (s.post q r) s :=
  (State.drainFree_kept _ _).trans (s.putQueue_kept _ _)

theorem State.releaseRecord_kept (s : State) (q : Nat) : KeptFrom (s.releaseRecord q) s := by
  unfold State.releaseRecord
  dsimp only
  split
  · exact (State.post_kept _ _ _).trans ((State.putQueue_kept _ _ _).trans (s.drainFree_kept q))
  · split
    · exact (State.post_kept _ _ _).trans (s.drainFree_kept q)
    · exact s.drainFree_kept q

end Sys2Proof.Machine
end

section
/-!
PROOFS. What operations keep, continued: core programs, tiles, audits and saved instances.
-/
namespace Sys2Proof.Machine

/-! ## Issue and the sequencer -/

/-- An instruction keeps when its effect does. -/
theorem State.issueAt_kept {s : State} {site : Nat} {w : Word} {f : Core → Run → State} (hf : ∀ k r, KeptFrom (f k r) s) :
    KeptFrom (s.issueAt site w f) s := by
  obtain h | ⟨r, -, h⟩ := s.issueAt_cases site w f
  · rw [h]
  · rw [h]
    exact hf _ _

theorem State.failAt_kept (s : State) (site status : Nat) : KeptFrom (s.failAt site status) s := by
  unfold State.failAt
  split
  · rfl
  · exact s.failItem_kept _ _ _

theorem State.malformedAt_kept (s : State) (site : Nat) : KeptFrom (s.malformedAt site) s := s.failAt_kept site _

theorem State.failCore_kept (s : State) (site : Nat) (f : Fail) : KeptFrom (s.failCore site f) s := by
  unfold State.failCore
  split
  · rfl
  · exact s.failItem_kept _ _ _

/-- A tile instruction keeps when its effect does. -/
theorem State.tileIssue_kept {s : State} {site top : Nat} {w : TWord} {f : Core → Run → State} (hf : ∀ k r, KeptFrom (f k r) s) :
    KeptFrom (s.tileIssue site top w f) s := by
  obtain h | h | ⟨r, -, -, -, -, h⟩ := s.tileIssue_cases site top w f
  · rw [h]
  · rw [h]
    exact s.malformedAt_kept _
  · rw [h]
    exact hf _ _

/-- An access to core memory keeps when its effect does. -/
theorem State.withMem_kept {s : State} {site : Nat} {m : MemCheck} {k : State} (hk : KeptFrom k s) :
    KeptFrom (s.withMem site m k) s := by
  obtain ⟨-, h⟩ | ⟨-, h⟩ | ⟨f, -, h⟩ | ⟨-, h⟩ := s.withMem_cases site m k
  · rw [h]
    exact hk
  · rw [h]
  · rw [h]
    exact s.failCore_kept _ _
  · rw [h]
    exact s.malformedAt_kept _

theorem State.seqTo_kept (s : State) (site : Nat) (x : SeqState) : KeptFrom (s.seqTo site x) s := s.putCore_kept _ _
theorem State.writeS_kept (s : State) (site d : Nat) (v : DWord) : KeptFrom (s.writeS site d v) s := s.seqTo_kept _ _
theorem State.writeP_kept (s : State) (site d : Nat) (v : DWord) : KeptFrom (s.writeP site d v) s := s.seqTo_kept _ _
theorem State.writeV_kept (s : State) (site d : Nat) (v : Vector Word 64) : KeptFrom (s.writeV site d v) s :=
  s.seqTo_kept _ _
theorem State.writeVF_kept (s : State) (site : Nat) (r : Run) (d p : Nat) (f : Nat → Word) (fl : Nat → Flags) :
    KeptFrom (s.writeVF site r d p f fl) s :=
  s.putCore_kept _ _
theorem State.jump_kept (s : State) (site : Nat) (x : SeqState) (target : BitVec 14) : KeptFrom (s.jump site x target) s :=
  kept_ite (s.malformedAt_kept site) (s.putCore_kept _ _)

/-! ## Families of instructions -/

section Instructions

variable (s : State) (c : Site) (d a b : Reg) (p : PReg) (sb : Bool)

theorem scalarRR_kept (op : Nat) (f : DWord → DWord → DWord) : KeptFrom (scalarRR op f c d a b s) s :=
  State.issueAt_kept fun _ _ => s.writeS_kept _ _ _

theorem scalarRI_kept (op : Nat) (f : DWord → DWord → DWord) (imm : BitVec 12) : KeptFrom (scalarRI op f c d a imm s) s :=
  State.issueAt_kept fun _ _ => s.writeS_kept _ _ _

theorem movk_kept (h : Nat) (imm : BitVec 16) : KeptFrom (movk h c d imm s) s :=
  State.issueAt_kept fun _ _ => s.writeS_kept _ _ _

theorem branchIf_kept (op : Nat) (cond : DWord → Bool) (t : BitVec 14) : KeptFrom (branchIf op cond c a t s) s :=
  State.issueAt_kept fun _ _ => kept_ite (s.jump_kept _ _ _) (s.seqTo_kept _ _)

theorem loadN_kept (op n : Nat) (imm : BitVec 12) : KeptFrom (loadN op n c d a imm s) s :=
  State.issueAt_kept fun _ _ => State.withMem_kept (s.writeS_kept _ _ _)

theorem storeN_kept (op n : Nat) (imm : BitVec 12) : KeptFrom (storeN op n c d a imm s) s :=
  State.issueAt_kept fun _ _ => State.withMem_kept ((State.seqTo_kept _ _ _).trans (s.write_kept _ _))

theorem vecF_kept (op : Nat) (f : Word → Word → Word → Word) (inv : Val → Val → Val → Bool) (third : Bool) :
    KeptFrom (vecF op f inv third c d a b p sb s) s :=
  State.issueAt_kept fun _ _ => s.writeVF_kept _ _ _ _ _ _

theorem vecE_kept (op : Nat) (f : Word → Word) : KeptFrom (vecE op f c d a p s) s :=
  State.issueAt_kept fun _ _ => s.writeVF_kept _ _ _ _ _ _

theorem vecCmp_kept (op : Nat) (f : Val → Val → Bool) : KeptFrom (vecCmp op f c d a b p sb s) s :=
  State.issueAt_kept fun _ _ => kept_ite (s.malformedAt_kept _) (s.writeP_kept _ _ _)

theorem vecI_kept (op : Nat) (f : Word → Word → Word) : KeptFrom (vecI op f c d a b p sb s) s :=
  State.issueAt_kept fun _ _ => s.writeV_kept _ _ _

theorem predOp_kept (op : Nat) (f : DWord → DWord → DWord) : KeptFrom (predOp op f c d a b p s) s :=
  State.issueAt_kept fun _ _ => s.writeP_kept _ _ _

theorem vecReduce_kept (op : Nat) (f : Word → Word → Word) (ident : Word) : KeptFrom (vecReduce op f ident c d a p s) s :=
  State.issueAt_kept fun _ _ => s.writeS_kept _ _ _

end Instructions

theorem haltInstance_kept (s : State) (site : Nat) (r : Run) : KeptFrom (haltInstance s site r) s :=
  (State.mapItem_kept _ _ _ _).trans ((State.putCore_kept _ _ _).trans (s.releaseCore_kept site))

/-! ## Streams and slots -/

theorem State.takeSlot_kept (s : State) (site : Nat) (o : SlotOp) : KeptFrom (s.takeSlot site o) s := s.seqTo_kept _ _

theorem State.setSlot_kept (s : State) (site i : Nat) (o : Option SlotOp) : KeptFrom (s.setSlot site i o) s :=
  s.putCore_kept _ _

theorem State.slotsMoved_kept (s : State) (site : Nat) : KeptFrom (s.slotsMoved site) s := by
  unfold State.slotsMoved
  dsimp only
  split
  · exact (State.settleItem_kept _ _ _).trans (kept_ite (s.putCore_kept _ _) .rfl)
  · exact kept_ite (s.putCore_kept _ _) .rfl

theorem State.freeDelivered_kept (s : State) (stream : Nat) (d : Desc) (a : Nat → ArrayState) (pos : Nat) :
    KeptFrom (s.freeDelivered stream d a pos) s :=
  s.setMem_kept _ id id id

theorem State.bufferEcc_kept (s : State) (stream : Nat) (lines : List Nat) (es : List (BitVec 42 × EccFact)) :
    KeptFrom (s.bufferEcc stream lines es) s := by
  refine foldl_kept (fun t e => kept_ite ?_ .rfl) _ s
  split
  · rfl
  · exact t.putHub_kept _ _
  · exact t.putHub_kept _ _

theorem State.consume_kept (s : State) (stream ctx : Nat) (ws : WinSet) (a : ArrayState) (count : Nat) (bad : Fail)
    (es : List (BitVec 42 × EccFact)) : KeptFrom (s.consume stream ctx ws a count bad es).1 s := by
  unfold State.consume
  dsimp only
  split
  · rfl
  · split
    · exact s.bufferEcc_kept _ _ _
    · exact (State.freeDelivered_kept _ _ _ _ _).trans ((State.putStream_kept _ _ _).trans (s.bufferEcc_kept _ _ _))

/-! ## Tiles -/

theorem State.shapeAt_kept (s : State) (site : Nat) : KeptFrom (s.shapeAt site) s := s.failAt_kept site _

theorem rowToMemory_kept (s : State) (site : Nat) (w : TWord) (m : Nat) (row : List Nat × List Nat × Flags) :
    KeptFrom (rowToMemory s site w m row) s :=
  kept_ite (s.write_kept _ _) ((State.write_kept _ _ _).trans (s.write_kept _ _))

theorem readOut_kept (s : State) (site : Nat) (x : Pass) (r : Run) (m : Nat) : KeptFrom (readOut s site x r m) s :=
  kept_ite (s.putCore_kept _ _) ((rowToMemory_kept _ _ _ _ _).trans (s.putCore_kept _ _))

theorem State.readOn_kept (s : State) (site : Nat) (x : Pass) (r : Run) : KeptFrom (s.readOn site x r) s := by
  have hrows (l : List Nat) : KeptFrom (l.foldl (fun t m => readOut t site x r m) s) s :=
    foldl_kept (fun t m => readOut_kept t site x r m) l s
  exact kept_ite ((State.putCore_kept _ _ _).trans (hrows _))
    (kept_ite ((State.failAt_kept _ _ _).trans ((State.putCore_kept _ _ _).trans (hrows _))) ((State.putCore_kept _ _ _).trans (hrows _)))

theorem State.perform_kept (s : State) (site : Nat) (x : Pass) (r : Run) : KeptFrom (s.perform site x r) s := by
  unfold State.perform
  dsimp only
  split
  · exact s.putCore_kept _ _
  · exact s.putCore_kept _ _
  · exact s.readOn_kept _ _ _
  · exact (State.write_kept _ _ _).trans (s.putCore_kept _ _)
  · split
    · exact s.failCore_kept _ _
    · exact s.putCore_kept _ _

theorem runTile_kept (n : Nat) (s : State) (site : Nat) : KeptFrom (runTile n s site) s := by
  induction n generalizing s with
  | zero => rfl
  | succ n ih =>
    unfold runTile
    dsimp only
    split
    · exact kept_ite .rfl ((ih _).trans (s.perform_kept _ _ _))
    · rfl

theorem State.tilesOn_kept (s : State) (site : Nat) : KeptFrom (s.tilesOn site) s := runTile_kept _ s site

theorem retirePass_kept (s : State) (site : Nat) (x : Pass) : KeptFrom (retirePass s site x) s := by
  unfold retirePass
  dsimp only
  split
  · rfl
  · split
    · exact s.putCore_kept _ _
    · exact (State.tilesOn_kept _ _).trans
        (kept_ite ((State.failAt_kept _ _ _).trans (s.putCore_kept _ _)) ((State.settleItem_kept _ _ _).trans (s.putCore_kept _ _)))

/-! ## Audits and lost cores -/

theorem State.logAt_kept (s : State) (dtc : DWord) (c k u v x y : Nat) : KeptFrom (s.logAt dtc c k u v x y) s :=
  (State.setFault_kept _ _ fun h => by
    simp only [FaultSt.wf_iff, List.length_map] at h ⊢
    refine ⟨h.1, logFrom_map (fun e => ?_) h.2⟩
    split <;> rfl).trans (s.logEvent_kept _ _ _ _ _ _)

theorem State.mapHerds_kept (s : State) (f : Herd → Herd) : KeptFrom (s.mapHerds f) s :=
  s.setSync_kept _ rfl id (fun _ => tok_foldl_tput _ _ _ tok_nil)

theorem State.failSite_kept (s : State) (site : Nat) : KeptFrom (s.failSite site) s := by
  unfold State.failSite
  dsimp only
  split
  · exact s.setStart_kept _
  · split
    · exact (State.tallyAdd_kept _ _ _).trans ((State.mapHerds_kept _ _).trans ((State.setStart_kept _ _).trans (s.setStart_kept _)))
    · exact (State.setStart_kept _ _).trans (s.setStart_kept _)

theorem State.settleSave_kept (s : State) (q k : Nat) : KeptFrom (s.settleSave q k) s :=
  kept_ite ((State.putQueue_kept _ _ _).trans (s.mapItem_kept _ _ _)) .rfl

theorem State.loseRun_kept (s : State) (site lcore : Nat) (r : Run) : KeptFrom (s.loseRun site lcore r) s := by
  have hfreed (x : Core) (f : Item → Item) : KeptFrom (((s.leaveWait site).mapItem r.q r.k f).putCore site x) s :=
    (State.putCore_kept _ _ _).trans ((State.mapItem_kept _ _ _ _).trans (s.leaveWait_kept site))
  unfold State.loseRun
  dsimp only
  split
  · exact hfreed _ _
  · refine kept_ite ?_ (kept_ite ?_ ?_)
    · exact (State.settleSave_kept _ _ _).trans ((State.mapItem_kept _ _ _ _).trans (hfreed _ _))
    · exact (State.failItem_kept _ _ _ _).trans (hfreed _ _)
    · exact (State.settleItem_kept _ _ _).trans (hfreed _ _)

theorem State.checkCoreHerds_kept (s : State) : KeptFrom s.checkCoreHerds s :=
  foldl_kept (fun t (e : Nat × Herd) => t.checkCoreHerd_kept e.1) _ s

theorem State.loseCore_kept (s : State) (site cause : Nat) (fails : Bool) : KeptFrom (s.loseCore site cause fails) s := by
  unfold State.loseCore
  extract_lets lc t u
  have hu : KeptFrom u s := by
    refine KeptFrom.trans ?_ (s.logEvent_kept 0x10 1 site 3 lc cause)
    unfold u
    split
    · exact State.loseRun_kept _ _ _ _
    · rfl
  exact (State.checkCoreHerds_kept _).trans (kept_ite ((State.failSite_kept _ _).trans hu) hu)

theorem State.auditOver_kept (s : State) (site : Nat) : KeptFrom (s.auditOver site) s := by
  unfold State.auditOver
  dsimp only
  split
  · exact s.putCore_kept _ _
  · exact kept_ite ((State.settleItem_kept _ _ _).trans ((State.stopNow_kept _ _).trans (s.putCore_kept _ _)))
      ((State.tilesOn_kept _ _).trans (s.putCore_kept _ _))

/-! ## Instances that start, are saved and are restored -/

theorem State.beginInstance_kept (s : State) (q site inst : Nat) (i : Item) : KeptFrom (s.beginInstance q site inst i) s := by
  unfold State.beginInstance
  dsimp only
  split
  · exact s.failItem_kept _ _ _
  · exact kept_ite ((State.malformedAt_kept _ _).trans (s.putCore_kept _ _)) (s.putCore_kept _ _)

theorem State.saveCore_kept (s : State) (site lcore : Nat) (k : Core) (r : Run) : KeptFrom (s.saveCore site lcore k r) s := by
  have hsave (a : Nat) (x y : List Byte) : KeptFrom ((s.write a x).write (a + 0x90000) y) s :=
    (State.write_kept _ _ _).trans (s.write_kept _ _)
  have hopen (a : Nat) (l : List (Nat × Nat)) (t : State) :
      KeptFrom (l.foldl (fun u p => u.forget (a + p.1) (a + p.2)) t) t := foldl_kept (fun u _ => u.forget_kept _ _) l t
  exact kept_ite (hsave _ _ _) ((hopen _ _ _).trans (hsave _ _ _))

theorem State.matCore_kept (s : State) (site : Nat) (r : Run) (t : TileState) (wake : BitVec 16) :
    KeptFrom (s.matCore site r t wake) s :=
  (State.forget_kept _ _ _).trans (s.putCore_kept _ _)

theorem State.restoreJob_kept (s : State) (site : Nat) (x : SavedRun) : KeptFrom (s.restoreJob site x) s :=
  (State.tilesOn_kept _ _).trans ((State.write_kept _ _ _).trans (s.putCore_kept _ _))

theorem State.restageMat_kept (s : State) (site : Nat) (i : Item) (x : SavedRun) : KeptFrom (s.restageMat site i x) s := by
  unfold State.restageMat
  dsimp only
  split
  · exact kept_ite .rfl ((State.tallyAdd_kept _ _ _).trans (s.putCore_kept _ _))
  · rfl

theorem State.restoreMat_kept (s : State) (q k site : Nat) (x : SavedRun) : KeptFrom (s.restoreMat q k site x) s := by
  -- unfolded as an equation of functions, so that the kernel need not evaluate the item that the definition looks up
  obtain ⟨f, hf⟩ : ∃ f, f = @State.restoreMat := ⟨_, rfl⟩
  have h : s.restoreMat q k site x = f s q k site x := by rw [hf]
  delta State.restoreMat at hf
  rw [hf] at h
  dsimp only at h
  rw [h]
  have ht := s.matCore_kept site x.run (s.readTile (s.saveRegion x.run.ctx x.lcore) x) (BitVec.allOnes 16)
  generalize s.matCore _ _ _ _ = t at ht ⊢
  split
  · exact (t.restageMat_kept _ _ _).trans ht
  · exact ht

theorem State.loseSaved_kept (s : State) (q k : Nat) (x : SavedRun) : KeptFrom (s.loseSaved q k x) s := by
  unfold State.loseSaved
  dsimp only
  split
  · exact s.mapItem_kept _ _ _
  · exact kept_ite ((State.mapItem_kept _ _ _ _).trans (s.mapItem_kept _ _ _))
      ((State.failItem_kept _ _ _ _).trans (s.mapItem_kept _ _ _))

theorem State.resumeRun_kept (s : State) (q k : Nat) (x : SavedRun) : KeptFrom (s.resumeRun q k x) s := by
  unfold State.resumeRun
  split
  · exact s.loseSaved_kept _ _ _
  · refine kept_ite (s.loseSaved_kept _ _ _) (kept_ite .rfl ?_)
    split
    · exact s.failItem_kept _ _ _
    · exact kept_ite ((State.restoreJob_kept _ _ _).trans (s.mapItem_kept _ _ _))
        ((State.restoreMat_kept _ _ _ _ _).trans (s.mapItem_kept _ _ _))

theorem State.resumeItem_kept (s : State) (q k : Nat) : KeptFrom (s.resumeItem q k) s := by
  unfold State.resumeItem
  split
  · rfl
  · refine (foldl_kept (fun t x => ?_) _ _).trans (s.mapItem_kept _ _ _)
    split
    · exact kept_ite (t.resumeRun_kept _ _ _) .rfl
    · rfl

theorem State.stageMarks_kept (s : State) (site : Nat) (i : Item) (region : Nat) : KeptFrom (s.stageMarks site i region) s :=
  (State.setFreeCount_kept _ _).trans (s.putCore_kept _ _)

theorem State.takeRegion_kept (s : State) (q site region : Nat) (i : Item) : KeptFrom (s.takeRegion q site region i) s :=
  (State.stageMarks_kept _ _ _ _).trans (s.matCore_kept _ _ _ _)

end Sys2Proof.Machine
end

section
/-!
PROOFS. What operations keep, continued: lists and items, collectives, copies and streams, updates and MATMUL.
-/
namespace Sys2Proof.Machine

/-! ## Lists and the start of an item -/

theorem State.acceptList_kept (s : State) (q base : Nat) (w : Walk) (link : Nat) : KeptFrom (s.acceptList q base w link) s :=
  (State.post_kept _ _ _).trans (s.putQueue_kept _ _)

theorem State.refuseList_kept (s : State) (q base reason off : Nat) : KeptFrom (s.refuseList q base reason off) s :=
  kept_ite ((State.post_kept _ _ _).trans (s.putQueue_kept _ _)) (s.putQueue_kept _ _)

theorem State.takeList_kept (s : State) (q base : Nat) : KeptFrom (s.takeList q base) s := by
  unfold State.takeList
  dsimp only
  split
  · exact (State.refuseList_kept _ _ _ _ _).trans (foldl_kept (fun t a => t.ueRead_kept a 2) _ s)
  · rfl
  · exact kept_ite .rfl (s.acceptList_kept _ _ _ _)

theorem State.begin_kept (s : State) (q k : Nat) : KeptFrom (s.begin q k) s :=
  (State.mapItem_kept _ _ _ _).trans (s.setTurns_kept _ tok_tput)

/-- The start of an item keeps when what its kind does then keeps. -/
theorem State.startItem_kept {s : State} {q k op : Nat} {fields : Item → List (Nat × Bool)} {go : State → Item → State}
    (hgo : ∀ t i, KeptFrom (go t i) t) : KeptFrom (s.startItem q k op fields go) s := by
  obtain h | ⟨f, h⟩ | ⟨_, j, -, -, -, -, -, -, h⟩ := s.startItem_cases q k op fields go
  · rw [h]
  · rw [h]
    exact (State.failItem_kept _ _ _ _).trans (s.begin_kept _ _)
  · rw [h]
    exact (hgo _ _).trans (s.begin_kept _ _)

theorem State.setWork_kept (s : State) (q k : Nat) (w : Work) : KeptFrom (s.setWork q k w) s := s.mapItem_kept _ _ _

theorem State.take1_kept (s : State) (q k site : Nat) : KeptFrom (s.take1 q k site) s := s.putCore_kept _ _

theorem State.collect_kept (s : State) (q k : Nat) : KeptFrom (s.collect q k) s := foldl_kept (fun t x => t.take1_kept q k x) _ s

theorem State.flagWord_kept (s : State) (i : Item) : KeptFrom (s.flagWord i).1 s := by
  unfold State.flagWord
  split
  · split
    · rfl
    · exact s.writeFor_kept _ _ _
  · rfl

theorem State.askPoint_kept (s : State) (q : Nat) : KeptFrom (s.askPoint q) s := s.putQueue_kept _ _

theorem State.askNow_kept (s : State) (q : Nat) : KeptFrom (s.askNow q) s :=
  (foldl_kept (fun t _ => (State.settleSave_kept _ _ _).trans (foldl_kept State.stopSave_kept _ t)) _ _).trans
    ((State.putQueue_kept _ _ _).trans ((State.withdrawAll_kept _ _).trans (s.putQueue_kept _ _)))

/-! ## Collectives -/

theorem State.setKeWork_kept (s : State) (q k : Nat) (w : KeWork) : KeptFrom (s.setKeWork q k w) s := s.setWork_kept _ _ _

theorem State.keAdds_kept (s : State) (hub n : Nat) : KeptFrom (s.keAdds hub n) s := s.putHub_kept _ _

theorem State.keSend_kept (s : State) (q k op : Nat) (w : KeWork) (j : Nat) (gather : Bool) (t : Nat) (v : Line) :
    KeptFrom (s.keSend q k op w j gather t v) s := by
  unfold State.keSend
  dsimp only
  split
  · exact s.sendOn_kept _ _ _ _
  · exact kept_ite (s.sendTo_kept _ _ _) (s.failItem_kept _ _ _)

theorem State.keResult_kept (s : State) (q k : Nat) (i : Item) (w : KeWork) (j : Nat) (v : Line) :
    KeptFrom (s.keResult q k i w j v) s := by
  unfold State.keResult
  split
  · exact (State.mapItem_kept _ _ _ _).trans (s.setKeWork_kept _ _ _)
  · dsimp only
    split
    · exact (State.failItem_kept _ _ _ _).trans (s.writeFor_kept _ _ _)
    · exact (State.putHub_kept _ _ _).trans
        ((State.mapItem_kept _ _ _ _).trans ((State.setKeWork_kept _ _ _ _).trans (s.writeFor_kept _ _ _)))

theorem keActs_kept (q k op j : Nat) (l : List KeAct) (s : State) : KeptFrom (keActs q k op j l s) s := by
  induction l generalizing s with
  | nil => rfl
  | cons a l ih =>
    unfold keActs
    split
    · rfl
    · refine (ih _).trans ?_
      split
      · exact s.keSend_kept _ _ _ _ _ _ _ _
      · exact s.keResult_kept _ _ _ _ _ _

theorem State.keMove_kept (s : State) (q k op j : Nat) (r : KeLine × List KeAct) (reduced : Bool) (v : Line) :
    KeptFrom (s.keMove q k op j r reduced v) s := by
  unfold State.keMove
  split
  · rfl
  · exact (keActs_kept _ _ _ _ _ _).trans (s.setKeWork_kept _ _ _)

theorem State.kePartial_kept (s : State) (q k op j t : Nat) (x : Line) : KeptFrom (s.kePartial q k op j t x) s := by
  unfold State.kePartial
  split
  · rfl
  · exact kept_ite (s.keMove_kept _ _ _ _ _ _ _)
      ((State.keMove_kept _ _ _ _ _ _ _ _).trans ((State.setKeWork_kept _ _ _ _).trans
        ((State.mapItem_kept _ _ _ _).trans (s.keAdds_kept _ _))))

theorem keRun_kept (q k op n : Nat) (s : State) : KeptFrom (keRun q k op n s) s := by
  induction n generalizing s with
  | zero => rfl
  | succ n ih =>
    unfold keRun
    split
    · rfl
    · split
      · exact (ih _).trans (kept_ite ((State.keMove_kept _ _ _ _ _ _ _ _).trans (s.setKeWork_kept _ _ _))
          ((State.kePartial_kept _ _ _ _ _ _ _).trans (s.setKeWork_kept _ _ _)))
      · exact kept_ite ((ih _).trans (s.keMove_kept _ _ _ _ _ _ _)) (kept_ite (s.workDone_kept _ _) .rfl)

theorem State.keLineStart_kept (s : State) (q k op j : Nat) : KeptFrom (s.keLineStart q k op j) s := by
  unfold State.keLineStart
  split
  · rfl
  · split
    · split
      · exact s.failItem_kept _ _ _
      · exact (State.keMove_kept _ _ _ _ _ _ _ _).trans ((State.setKeWork_kept _ _ _ _).trans
          ((State.mapItem_kept _ _ _ _).trans (s.keAdds_kept _ _)))
    · split
      · exact s.setKeWork_kept _ _ _
      · split
        · exact s.failItem_kept _ _ _
        · exact s.keMove_kept _ _ _ _ _ _ _

theorem State.dropHeld_kept (s : State) (h b : Nat) : KeptFrom (s.dropHeld h b) s := foldl_kept (fun t _ => t.putHub_kept _ _) _ s

theorem State.keTake_kept (s : State) (q k op hub : Nat) (c : HeldChunk) : KeptFrom (s.keTake q k op hub c) s := by
  unfold State.keTake
  split
  · rfl
  · exact kept_ite ((State.logEvent_kept _ _ _ _ _ _ _).trans (s.putHub_kept _ _)) (s.setKeWork_kept _ _ _)

theorem State.keBegin_kept (s : State) (q k op h b : Nat) (w : KeWork) : KeptFrom (s.keBegin q k op h b w) s := by
  have hlines (l : List Nat) (t : State) : KeptFrom (l.foldl (fun u j => u.keLineStart q k op j) t) t :=
    foldl_kept (fun u j => u.keLineStart_kept q k op j) l t
  have hstart : ∀ x, KeptFrom (((s.putKeHerd h x).setKeWork q k w)) s := fun x =>
    (State.setKeWork_kept _ _ _ _).trans (s.putKeHerd_kept _ _)
  exact kept_ite ((State.dropChunks_kept _ _ _).trans ((hlines _ _).trans (hstart _)))
    ((keRun_kept _ _ _ _ _).trans ((foldl_kept (fun t _ => t.keTake_kept _ _ _ _ _) _ _).trans
      ((State.dropHeld_kept _ _ _).trans ((hlines _ _).trans (hstart _)))))

theorem State.keStart_kept (q k op : Nat) (s : State) (i : Item) : KeptFrom (State.keStart q k op s i) s := by
  unfold State.keStart
  refine kept_ite (s.failItem_kept _ _ _) ?_
  split
  · exact s.failItem_kept _ _ _
  · refine kept_ite (s.failItem_kept _ _ _) ?_
    split
    · exact s.failItem_kept _ _ _
    · exact s.keBegin_kept _ _ _ _ _ _

theorem State.keItem_kept (s : State) (q k op : Nat) : KeptFrom (s.keItem q k op) s := by
  unfold State.keItem
  split
  · rfl
  · exact kept_ite (kept_ite .rfl ((State.mapItem_kept _ _ _ _).trans (s.setKeWork_kept _ _ _)))
      (State.startItem_kept fun t i => t.keStart_kept q k op i)

theorem State.chunkHere_kept (s : State) (l : Nat) (c : HeldChunk) : KeptFrom (s.chunkHere l c) s := by
  unfold State.chunkHere
  dsimp only
  split
  · split
    · rfl
    · exact (keRun_kept _ _ _ _ _).trans ((State.keTake_kept _ _ _ _ _ _).trans (s.takeMsg_kept _ _ _ _))
  · exact kept_ite (kept_ite .rfl ((State.putHub_kept _ _ _).trans (s.takeMsg_kept _ _ _ _)))
      ((State.putHub_kept _ _ _).trans (s.takeMsg_kept _ _ _ _))

/-! ## Copies, gathers and streams -/

theorem State.noteReq_kept (s : State) (r : OutReq) : KeptFrom (s.noteReq r) s := s.setFab_kept _

theorem State.settleCopy_kept (s : State) (q k : Nat) : KeptFrom (s.settleCopy q k) s := by
  unfold State.settleCopy
  split
  · rfl
  · split
    · exact kept_ite .rfl (kept_ite ((State.workDone_kept _ _ _).trans (s.mapItem_kept _ _ _)) (s.mapItem_kept _ _ _))
    · rfl

theorem State.copyPiece_kept (s : State) (q : Nat) (i : Item) (row t : Nat) : KeptFrom (s.copyPiece q i row t) s := by
  unfold State.copyPiece
  dsimp only
  split
  · split
    · exact s.failItem_kept _ _ _
    · refine kept_ite (s.failItem_kept _ _ _) ?_
      split
      · rfl
      · exact (State.setWork_kept _ _ _ _).trans ((State.originate_kept _ _ _ _ _ _).trans (s.noteReq_kept _))
  · split
    · exact s.failItem_kept _ _ _
    · split
      · refine kept_ite (s.failItem_kept _ _ _) (kept_ite (s.failItem_kept _ _ _) ?_)
        split
        · rfl
        · exact (State.setWork_kept _ _ _ _).trans (kept_ite ((State.originate_kept _ _ _ _ _ _).trans (s.noteReq_kept _))
            ((State.originate_kept _ _ _ _ _ _).trans (s.noteReq_kept _)))
      · split
        · exact (State.failItem_kept _ _ _ _).trans (s.writeFor_kept _ _ _)
        · exact (State.setWork_kept _ _ _ _).trans (s.writeFor_kept _ _ _)

theorem copyPieces_kept (q k n : Nat) (s : State) : KeptFrom (copyPieces q k n s) s := by
  induction n generalizing s with
  | zero => rfl
  | succ n ih =>
    unfold copyPieces
    split
    · rfl
    · split
      · exact kept_ite ((ih _).trans ((State.settleCopy_kept _ _ _).trans (s.copyPiece_kept _ _ _ _))) .rfl
      · rfl

theorem gatherLines_kept (q k n : Nat) (s : State) : KeptFrom (gatherLines q k n s) s := by
  induction n generalizing s with
  | zero => rfl
  | succ n ih =>
    unfold gatherLines
    split
    · rfl
    · split
      · dsimp only
        split
        · rfl
        · split
          · exact s.failItem_kept _ _ _
          · split
            · exact (State.failItem_kept _ _ _ _).trans (s.writeFor_kept _ _ _)
            · have hline (w : Work) (f : Item → Item) (ws : WinSet) (a : Nat) (bs : List Byte) :
                  KeptFrom ((((s.writeFor ws a bs).1.setWork q k w).mapItem q k f)) s :=
                (State.mapItem_kept _ _ _ _).trans ((State.setWork_kept _ _ _ _).trans (s.writeFor_kept _ _ _))
              exact (ih _).trans (kept_ite ((State.workDone_kept _ _ _).trans (hline _ _ _ _ _)) (hline _ _ _ _ _))
      · rfl

theorem State.freeStream_kept (s : State) (n : Nat) : KeptFrom (s.freeStream n) s :=
  (State.setMem_kept _ _ (by exact id) (by exact id) (by exact id)).trans (s.putStream_kept _ _)

/-! ## Updates -/

theorem State.setUpd_kept (s : State) (q k : Nat) (w : UpdWork) : KeptFrom (s.setUpd q k w) s := s.setWork_kept _ _ _

theorem State.oxCount_kept (s : State) (h : Nat) (f : HubSt → HubSt) : KeptFrom (s.oxCount h f) s := s.putHub_kept _ _

theorem checkPass_kept (q k : Nat) (u : Upd) (l : List Nat) (s : State) : KeptFrom (checkPass q k u l s) s := by
  induction l generalizing s with
  | nil => rfl
  | cons b bs ih =>
    unfold checkPass
    split
    · rfl
    · split
      · exact s.failItem_kept _ _ _
      · exact (ih _).trans (kept_ite ((State.oxCount_kept _ _ _).trans (s.setUpd_kept _ _ _)) (s.setUpd_kept _ _ _))

theorem State.updStart_kept (q k : Nat) (s : State) (i : Item) : KeptFrom (State.updStart q k s i) s := by
  unfold State.updStart
  refine kept_ite (s.failItem_kept _ _ _) ?_
  split
  · exact s.failItem_kept _ _ _
  · refine kept_ite (s.failItem_kept _ _ _) ?_
    split
    · exact s.failItem_kept _ _ _
    · split
      · exact s.failItem_kept _ _ _
      · exact s.failItem_kept _ _ _
      · exact s.failItem_kept _ _ _
      · exact (checkPass_kept _ _ _ _ _).trans ((State.mapItem_kept _ _ _ _).trans (s.setUpd_kept _ _ _))

theorem State.writeAll_kept (s : State) (ws : WinSet) (l : List (Nat × List Byte)) : KeptFrom (s.writeAll ws l).1 s := by
  unfold State.writeAll
  dsimp only
  split
  · rfl
  · exact foldl_kept (fun t (w : Nat × List Byte) => t.writeLine_kept w.1 w.2) _ s

theorem State.blockDone_kept (s : State) (q k b : Nat) (f : UpdWork → UpdWork) (fl : Flags) :
    KeptFrom (s.blockDone q k b f fl) s := by
  unfold State.blockDone
  split
  · rfl
  · exact kept_ite ((State.workDone_kept _ _ _).trans ((State.mapItem_kept _ _ _ _).trans (s.setUpd_kept _ _ _)))
      ((State.mapItem_kept _ _ _ _).trans (s.setUpd_kept _ _ _))

theorem State.blockWrites_kept (s : State) (q k b : Nat) (ws : WinSet) (l : List (Nat × List Byte)) (hub : Nat)
    (f : UpdWork → UpdWork) (g : HubSt → HubSt) (fl : Flags) : KeptFrom (s.blockWrites q k b ws l hub f g fl) s := by
  unfold State.blockWrites
  dsimp only
  split
  · exact (State.failItem_kept _ _ _ _).trans ((State.mapItem_kept _ _ _ _).trans (s.writeAll_kept _ _))
  · exact (State.blockDone_kept _ _ _ _ _ _).trans ((State.oxCount_kept _ _ _).trans (s.writeAll_kept _ _))

theorem State.blockNormal_kept (s : State) (q k b : Nat) (i : Item) (w : UpdWork) (u : Upd) (h : BlockHdr) :
    KeptFrom (s.blockNormal q k b i w u h) s := by
  unfold State.blockNormal
  dsimp only
  split
  · exact s.failItem_kept _ _ _
  · exact kept_ite (s.failItem_kept _ _ _)
      (kept_ite (s.blockWrites_kept _ _ _ _ _ _ _ _ _) (s.blockWrites_kept _ _ _ _ _ _ _ _ _))

theorem State.mainBlock_kept (s : State) (q k b : Nat) (i : Item) (w : UpdWork) (u : Upd) :
    KeptFrom (s.mainBlock q k b i w u) s := by
  have hskew (v : UpdWork) (n : Nat) (f : HubSt → HubSt) : KeptFrom ((s.setUpd q k v).oxCount n f) s :=
    (State.oxCount_kept _ _ _).trans (s.setUpd_kept _ _ _)
  unfold State.mainBlock
  dsimp only
  split
  · exact s.failItem_kept _ _ _
  · refine kept_ite (s.blockDone_kept _ _ _ _ _) (kept_ite (s.blockDone_kept _ _ _ _ _) (kept_ite ?_ ?_))
    · exact kept_ite ((State.blockDone_kept _ _ _ _ _ _).trans (hskew _ _ _)) ((State.failItem_kept _ _ _ _).trans (hskew _ _ _))
    · exact kept_ite (s.blockWrites_kept _ _ _ _ _ _ _ _ _)
        (kept_ite (s.blockWrites_kept _ _ _ _ _ _ _ _ _) (s.blockNormal_kept _ _ _ _ _ _ _))

/-! ## MATMUL -/

theorem takeKeeper_kept (s : State) (i : Item) (c : MatCmd) (p : MatPass) (es : List (BitVec 42 × EccFact)) :
    KeptFrom (takeKeeper s i c p es).1 s := by
  unfold takeKeeper
  split
  · exact s.consume_kept _ _ _ _ _ _ _
  · rfl

theorem writeRows_kept (ws : WinSet) (l : List (Nat × List Byte)) (s : State) : KeptFrom (writeRows ws l s).1 s := by
  induction l generalizing s with
  | nil => rfl
  | cons w l ih =>
    unfold writeRows
    dsimp only
    split
    · exact s.writeFor_kept _ _ _
    · exact (ih _).trans (s.writeFor_kept _ _ _)

theorem State.nextRegion_kept (s : State) (q site : Nat) (i : Item) : KeptFrom (s.nextRegion q site i) s := by
  unfold State.nextRegion
  split
  · have hcount (f : Item → Item) : KeptFrom (s.mapItem q i.k f) s := s.mapItem_kept _ _ _
    have hnext (f g : Item → Item) (r : Nat) : KeptFrom (((s.mapItem q i.k f).mapItem q i.k g).stageMarks site i r) s :=
      (State.stageMarks_kept _ _ _ _).trans ((State.mapItem_kept _ _ _ _).trans (hcount f))
    have hfree (f : Item → Item) (x : Core) : KeptFrom (((s.mapItem q i.k f).putCore site x).releaseCore site) s :=
      (State.releaseCore_kept _ _).trans ((State.putCore_kept _ _ _).trans (hcount f))
    exact kept_ite ((State.workDone_kept _ _ _).trans (kept_ite (hnext _ _ _) (hfree _ _))) (kept_ite (hnext _ _ _) (hfree _ _))
  · rfl

theorem State.matPass_kept (s : State) (q site : Nat) (i : Item) (r : Run) (p : MatPass) (es : List (BitVec 42 × EccFact)) :
    KeptFrom (s.matPass q site i r p es) s := by
  unfold State.matPass
  dsimp only
  split
  · exact s.failItem_kept _ _ _
  · split
    · exact (State.failItem_kept _ _ _ _).trans (takeKeeper_kept _ _ _ _ _)
    · exact kept_ite ((State.failItem_kept _ _ _ _).trans ((State.putCore_kept _ _ _).trans (takeKeeper_kept _ _ _ _ _)))
        ((State.putCore_kept _ _ _).trans (takeKeeper_kept _ _ _ _ _))

theorem State.matOut_kept (s : State) (q site : Nat) (i : Item) (r : Run) : KeptFrom (s.matOut q site i r) s := by
  unfold State.matOut
  dsimp only
  split
  · exact (State.failItem_kept _ _ _ _).trans ((State.putCore_kept _ _ _).trans (writeRows_kept _ _ _))
  · exact kept_ite
      ((State.failItem_kept _ _ _ _).trans ((State.nextRegion_kept _ _ _ _).trans ((State.putCore_kept _ _ _).trans
        (writeRows_kept _ _ _))))
      ((State.nextRegion_kept _ _ _ _).trans ((State.putCore_kept _ _ _).trans (writeRows_kept _ _ _)))

theorem State.matStep_kept (s : State) (q k site : Nat) (es : List (BitVec 42 × EccFact)) :
    KeptFrom (s.matStep q k site es) s := by
  unfold State.matStep
  dsimp only
  split
  · refine kept_ite .rfl (kept_ite (s.nextRegion_kept _ _ _) ?_)
    split
    · exact s.matPass_kept _ _ _ _ _ _
    · exact s.matOut_kept _ _ _ _
  · rfl

theorem matSteps_kept (q k site : Nat) (es : List (BitVec 42 × EccFact)) (n : Nat) (s : State) :
    KeptFrom (matSteps q k site es n s) s := by
  induction n generalizing s with
  | zero => rfl
  | succ n ih => exact (ih _).trans (s.matStep_kept q k site es)

theorem State.matJoin_kept (s : State) (q k site : Nat) : KeptFrom (s.matJoin q k site) s := by
  unfold State.matJoin
  split
  · rfl
  · split
    · refine kept_ite .rfl ?_
      split
      · exact s.resumeRun_kept _ _ _
      · exact kept_ite ((State.takeRegion_kept _ _ _ _ _).trans (s.mapItem_kept _ _ _)) .rfl
    · rfl

theorem State.startMat_kept (s : State) (q k : Nat) (i : Item) : KeptFrom (s.startMat q k i) s := by
  unfold State.startMat
  refine kept_ite (s.failItem_kept _ _ _) ?_
  split
  · exact s.failItem_kept _ _ _
  · split
    · exact s.failItem_kept _ _ _
    · exact s.setWork_kept _ _ _

end Sys2Proof.Machine
end

section
/-!
PROOFS. What operations keep, continued: links, resets, power, start-up, firmware, images, the sync unit, hubs and pins. Start-up keeps
all but the device time of a power-on.
-/
namespace Sys2Proof.Machine

/-! ## The Tally -/

theorem State.tallyFlash_kept (s : State) (ok : Bool) : KeptFrom (s.tallyFlash ok) s :=
  kept_ite (c := ok = true) (s.setTally_kept _) (s.setTally_kept _)

theorem State.tallyLoad_kept (s : State) : KeptFrom s.tallyLoad s := s.setTally_kept _
theorem State.rollWindow_kept (s : State) : KeptFrom s.rollWindow s := s.setTally_kept _
theorem State.tallyHbm_kept (s : State) (n bits : Nat) : KeptFrom (s.tallyHbm n bits) s :=
  (State.setTally_kept _ _).trans (s.tallyBin_kept _ _ _)
theorem State.tallyReplay_kept (s : State) : KeptFrom s.tallyReplay s := s.setTally_kept _

/-! ## Links -/

theorem State.sendNak_kept (s : State) (p : Nat) : KeptFrom (s.sendNak p) s :=
  kept_ite .rfl ((State.emit_kept _ _).trans (s.putLink_kept _ _))

theorem State.badFlit_kept (s : State) (p : Nat) (h : FlitHead) : KeptFrom (s.badFlit p h) s :=
  kept_ite (s.putLink_kept _ _) ((State.sendNak_kept _ _).trans (s.putLink_kept _ _))

theorem State.flitCover_kept (s : State) (p : Nat) (h : FlitHead) : KeptFrom (s.flitCover p h) s := s.putLink_kept _ _

theorem State.resend_kept (s : State) (p seq : Nat) : KeptFrom (s.resend p seq) s := s.emitFlits_kept _ _

theorem State.countReplay_kept (s : State) (p : Nat) : KeptFrom (s.countReplay p) s :=
  (State.tallyReplay_kept _).trans (s.putLink_kept _ _)

theorem State.spare_kept (s : State) (p : Nat) : KeptFrom (s.spare p) s := s.putLink_kept _ _

theorem State.replayed_kept (s : State) (p : Nat) : KeptFrom (s.replayed p) s :=
  kept_ite ((State.spare_kept _ _).trans ((State.putLink_kept _ _ _).trans (s.countReplay_kept p)))
    ((State.putLink_kept _ _ _).trans (s.countReplay_kept p))

/-- A flit that arrives keeps when what its type does keeps. -/
theorem State.flitIn_kept {s : State} {l type : Nat} {fec : Option Nat} {f : Flit} {take : FlitHead → State}
    (htake : ∀ h, KeptFrom (take h) s) : KeptFrom (s.flitIn l fec f type take) s := by
  unfold State.flitIn
  refine kept_ite .rfl ?_
  split
  · exact s.putLink_kept _ _
  · exact kept_ite (s.badFlit_kept _ _) (kept_ite .rfl (htake _))

theorem State.floodLost_kept (s : State) (m : MsgHead) : KeptFrom (s.floodLost m) s :=
  foldl_kept (fun t _ => kept_ite (t.sendOn_kept _ _ _ _) .rfl) _ s

theorem State.markLost_kept (s : State) (e : Nat) : KeptFrom (s.markLost e) s :=
  kept_ite .rfl ((State.logEvent_kept _ _ _ _ _ _ _).trans (s.setFab_kept _))

theorem State.checkLost_kept (s : State) (e : Nat) : KeptFrom (s.checkLost e) s :=
  kept_ite ((State.floodLost_kept _ _).trans ((State.markLost_kept _ _).trans (s.setFab_kept _))) .rfl

theorem State.dropReq_kept (s : State) (r : OutReq) : KeptFrom (s.dropReq r) s := s.setFab_kept _

theorem State.failReq_kept (s : State) (tag : Nat) : KeptFrom (s.failReq tag) s := by
  unfold State.failReq
  split
  · rfl
  · exact (State.failItem_kept _ _ _ _).trans (s.dropReq_kept _)

theorem State.reroute_kept (s : State) (kind : Nat) (m : MsgHead) (data : List Line) : KeptFrom (s.reroute kind m data) s := by
  unfold State.reroute
  split
  · exact s.sendOn_kept _ _ _ _
  · exact kept_ite .rfl (kept_ite (s.failReq_kept _) (s.originate_kept _ _ _ _ _))

theorem State.linkDown_kept (s : State) (p : Nat) : KeptFrom (s.linkDown p) s :=
  (State.checkLost_kept _ _).trans ((foldl_kept (fun u _ => u.reroute_kept _ _ _) _ _).trans
    ((State.logEvent_kept _ _ _ _ _ _ _).trans (s.putLink_kept _ _)))

theorem State.endTraining_kept (s : State) (l : Nat) (r : TrainFact) : KeptFrom (s.endTraining l r) s := by
  unfold State.endTraining
  extract_lets x y t z
  have ht : KeptFrom t s := kept_ite (s.logEvent_kept _ _ _ _ _ _) .rfl
  exact kept_ite ((State.putLink_kept _ _ _).trans ht)
    (kept_ite ((State.linkDown_kept _ _).trans ((State.putLink_kept _ _ _).trans ht)) ((State.putLink_kept _ _ _).trans ht))

theorem State.failLane_kept (s : State) (l i : Nat) : KeptFrom (s.failLane l i) s := by
  have hlog (x : LinkSt) : KeptFrom ((s.putLink l x).logEvent 0x30 3 l 3 i 0) s :=
    (State.logEvent_kept _ _ _ _ _ _ _).trans (s.putLink_kept _ _)
  exact kept_ite (kept_ite ((State.linkDown_kept _ _).trans (hlog _)) (kept_ite ((State.spare_kept _ _).trans (hlog _)) (hlog _))) .rfl

theorem State.laneSample_kept (s : State) (e : Fin 80 × BitVec 32) : KeptFrom (s.laneSample e) s := by
  have hbin (p n o : Nat) (x : LinkSt) : KeptFrom ((s.putLink p x).tallyBin n o 1) s :=
    (State.tallyBin_kept _ _ _ _).trans (s.putLink_kept _ _)
  exact kept_ite (kept_ite ((State.failLane_kept _ _ _).trans (hbin _ _ _ _)) (hbin _ _ _ _)) (s.putLink_kept _ _)

theorem State.respond_kept (s : State) (kind : Nat) (m : MsgHead) (tag arg : Nat) (data : List Line) :
    KeptFrom (s.respond kind m tag arg data) s :=
  s.originate_kept _ _ _ _ _

theorem State.refuse_kept (s : State) (m : MsgHead) (tag : Nat) (f : Nat × Nat) : KeptFrom (s.refuse m tag f) s :=
  (State.respond_kept _ _ _ _ _ _).trans (kept_ite (s.ueRead_kept _ _) .rfl)

/-- A message that arrives keeps when what it does here keeps. -/
theorem State.receive_kept {s : State} {l kind : Nat} {m : MsgHead} {data : List Line} {here : State → State}
    (hhere : ∀ t, KeptFrom (here t) t) : KeptFrom (s.receive l kind m data here) s :=
  kept_ite .rfl (kept_ite ((hhere _).trans (s.takeMsg_kept _ _ _ _)) ((State.transit_kept _ _ _ _).trans (s.takeMsg_kept _ _ _ _)))

theorem State.respFail_kept (s : State) (r : OutReq) (a : Nat) (f : Fail) : KeptFrom (s.respFail r a f) s := by
  unfold State.respFail
  dsimp only
  split
  · rfl
  · split
    · exact (State.setFab_kept _ _).trans (s.failItem_kept _ _ _)
    · split
      · exact kept_ite ((State.setFab_kept _ _).trans (s.mapItem_kept _ _ _)) .rfl
      · rfl

theorem State.failResp_kept (s : State) (l kind status : Nat) (m : MsgHead) : KeptFrom (s.failResp l kind status m) s := by
  refine State.receive_kept fun t => ?_
  split
  · rfl
  · exact (State.respFail_kept _ _ _ _).trans (t.dropReq_kept _)

theorem State.takeCount_kept (s : State) (h k : Nat) : KeptFrom (s.takeCount h k) s := kept_ite (s.setFwu_kept _) .rfl

/-! ## Every item at once -/

theorem State.failAll_kept (s : State) (f : Fail) : KeptFrom (s.failAll f) s :=
  (foldl_kept (fun t (e : Nat × Nat) => t.failItem_kept e.1 e.2 f) _ _).trans (s.withdrawAll_kept _)

theorem State.finishWrites_kept (s : State) (site : Nat) : KeptFrom (s.finishWrites site) s := by
  refine foldl_kept (fun t o => ?_) _ s
  split
  · exact t.write_kept _ _
  · rfl

theorem State.endOpen_kept (s : State) : KeptFrom s.endOpen s := foldl_kept (fun t (e : Nat × Nat) => t.endNow_kept e.1 e.2 none) _ s

theorem State.endAll_kept (s : State) (f : Fail) : KeptFrom (s.endAll f) s :=
  (State.endOpen_kept _).trans
    ((foldl_kept (fun _ _ => (State.releaseCore_kept _ _).trans (State.finishWrites_kept _ _)) _ _).trans (s.failAll_kept f))

theorem State.cutAll_kept (s : State) : KeptFrom s.cutAll s :=
  (State.endOpen_kept _).trans ((foldl_kept (fun t _ => t.putCore_kept _ _) _ _).trans
    (foldl_kept (fun t (e : Nat × Nat) => t.mapItem_kept e.1 e.2 Item.cutOff) _ s))

theorem releaseMany_kept (n : Nat) (s : State) (q : Nat) : KeptFrom (releaseMany n s q) s := by
  induction n generalizing s with
  | zero => rfl
  | succ n ih => exact (ih _).trans (s.releaseRecord_kept q)

theorem State.releaseAll_kept (s : State) : KeptFrom s.releaseAll s := foldl_kept (fun t _ => releaseMany_kept _ t _) _ s

/-! ## Resets -/

theorem State.dropWatches_kept (s : State) : KeptFrom s.dropWatches s := s.setSync_kept _ rfl id id

theorem State.resetDomain_kept (s : State) : KeptFrom s.resetDomain s :=
  (State.setFwu_kept _ _).trans ((State.setSec_kept _ _).trans
    ((State.setSync_kept _ _ (by exact rfl) (by exact id) (by exact id)).trans ((State.setFab_kept _ _).trans
    ((State.setBetas_kept _ _).trans ((State.mapHerds_kept _ _).trans ((State.dropWatches_kept _).trans
      (s.setMem_kept _ id id (by exact fun _ => tok_nil))))))))

theorem State.logRows_kept (s : State) (site : Nat) (rows : BitVec 100) (last : DWord) : KeptFrom (s.logRows site rows last) s :=
  foldl_kept (fun t _ => t.logEvent_kept _ _ _ _ _ _) _ s

/-- A table of what each of the first numbers has, but for the default, is canonical. -/
theorem tok_filter_range {α : Type} [DecidableEq α] (d : α) (f : Nat → α) (n : Nat) :
    tok d (((List.range n).map fun x => (x, f x)).filter fun e => decide (e.2 ≠ d)) = true := by
  have h (lo k : Nat) : tokFrom d lo (((List.range' lo k).map fun x => (x, f x)).filter fun e => decide (e.2 ≠ d)) = true := by
    induction k generalizing lo with
    | zero => rfl
    | succ k ih =>
      rw [List.range'_succ, List.map_cons, List.filter_cons]
      split
      · next hne => simpa [tokFrom, of_decide_eq_true hne] using ih (lo + 1)
      · exact tokFrom_mono (Nat.le_succ lo) (ih _)
  rw [List.range_eq_range']
  exact h 0 n

theorem State.startSites_kept (s : State) (facts : List SiteFact) (warm : Bool) : KeptFrom (s.startSites facts warm) s := by
  exact (State.zeroLoc_kept _ _ _).trans ((State.setStart_kept _ _).trans ((State.setFreeCount_kept _ _).trans
    ((State.setCores_kept _ _ fun _ => tok_filter_range _ _ 1536).trans (foldl_kept (fun t _ => t.logRows_kept _ _ _) _ s))))

/-- A table changed at one key after another stays canonical. -/
theorem tok_foldl_put {α : Type} [DecidableEq α] {d : α} {t : Table α} (l : List Nat) (k : Nat → Nat) (g : Table α → Nat → α)
    (h : tok d t = true) : tok d (l.foldl (fun t n => tput d t (k n) (g t n)) t) = true :=
  foldl_keeps (P := fun t => tok d t = true) _ (fun _ _ ht => tok_tput ht) _ _ h

theorem State.reopen_kept (s : State) : KeptFrom s.reopen s := s.setQueues_kept _ (tok_foldl_put _ _ _)

/-- What is done at another tick keeps when it does now: the device time is put back. -/
theorem State.atTick_kept {s : State} {tk : DWord} {f : State → State} (hf : ∀ t, KeptFrom (f t) t) : KeptFrom (s.atTick tk f) s := by
  obtain ⟨hpending, -, hwf, hlog⟩ := hf (s.setSync { s.sync with dtc := tk })
  exact ⟨hpending, rfl, hwf, hlog⟩

theorem State.beginReset_kept (s : State) (trigger : Nat) : KeptFrom (s.beginReset trigger) s :=
  (State.failAll_kept _ _).trans ((State.tallyAdd_kept _ _ _).trans ((State.logEvent_kept _ _ _ _ _ _ _).trans (s.setFault_kept _ id)))

theorem State.requestReset_kept (s : State) (trigger : Nat) (tk : DWord) : KeptFrom (s.requestReset trigger tk) s :=
  kept_ite .rfl (kept_ite (s.setFault_kept _ id) (State.atTick_kept fun t => t.beginReset_kept trigger))

theorem State.takeWanted_kept (s : State) : KeptFrom s.takeWanted s := by
  unfold State.takeWanted
  split
  · exact kept_ite (s.beginReset_kept _) .rfl
  · rfl

theorem State.warmReset_kept (s : State) (sites : List SiteFact) : KeptFrom (s.warmReset sites) s :=
  (State.releaseAll_kept _).trans ((State.reopen_kept _).trans ((State.setPower_kept _ _).trans
    ((State.setFault_kept _ _ (by exact id)).trans
    ((State.startSites_kept _ _ _).trans ((State.resetDomain_kept _).trans ((State.releaseAll_kept _).trans (s.endAll_kept _)))))))

/-! ## Host ports, firmware and activations -/

theorem State.portDown_kept (s : State) (p : Nat) : KeptFrom (s.portDown p) s :=
  (State.logEvent_kept _ _ _ _ _ _ _).trans (s.putPcie_kept _ _)

theorem State.drainPort_kept (s : State) (p : Nat) : KeptFrom (s.drainPort p) s :=
  foldl_kept (fun t _ => kept_ite (t.drain_kept _) .rfl) _ s

theorem State.dropHostWatches_kept (s : State) (p : Nat) : KeptFrom (s.dropHostWatches p) s :=
  foldl_kept (fun t _ => kept_ite ((State.setSync_kept _ _ (by exact rfl) (by exact id) (by exact id)).trans
    (t.withdraw_kept _)) .rfl) _ s

theorem State.takeover_kept (s : State) (p : Nat) : KeptFrom (s.takeover p) s :=
  (State.logEvent_kept _ _ _ _ _ _ _).trans ((State.setFwu_kept _ _).trans ((State.setTakeLast_kept _ _).trans
    ((State.dropHostWatches_kept _ _).trans ((State.setStart_kept _ _).trans (s.setQueues_kept _ (tok_foldl_put _ _ _))))))

theorem State.putUnit_kept (s : State) (u : Nat) (x : FwUnit) : KeptFrom (s.putUnit u x) s := s.setFwu_kept _
theorem State.fwuEnd_kept (s : State) (cmd status reason : Byte) : KeptFrom (s.fwuEnd cmd status reason) s := s.setFwu_kept _
theorem State.fwuForbidden_kept (s : State) (cmd : Byte) : KeptFrom (s.fwuForbidden cmd) s := s.fwuEnd_kept _ _ _

/-- A firmware command keeps when what it does keeps. -/
theorem State.fwuDo_kept {s : State} {p : Nat} {cmd : Byte} {f : State → State} (hf : KeptFrom (f s) s) :
    KeptFrom (s.fwuDo p cmd f) s :=
  kept_ite .rfl (kept_ite (s.fwuForbidden_kept cmd) hf)

theorem State.staged_kept (s : State) (u : Nat) (i : FwImage) : KeptFrom (s.staged u i) s :=
  kept_ite ((State.setFwu_kept _ _).trans (s.putUnit_kept _ _)) (s.putUnit_kept _ _)

theorem State.activate_kept (s : State) (target herd : Nat) (noHerd : Bool) : KeptFrom (s.activate target herd noHerd) s :=
  s.setFwu_kept _

theorem State.migrate_kept (s : State) : KeptFrom s.migrate s :=
  foldl_kept (fun t _ => foldl_kept (fun u _ => kept_ite (u.setFwu_kept _) .rfl) _ t) _ s

theorem State.restoreRecords_kept (s : State) : KeptFrom s.restoreRecords s := s.setFwu_kept _

theorem State.beginActivation_kept (s : State) : KeptFrom s.beginActivation s := kept_ite (s.setFwu_kept _) .rfl

theorem State.endActivation_kept (s : State) (result : Nat) (reason : Byte) : KeptFrom (s.endActivation result reason) s :=
  (State.takeWanted_kept _).trans (s.setFwu_kept _)

/-! ## Power, gates and the limiter -/

theorem State.powerDown_kept (s : State) (phase : PowerPhase) : KeptFrom (s.powerDown phase) s :=
  (State.setStart_kept _ _).trans ((State.setPower_kept _ _).trans ((State.setFwu_kept _ _).trans
    ((State.setFault_kept _ _ (by exact id)).trans
    ((State.setSync_kept _ _ (by exact rfl) (by exact id) (by exact id)).trans ((State.setPins_kept _ _).trans
      ((State.setFab_kept _ _).trans ((State.setMem_kept _ _ (by exact id) (by exact id) (by exact id)).trans
      ((State.forgetLoc_kept _ _ _).trans ((State.forgetLoc_kept _ _ _).trans
        ((State.setCores_kept _ _ fun _ => tok_foldl_tput _ _ _ tok_nil).trans s.resetDomain_kept))))))))))

theorem State.orderly_kept (s : State) : KeptFrom s.orderly s :=
  (State.powerDown_kept _ _).trans ((State.setTally_kept _ _).trans ((State.releaseAll_kept _).trans ((State.endAll_kept _ _).trans
    (s.logEvent_kept _ _ _ _ _ _))))

theorem State.gateUpdates_kept (s : State) : KeptFrom s.gateUpdates s := by
  refine foldl_kept (fun t e => ?_) _ s
  split
  · rfl
  · dsimp only
    split
    · exact t.failItem_kept _ _ _
    · rfl

theorem State.gateLinks_kept (s : State) : KeptFrom s.gateLinks s := foldl_kept (fun t _ => kept_ite .rfl (t.putLink_kept _ _)) _ s

theorem State.drainAll_kept (s : State) : KeptFrom s.drainAll s := foldl_kept (fun t (e : Nat × QueueSt) => t.drain_kept e.1) _ s

theorem State.setGates_kept (s : State) (g : Word) (g1 : BitVec 12) : KeptFrom (s.setGates g g1) s :=
  (State.drainAll_kept _).trans ((State.gateUpdates_kept _).trans ((State.gateLinks_kept _).trans
    ((State.setTally_kept _ _).trans (s.setPower_kept _))))

theorem State.linkOff_kept (s : State) (p : Nat) : KeptFrom (s.linkOff p) s := s.putLink_kept _ _
theorem State.measured_kept (s : State) (m : Measures) : KeptFrom (s.measured m) s := s.setPower_kept _
theorem State.limitWindow_kept (s : State) : KeptFrom s.limitWindow s := s.setTally_kept _

theorem State.trip_kept (s : State) : KeptFrom s.trip s :=
  (State.tallyAdd_kept _ _ _).trans ((State.logEvent_kept _ _ _ _ _ _ _).trans ((State.setQueues_kept _ _ (tok_foldl_put _ _ _)).trans
    ((State.releaseAll_kept _).trans ((State.endAll_kept _ _).trans (s.setPower_kept _)))))

theorem State.limit_kept (s : State) : KeptFrom s.limit s :=
  kept_ite (kept_ite .rfl s.trip_kept) (kept_ite (kept_ite (s.setPower_kept _) .rfl) (kept_ite (s.setPower_kept _) .rfl))

/-! ## Images and start-up -/

theorem State.setHerds_kept (s : State) (l : List HerdEntry) : KeptFrom (s.setHerds l) s :=
  s.setSync_kept _ rfl id (tok_foldl_put _ _ _)

theorem State.linkUnder_kept (s : State) (p : Nat) : KeptFrom (s.linkUnder p) s := s.putLink_kept _ _

theorem State.applyImage_kept (s : State) (m : Image) (gate1 : BitVec 12) : KeptFrom (s.applyImage m gate1) s := by
  exact (foldl_kept State.linkUnder_kept _ _).trans ((State.setFab_kept _ _).trans ((State.setGates_kept _ _ _).trans
    ((State.setPower_kept _ _).trans ((State.setHerds_kept _ _).trans
      ((State.setSync_kept _ _ (by exact rfl) (by exact id) (by exact id)).trans
      ((State.setMem_kept _ _ (by exact id) (tok_foldl_put _ _ _) (by exact id)).trans (s.setStart_kept _)))))))

theorem State.setOwners_kept (s : State) (m : Image) : KeptFrom (s.setOwners m) s := s.setStart_kept _

theorem State.logKeys_kept (s : State) : KeptFrom s.logKeys s := by
  have hlog : KeptFrom (if vendorKeyGood 0 then s else s.logEvent 0x60 0 0 2 0 0) s := kept_ite .rfl (s.logEvent_kept _ _ _ _ _ _)
  exact kept_ite hlog ((State.logEvent_kept _ _ _ _ _ _ _).trans hlog)

theorem State.startFailed_kept (s : State) (step : Nat) : KeptFrom (s.startFailed step) s := s.setStart_kept _

/-- The device time at the start of a start-up: at a power-on it starts at 0 (10 R438, 16 R619). -/
def State.startTime (s : State) : State := s.setSync { s.sync with dtc := if s.power.cold then 0 else s.sync.dtc }

theorem State.rails_kept (s : State) : KeptFrom s.rails s.startTime := by
  have hsync (p : PowerSt) : KeptFrom ((s.setPower p).setSync { s.sync with
      dtc := if s.power.cold then 0 else s.sync.dtc, inIgnored := false, outDisabled := false, unaligned := 0 }) s.startTime :=
    ⟨rfl, rfl, id, id⟩
  exact (State.setStart_kept _ _).trans ((State.logKeys_kept _).trans (hsync _))

theorem State.spareAt_kept (s : State) (p : Hub × Fin 32) : KeptFrom (s.spareAt p) s := kept_ite .rfl (s.putHub_kept _ _)

theorem State.trainMemory_kept (s : State) (lp : BitVec 8) (spares : List (Hub × Fin 32)) :
    KeptFrom (s.trainMemory lp spares) s :=
  (foldl_kept State.spareAt_kept _ _).trans ((State.setStart_kept _ _).trans (s.setPower_kept _))

theorem State.startImage_kept (s : State) (m : Image) : KeptFrom (s.startImage m) s := by
  refine (State.setStart_kept _ _).trans ((State.applyImage_kept _ _ _).trans ((State.setKe_kept _ _ ?_).trans
    ((State.setMem_kept _ _ (by exact id) (fun _ => tok_nil) (by exact id)).trans (kept_ite (s.setOwners_kept m) .rfl))))
  exact fun _ => tok_foldl_tput _ _ _ tok_nil

theorem State.firstTraining_kept (l : List (Link × TrainFact)) (s : State) (p : Nat) :
    KeptFrom (State.firstTraining l s p) s := by
  refine kept_ite ?_ .rfl
  split
  · exact s.endTraining_kept _ _
  · exact s.endTraining_kept _ _

theorem State.finishStart_kept (s : State) (f : StartFacts) : KeptFrom (s.finishStart f) s :=
  (State.releaseAll_kept _).trans ((State.setStart_kept _ _).trans ((State.reopen_kept _).trans
    (foldl_kept (State.firstTraining_kept f.links) _ s)))

theorem State.startUp_kept (s : State) (f : StartFacts) : KeptFrom (s.startUp f) s.startTime := by
  have hrails (x : FwuSt) : KeptFrom (s.rails.setFwu x) s.startTime := (State.setFwu_kept _ _).trans s.rails_kept
  have hsites (x : StartSt) :
      KeptFrom (((s.rails.migrate.trainMemory f.lpFailed f.spares).startSites f.sites false).setStart x) s.startTime :=
    (State.setStart_kept _ _).trans ((State.startSites_kept _ _ _).trans ((State.trainMemory_kept _ _ _).trans
      ((State.migrate_kept _).trans s.rails_kept)))
  refine kept_ite ((State.startFailed_kept _ _).trans (hrails _)) (kept_ite ?_ (kept_ite ?_ ?_))
  · exact (State.startFailed_kept _ _).trans ((State.migrate_kept _).trans s.rails_kept)
  · exact (State.setStart_kept _ _).trans (hsites _)
  · exact (State.finishStart_kept _ _).trans ((State.startImage_kept _ _).trans (hsites _))

theorem State.freeStreams_kept (s : State) : KeptFrom s.freeStreams s :=
  s.setMem_kept _ id id (by exact fun _ => tok_nil)

theorem State.reclock_kept (s : State) (old : BitVec 2) (p : Nat) : KeptFrom (s.reclock old p) s := kept_ite .rfl (s.putPcie_kept _ _)

theorem State.persist_kept (s : State) (raw : List Byte) : KeptFrom (s.persist raw) s := s.setStart_kept _

theorem State.liveLoad_kept (s : State) (m : Image) : KeptFrom (s.liveLoad m) s := s.setStart_kept _

theorem State.fullLoad_kept (s : State) (p : Nat) (m : Image) (keep : Bool) : KeptFrom (s.fullLoad p m keep) s := by
  unfold State.fullLoad
  extract_lets sris t u v opens w x sec y
  have hy : KeptFrom y s :=
    (State.setSec_kept _ _).trans ((State.rollWindow_kept _).trans ((State.reclock_kept _ _ _).trans ((State.reclock_kept _ _ _).trans
      ((State.setQueues_kept _ _ (tok_foldl_put _ _ _)).trans ((State.setKe_kept _ _ fun _ => tok_nil).trans
        ((State.dropHostWatches_kept _ _).trans ((State.dropHostWatches_kept _ _).trans ((State.freeStreams_kept _).trans
          ((State.applyImage_kept _ _ _).trans (s.setOwners_kept m))))))))))
  exact kept_ite ((State.persist_kept _ _).trans hy) hy

/-! ## Sync unit and step boundaries -/

theorem State.putHostWatch_kept (s : State) (p i : Nat) (x : HostWatch) : KeptFrom (s.putHostWatch p i x) s := s.setSync_kept _ rfl id id

theorem State.reloadHerd_kept (s : State) (e : Nat × Option HerdEntry × Option RingEntry) : KeptFrom (s.reloadHerd e) s :=
  kept_ite (s.setStart_kept _) ((State.setStart_kept _ _).trans ((State.putKeHerd_kept _ _ _).trans (s.putHerd_kept _ _)))

theorem State.applyLive_kept (s : State) : KeptFrom s.applyLive s := (foldl_kept State.reloadHerd_kept _ _).trans (s.setStart_kept _)

theorem State.dropMembers_kept (s : State) (h : Nat) (mask : BitVec 1536) : KeptFrom (s.dropMembers h mask) s :=
  s.putKeHerd_kept _ _

theorem State.takeoverHerd_kept (s : State) (h : Nat) : KeptFrom (s.takeoverHerd h) s := by
  unfold State.takeoverHerd
  split
  · rfl
  · extract_lets x mask master t y u v w
    have ht : KeptFrom w s := (State.setFwu_kept _ _).trans ((State.putHerd_kept _ _ _).trans
      ((State.logEvent_kept _ _ _ _ _ _ _).trans (s.dropMembers_kept _ _)))
    exact kept_ite ((State.arriveFabric_kept _ _).trans ht) (kept_ite ((State.checkFabricHerd_kept _ _).trans ht) ht)

/-- A boundary that its items see makes no queue the queue at power-on. -/
theorem QueueSt.seeBoundary_ne_reset {x : QueueSt} (now : DWord) (h : x ≠ QueueSt.reset) : x.seeBoundary now ≠ QueueSt.reset := by
  intro hx
  have hitems : x.items = [] := List.map_eq_nil_iff.mp (congrArg QueueSt.items hx)
  have hsame : x.seeBoundary now = x := by rw [QueueSt.seeBoundary, hitems, List.map_nil, ← hitems]
  exact h (hsame ▸ hx)

theorem State.seeBoundary_kept (s : State) : KeptFrom s.seeBoundary s :=
  s.setQueues_kept _ (tok_tmap _ fun _ h => QueueSt.seeBoundary_ne_reset s.now h)

theorem State.boundaryWindow_kept (s : State) : KeptFrom s.boundaryWindow s :=
  (State.setTally_kept _ _).trans (kept_ite s.rollWindow_kept .rfl)

theorem State.boundarySteps_kept (s : State) : KeptFrom s.boundarySteps s :=
  (foldl_kept State.takeoverHerd_kept _ _).trans ((State.applyLive_kept _).trans ((State.beginActivation_kept _).trans
    ((State.boundaryWindow_kept _).trans ((State.seeBoundary_kept _).trans (s.setSync_kept _ rfl id id)))))

theorem State.ignoreIn_kept (s : State) : KeptFrom s.ignoreIn s :=
  (State.tallyAdd_kept _ _ _).trans ((State.logEvent_kept _ _ _ _ _ _ _).trans (s.setSync_kept _ rfl id id))

theorem State.noteRaise_kept (s : State) (x : Raise) : KeptFrom (s.noteRaise x) s := by
  unfold State.noteRaise
  extract_lets n sync t u
  have ht : KeptFrom t s := s.setSync_kept _ rfl id id
  have hu : KeptFrom u s := kept_ite ((State.logEvent_kept _ _ _ _ _ _ _).trans ht) ht
  exact kept_ite ((State.ignoreIn_kept _).trans hu) hu

theorem State.driveOut_kept (s : State) : KeptFrom s.driveOut s :=
  kept_ite ((State.setPins_kept _ _).trans
  (s.setSync_kept _ rfl id id)) .rfl

theorem State.raise_kept (s : State) (r : BoundaryRun) (x : Raise) : KeptFrom (s.raise r x) s :=
  (State.finishNow_kept _ _ _ _).trans ((State.boundarySteps_kept _).trans ((State.noteRaise_kept _ _).trans s.driveOut_kept))

theorem State.raiseOr_kept (s : State) (r : BoundaryRun) (x : Raise) : KeptFrom (s.raiseOr r x) s :=
  kept_ite (s.failItem_kept _ _ _) (s.raise_kept r x)

/-! ## Hubs and the host's accesses -/

theorem State.countUe_kept (s : State) (a : Nat) : KeptFrom (s.countUe a) s := by
  unfold State.countUe
  dsimp only
  split
  · exact s.putHub_kept _ _
  · exact s.putHub_kept _ _
  · rfl

theorem State.retirePc_kept (s : State) (h pc : Nat) : KeptFrom (s.retirePc h pc) s :=
  kept_ite .rfl (kept_ite ((State.logEvent_kept _ _ _ _ _ _ _).trans (s.putHub_kept _ _))
    ((State.logEvent_kept _ _ _ _ _ _ _).trans (s.putHub_kept _ _)))

theorem State.correction_kept (s : State) (a bits : Nat) : KeptFrom (s.correction a bits) s := by
  unfold State.correction
  dsimp only
  split
  · exact s.putHub_kept _ _
  · exact kept_ite ((State.retirePc_kept _ _ _).trans ((State.tallyHbm_kept _ _ _).trans (s.putHub_kept _ _)))
      ((State.tallyHbm_kept _ _ _).trans (s.putHub_kept _ _))
  · rfl

theorem State.readFact_kept (s : State) (a : Nat) (e : ReadFact) (mended : Bool) : KeptFrom (s.readFact a e mended) s := by
  unfold State.readFact
  refine kept_ite ((State.countUe_kept _ _).trans (kept_ite .rfl (s.markUe_kept _))) ?_
  split
  · exact s.correction_kept _ _
  · rfl

theorem State.slotsAt_kept (s : State) (h : Nat) : KeptFrom (s.slotsAt h) s := s.putHub_kept _ _

theorem State.enterHub_kept (s : State) (h line : Nat) (write whole prefetch : Bool) :
    KeptFrom (s.enterHub h line write whole prefetch) s :=
  (State.slotsAt_kept _ _).trans (s.putHub_kept _ _)

theorem State.acceptWrite_kept (s : State) (a : Nat) (mask : BitVec 64) (data : Line) : KeptFrom (s.acceptWrite a mask data) s :=
  kept_ite .rfl (kept_ite (s.writeLine_kept _ _) (kept_ite (s.countUe_kept _) (s.writeLine_kept _ _)))

theorem State.barRead_kept (s : State) (p a n : Nat) : KeptFrom (s.barRead p a n).1 s := by
  unfold State.barRead
  split
  · rfl
  · rfl
  · exact s.logEvent_kept 0x23 4 p 0 0 0
  · exact (State.logEvent_kept (s.countUe a) 0x23 4 p 0 0 0).trans (s.countUe_kept a)

theorem barReads_kept (p : Nat) (l : List (Nat × Nat)) (s : State) : KeptFrom (barReads p l s).1 s := by
  induction l generalizing s with
  | nil => rfl
  | cons e l ih => exact (ih _).trans (s.barRead_kept _ _ _)

theorem State.barWrite_kept (s : State) (p a : Nat) (bs : List Byte) : KeptFrom (s.barWrite p a bs) s := by
  unfold State.barWrite
  split
  · rfl
  · exact s.logEvent_kept _ _ _ _ _ _
  · exact s.writeLine_kept _ _
  · exact kept_ite (s.writeLine_kept _ _) ((State.logEvent_kept _ _ _ _ _ _ _).trans (s.countUe_kept _))

/-! ## Time, management and the test port -/

/-- Taking a management message on a transport keeps. -/
theorem State.addressed_kept {s u : State} {t : Transport} (h : s.addressed t = some u) : KeptFrom u s := by
  cases t <;>
    · simp only [State.addressed, Option.ite_none_right_eq_some, Option.some.injEq] at h
      obtain ⟨-, rfl⟩ := h
      exact ⟨rfl, rfl, id, id⟩

theorem State.mgmt_kept (s : State) (t : Transport) (f : State → Nat × List Byte) : KeptFrom (s.mgmt t f) s := by
  unfold State.mgmt
  split
  · next u h => exact (u.emit_kept _).trans (State.addressed_kept h)
  · rfl

theorem State.setTap_kept (s : State) (x : TapSel) : KeptFrom (s.setTap x) s := s.setPins_kept _

theorem State.takePins_kept (s : State) (x : TapSel) : KeptFrom (s.takePins x) s :=
  kept_ite .rfl (kept_ite (s.setTap_kept x) ((State.logEvent_kept _ _ _ _ _ _ _).trans (s.setTap_kept _)))

end Sys2Proof.Machine
end

section
/-!
PROOFS. What each command keeps: core programs, tiles, audits, queues and items.
-/
namespace Sys2Proof.Machine

/-- A command's answer in a state keeps what `KeptFrom` names: so does the next state, if there is one. -/
def Keeps (s : State) (a : Answer) : Prop := ∀ t, a = .next t → KeptFrom t s

theorem keeps_next {s t : State} (h : KeptFrom t s) : Keeps s (.next t) := by
  rintro _ ⟨⟩
  exact h

theorem keeps_refused (s : State) (r : Refusal) : Keeps s (.refused r) := by
  intro t h
  cases h

/-! ## Core programs -/

/-- A core that fails, or else goes on, keeps when what it goes on to does. -/
theorem failCore_or_kept {s t : State} {site : Nat} (o : Option Fail) (ht : KeptFrom t s) :
    KeptFrom (match o with | some f => s.failCore site f | none => t) s := by
  cases o with
  | none => exact ht
  | some f => exact s.failCore_kept site f

/-- A list of writes, whatever the address and the bytes of each, keeps. -/
theorem foldl_write_kept {β : Type} (addr : β → Nat) (data : β → List Byte) (l : List β) (s : State) :
    KeptFrom (l.foldl (fun t b => t.write (addr b) (data b)) s) s :=
  foldl_kept (fun t b => t.write_kept (addr b) (data b)) l s

theorem execSwr_kept (c : Site) (d a b : Reg) (s : State) : Keeps s (execSwr c d a b s) := by
  refine keeps_next (State.issueAt_kept fun k r => kept_ite (s.seqTo_kept _ _) (State.withMem_kept (failCore_or_kept _ ?_)))
  split
  · exact s.failCore_kept _ _
  · exact s.takeSlot_kept _ _

theorem execConsumingRead_kept (c : Site) (n : Nat) (es : List (BitVec 42 × EccFact)) (s : State) :
    Keeps s (execConsumingRead c n es s) := by
  refine keeps_next ?_
  split
  · dsimp only
    split
    · exact (State.failCore_kept _ _ _).trans ((State.setSlot_kept _ _ _ _).trans (s.consume_kept _ _ _ _ _ _ _))
    · exact (State.setSlot_kept _ _ _ _).trans (s.consume_kept _ _ _ _ _ _ _)
  · rfl

theorem execStreamOperationComplete_kept (c : Site) (n : Nat) (s : State) :
    Keeps s (execStreamOperationComplete c n s) := by
  refine keeps_next ?_
  split
  · exact (State.slotsMoved_kept _ _).trans ((State.write_kept _ _ _).trans (s.setSlot_kept _ _ _))
  · exact (State.slotsMoved_kept _ _).trans ((State.write_kept _ _ _).trans (s.setSlot_kept _ _ _))
  · rfl

theorem execMalformedInstruction_kept (c : Site) (s : State) : Keeps s (execMalformedInstruction c s) := by
  refine keeps_next ?_
  split
  · exact kept_ite (s.malformedAt_kept _) .rfl
  · rfl

/-! ## Tiles and audits -/

theorem execTmm_kept (c : Site) (w : BitVec 128) (s : State) : Keeps s (execTmm c w s) :=
  keeps_next (State.tileIssue_kept fun _ _ => failCore_or_kept _ (kept_ite (s.shapeAt_kept _) (kept_ite .rfl
    (kept_ite (s.failCore_kept _ _) (kept_ite (s.malformedAt_kept _) ((State.tilesOn_kept _ _).trans (s.putCore_kept _ _)))))))

theorem execTaccrd_kept (c : Site) (w : BitVec 128) (stop : Option (Fin 256)) (s : State) : Keeps s (execTaccrd c w stop s) := by
  refine keeps_next ?_
  dsimp only
  split
  · exact kept_ite ((State.tilesOn_kept _ _).trans (s.putCore_kept _ _)) .rfl
  · exact State.tileIssue_kept fun _ _ => failCore_or_kept _ (kept_ite (s.shapeAt_kept _) (kept_ite .rfl
      (failCore_or_kept _ ((State.tilesOn_kept _ _).trans (s.putCore_kept _ _)))))

theorem execTsave_kept (c : Site) (w : BitVec 128) (s : State) : Keeps s (execTsave c w s) :=
  keeps_next (State.tileIssue_kept fun _ _ => failCore_or_kept _ (kept_ite (s.shapeAt_kept _) (kept_ite .rfl
    ((State.tilesOn_kept _ _).trans (s.putCore_kept _ _)))))

theorem execTrestore_kept (c : Site) (w : BitVec 128) (s : State) : Keeps s (execTrestore c w s) :=
  keeps_next (State.tileIssue_kept fun _ _ => failCore_or_kept _ (kept_ite .rfl (failCore_or_kept _
    (kept_ite (s.malformedAt_kept _) ((State.tilesOn_kept _ _).trans (s.putCore_kept _ _))))))

theorem execKeeperLoad_kept (c : Site) (s : State) : Keeps s (execKeeperLoad c s) := by
  refine keeps_next ?_
  dsimp only
  split
  · rfl
  · refine kept_ite .rfl ?_
    split
    · exact s.putCore_kept _ _
    · refine kept_ite .rfl ?_
      split
      · exact (State.failCore_kept _ _ _).trans (s.putCore_kept _ _)
      · exact s.putCore_kept _ _

theorem execPassStart_kept (c : Site) (s : State) : Keeps s (execPassStart c s) := by
  refine keeps_next ?_
  dsimp only
  split
  · rfl
  · exact kept_ite .rfl (kept_ite ((State.tallyAdd_kept _ _ _).trans (s.putCore_kept _ _)) (failCore_or_kept _
      (kept_ite ((State.setFreeCount_kept _ _).trans (s.putCore_kept _ _)) (s.putCore_kept _ _))))

theorem execRestage_kept (c : Site) (s : State) : Keeps s (execRestage c s) := by
  refine keeps_next ?_
  dsimp only
  split
  · exact kept_ite .rfl (failCore_or_kept _ ((State.write_kept _ _ _).trans (s.putCore_kept _ _)))
  · rfl

theorem execChunkSumWrite_kept (c : Site) (m : Fin 256) (n : Fin 96) (s : State) : Keeps s (execChunkSumWrite c m n s) := by
  refine keeps_next ?_
  dsimp only
  split
  · rfl
  · split
    · rfl
    · exact kept_ite .rfl (kept_ite ((retirePass_kept _ _ _).trans (s.putCore_kept _ _)) (s.putCore_kept _ _))

theorem execAuditEnd_kept (c : Site) (rows : BitVec 100) (s : State) : Keeps s (execAuditEnd c rows s) := by
  refine keeps_next ?_
  dsimp only
  split
  · rfl
  · have hlog (l : List Nat) (began : DWord) (x : Nat) (t : State) :
        KeptFrom (l.foldl (fun t r => t.logAt began 0x11 1 c 3 x r) t) t := foldl_kept (fun t r => t.logAt_kept _ _ _ _ _ _ _) l t
    exact kept_ite ((State.auditOver_kept _ _).trans ((hlog _ _ _ _).trans (s.putCore_kept _ _)))
      ((State.loseCore_kept _ _ _ _).trans ((State.putCore_kept _ _ _).trans ((hlog _ _ _ _).trans (s.putCore_kept _ _))))

theorem execContextSave_kept (c : Site) (s : State) : Keeps s (execContextSave c s) := by
  refine keeps_next ?_
  dsimp only
  split
  · split
    · rfl
    · exact kept_ite .rfl ((State.settleSave_kept _ _ _).trans ((State.putCore_kept _ _ _).trans ((State.mapItem_kept _ _ _ _).trans
        (s.saveCore_kept _ _ _ _))))
  · rfl

/-! ## Queues and items -/

theorem execInstanceStart_kept (q : Queue) (k : Nat) (c : Site) (s : State) : Keeps s (execInstanceStart q k c s) := by
  refine keeps_next ?_
  split
  · rfl
  · split
    · refine kept_ite .rfl ?_
      split
      · exact s.resumeRun_kept _ _ _
      · exact kept_ite ((State.beginInstance_kept _ _ _ _ _).trans (s.mapItem_kept _ _ _)) .rfl
    · rfl

theorem execItemRetry_kept (q : Queue) (k : Nat) (c : Site) (s : State) : Keeps s (execItemRetry q k c s) := by
  refine keeps_next ?_
  split
  · rfl
  · refine kept_ite .rfl ?_
    split
    · split
      · rfl
      · exact (State.beginInstance_kept _ _ _ _ _).trans ((State.logEvent_kept _ _ _ _ _ _ _).trans (s.mapItem_kept _ _ _))
    · split
      · rfl
      · exact (State.takeRegion_kept _ _ _ _ _).trans ((State.logEvent_kept _ _ _ _ _ _ _).trans (s.mapItem_kept _ _ _))
    · rfl

theorem execListAcceptance_kept (q : Queue) (s : State) : Keeps s (execListAcceptance q s) := by
  refine keeps_next (kept_ite .rfl ?_)
  split
  · rfl
  · rfl
  · exact s.takeList_kept _ _
  · exact kept_ite (s.putQueue_kept _ _) ((State.takeList_kept _ _ _).trans (s.putQueue_kept _ _))

theorem execSignal_kept (q : Queue) (k : Nat) (s : State) : Keeps s (execSignal q k s) :=
  keeps_next (State.startItem_kept fun t _ => kept_ite (t.failItem_kept _ _ _)
    ((State.ops_kept _ _).trans ((State.endNow_kept _ _ _ _).trans (t.mapItem_kept _ _ _))))

theorem execWait_kept (q : Queue) (k : Nat) (s : State) : Keeps s (execWait q k s) :=
  keeps_next (State.startItem_kept fun t _ => kept_ite (t.failItem_kept _ _ _)
    ((State.register_kept _ _).trans (t.setWork_kept _ _ _)))

theorem execBarrier_kept (q : Queue) (k : Nat) (s : State) : Keeps s (execBarrier q k s) :=
  keeps_next (State.startItem_kept fun t _ => kept_ite (t.failItem_kept _ _ _) (kept_ite (t.failItem_kept _ _ _)
    ((State.arriveFabric_kept _ _).trans (t.setWork_kept _ _ _))))

theorem execItemCompletion_kept (q : Queue) (k : Nat) (s : State) : Keeps s (execItemCompletion q k s) := by
  refine keeps_next ?_
  dsimp only
  split
  · refine kept_ite ?_ (s.collect_kept _ _)
    split
    · exact (State.failItem_kept _ _ _ _).trans ((State.flagWord_kept _ _).trans (s.collect_kept _ _))
    · exact (State.ops_kept _ _).trans ((State.endNow_kept _ _ _ _).trans ((State.flagWord_kept _ _).trans (s.collect_kept _ _)))
  · exact s.collect_kept _ _

theorem execIrqHoldExpiry_kept (q : Queue) (s : State) : Keeps s (execIrqHoldExpiry q s) := by
  refine keeps_next ?_
  dsimp only
  split
  · exact kept_ite ((State.msix_kept _ _ _).trans (s.putQueue_kept _ _)) .rfl
  · rfl

theorem execDeadline_kept (q : Queue) (l : Nat) (s : State) : Keeps s (execDeadline q l s) :=
  keeps_next (kept_ite ((foldl_kept (fun t (i : Item) => t.failItem_kept q i.k ⟨0x14, 0, none⟩) _ _).trans
    (s.withdrawAll_kept _)) .rfl)

theorem execStart_kept (p : Port) (q : Queue) (s : State) : Keeps s (execStart p q s) :=
  keeps_next (kept_ite (s.putQueue_kept _ _) .rfl)

theorem execPreemptNow_kept (p : Port) (q : Queue) (s : State) : Keeps s (execPreemptNow p q s) :=
  keeps_next (kept_ite (kept_ite (s.askNow_kept _) (s.askPoint_kept _)) .rfl)

theorem execPreemptAtPoint_kept (p : Port) (q : Queue) (s : State) : Keeps s (execPreemptAtPoint p q s) :=
  keeps_next (kept_ite (s.askPoint_kept _) .rfl)

theorem execResume_kept (p : Port) (q : Queue) (s : State) : Keeps s (execResume p q s) :=
  keeps_next (kept_ite ((foldl_kept (fun t (i : Item) => t.resumeItem_kept q i.k) _ _).trans (s.putQueue_kept _ _)) .rfl)

theorem execAbort_kept (p : Port) (q : Queue) (s : State) : Keeps s (execAbort p q s) :=
  keeps_next (kept_ite ((foldl_kept (fun t (i : Item) => t.failItem_kept q i.k ⟨0x1C, 0, none⟩) _ _).trans
    (s.putQueue_kept _ _)) .rfl)

theorem execCqHeadWrite_kept (p : Port) (q : Queue) (v : Word) (s : State) : Keeps s (execCqHeadWrite p q v s) :=
  keeps_next (kept_ite ((State.drain_kept _ _).trans (kept_ite (s.putQueue_kept _ _) .rfl)) .rfl)

theorem execQeWinCommitGo_kept (p : Port) (x : Ctx) (s : State) : Keeps s (execQeWinCommitGo p x s) :=
  keeps_next (kept_ite (s.putCtx_kept _ _) .rfl)

theorem execQeQTakeGo_kept (p : Port) (q : Queue) (s : State) : Keeps s (execQeQTakeGo p q s) :=
  keeps_next (kept_ite ((State.drain_kept _ _).trans (s.putQueue_kept _ _)) .rfl)

theorem execMatmul_kept (q : Queue) (k : Nat) (c : Site) (n : Nat) (es : List (BitVec 42 × EccFact)) (s : State) :
    Keeps s (execMatmul q k c n es s) := by
  have hstart : KeptFrom (s.startItem q k 0x10 (matFields s) fun t i => t.startMat q k i) s :=
    State.startItem_kept fun t i => t.startMat_kept _ _ _
  exact keeps_next (kept_ite ((matSteps_kept _ _ _ _ _ _).trans ((State.matJoin_kept _ _ _ _).trans hstart)) hstart)

theorem execJob_kept (q : Queue) (k : Nat) (s : State) : Keeps s (execJob q k s) := by
  refine keeps_next (State.startItem_kept fun t i => kept_ite (t.failItem_kept _ _ _) ?_)
  split
  · exact t.failItem_kept _ _ _
  · split
    · exact t.failItem_kept _ _ _
    · exact t.setWork_kept _ _ _

theorem execCopy_kept (q : Queue) (k n : Nat) (s : State) : Keeps s (execCopy q k n s) := by
  have hstart : KeptFrom (s.startItem q k 0x20 (copyFields s.device) fun t _ => t.setWork q k (.copy 0 0)) s :=
    State.startItem_kept fun t i => t.setWork_kept _ _ _
  exact keeps_next (kept_ite ((copyPieces_kept _ _ _ _).trans hstart) hstart)

theorem execGather_kept (q : Queue) (k n : Nat) (s : State) : Keeps s (execGather q k n s) := by
  refine keeps_next ?_
  extract_lets t
  have hstart : KeptFrom t s := by
    refine State.startItem_kept fun t i => ?_
    dsimp only
    split
    · exact t.failItem_kept _ _ _
    · exact t.setWork_kept _ _ _
  exact kept_ite ((gatherLines_kept _ _ _ _).trans hstart) hstart

theorem execStreamOpen_kept (q : Queue) (k : Nat) (s : State) : Keeps s (execStreamOpen q k s) := by
  refine keeps_next ?_
  split
  · rfl
  · refine kept_ite .rfl (State.startItem_kept fun t i => kept_ite (t.failItem_kept _ _ _) (kept_ite (t.failItem_kept _ _ _) ?_))
    split
    · exact t.failItem_kept _ _ _
    · refine kept_ite (t.failItem_kept _ _ _) ?_
      split
      · exact t.failItem_kept _ _ _
      · exact (State.workDone_kept _ _ _).trans ((State.mapItem_kept _ _ _ _).trans (t.putStream_kept _ _))

theorem execStreamClose_kept (q : Queue) (k : Nat) (s : State) : Keeps s (execStreamClose q k s) := by
  refine keeps_next ?_
  extract_lets t
  have hstart : KeptFrom t s := by
    unfold t
    split
    · rfl
    · exact kept_ite .rfl (State.startItem_kept fun t i => kept_ite (t.failItem_kept _ _ _) (t.setWork_kept _ _ _))
  split
  · exact hstart
  · split
    · exact kept_ite ((State.workDone_kept _ _ _).trans ((State.mapItem_kept _ _ _ _).trans
      ((State.freeStream_kept _ _).trans hstart))) hstart
    · exact hstart

theorem execChunk_kept (l : Link) (m : MsgHead) (data : List Line) (s : State) : Keeps s (execChunk l m data s) := by
  unfold execChunk
  split
  · exact keeps_refused _ _
  · exact keeps_next (kept_ite (kept_ite (s.chunkHere_kept _ _) ((State.transit_kept _ _ _ _).trans (s.takeMsg_kept _ _ _ _))) .rfl)

theorem execUpdateMainPass_kept (q : Queue) (k : Nat) (s : State) : Keeps s (execUpdateMainPass q k s) := by
  refine keeps_next ?_
  split
  · rfl
  · refine kept_ite .rfl (kept_ite (s.failItem_kept _ _ _) ?_)
    split
    · exact kept_ite (s.setUpd_kept _ _ _) (s.failItem_kept _ _ _)
    · exact s.setUpd_kept _ _ _

theorem execUpdateBlock_kept (q : Queue) (k : Nat) (b : BitVec 32) (s : State) : Keeps s (execUpdateBlock q k b s) := by
  refine keeps_next ?_
  split
  · rfl
  · exact kept_ite (s.mainBlock_kept _ _ _ _ _ _) .rfl

end Sys2Proof.Machine
end

section
/-!
PROOFS. What each command keeps, continued: sync unit, memory, links, resets, power and management.
-/
namespace Sys2Proof.Machine

/-! ## Sync unit, telemetry and step boundaries -/

theorem execSnap_kept (p : Port) (s : State) : Keeps s (execSnap p s) := keeps_next (kept_ite .rfl (s.setTally_kept _))

theorem execWriteNow_kept (s : State) : Keeps s (execWriteNow s) := keeps_next (kept_ite (s.setTally_kept _) .rfl)

theorem execTallySample_kept (lanes : List (Fin 80 × BitVec 32)) (s : State) : Keeps s (execTallySample lanes s) := by
  refine keeps_next (kept_ite .rfl ?_)
  extract_lets live t u v w idle
  have hv : KeptFrom v s := (State.tallyBin_kept _ _ _ _).trans ((State.tallyAdd_kept _ _ _).trans (s.setTally_kept _))
  have hw : KeptFrom w s := (foldl_kept (fun u i => u.tallyBin_kept _ _ _) _ v).trans hv
  exact kept_ite ((foldl_kept State.laneSample_kept _ w).trans hw) hv

theorem execSuCtrAdd_kept (p : Port) (n : Counter) (v : Word) (s : State) : Keeps s (execSuCtrAdd p n v s) :=
  keeps_next (kept_ite .rfl (kept_ite (s.signal_kept _ _) (s.logEvent_kept _ _ _ _ _ _)))

theorem execWatchGrant_kept (s : State) : Keeps s (execWatchGrant s) := by
  refine keeps_next ?_
  split
  · rfl
  · exact kept_ite ((State.place_kept _ _).trans (s.setSync_kept _ rfl id id)) .rfl

theorem execHostWatchRegister_kept (p : Port) (n : Fin 64) (v : Word) (s : State) : Keeps s (execHostWatchRegister p n v s) :=
  keeps_next (kept_ite .rfl (kept_ite
    ((State.logEvent_kept _ _ _ _ _ _ _).trans ((State.putHostWatch_kept _ _ _ _).trans (s.withdraw_kept _)))
    ((State.register_kept _ _).trans ((State.putHostWatch_kept _ _ _ _).trans (s.withdraw_kept _)))))

theorem execHostWatchWithdraw_kept (p : Port) (n : Fin 64) (v : Word) (s : State) : Keeps s (execHostWatchWithdraw p n v s) :=
  keeps_next (kept_ite .rfl ((State.putHostWatch_kept _ _ _ _).trans (s.withdraw_kept _)))

theorem execStepSyncInPulse_kept (s : State) : Keeps s (execStepSyncInPulse s) :=
  keeps_next (kept_ite (s.logEvent_kept _ _ _ _ _ _) ((State.setSync_kept _ _ (by exact rfl) (by exact id) (by exact id)).trans
    (kept_ite (s.logEvent_kept _ _ _ _ _ _) .rfl)))

theorem execStepSyncOutEnd_kept (s : State) : Keeps s (execStepSyncOutEnd s) := by
  refine keeps_next ?_
  split
  · exact kept_ite ((State.setPins_kept _ _).trans (s.setSync_kept _ rfl id id)) .rfl
  · rfl

theorem execStepSyncInIgnore_kept (pin : Bool) (s : State) : Keeps s (execStepSyncInIgnore pin s) := by
  refine keeps_next (kept_ite .rfl ?_)
  dsimp only
  split
  · exact (State.raiseOr_kept _ _ _).trans s.ignoreIn_kept
  · exact s.ignoreIn_kept

theorem execStepSyncOutDisable_kept (s : State) : Keeps s (execStepSyncOutDisable s) :=
  keeps_next (kept_ite .rfl ((State.tallyAdd_kept _ _ _).trans ((State.logEvent_kept _ _ _ _ _ _ _).trans
    ((State.setPins_kept _ _).trans (s.setSync_kept _ rfl id id)))))

theorem execRearm_kept (s : State) : Keeps s (execRearm s) := keeps_next (kept_ite (s.setSync_kept _ rfl id id) .rfl)

theorem execBoundary_kept (q : Queue) (k : Nat) (s : State) : Keeps s (execBoundary q k s) := by
  refine keeps_next (State.startItem_kept fun t _ => ?_)
  extract_lets win sync u
  have hu : KeptFrom u t := (State.setSync_kept _ _ (by exact rfl) (by exact id) (by exact id)).trans (t.setWork_kept _ _ _)
  split
  · exact kept_ite ((State.logEvent_kept _ _ _ _ _ _ _).trans
    ((State.setSync_kept _ _ (by exact rfl) (by exact id) (by exact id)).trans hu)) hu
  · exact hu

theorem execBoundaryRaise_kept (s : State) : Keeps s (execBoundaryRaise s) := by
  refine keeps_next ?_
  split
  · split
    · exact s.raiseOr_kept _ _
    · rfl
  · rfl

/-! ## Memory and the host's accesses -/

theorem execSpareCopyEnd_kept (h : Hub) (s : State) : Keeps s (execSpareCopyEnd h s) := by
  refine keeps_next ?_
  dsimp only
  split
  · rfl
  · exact s.putHub_kept _ _

theorem execPatrolScrub_kept (h : Hub) (a : BitVec 42) (e : ReadFact) (s : State) : Keeps s (execPatrolScrub h a e s) :=
  keeps_next (kept_ite (kept_ite ((State.logEvent_kept _ _ _ _ _ _ _).trans (s.readFact_kept _ _ _)) (s.readFact_kept _ _ _)) .rfl)

theorem execHubRequestArrival_kept (h : Hub) (r : MemReq) (s : State) : Keeps s (execHubRequestArrival h r s) := by
  refine keeps_next (kept_ite ((State.enterHub_kept _ _ _ _ _ _).trans ?_) .rfl)
  split
  · exact s.acceptWrite_kept _ _ _
  · rfl

theorem execRequestPerformed_kept (h : Hub) (n : Nat) (e : ReadFact) (s : State) : Keeps s (execRequestPerformed h n e s) := by
  refine keeps_next ?_
  dsimp only
  split
  · rfl
  · exact kept_ite .rfl (kept_ite ((State.slotsAt_kept _ _).trans (s.putHub_kept _ _))
      ((State.readFact_kept _ _ _ _).trans ((State.slotsAt_kept _ _).trans (s.putHub_kept _ _))))

theorem execPrefetchFetch_kept (n : StreamNo) (h : Hub) (s : State) : Keeps s (execPrefetchFetch n h s) := by
  refine keeps_next (kept_ite .rfl ?_)
  split
  · rfl
  · exact (State.enterHub_kept _ _ _ _ _ _).trans (s.putHub_kept _ _)

theorem execFetchReturn_kept (h : Hub) (n : Nat) (s : State) : Keeps s (execFetchReturn h n s) := by
  refine keeps_next ?_
  dsimp only
  split
  · rfl
  · exact kept_ite .rfl (kept_ite (s.putHub_kept _ _) ((State.putHub_kept _ _ _).trans (s.putHub_kept _ _)))

theorem execHostBar2Read_kept (p : Port) (off : BitVec 42) (len : Nat) (s : State) : Keeps s (execHostBar2Read p off len s) :=
  keeps_next (kept_ite .rfl ((State.emit_kept _ _).trans (barReads_kept _ _ _)))

theorem execHostBar2Write_kept (p : Port) (off : BitVec 42) (bytes : List Byte) (s : State) :
    Keeps s (execHostBar2Write p off bytes s) :=
  keeps_next (kept_ite .rfl (foldl_kept (fun t (c : Nat × List Byte) => t.barWrite_kept p c.1 c.2) _ s))

theorem execPcieConfigRequest_kept (p : Port) (r : CfgReq) (s : State) : Keeps s (execPcieConfigRequest p r s) := by
  refine keeps_next (kept_ite .rfl (kept_ite (s.emit_kept _) ?_))
  cases r with
  | read reg => exact s.emit_kept _
  | write => exact s.emit_kept _
  | powerState d => exact (State.emit_kept _ _).trans (s.putPcie_kept _ _)
  | bar2Size n => exact (State.emit_kept _ _).trans (s.putPcie_kept _ _)

/-! ## Links -/

theorem execDataFlit_kept (l : Link) (fec : Option Nat) (f : Flit) (s : State) : Keeps s (execDataFlit l fec f s) :=
  keeps_next (State.flitIn_kept fun _ => (State.pumpLink_kept _ _).trans (kept_ite
    ((State.putLink_kept _ _ _).trans (s.flitCover_kept _ _))
    (kept_ite ((State.sendNak_kept _ _).trans (s.flitCover_kept _ _)) (s.flitCover_kept _ _))))

theorem execNak_kept (l : Link) (fec : Option Nat) (f : Flit) (s : State) : Keeps s (execNak l fec f s) :=
  keeps_next (State.flitIn_kept fun _ => (State.pumpLink_kept _ _).trans ((State.replayed_kept _ _).trans
    ((State.resend_kept _ _ _).trans (s.flitCover_kept _ _))))

theorem execRetrain_kept (l : Link) (s : State) : Keeps s (execRetrain l s) := by
  refine keeps_next (kept_ite .rfl ?_)
  split
  · exact s.spare_kept _
  · exact kept_ite (s.putLink_kept _ _) .rfl
  · rfl

theorem execSparingEnd_kept (l : Link) (s : State) : Keeps s (execSparingEnd l s) :=
  keeps_next (kept_ite ((State.pumpLink_kept _ _).trans ((State.emitFlits_kept _ _ _).trans (s.putLink_kept _ _))) .rfl)

theorem execReplayTimeout_kept (l : Link) (s : State) : Keeps s (execReplayTimeout l s) :=
  keeps_next (kept_ite ((State.replayed_kept _ _).trans ((State.putLink_kept _ _ _).trans (s.emitFlits_kept _ _))) .rfl)

theorem execRead_kept (l : Link) (m : MsgHead) (s : State) : Keeps s (execRead l m s) := by
  refine keeps_next (kept_ite .rfl (State.receive_kept fun t => kept_ite .rfl ?_))
  split
  · exact t.refuse_kept _ _ _
  · exact t.respond_kept _ _ _ _ _

theorem execWrite_kept (l : Link) (m : MsgHead) (data : List Line) (s : State) : Keeps s (execWrite l m data s) := by
  unfold execWrite
  split
  · exact keeps_refused _ _
  · refine keeps_next (kept_ite .rfl (State.receive_kept fun t => ?_))
    split
    · exact t.refuse_kept _ _ _
    · exact (State.respond_kept _ _ _ _ _ _).trans (foldl_kept (fun u _ => u.writeLine_kept _ _) _ t)

theorem execWriteMasked_kept (l : Link) (m : MsgHead) (data : List Line) (s : State) : Keeps s (execWriteMasked l m data s) := by
  unfold execWriteMasked
  split
  · refine keeps_next (kept_ite .rfl (State.receive_kept fun t => ?_))
    dsimp only
    split
    · exact t.refuse_kept _ _ _
    · exact (State.respond_kept _ _ _ _ _ _).trans (kept_ite .rfl (t.writeLine_kept _ _))
  · exact keeps_refused _ _

theorem execReadData_kept (l : Link) (m : MsgHead) (data : List Line) (s : State) : Keeps s (execReadData l m data s) := by
  unfold execReadData
  split
  · exact keeps_refused _ _
  · refine keeps_next (State.receive_kept fun t => ?_)
    split
    · rfl
    · dsimp only
      split
      · exact t.dropReq_kept _
      · refine kept_ite (t.dropReq_kept _) ?_
        split
        · exact (State.failItem_kept _ _ _ _).trans ((State.writeFor_kept _ _ _ _).trans (t.dropReq_kept _))
        · exact (State.settleCopy_kept _ _ _).trans ((State.writeFor_kept _ _ _ _).trans (t.dropReq_kept _))

theorem execWriteDone_kept (l : Link) (m : MsgHead) (s : State) : Keeps s (execWriteDone l m s) := by
  refine keeps_next (State.receive_kept fun t => ?_)
  split
  · rfl
  · exact (State.settleCopy_kept _ _ _).trans (t.dropReq_kept _)

theorem execRequestTimeout_kept (tag : Nat) (s : State) : Keeps s (execRequestTimeout tag s) := by
  refine keeps_next ?_
  split
  · rfl
  · exact kept_ite (s.failReq_kept _) .rfl

theorem execUnknownKindMessage_kept (l : Link) (vc : Fin 4) (kind : Byte) (m : MsgHead) (data : List Line) (s : State) :
    Keeps s (execUnknownKindMessage l vc kind m data s) := by
  unfold execUnknownKindMessage
  split
  · exact keeps_refused _ _
  · exact keeps_next (kept_ite ((State.logEvent_kept _ _ _ _ _ _ _).trans (s.putLink_kept _ _)) .rfl)

theorem execArrive_kept (l : Link) (m : MsgHead) (s : State) : Keeps s (execArrive l m s) :=
  keeps_next (State.receive_kept fun t => kept_ite (t.logEvent_kept _ _ _ _ _ _) (kept_ite (t.putHerd_kept _ _)
    (kept_ite ((State.checkFabricHerd_kept _ _).trans (t.putHerd_kept _ _)) .rfl)))

theorem execRelease_kept (l : Link) (m : MsgHead) (s : State) : Keeps s (execRelease l m s) :=
  keeps_next (State.receive_kept fun t => kept_ite (t.logEvent_kept _ _ _ _ _ _) ((State.releaseBarriers_kept _ _).trans
    ((State.takeCount_kept _ _ _).trans (t.putHerd_kept _ _))))

theorem execCancel_kept (l : Link) (m : MsgHead) (s : State) : Keeps s (execCancel l m s) :=
  keeps_next (State.receive_kept fun t => kept_ite (t.logEvent_kept _ _ _ _ _ _) (kept_ite (t.putHerd_kept _ _)
    (kept_ite (t.putHerd_kept _ _) .rfl)))

theorem execLost_kept (l : Link) (m : MsgHead) (s : State) : Keeps s (execLost l m s) :=
  keeps_next (kept_ite .rfl (kept_ite (s.takeMsg_kept _ _ _ _) ((State.floodLost_kept _ _).trans ((State.markLost_kept _ _).trans
    ((State.setFab_kept _ _).trans (s.takeMsg_kept _ _ _ _))))))

/-! ## Resets, ports and firmware -/

theorem execAlwaysOnFault_kept (s : State) : Keeps s (execAlwaysOnFault s) :=
  keeps_next (kept_ite ((State.setFault_kept _ _ (by exact id)).trans (s.logEvent_kept _ _ _ _ _ _)) .rfl)

theorem execHostPortLinkUp_kept (p : Port) (speed : Fin 6) (faults : BitVec 16) (s : State) :
    Keeps s (execHostPortLinkUp p speed faults s) :=
  keeps_next (kept_ite .rfl (kept_ite ((State.logEvent_kept _ _ _ _ _ _ _).trans (s.putPcie_kept _ _))
    ((State.drainPort_kept _ _).trans (kept_ite ((State.logEvent_kept _ _ _ _ _ _ _).trans (s.putPcie_kept _ _)) (s.putPcie_kept _ _)))))

theorem execFwuBegin_kept (p : Port) (s : State) : Keeps s (execFwuBegin p s) :=
  keeps_next (kept_ite .rfl (kept_ite (s.fwuForbidden_kept _) ((State.fwuEnd_kept _ _ _ _).trans (s.setFwu_kept _))))

theorem execHostBar4Write_kept (p : Port) (off : BitVec 20) (bytes : List Byte) (s : State) :
    Keeps s (execHostBar4Write p off bytes s) := by
  unfold execHostBar4Write
  split
  · exact keeps_refused _ _
  · exact keeps_next (kept_ite .rfl (s.setFwu_kept _))

theorem execWriteBlock_kept (p : Port) (s : State) : Keeps s (execWriteBlock p s) :=
  keeps_next (State.fwuDo_kept (kept_ite (s.fwuEnd_kept _ _ _) ((State.fwuEnd_kept _ _ _ _).trans (s.setFwu_kept _))))

theorem execFwuStage_kept (p : Port) (s : State) : Keeps s (execFwuStage p s) := by
  refine keeps_next (State.fwuDo_kept ?_)
  dsimp only
  split
  · exact (State.fwuEnd_kept _ _ _ _).trans (s.staged_kept _ _)
  · exact (State.fwuEnd_kept _ _ _ _).trans (kept_ite (s.putUnit_kept _ _) .rfl)

theorem execFwuAbort_kept (p : Port) (s : State) : Keeps s (execFwuAbort p s) :=
  keeps_next (State.fwuDo_kept ((State.fwuEnd_kept _ _ _ _).trans ((State.setFwu_kept _ _).trans
    (kept_ite .rfl (s.setFwu_kept _)))))

theorem execFwuCommit_kept (p : Port) (s : State) : Keeps s (execFwuCommit p s) :=
  keeps_next (State.fwuDo_kept (kept_ite (s.fwuForbidden_kept _) ((State.fwuEnd_kept _ _ _ _).trans (s.setFwu_kept _))))

theorem execFwuRevert_kept (p : Port) (s : State) : Keeps s (execFwuRevert p s) :=
  keeps_next (State.fwuDo_kept (kept_ite (s.fwuForbidden_kept _) ((State.fwuEnd_kept _ _ _ _).trans (s.setFwu_kept _))))

theorem execFwuRestart_kept (p : Port) (s : State) : Keeps s (execFwuRestart p s) :=
  keeps_next (State.fwuDo_kept (kept_ite (s.fwuForbidden_kept _) ((State.fwuEnd_kept _ _ _ _).trans
    ((State.setFwu_kept _ _).trans ((State.setStart_kept _ _).trans (s.setPower_kept _))))))

theorem execActivationSwitch_kept (s : State) : Keeps s (execActivationSwitch s) :=
  keeps_next (kept_ite .rfl ((State.endActivation_kept _ _ _).trans (kept_ite
    ((State.restoreRecords_kept _).trans (s.setFwu_kept _)) ((State.migrate_kept _).trans (s.setFwu_kept _)))))

/-! ## Power -/

theorem execPwrEnAssert_kept (vin : BitVec 16) (s : State) : Keeps s (execPwrEnAssert vin s) :=
  keeps_next (kept_ite .rfl (kept_ite ((State.setPower_kept _ _).trans (s.setPower_kept _)) (s.setPower_kept _)))

theorem execPwrEnDeassert_kept (s : State) : Keeps s (execPwrEnDeassert s) := by
  refine keeps_next (kept_ite .rfl ?_)
  dsimp only
  split
  · exact (State.orderly_kept _).trans (s.setPower_kept _)
  · exact (State.setPower_kept _ _).trans (s.setPower_kept _)
  · exact (State.setPower_kept _ _).trans (s.setPower_kept _)
  · exact (State.setPower_kept _ _).trans (s.setPower_kept _)
  · exact s.setPower_kept _

theorem execVinUndervoltage_kept (vin : BitVec 16) (s : State) : Keeps s (execVinUndervoltage vin s) :=
  keeps_next (kept_ite ((State.orderly_kept _).trans ((State.logEvent_kept _ _ _ _ _ _ _).trans (s.setPower_kept _))) .rfl)

theorem execVinOvervoltage_kept (vin : BitVec 16) (s : State) : Keeps s (execVinOvervoltage vin s) :=
  keeps_next (kept_ite ((State.orderly_kept _).trans ((State.logEvent_kept _ _ _ _ _ _ _).trans (s.setPower_kept _))) .rfl)

theorem execEfuseTrip_kept (s : State) : Keeps s (execEfuseTrip s) :=
  keeps_next (kept_ite .rfl ((State.setPower_kept _ _).trans ((State.powerDown_kept _ _).trans ((State.cutAll_kept _).trans
    ((State.tallyAdd_kept _ _ _).trans (s.logEvent_kept _ _ _ _ _ _))))))

theorem execEfuseRetry_kept (s : State) : Keeps s (execEfuseRetry s) := by
  refine keeps_next ?_
  split
  · exact kept_ite (s.setPower_kept _) .rfl
  · rfl

theorem execNimtiaBoot_kept (cool : Fin 4) (slot : Fin 64) (cfg fwOk : Bool) (s : State) :
    Keeps s (execNimtiaBoot cool slot cfg fwOk s) :=
  keeps_next (kept_ite .rfl ((State.setStart_kept _ _).trans ((State.setFwu_kept _ _).trans ((State.setPins_kept _ _).trans
    ((State.setPower_kept _ _).trans ((State.tallyAdd_kept _ _ _).trans s.tallyLoad_kept))))))

theorem execReferenceLoss_kept (s : State) : Keeps s (execReferenceLoss s) := by
  refine keeps_next (kept_ite .rfl ?_)
  extract_lets power t u v
  have hu : KeptFrom u s := (State.logEvent_kept _ _ _ _ _ _ _).trans ((State.tallyAdd_kept _ _ _).trans (s.setPower_kept _))
  exact (State.setFault_kept _ _ (by exact id)).trans (kept_ite ((State.beginReset_kept _ _).trans hu) hu)

theorem execHoldoverEnd_kept (s : State) : Keeps s (execHoldoverEnd s) :=
  keeps_next (kept_ite .rfl ((State.endOpen_kept _).trans
    ((foldl_kept (fun u _ => u.putCore_kept _ _) _ _).trans (s.failAll_kept _))))

theorem execGateOff_kept (b : Fin 44) (s : State) : Keeps s (execGateOff b s) := by
  refine keeps_next (kept_ite .rfl ?_)
  exact kept_ite ((State.linkOff_kept _ _).trans (s.setPower_kept _))
    (kept_ite (kept_ite (s.setPower_kept _) ((State.portDown_kept _ _).trans (s.setPower_kept _))) (s.setPower_kept _))

theorem execSensorFault_kept (u : Fin 32) (n : Fin 2) (s : State) : Keeps s (execSensorFault u n s) := by
  refine keeps_next (kept_ite .rfl ?_)
  extract_lets power t power' v
  have hv : KeptFrom v s := kept_ite ((State.setPower_kept _ _).trans (s.setPower_kept _)) (s.setPower_kept _)
  exact kept_ite ((State.logEvent_kept _ _ _ _ _ _ _).trans hv) ((State.logEvent_kept _ _ _ _ _ _ _).trans hv)

theorem execClkObsWrite_kept (v : Word) (s : State) : Keeps s (execClkObsWrite v s) :=
  keeps_next (kept_ite .rfl (s.setPower_kept _))

theorem execPwrGateWrite_kept (p : Port) (hi : Bool) (v : Word) (s : State) : Keeps s (execPwrGateWrite p hi v s) :=
  keeps_next (kept_ite .rfl (kept_ite (s.setGates_kept _ _) (s.setGates_kept _ _)))

theorem execAuditNow_kept (c : Site) (s : State) : Keeps s (execAuditNow c s) :=
  keeps_next (kept_ite .rfl (s.putCore_kept _ _))

/-! ## Management and the test port -/

theorem execReadLog_kept (t : Transport) (n : DWord) (s : State) : Keeps s (execReadLog t n s) :=
  keeps_next (kept_ite ((State.setPins_kept _ _).trans (s.mgmt_kept _ _)) (s.mgmt_kept _ _))

theorem execAlertResponse_kept (s : State) : Keeps s (execAlertResponse s) := by
  refine keeps_next ?_
  split
  · next t h => exact (t.setPins_kept _).trans (State.addressed_kept h)
  · rfl

theorem execBusRecovery_kept (ok : Bool) (s : State) : Keeps s (execBusRecovery ok s) :=
  keeps_next (kept_ite .rfl (kept_ite ((State.logEvent_kept _ _ _ _ _ _ _).trans (s.setPins_kept _)) (s.setPins_kept _)))

theorem execDbgAccess_kept (halt : Option (Site × Bool)) (s : State) : Keeps s (execDbgAccess halt s) := by
  refine keeps_next (kept_ite .rfl (kept_ite (s.setTap_kept _) ?_))
  dsimp only
  split
  · exact (State.putCore_kept _ _ _).trans (s.setTap_kept _)
  · exact s.setTap_kept _

end Sys2Proof.Machine
end

section
/-!
PROOFS. What each command keeps, continued: the mailbox commands and the writes of registers.
-/
namespace Sys2Proof.Machine

/-! ## Mailbox commands -/

theorem State.secFailed_kept (s : State) (p reason : Nat) : KeptFrom (s.secFailed p reason) s := by
  have h : KeptFrom ((s.logEvent 0x60 4 p 2 0 0).tallyAdd (0x90 + 8 * p) 1) s :=
    (State.tallyAdd_kept _ _ _).trans (s.logEvent_kept _ _ _ _ _ _)
  exact kept_ite ((State.putBox_kept _ _ _).trans h) h

theorem State.secEnd_kept (s : State) (p : Nat) (e : SecEnd) : KeptFrom (s.secEnd p e) s := by
  unfold State.secEnd
  extract_lets sec t m u v
  have hu : KeptFrom u s := (State.putBox_kept _ _ _).trans (s.setSec_kept _)
  have hv : KeptFrom v s := kept_ite ((State.secFailed_kept _ _ _).trans hu) hu
  exact kept_ite ((State.msix_kept _ _ _).trans hv) hv

theorem State.secNext1_kept (s : State) : KeptFrom s.secNext1 s := by
  unfold State.secNext1
  split
  · exact s.secEnd_kept _ _
  · rfl

theorem State.secNext_kept (s : State) : KeptFrom s.secNext s := (State.secNext1_kept _).trans s.secNext1_kept

/-- A mailbox command keeps what its effect keeps: its checks, its counter and its end keep it (17 R658, R659). -/
theorem State.secTake_kept {s : State} {p op : Nat} {f : State → Mailbox → State × SecEnd}
    (hf : ∀ t m, KeptFrom (f t m).1 t) : KeptFrom (s.secTake p op f) s := by
  obtain h | ⟨e, -, h⟩ | ⟨-, t, ht, h⟩ := s.secTake_cases p op f
  · rw [h]
  · rw [h]
    exact (State.secNext_kept _).trans (s.secEnd_kept _ _)
  · rw [h]
    have hused : KeptFrom t s := ht ▸ kept_ite (s.putBox_kept _ _) .rfl
    exact (State.secNext_kept _).trans ((State.secEnd_kept _ _ _).trans ((hf _ _).trans hused))

theorem keeps_secTake {s : State} {p op : Nat} {f : State → Mailbox → State × SecEnd}
    (hf : ∀ t m, KeptFrom (f t m).1 t) : Keeps s (.next (s.secTake p op f)) :=
  keeps_next (State.secTake_kept hf)

/-- A choice between two answers of a mailbox command keeps when both of them do. -/
theorem fst_kept_ite {c : Prop} [Decidable c] {a b : State × SecEnd} {s : State} (ha : KeptFrom a.1 s) (hb : KeptFrom b.1 s) :
    KeptFrom (if c then a else b).1 s := by
  split
  · exact ha
  · exact hb

theorem State.loaded_kept (s : State) (p : Nat) (i : Image) (live keep : Bool) : KeptFrom (s.loaded p i live keep) s :=
  kept_ite (s.liveLoad_kept i) (kept_ite
    (kept_ite ((State.persist_kept _ _).trans (s.startImage_kept _)) (s.startImage_kept _)) (s.fullLoad_kept _ _ _))

theorem State.loadConfig_kept (s : State) (p : Nat) (m : Mailbox) : KeptFrom (s.loadConfig p m).1 s := by
  refine fst_kept_ite .rfl (fst_kept_ite .rfl ?_)
  split
  · dsimp only
    split
    · exact s.ueRead_kept _ _
    · rfl
  · split
    · rfl
    · rfl
    · exact s.loaded_kept _ _ _ _

theorem execLoadConfig_kept (p : Port) (s : State) : Keeps s (execLoadConfig p s) :=
  keeps_next (kept_ite .rfl (State.secTake_kept fun t m => t.loadConfig_kept p m))

theorem execActivateFirmware_kept (p : Port) (s : State) : Keeps s (execActivateFirmware p s) := by
  refine keeps_secTake fun t m => fst_kept_ite .rfl ?_
  dsimp only
  split
  · exact t.setFwu_kept _
  · exact t.activate_kept _ _ _

theorem execDebugUnlock_kept (p : Port) (s : State) : Keeps s (execDebugUnlock p s) :=
  keeps_secTake fun t _ => fst_kept_ite .rfl (fst_kept_ite (t.setSec_kept _)
    (fst_kept_ite .rfl (fst_kept_ite .rfl (t.setSec_kept _))))

theorem execKeyRoll_kept (p : Port) (s : State) : Keeps s (execKeyRoll p s) :=
  keeps_secTake fun t _ => fst_kept_ite .rfl (t.putBox_kept _ _)

theorem execFuseCommit_kept (p : Port) (s : State) : Keeps s (execFuseCommit p s) :=
  keeps_secTake fun t _ => fst_kept_ite .rfl (t.setSec_kept _)

theorem execAttest_kept (p : Port) (s : State) : Keeps s (execAttest p s) :=
  keeps_secTake fun t _ => fst_kept_ite .rfl (t.setSec_kept _)

theorem execResetDevice_kept (p : Port) (s : State) : Keeps s (execResetDevice p s) := by
  have htake := State.secTake_kept (s := s) (p := p) (op := 8)
    (f := fun t m => if m.zeroFrom 16 then (t, secDone) else (t, secBad)) fun _ _ => fst_kept_ite .rfl .rfl
  exact keeps_next (kept_ite ((State.requestReset_kept _ _ _).trans htake) htake)

theorem State.zeroized_kept (s : State) : KeptFrom s.zeroized s :=
  (State.setSec_kept _ _).trans ((State.setStart_kept _ _).trans (s.setMem_kept _ (fun _ => rfl) id id))

theorem execZeroize_kept (p : Port) (s : State) : Keeps s (execZeroize p s) := by
  have htake := State.secTake_kept (s := s) (p := p) (op := 9)
    (f := fun t m => (if t.zeroizeEnd m = secDone then t.zeroized else t, t.zeroizeEnd m)) fun t _ => kept_ite t.zeroized_kept .rfl
  exact keeps_next (kept_ite ((State.requestReset_kept _ _ _).trans htake) htake)

theorem execBackoffEnd_kept (p : Port) (s : State) : Keeps s (execBackoffEnd p s) := keeps_next (kept_ite (s.putBox_kept _ _) .rfl)

theorem execSecCtlGo_kept (p : Port) (s : State) : Keeps s (execSecCtlGo p s) := by
  refine keeps_next (kept_ite .rfl ?_)
  extract_lets box t sec u
  have hu : KeptFrom u s := (State.setSec_kept _ _).trans (s.putBox_kept _ _)
  exact kept_ite ((State.secEnd_kept _ _ _).trans hu) ((State.secNext_kept _).trans hu)

/-! ## Register writes -/

/-- A write that does what a command does keeps when the command does. -/
theorem State.after_kept {s : State} {c : State → Answer} (h : Keeps s (c s)) : KeptFrom (s.after c) s := by
  unfold State.after
  split
  · next t ht => exact h t ht
  · rfl

theorem State.queueCmd_kept (s : State) (p : Port) (q : Queue) (n : Nat) : KeptFrom (s.queueCmd p q n) s :=
  kept_ite (State.after_kept (execStart_kept p q s)) (kept_ite (State.after_kept (execPreemptNow_kept p q s))
    (kept_ite (State.after_kept (execPreemptAtPoint_kept p q s)) (kept_ite (State.after_kept (execResume_kept p q s))
      (kept_ite (State.after_kept (execAbort_kept p q s)) .rfl))))

theorem State.writeQueue_kept (s : State) (p : Port) (q : Queue) (o : Nat) (v : Word) :
    KeptFrom (s.writeQueue p q o v) s := by
  have hput (x : QueueSt) : KeptFrom (s.putQueue q x) s := s.putQueue_kept _ _
  exact kept_ite .rfl (kept_ite (hput _) (kept_ite (s.queueCmd_kept _ _ _) (kept_ite (hput _) (kept_ite (kept_ite (hput _) .rfl)
    (kept_ite (kept_ite (hput _) .rfl) (kept_ite (State.after_kept (execCqHeadWrite_kept p q v s))
      (kept_ite ((State.queueIrq_kept _ _).trans (hput _)) (kept_ite (State.after_kept (execQeQTakeGo_kept p q s)) .rfl))))))))

theorem State.writeCtx_kept (s : State) (p : Port) (x : Ctx) (o : Nat) (v : Word) : KeptFrom (s.writeCtx p x o v) s :=
  kept_ite .rfl (kept_ite (s.putCtx_kept _ _) (kept_ite (State.after_kept (execQeWinCommitGo_kept p x s)) .rfl))

theorem State.writeSu_kept (s : State) (p : Port) (o : Nat) (v : Word) : KeptFrom (s.writeSu p o v) s := by
  unfold State.writeSu
  split
  · exact kept_ite (State.after_kept (execSuCtrAdd_kept _ _ _ s)) .rfl
  · dsimp only
    by_cases hw : (if p = 0 then 0x1A000 else 0x1A800) ≤ o ∧ (o - (if p = 0 then 0x1A000 else 0x1A800)) / 0x10 < 64
    · rw [dif_pos hw]
      exact kept_ite (kept_ite (State.after_kept (execHostWatchRegister_kept _ _ _ s))
        (State.after_kept (execHostWatchWithdraw_kept _ _ _ s))) (kept_ite (s.putHostWatch_kept _ _ _) .rfl)
    · rw [dif_neg hw]
      exact kept_ite (kept_ite ((State.after_kept (execRearm_kept _)).trans (s.setSync_kept _ rfl id id))
        (s.setSync_kept _ rfl id id)) .rfl

theorem State.writeSec_kept (s : State) (p : Port) (o : Nat) (v : Word) : KeptFrom (s.writeSec p o v) s := by
  have hput (x : Mailbox) : KeptFrom (s.putBox p x) s := s.putBox_kept _ _
  exact kept_ite .rfl (kept_ite (kept_ite .rfl (hput _))
    (kept_ite (kept_ite ((State.after_kept (execSecCtlGo_kept _ _)).trans (hput _)) (hput _)) .rfl))

theorem State.writeFwu_kept (s : State) (p : Port) (o : Nat) (v : Word) : KeptFrom (s.writeFwu p o v) s :=
  kept_ite .rfl (kept_ite
    (kept_ite (State.after_kept (execFwuBegin_kept p s)) (kept_ite (State.after_kept (execWriteBlock_kept p s))
      (kept_ite (State.after_kept (execFwuStage_kept p s)) (kept_ite (State.after_kept (execFwuAbort_kept p s))
        (kept_ite (State.after_kept (execFwuCommit_kept p s)) (kept_ite (State.after_kept (execFwuRevert_kept p s))
          (kept_ite (State.after_kept (execFwuRestart_kept p s)) .rfl)))))))
    (kept_ite (s.setFwu_kept _) (kept_ite (s.setFwu_kept _) .rfl)))

theorem State.writeBeta_kept (s : State) (i : Nat) (second : Bool) (v : Word) : KeptFrom (s.writeBeta i second v) s := s.setBetas_kept _
theorem State.writeFlt_kept (s : State) (p : Port) (v : Word) : KeptFrom (s.writeFlt p v) s := s.setFault_kept _ id

theorem State.writeMsix_kept (s : State) (p : Port) (o : Nat) (v : Word) : KeptFrom (s.writeMsix p o v) s :=
  kept_ite (kept_ite ((State.msix_kept _ _ _).trans ((State.putPcie_kept _ _ _).trans (s.putPcie_kept _ _))) (s.putPcie_kept _ _))
    (s.putPcie_kept _ _)

theorem State.writeOpen_kept (s : State) (p : Port) (o : Nat) (v : Word) : KeptFrom (s.writeOpen p o v) s := by
  have snap : KeptFrom (if v.getLsbD 1 then s.after (execSnap p) else s) s :=
    kept_ite (State.after_kept (execSnap_kept p s)) .rfl
  unfold State.writeOpen
  refine kept_ite (s.putPcie_kept _ _) <| kept_ite (State.after_kept (execClkObsWrite_kept v s)) <|
    kept_ite (State.after_kept (execPwrGateWrite_kept p false v s)) <|
    kept_ite (State.after_kept (execPwrGateWrite_kept p true v s)) <| kept_ite (s.writeSec_kept p _ v) <|
    kept_ite (s.writeSu_kept p _ v) ?_
  split
  · exact s.writeQueue_kept p _ _ v
  split
  · exact s.writeCtx_kept p _ _ v
  refine kept_ite (s.writeBeta_kept _ _ v) ?_
  split
  · exact kept_ite (State.after_kept (execRetrain_kept _ s)) .rfl
  refine kept_ite (kept_ite ((State.after_kept (execWriteNow_kept _)).trans snap) snap) <|
    kept_ite (s.writeFlt_kept p v) <| kept_ite (s.writeMsix_kept p _ v) ?_
  split
  · exact kept_ite (State.after_kept (execAuditNow_kept _ s)) .rfl
  · rfl

theorem State.writeWord_kept (s : State) (p : Port) (o : Nat) (v : Word) : KeptFrom (s.writeWord p o v) s :=
  kept_ite (s.writeFwu_kept p _ v) (kept_ite (s.writeOpen_kept p o v) .rfl)

theorem execRegisterWrite_kept (p : Port) (off : BitVec 26) (width : Nat) (v : DWord) (s : State) :
    Keeps s (execRegisterWrite p off width v s) :=
  keeps_next (kept_ite (s.writeWord_kept _ _ _) (kept_ite ((State.writeWord_kept _ _ _ _).trans (s.writeWord_kept _ _ _)) .rfl))

end Sys2Proof.Machine
end

section
/-!
PROOFS. What every command keeps, but for the two that start and end the device time.
-/
namespace Sys2Proof.Machine

/-! ## Every command -/

/-- The commands by what they do: those with one operation are settled here by that operation's lemma, the others by their own. Of the
two left out, one starts the device time and the other ends it. -/
theorem exec_kept (i : Instr) (s : State) (hs : ∀ f, i ≠ .startUp f) (ho : i ≠ .alwaysOnPowerLoss) : Keeps s (exec i s) := by
  cases i with
  | startUp f => exact absurd rfl (hs f)
  | alwaysOnPowerLoss => exact absurd rfl ho
  -- core programs
  | add | sub | mul | and | or | xor | shl | shr | sar | slt | sltu | seq | min | max => exact keeps_next (scalarRR_kept ..)
  | addi | andi | ori | xori | shli | shri | sari => exact keeps_next (scalarRI_kept ..)
  | movk0 | movk1 | movk2 | movk3 => exact keeps_next (movk_kept ..)
  | br | call | ret => exact keeps_next (State.issueAt_kept fun _ _ => s.jump_kept _ _ _)
  | beqz | bnez | bltz => exact keeps_next (branchIf_kept ..)
  | mfsr => exact keeps_next (State.issueAt_kept fun _ _ => kept_ite (s.malformedAt_kept _) (s.writeS_kept _ _ _))
  | ezganNop => exact keeps_next (State.issueAt_kept fun _ _ => s.seqTo_kept _ _)
  | halt => exact keeps_next (State.issueAt_kept fun _ _ => kept_ite (haltInstance_kept _ _ _) .rfl)
  | ld | ldw => exact keeps_next (loadN_kept ..)
  | st | stw => exact keeps_next (storeN_kept ..)
  | vadd | vsub | vmul | vfma | vmax | vmin | vrcps | vrsqs => exact keeps_next (vecF_kept ..)
  | vrcpe | vrsqe | vexp2e | vlog2e => exact keeps_next (vecE_kept ..)
  | vceq | vcne | vclt | vcle => exact keeps_next (vecCmp_kept ..)
  | viadd | visub | vand | vor | vxor | vshl | vshr => exact keeps_next (vecI_kept ..)
  | vsel | vlane | vbcast => exact keeps_next (State.issueAt_kept fun _ _ => s.writeV_kept _ _ _)
  | pand | por | pnot => exact keeps_next (predOp_kept ..)
  | pmov => exact keeps_next (State.issueAt_kept fun _ _ => s.writeP_kept _ _ _)
  | vmsk =>
    exact keeps_next (State.issueAt_kept fun _ _ => kept_ite (s.malformedAt_kept _) (kept_ite .rfl (s.putCore_kept _ _)))
  | vld | vgather => exact keeps_next (State.issueAt_kept fun _ _ => State.withMem_kept (s.writeV_kept _ _ _))
  | vst => exact keeps_next (State.issueAt_kept fun _ _ => State.withMem_kept ((State.seqTo_kept _ _ _).trans (s.write_kept _ _)))
  | vscatter =>
    exact keeps_next (State.issueAt_kept fun _ _ => State.withMem_kept ((State.seqTo_kept _ _ _).trans (foldl_write_kept _ _ _ s)))
  | vcvto | vcvti => exact keeps_next (State.issueAt_kept fun _ _ => kept_ite (s.malformedAt_kept _) (s.putCore_kept _ _))
  | vrsum | vrmax | vrmin => exact keeps_next (vecReduce_kept ..)
  | srd =>
    exact keeps_next (State.issueAt_kept fun _ _ => kept_ite (s.seqTo_kept _ _) (kept_ite (s.malformedAt_kept _)
      (State.withMem_kept (s.takeSlot_kept _ _))))
  | swr => apply execSwr_kept
  | streamOperationComplete => apply execStreamOperationComplete_kept
  | consumingRead => apply execConsumingRead_kept
  | sfence => exact keeps_next (State.issueAt_kept fun _ _ => kept_ite (s.seqTo_kept _ _) (s.putCore_kept _ _))
  | sig =>
    exact keeps_next (State.issueAt_kept fun _ _ => kept_ite (s.malformedAt_kept _) (kept_ite (s.failCore_kept _ _)
      ((State.signal_kept _ _ _).trans (s.seqTo_kept _ _))))
  | waitc =>
    exact keeps_next (State.issueAt_kept fun _ _ => kept_ite (s.malformedAt_kept _) (kept_ite (s.failCore_kept _ _)
      ((State.register_kept _ _).trans (s.putCore_kept _ _))))
  | wwait =>
    exact keeps_next (State.issueAt_kept fun _ _ => kept_ite (s.malformedAt_kept _) (kept_ite (s.seqTo_kept _ _) (s.putCore_kept _ _)))
  | wfire =>
    exact keeps_next (State.issueAt_kept fun _ _ => kept_ite (s.malformedAt_kept _)
      ((foldl_kept (fun t _ => t.putCore_kept _ _) _ _).trans (s.seqTo_kept _ _)))
  | hbar =>
    exact keeps_next (State.issueAt_kept fun _ _ => kept_ite (s.malformedAt_kept _) (kept_ite
      ((State.checkCoreHerd_kept _ _).trans ((State.putHerd_kept _ _ _).trans (s.putCore_kept _ _))) (s.putCore_kept _ _)))
  | malformedInstruction => apply execMalformedInstruction_kept
  -- tiles, audits and instances
  | tzero => exact keeps_next (State.tileIssue_kept fun _ _ => (State.tilesOn_kept _ _).trans (s.putCore_kept _ _))
  | tmm => apply execTmm_kept
  | taccrd => apply execTaccrd_kept
  | tsave => apply execTsave_kept
  | trestore => apply execTrestore_kept
  | keeperLoad => apply execKeeperLoad_kept
  | passStart => apply execPassStart_kept
  | restage => apply execRestage_kept
  | chunkSumWrite => apply execChunkSumWrite_kept
  | auditDue => exact keeps_next (kept_ite (s.putCore_kept _ _) .rfl)
  | auditNow => apply execAuditNow_kept
  | rowAudit => exact keeps_next (kept_ite ((State.setFreeCount_kept _ _).trans (s.putCore_kept _ _)) .rfl)
  | auditEnd => apply execAuditEnd_kept
  | promotion => exact keeps_next (kept_ite .rfl ((State.tallyAdd_kept _ _ _).trans (s.putCore_kept _ _)))
  | coreLoss => exact keeps_next (kept_ite .rfl (s.loseCore_kept _ _ _))
  | contextSave => apply execContextSave_kept
  | instanceStart => apply execInstanceStart_kept
  | itemRetry => apply execItemRetry_kept
  -- lists, queues and items
  | listAcceptance => apply execListAcceptance_kept
  | nop | fence | preemptPoint => exact keeps_next (State.startItem_kept fun t _ => t.finishNow_kept _ _ _)
  | signal => apply execSignal_kept
  | wait => apply execWait_kept
  | barrier => apply execBarrier_kept
  | itemCompletion => apply execItemCompletion_kept
  | recordRelease => exact keeps_next (kept_ite (s.releaseRecord_kept _) .rfl)
  | completionRingRetry => exact keeps_next (kept_ite ((State.drain_kept _ _).trans (s.putQueue_kept _ _)) .rfl)
  | irqHoldExpiry => apply execIrqHoldExpiry_kept
  | deadline => apply execDeadline_kept
  | start => apply execStart_kept
  | preemptNow => apply execPreemptNow_kept
  | preemptAtPoint => apply execPreemptAtPoint_kept
  | resume => apply execResume_kept
  | abort => apply execAbort_kept
  | cqHeadWrite => apply execCqHeadWrite_kept
  | qeWinCommitGo => apply execQeWinCommitGo_kept
  | qeQTakeGo => apply execQeQTakeGo_kept
  | matmul => apply execMatmul_kept
  | job => apply execJob_kept
  | copy => apply execCopy_kept
  | gather => apply execGather_kept
  | streamOpen => apply execStreamOpen_kept
  | streamClose => apply execStreamClose_kept
  | reduceScatter | allGather | allReduce | broadcast => exact keeps_next (s.keItem_kept _ _ _)
  | chunk => apply execChunk_kept
  | update => exact keeps_next (State.startItem_kept fun t _ => t.updStart_kept _ _ _)
  | updateMainPass => apply execUpdateMainPass_kept
  | updateBlock => apply execUpdateBlock_kept
  | boundary => apply execBoundary_kept
  | boundaryRaise => apply execBoundaryRaise_kept
  -- sync unit and telemetry
  | suCtrAdd => apply execSuCtrAdd_kept
  | watchGrant => apply execWatchGrant_kept
  | hostWatchRegister => apply execHostWatchRegister_kept
  | hostWatchWithdraw => apply execHostWatchWithdraw_kept
  | stepSyncInPulse => apply execStepSyncInPulse_kept
  | stepSyncOutEnd => apply execStepSyncOutEnd_kept
  | stepSyncInIgnore => apply execStepSyncInIgnore_kept
  | stepSyncOutDisable => apply execStepSyncOutDisable_kept
  | rearm => apply execRearm_kept
  | telemetryRoll => exact keeps_next (kept_ite s.rollWindow_kept .rfl)
  | tallyWrite => exact keeps_next (kept_ite (s.tallyFlash_kept _) .rfl)
  | tallySample => apply execTallySample_kept
  | snap => apply execSnap_kept
  | writeNow => apply execWriteNow_kept
  -- memory and the host's accesses
  | hubRequestArrival => apply execHubRequestArrival_kept
  | requestPerformed => apply execRequestPerformed_kept
  | spareCopyEnd => apply execSpareCopyEnd_kept
  | patrolScrub => apply execPatrolScrub_kept
  | prefetchFetch => apply execPrefetchFetch_kept
  | fetchReturn => apply execFetchReturn_kept
  | hostBar2Read => apply execHostBar2Read_kept
  | hostBar2Write => apply execHostBar2Write_kept
  | pcieConfigRequest => apply execPcieConfigRequest_kept
  | registerWrite => apply execRegisterWrite_kept
  -- links
  | dataFlit => apply execDataFlit_kept
  | idleFlit => exact keeps_next (State.flitIn_kept fun _ => (State.pumpLink_kept _ _).trans (s.flitCover_kept _ _))
  | nak => apply execNak_kept
  | replayTimeout => apply execReplayTimeout_kept
  | training => exact keeps_next (kept_ite (s.putLink_kept _ _) (kept_ite (s.spare_kept _) .rfl))
  | trainingEnd => exact keeps_next (kept_ite (s.endTraining_kept _ _) .rfl)
  | laneFail => exact keeps_next (s.failLane_kept _ _)
  | sparingEnd => apply execSparingEnd_kept
  | sparingTimeout => exact keeps_next (kept_ite (s.linkDown_kept _) .rfl)
  | retrain => apply execRetrain_kept
  | read => apply execRead_kept
  | write => apply execWrite_kept
  | writeMasked => apply execWriteMasked_kept
  | readData => apply execReadData_kept
  | writeDone => apply execWriteDone_kept
  | refused | gated | eccFail => exact keeps_next (s.failResp_kept _ _ _ _)
  | unreachable => exact keeps_next (State.receive_kept fun t => t.failReq_kept _)
  | requestTimeout => apply execRequestTimeout_kept
  | arrive => apply execArrive_kept
  | release => apply execRelease_kept
  | cancel => apply execCancel_kept
  | lost => apply execLost_kept
  | unknownKindMessage => apply execUnknownKindMessage_kept
  -- resets, start-up, clocks, power and ports
  | warmReset => exact keeps_next (kept_ite (s.warmReset_kept _) .rfl)
  | modResetN => exact keeps_next (s.requestReset_kept _ _)
  | deviceFault => exact keeps_next (kept_ite ((State.requestReset_kept _ _ _).trans (s.logEvent_kept _ _ _ _ _ _)) .rfl)
  | alwaysOnFault => apply execAlwaysOnFault_kept
  | powerOn => exact keeps_next (kept_ite (s.setPower_kept _) .rfl)
  | nimtiaBoot => apply execNimtiaBoot_kept
  | pwrEnAssert => apply execPwrEnAssert_kept
  | pwrEnDeassert => apply execPwrEnDeassert_kept
  | vinUndervoltage => apply execVinUndervoltage_kept
  | vinOvervoltage => apply execVinOvervoltage_kept
  | efuseTrip => apply execEfuseTrip_kept
  | efuseRetry => apply execEfuseRetry_kept
  | referenceLoss => apply execReferenceLoss_kept
  | referenceReturn => exact keeps_next (kept_ite .rfl ((State.setFault_kept _ _ (by exact id)).trans (s.setPower_kept _)))
  | holdoverEnd => apply execHoldoverEnd_kept
  | limiterPeriod =>
    exact keeps_next (kept_ite .rfl ((State.takeWanted_kept _).trans ((State.limitWindow_kept _).trans ((State.limit_kept _).trans
      (s.measured_kept _)))))
  | sensorFault => apply execSensorFault_kept
  | strapChange => exact keeps_next (kept_ite .rfl ((State.logEvent_kept _ _ _ _ _ _ _).trans (s.setStart_kept _)))
  | perstN => exact keeps_next ((State.putPcie_kept _ _ _).trans (kept_ite .rfl (s.portDown_kept _)))
  | hostPortLost => exact keeps_next (kept_ite .rfl (s.portDown_kept _))
  | hostPortLinkUp => apply execHostPortLinkUp_kept
  | pwrGateWrite => apply execPwrGateWrite_kept
  | gateOff => apply execGateOff_kept
  | lpddr5xGroupReady => exact keeps_next (kept_ite (s.setPower_kept _) .rfl)
  | clkObsWrite => apply execClkObsWrite_kept
  -- mailboxes
  | loadConfig => apply execLoadConfig_kept
  | activateFirmware => apply execActivateFirmware_kept
  | setPowerProfile => exact keeps_secTake fun t _ => fst_kept_ite .rfl ((t.setPower_kept _))
  | takeoverQueues => exact keeps_secTake fun t _ => fst_kept_ite ((t.takeover_kept _)) .rfl
  | debugUnlock => apply execDebugUnlock_kept
  | keyRoll => apply execKeyRoll_kept
  | fuseCommit => apply execFuseCommit_kept
  | resetDevice => apply execResetDevice_kept
  | zeroize => apply execZeroize_kept
  | getIdentity => exact keeps_secTake fun _ _ => fst_kept_ite .rfl .rfl
  | attest => apply execAttest_kept
  | backoffEnd => apply execBackoffEnd_kept
  | secCtlGo => apply execSecCtlGo_kept
  -- firmware
  | fwuBegin => apply execFwuBegin_kept
  | hostBar4Write => apply execHostBar4Write_kept
  | writeBlock => apply execWriteBlock_kept
  | fwuStage => apply execFwuStage_kept
  | fwuAbort => apply execFwuAbort_kept
  | fwuCommit => apply execFwuCommit_kept
  | fwuRevert => apply execFwuRevert_kept
  | fwuRestart => apply execFwuRestart_kept
  | activationSwitch => apply execActivationSwitch_kept
  | activationCancel | activationRevert => exact keeps_next (kept_ite (s.endActivation_kept _ _) .rfl)
  -- management and the test port
  | readReg | readImage => exact keeps_next ((State.setFreeCount_kept _ _).trans (s.mgmt_kept _ _))
  | readTally | getStatus => exact keeps_next (s.mgmt_kept _ _)
  | readLog => apply execReadLog_kept
  | alertResponse => apply execAlertResponse_kept
  | entdaa => exact keeps_next (kept_ite (s.setPins_kept _) .rfl)
  | busRecovery => apply execBusRecovery_kept
  | busSense => exact keeps_next (kept_ite ((State.logEvent_kept _ _ _ _ _ _ _).trans (s.setPins_kept _)) .rfl)
  | extest | clamp | highz => exact keeps_next (s.takePins_kept _)
  | samplePreload => exact keeps_next (kept_ite (s.setPins_kept _) .rfl)
  | dbgAccess => apply execDbgAccess_kept
  | bypass | testLogicReset => exact keeps_next (kept_ite (s.setTap_kept _) .rfl)

end Sys2Proof.Machine
end

section
/-!
PROOFS. What every command and every step keeps, and the statements about it.
-/
namespace Sys2Proof.Machine

/-! ## The start and the end of the device time -/

theorem State.startTime_of_warm {s : State} (h : s.power.cold = false) : s.startTime = s := by
  rw [State.startTime, h]
  rfl

theorem State.startTime_dtc {s : State} (h : s.power.cold = true) : s.startTime.sync.dtc = 0 := if_pos h

/-- START_UP keeps all but the device time, which starts at a power-on (10 R438, 16 R619). -/
theorem exec_startUp_kept {f : StartFacts} {s t : State} (h : exec (.startUp f) s = .next t) :
    KeptFrom t s ∨ KeptFrom t s.startTime := by
  change execStartUp f s = .next t at h
  injection h with h
  subst h
  split
  · exact .inl .rfl
  split
  · exact .inr (s.startUp_kept f)
  split
  · exact .inl (s.finishStart_kept f)
  · exact .inl .rfl

/-- What the loss of always-on power leaves: the commands that wait, no device time, and tables and a fault log that start again (14
R551, 15 R616). -/
theorem exec_alwaysOnPowerLoss_cases {s t : State} (h : exec .alwaysOnPowerLoss s = .next t) :
    (s.power.phase = .off ∧ t = s) ∨
      (s.power.phase ≠ .off ∧ t.pending = s.pending ∧ t.sync.dtc = 0 ∧ t.power.cold = true ∧ (s.wf = true → t.wf = true) ∧
        t.fault.wf = true) := by
  change execAlwaysOnPowerLoss s = .next t at h
  injection h with h
  split at h
  · next hoff => exact .inl ⟨hoff, h.symm⟩
  · next hon =>
    have hdown := s.powerDown_kept .off
    refine .inr ⟨hon, ?_⟩
    rw [← h]
    generalize s.powerDown .off = d at hdown
    refine ⟨hdown.pending, rfl, rfl, fun hs => ?_, rfl⟩
    obtain ⟨cells, -, -, -, -, -, -, streams, -⟩ := (State.wf_iff _).mp (hdown.wf hs)
    exact (State.wf_iff _).mpr ⟨cells, rfl, rfl, rfl, rfl, rfl, rfl, streams, rfl⟩

/-! ## Every command and every step -/

/-- `t` keeps of `s` the commands that wait, and the form of the tables and of the fault log. -/
structure FormKept (t s : State) : Prop where
  pending : t.pending = s.pending
  wf : s.wf = true → t.wf = true
  log : s.fault.wf = true → t.fault.wf = true

theorem KeptFrom.form {t s : State} (h : KeptFrom t s) : FormKept t s := ⟨h.pending, h.wf, h.log⟩

theorem FormKept.trans {u t s : State} (h : FormKept u t) (g : FormKept t s) : FormKept u s :=
  ⟨h.pending.trans g.pending, h.wf ∘ g.wf, h.log ∘ g.log⟩

theorem State.startTime_form (s : State) : FormKept s.startTime s := ⟨rfl, id, id⟩
theorem State.setPending_wf (s : State) (l : List Instr) : (s.setPending l).wf = s.wf := rfl

/-- The form of the tables and of the log is kept even where the device time starts or ends. -/
theorem exec_form {i : Instr} {s t : State} (h : exec i s = .next t) : FormKept t s := by
  by_cases hs : ∃ f, i = .startUp f
  · obtain ⟨f, rfl⟩ := hs
    obtain ht | ht := exec_startUp_kept h
    · exact ht.form
    · exact ht.form.trans s.startTime_form
  by_cases ho : i = .alwaysOnPowerLoss
  · subst ho
    obtain ⟨-, rfl⟩ | ⟨-, hp, -, -, hw, hl⟩ := exec_alwaysOnPowerLoss_cases h
    · exact KeptFrom.rfl.form
    · exact ⟨hp, hw, fun _ => hl⟩
  · exact (exec_kept i s (fun f hf => hs ⟨f, hf⟩) ho t h).form

/-- One tick: the device time counts on, once there is one (10 R438, 16 R619). -/
theorem tick_dtc (s : State) : (tick s).sync.dtc = if s.power.cold then s.sync.dtc else s.sync.dtc + 1 := by
  unfold tick
  split <;> rfl

theorem tick_form (s : State) : FormKept (tick s) s := by
  unfold tick
  split <;> exact ⟨rfl, id, id⟩

theorem State.idle_form (s : State) : FormKept s.idle s := (State.secNext_kept _).form.trans (tick_form s)

theorem State.idle_dtc (s : State) : s.idle.sync.dtc = if s.power.cold then s.sync.dtc else s.sync.dtc + 1 :=
  (State.secNext_kept _).dtc.trans (tick_dtc s)

theorem step_idle {s : State} (h : s.pending = []) : step s = .next s.idle := by simp [step, h]

theorem step_exec {s : State} {c : Instr} {rest : List Instr} (h : s.pending = c :: rest) : step s = exec c (s.setPending rest) := by
  simp [step, h]

/-- What a step keeps, whether it runs a command or idles. -/
theorem step_form {s t : State} (h : step s = .next t) : (s.wf = true → t.wf = true) ∧ (s.fault.wf = true → t.fault.wf = true) := by
  cases hp : s.pending with
  | nil =>
    obtain rfl : s.idle = t := Host.Outcome.next.inj ((step_idle hp).symm.trans h)
    exact ⟨s.idle_form.wf, s.idle_form.log⟩
  | cons c rest =>
    have hk := exec_form ((step_exec hp).symm.trans h)
    exact ⟨hk.wf, hk.log⟩

/-- Settles O1: a step is defined by the front of the queue. -/
theorem stepTakesTheFrontCommand : Obligations.StepTakesTheFrontCommand := fun _ _ _ h => step_exec h

/-- Settles O2: an idle step is a tick, and the mailbox command that may end in it keeps the device time. -/
theorem idleStepIsOneTick : Obligations.IdleStepIsOneTick := fun s h =>
  ⟨s.idle, step_idle h, s.idle_dtc, s.idle_form.pending.trans h⟩

/-- Settles O58: every command keeps the form of the tables, and so does a tick. -/
theorem stepsKeepTablesCanonical : Obligations.StepsKeepTablesCanonical := fun _ _ hs h => (step_form h).1 hs

/-- Settles O59: an entry of the log goes on with the next SEQ, and the oldest make room. -/
theorem stepsKeepTheFaultLog : Obligations.StepsKeepTheFaultLog := fun _ _ hs h => (step_form h).2 hs

/-- Settles O60: no operation of a command writes the queue of commands. -/
theorem commandsKeepTheQueue : Obligations.CommandsKeepTheQueue := fun _ _ _ h => (exec_form h).pending

/-- Settles O55: of the commands only the start and the loss of always-on power write the device time. -/
theorem deviceTimeRunsOn : Obligations.DeviceTimeRunsOn := by
  unfold Obligations.DeviceTimeRunsOn
  refine ⟨fun s hp hc => ⟨s.idle, step_idle hp, ?_⟩, fun c s t h ho hs => ?_, fun f s t h hc => ?_, fun s t h hon => ?_⟩
  · rw [State.idle_dtc, hc, if_neg (by decide), BitVec.toNat_add]
    rfl
  · by_cases hup : ∃ f, c = .startUp f
    · obtain ⟨f, rfl⟩ := hup
      have hwarm : s.power.cold = false := hs.resolve_right fun hn => hn f rfl
      obtain ht | ht := exec_startUp_kept h
      · exact ht.dtc
      · exact (State.startTime_of_warm hwarm ▸ ht).dtc
    · exact (exec_kept c s (fun f hf => hup ⟨f, hf⟩) ho t h).dtc
  · obtain ht | ht := exec_startUp_kept h
    · exact .inl ht.dtc
    · exact .inr (ht.dtc.trans (State.startTime_dtc hc))
  · obtain ⟨hoff, -⟩ | ⟨-, -, hd, hc, -⟩ := exec_alwaysOnPowerLoss_cases h
    · exact absurd hoff hon
    · exact ⟨hd, hc⟩

end Sys2Proof.Machine
end

section
/-!
PROOFS. Which commands answer, and the state after reset.
-/
namespace Sys2Proof.Machine

/-- A command that checks its lists first answers a next state exactly when they are good. -/
theorem answers_of_check {bad : Prop} [Decidable bad] {good : Bool} {x : State} (h : good = true ↔ ¬bad) :
    (good = true → ∃ t, (if bad then Host.Outcome.refused Refusal.illFormed else .next x : Answer) = .next t) ∧
      (good = false → (if bad then Host.Outcome.refused Refusal.illFormed else .next x : Answer) = .refused .illFormed) := by
  refine ⟨fun hg => ⟨x, if_neg (h.mp hg)⟩, fun hg => if_pos ?_⟩
  by_contra hb
  rw [h.mpr hb] at hg
  cases hg

theorem listFits_iff (n : Nat) : (decide (1 ≤ n) && decide (n ≤ 4)) = true ↔ ¬(n = 0 ∨ 4 < n) := by
  simp only [Bool.and_eq_true, decide_eq_true_eq]
  omega

/-- A WRITE_MASKED answers exactly when it carries its data and its mask (11 R462). -/
theorem execWriteMasked_answers (l : Link) (m : MsgHead) (data : List Line) (s : State) :
    (data.length = 2 → ∃ t, execWriteMasked l m data s = .next t) ∧
      (data.length ≠ 2 → execWriteMasked l m data s = .refused .illFormed) := by
  unfold execWriteMasked
  split
  · exact ⟨fun _ => ⟨_, rfl⟩, fun h => absurd rfl h⟩
  · next h =>
    refine ⟨fun hl => ?_, fun _ => rfl⟩
    obtain ⟨x, y, rfl⟩ := List.length_eq_two.mp hl
    exact absurd rfl (h x y)

/-- Settles O3: six commands check the lists that they carry, and every other command answers a next state at once. -/
theorem everyWellFormedCommandRuns : Obligations.EveryWellFormedCommandRuns := by
  unfold Obligations.EveryWellFormedCommandRuns
  intro c s
  cases c with
  | hostBar4Write => exact answers_of_check (by simp [Instr.wellFormed])
  | write | readData | chunk => exact answers_of_check (listFits_iff _)
  | unknownKindMessage => exact answers_of_check (by simp [Instr.wellFormed])
  | writeMasked l m data =>
    obtain ⟨hgood, hbad⟩ := execWriteMasked_answers l m data s
    exact ⟨fun h => hgood (of_decide_eq_true h), fun h => hbad (of_decide_eq_false h)⟩
  | _ => exact ⟨fun _ => ⟨_, rfl⟩, nofun⟩

/-- Settles O57: the state after reset, part by part. -/
theorem resetState : Obligations.ResetState :=
  ⟨rfl, rfl, rfl, rfl, rfl, rfl, fun _ => rfl, fun _ => ⟨rfl, rfl⟩, fun _ => rfl, fun _ => rfl,
    fun _ => Vector.getElem_replicate _⟩

end Sys2Proof.Machine
end

section
/-!
PROOFS. Bytes of memory by address: where an address's byte is kept, and what the bytes read as after a write (07 R276, R280).
-/
namespace Sys2Proof.Machine

/-! ## Where a byte is kept -/

theorem interleave_lt (mode top a : Nat) : interleave mode top a < 8 := by
  unfold interleave
  split <;> exact Nat.mod_lt _ (by decide)

/-- An interleaved offset lies in one eighth of the range. -/
theorem interleaveOff_lt {mode top a : Nat} (ht : top = 37 ∨ top = 38) (ha : a < 2 ^ (top + 3)) : interleaveOff mode top a < 2 ^ top := by
  unfold interleaveOff
  split
  · exact Nat.mod_lt _ (by positivity)
  · obtain rfl | rfl := ht <;> dsimp only <;> split_ifs <;> omega

/-- Stack and offset name one address. -/
theorem interleave_inj {mode top a b : Nat} (ht : top = 37 ∨ top = 38) (ha : a < 2 ^ (top + 3)) (hb : b < 2 ^ (top + 3))
    (hh : interleave mode top a = interleave mode top b) (ho : interleaveOff mode top a = interleaveOff mode top b) : a = b := by
  simp only [interleave, Nat.shiftRight_eq_div_pow] at hh
  unfold interleaveOff at ho
  obtain rfl | rfl := ht <;> dsimp only at * <;> split_ifs at hh ho <;> omega

/-- Within a line offsets count on with the addresses. -/
theorem interleaveOff_add {mode top a i : Nat} (ht : top = 37 ∨ top = 38) (h : a % 64 + i < 64) :
    interleaveOff mode top (a + i) = interleaveOff mode top a + i := by
  unfold interleaveOff
  obtain rfl | rfl := ht <;> dsimp only <;> split_ifs <;> omega

theorem interleave_add {mode top a i : Nat} (ht : top = 37 ∨ top = 38) (h : a % 64 + i < 64) :
    interleave mode top (a + i) = interleave mode top a := by
  unfold interleave
  obtain rfl | rfl := ht <;> simp only [Nat.shiftRight_eq_div_pow] <;> split_ifs <;> omega

theorem interleaveOff_mod {mode top a : Nat} (ht : top = 37 ∨ top = 38) : interleaveOff mode top a % 64 = a % 64 := by
  unfold interleaveOff
  obtain rfl | rfl := ht <;> dsimp only <;> split_ifs <;> omega

theorem State.hubOf_lt (s : State) (a : Nat) : s.hubOf a < 8 := by
  unfold State.hubOf
  split <;> exact interleave_lt _ _ _

/-- A byte of HBM is kept within HBM. -/
theorem State.loc_hbm (s : State) {a : Nat} (h : a < hbmTop) : s.loc a < hbmTop := by
  have hoff := interleaveOff_lt (mode := s.start.img.hbmMode.toNat) (.inl rfl) h
  have hhub := s.hubOf_lt a
  rw [State.loc, if_pos h, State.hubOffset, if_pos h]
  simp only [hbmTop] at *
  omega

/-- A byte of LPDDR5X is kept within LPDDR5X. -/
theorem State.loc_lp (s : State) {a : Nat} (hl : lpBase ≤ a) (ht : a < localTop) : lpBase ≤ s.loc a ∧ s.loc a < localTop := by
  have hn : ¬a < hbmTop := by simp only [lpBase, hbmTop] at *; omega
  have hoff := interleaveOff_lt (mode := s.start.img.lpMode.toNat) (a := a - lpBase) (.inr rfl) (by
    simp only [lpBase, localTop] at *; omega)
  have hhub := s.hubOf_lt a
  rw [State.loc, if_neg hn, if_pos ⟨hl, ht⟩, State.hubOffset, if_neg hn]
  simp only [lpBase, localTop] at *
  omega

theorem State.loc_else (s : State) {a : Nat} (hn : ¬a < hbmTop) (hl : ¬(lpBase ≤ a ∧ a < localTop)) : s.loc a = a := by
  rw [State.loc, if_neg hn, if_neg hl]

/-- Every address has a place of its own. -/
theorem State.loc_inj (s : State) {a b : Nat} (h : s.loc a = s.loc b) : a = b := by
  have hregion (x : Nat) : (s.loc x < hbmTop ↔ x < hbmTop) ∧ (lpBase ≤ s.loc x ∧ s.loc x < localTop ↔ lpBase ≤ x ∧ x < localTop) := by
    by_cases hx : x < hbmTop
    · have := s.loc_hbm hx
      simp only [hbmTop, lpBase, localTop] at *
      omega
    by_cases hl : lpBase ≤ x ∧ x < localTop
    · have := s.loc_lp hl.1 hl.2
      simp only [hbmTop, lpBase, localTop] at *
      omega
    · rw [s.loc_else hx hl]
      exact ⟨.rfl, .rfl⟩
  have hh : a < hbmTop ↔ b < hbmTop := by rw [← (hregion a).1, h, (hregion b).1]
  have hl : lpBase ≤ a ∧ a < localTop ↔ lpBase ≤ b ∧ b < localTop := by rw [← (hregion a).2, h, (hregion b).2]
  by_cases ha : a < hbmTop
  · have hb := hh.mp ha
    have oa := interleaveOff_lt (mode := s.start.img.hbmMode.toNat) (.inl rfl) ha
    have ob := interleaveOff_lt (mode := s.start.img.hbmMode.toNat) (.inl rfl) hb
    simp only [State.loc, State.hubOf, State.hubOffset, if_pos ha, if_pos hb] at h
    exact interleave_inj (mode := s.start.img.hbmMode.toNat) (.inl rfl) ha hb (by omega) (by omega)
  have hb : ¬b < hbmTop := fun hb => ha (hh.mpr hb)
  by_cases la : lpBase ≤ a ∧ a < localTop
  · have lb := hl.mp la
    have lim {x : Nat} (hx : lpBase ≤ x ∧ x < localTop) : x - lpBase < 2 ^ (38 + 3) := by simp only [lpBase, localTop] at *; omega
    have oa := interleaveOff_lt (mode := s.start.img.lpMode.toNat) (.inr rfl) (lim la)
    have ob := interleaveOff_lt (mode := s.start.img.lpMode.toNat) (.inr rfl) (lim lb)
    simp only [State.loc, State.hubOf, State.hubOffset, if_neg ha, if_neg hb, if_pos la, if_pos lb] at h
    have := interleave_inj (mode := s.start.img.lpMode.toNat) (.inr rfl) (lim la) (lim lb) (by omega) (by omega)
    omega
  · rwa [s.loc_else ha la, s.loc_else hb fun lb => la (hl.mpr lb)] at h

/-- Within a line places count on with the addresses. -/
theorem State.loc_add (s : State) {a i : Nat} (h : a % 64 + i < 64) : s.loc (a + i) = s.loc a + i := by
  have hregion : (a + i < hbmTop ↔ a < hbmTop) ∧ (lpBase ≤ a + i ↔ lpBase ≤ a) ∧ (a + i < localTop ↔ a < localTop) := by
    simp only [hbmTop, lpBase, localTop]; omega
  obtain ⟨hh, hl, ht⟩ := hregion
  unfold State.loc State.hubOf State.hubOffset
  simp only [hh, hl, ht]
  split_ifs with h1 h2
  · rw [interleave_add (.inl rfl) h, interleaveOff_add (.inl rfl) h, Nat.add_assoc]
  · have hsub : a + i - lpBase = a - lpBase + i := by omega
    have hmod : (a - lpBase) % 64 + i < 64 := by simp only [lpBase] at *; omega
    rw [hsub, interleave_add (.inr rfl) hmod, interleaveOff_add (.inr rfl) hmod]
    omega
  · rfl

theorem State.loc_mod (s : State) (a : Nat) : s.loc a % 64 = a % 64 := by
  unfold State.loc State.hubOf State.hubOffset
  split_ifs with h1 h2
  · have := interleaveOff_mod (mode := s.start.img.hbmMode.toNat) (a := a) (.inl rfl)
    omega
  · have := interleaveOff_mod (mode := s.start.img.lpMode.toNat) (a := a - lpBase) (.inr rfl)
    simp only [lpBase] at *
    omega
  · rfl

/-! ## Open contents -/

/-- The free values that a byte of open contents reads as, if its contents are open. -/
def openBase (l : List OpenRange) (a : Nat) : Option Nat := (l.find? fun r => r.has a).map OpenRange.base

theorem MemSt.byte_of_open {m : MemSt} {a b : Nat} (h : openBase m.unset a = some b) : m.byte a = BitVec.ofNat 8 (Config.free b a) := by
  obtain ⟨r, hr, rfl⟩ := Option.map_eq_some_iff.mp h
  rw [MemSt.byte, hr]
  rfl

theorem MemSt.byte_of_not_open {m : MemSt} {a : Nat} (h : openBase m.unset a = none) : m.byte a = tget emptyByte m.cells a := by
  rw [MemSt.byte, Option.map_eq_none_iff.mp h]

/-- Two memories whose contents are open alike, and listed alike where they are not open, read the same. -/
theorem MemSt.byte_congr {m n : MemSt} {a : Nat} (ho : openBase m.unset a = openBase n.unset a)
    (hc : openBase n.unset a = none → tget emptyByte m.cells a = tget emptyByte n.cells a) : m.byte a = n.byte a := by
  cases hn : openBase n.unset a with
  | some b => rw [MemSt.byte_of_open (ho.trans hn), MemSt.byte_of_open hn]
  | none => rw [MemSt.byte_of_not_open (ho.trans hn), MemSt.byte_of_not_open hn, hc hn]

theorem openBase_cutRanges_in {lo hi a : Nat} (hl : lo ≤ a) (hh : a < hi) (l : List OpenRange) :
    openBase (cutRanges lo hi l) a = none := by
  simp only [openBase, cutRanges, Option.map_eq_none_iff, List.find?_eq_none, List.mem_flatten, List.mem_map]
  rintro x ⟨_, ⟨r, -, rfl⟩, hx⟩
  simp only [List.mem_append, List.mem_ite_nil_right, List.mem_singleton] at hx
  obtain ⟨-, rfl⟩ | ⟨-, rfl⟩ := hx <;> simp only [OpenRange.has] <;> grind

/-- Outside the bytes that are cut away a range stands in one of its two pieces. -/
theorem openBase_cutRange {lo hi a : Nat} (h : a < lo ∨ hi ≤ a) (hlh : lo ≤ hi) (r : OpenRange) :
    openBase ((if r.lo < min r.hi lo then [{ r with hi := min r.hi lo }] else []) ++
      (if max r.lo hi < r.hi then [{ r with lo := max r.lo hi }] else [])) a = openBase [r] a := by
  simp only [openBase, OpenRange.has]
  split_ifs <;> simp only [List.nil_append, List.append_nil, List.cons_append, List.find?_cons, List.find?_nil] <;> grind

theorem openBase_append (l k : List OpenRange) (a : Nat) : openBase (l ++ k) a = (openBase l a).or (openBase k a) := by
  rw [openBase, List.find?_append, Option.map_or]
  rfl

/-- Outside the bytes that are cut away every byte stays open or not, with its free values. -/
theorem openBase_cutRanges_out {lo hi a : Nat} (h : a < lo ∨ hi ≤ a) (hlh : lo ≤ hi) (l : List OpenRange) :
    openBase (cutRanges lo hi l) a = openBase l a := by
  induction l with
  | nil => rfl
  | cons r l ih =>
    rw [cutRanges] at ih ⊢
    rw [List.map_cons, List.flatten_cons, openBase_append, openBase_cutRange h hlh, ih, ← openBase_append]
    rfl

/-! ## A line whose contents are fixed -/

theorem lineOf_le (a : Nat) : lineOf a ≤ a ∧ a < lineOf a + 64 := by
  unfold lineOf
  omega

/-- Open contents that are fixed read as before. -/
theorem MemSt.byte_fix (m : MemSt) (a b : Nat) : (m.fix a).byte b = m.byte b := by
  unfold MemSt.fix
  split
  · by_cases hb : lineOf a ≤ b ∧ b < lineOf a + 64
    · rw [MemSt.byte_of_not_open (openBase_cutRanges_in hb.1 hb.2 _), tget_putBytes, if_pos (by simpa using hb)]
      have hi : b - lineOf a < 64 := by omega
      simp [List.getD_eq_getElem?_getD, hi, Nat.add_sub_cancel' hb.1]
    · refine MemSt.byte_congr (openBase_cutRanges_out (by omega) (by omega) _) fun _ => ?_
      rw [tget_putBytes, if_neg (by simpa using hb)]
  · rfl

/-- No byte of a line that is fixed is open. -/
theorem MemSt.fix_not_open (m : MemSt) {a b : Nat} (h : lineOf a ≤ b ∧ b < lineOf a + 64) : openBase (m.fix a).unset b = none := by
  unfold MemSt.fix
  split
  · exact openBase_cutRanges_in h.1 h.2 _
  · next hn =>
    simp only [openBase, Option.map_eq_none_iff, List.find?_eq_none]
    intro r hr hb
    refine hn (List.any_eq_true.mpr ⟨r, hr, List.any_eq_true.mpr ⟨b - lineOf a, ?_, ?_⟩⟩)
    · simp; omega
    · rwa [Nat.add_sub_cancel' h.1]

/-! ## What is written -/

/-- Bytes put into a line of memory read back, and every other byte reads as before. -/
theorem MemSt.byte_putLine (m : MemSt) {a b : Nat} {bs : List Byte} {x : MemSt} (h : a % 64 + bs.length ≤ 64)
    (hc : x.cells = putBytes (m.fix a).cells a bs) (hu : x.unset = (m.fix a).unset) :
    x.byte b = if a ≤ b ∧ b < a + bs.length then bs.getD (b - a) 0 else m.byte b := by
  split
  · next hb =>
    have hline : lineOf a ≤ b ∧ b < lineOf a + 64 := by unfold lineOf; omega
    rw [MemSt.byte_of_not_open (hu ▸ m.fix_not_open hline), hc, tget_putBytes, if_pos hb]
  · next hb =>
    rw [← m.byte_fix a b]
    refine MemSt.byte_congr (by rw [hu]) fun _ => ?_
    rw [hc, tget_putBytes, if_neg hb]

theorem State.invalidateAt_unset (s : State) (line h : Nat) : (s.invalidateAt line h).mem.unset = s.mem.unset := by
  unfold State.invalidateAt
  dsimp only
  split <;> rfl

theorem State.invalidate_unset (s : State) (line : Nat) : (s.invalidate line).mem.unset = s.mem.unset := by
  unfold State.invalidate
  exact foldl_keeps (P := fun t : State => t.mem.unset = s.mem.unset) _ (fun t _ h => (t.invalidateAt_unset _ _).trans h) _ _ rfl

theorem State.writeLine_unset (s : State) (a : Nat) (bs : List Byte) :
    (s.writeLine a bs).mem.unset = (s.mem.fix (s.loc a)).unset := by
  unfold State.writeLine
  dsimp only
  split
  · rw [State.dropRunner_mem]; rfl
  · rw [State.invalidate_unset]; rfl

theorem State.invalidate_start (s : State) (line : Nat) : (s.invalidate line).start = s.start :=
  foldl_keeps (P := fun t : State => t.start = s.start) _ (fun t n h => by
    unfold State.invalidateAt
    dsimp only
    split <;> exact h) _ _ rfl

theorem State.dropRunner_start (s : State) (site lo hi : Nat) : (s.dropRunner site lo hi).start = s.start := by
  unfold State.dropRunner
  dsimp only
  split <;> rfl

@[simp] theorem State.writeLine_start (s : State) (a : Nat) (bs : List Byte) : (s.writeLine a bs).start = s.start := by
  unfold State.writeLine
  dsimp only
  split
  · rw [State.dropRunner_start]; rfl
  · rw [State.invalidate_start]; rfl

@[simp] theorem State.write_start (s : State) (a : Nat) (bs : List Byte) : (s.write a bs).start = s.start :=
  foldl_keeps (P := fun t : State => t.start = s.start) _ (fun t _ h => (t.writeLine_start _ _).trans h) _ _ rfl

theorem State.loc_congr {s t : State} (h : t.start = s.start) (a : Nat) : t.loc a = s.loc a := by
  unfold State.loc State.hubOf State.hubOffset
  rw [h]

/-- Bytes of a line that are written read back, and every other byte reads as before. -/
theorem State.writeLine_byte (s : State) {a : Nat} {bs : List Byte} (h : a % 64 + bs.length ≤ 64) (b : Nat) :
    (s.writeLine a bs).byte b = if a ≤ b ∧ b < a + bs.length then bs.getD (b - a) 0 else s.byte b := by
  rw [State.byte, State.loc_congr (s.writeLine_start a bs), s.mem.byte_putLine (by rwa [s.loc_mod]) (s.writeLine_cells a bs)
    (s.writeLine_unset a bs)]
  by_cases hb : a ≤ b ∧ b < a + bs.length
  · have hloc : s.loc b = s.loc a + (b - a) := by
      rw [← s.loc_add (by omega), Nat.add_sub_cancel' hb.1]
    rw [if_pos hb, hloc, if_pos (by omega), Nat.add_sub_cancel_left]
  · rw [if_neg hb, if_neg ?_]
    · rfl
    rintro ⟨hl, hh⟩
    have hloc : s.loc (a + (s.loc b - s.loc a)) = s.loc b := by
      rw [s.loc_add (by omega), Nat.add_sub_cancel' hl]
    have := s.loc_inj hloc
    omega

/-- The lines of a write, in order, write its bytes. -/
theorem foldl_cutLines_byte (n : Nat) (s : State) (a : Nat) {bs : List Byte} (hn : bs.length ≤ n) (b : Nat) :
    ((cutLines n a bs).foldl (fun t p => t.writeLine p.1 p.2) s).byte b =
      if a ≤ b ∧ b < a + bs.length then bs.getD (b - a) 0 else s.byte b := by
  induction n generalizing s a bs with
  | zero =>
    rw [if_neg (by omega)]
    rfl
  | succ n ih =>
    rw [cutLines]
    split
    · next h => simp [h]
    · next h =>
      have hpos := List.length_pos_iff.mpr h
      rw [List.foldl_cons, ih _ _ (by rw [List.length_drop]; omega), State.writeLine_byte _ (by rw [List.length_take]; omega)]
      simp only [List.length_take, List.length_drop, List.getD_eq_getElem?_getD, List.getElem?_take, List.getElem?_drop]
      grind

/-- Bytes that are written read back, and every other byte reads as before. -/
theorem State.write_byte (s : State) (a : Nat) (bs : List Byte) (b : Nat) :
    (s.write a bs).byte b = if a ≤ b ∧ b < a + bs.length then bs.getD (b - a) 0 else s.byte b :=
  foldl_cutLines_byte _ s a (le_refl _) b

/-- Settles O56: bytes are written where their addresses' bytes are kept, each in a place of its own. -/
theorem readsAfterWrites : Obligations.ReadsAfterWrites := by
  unfold Obligations.ReadsAfterWrites
  refine fun s a bs => ⟨fun i hi => ?_, fun b hb => ?_⟩
  · rw [State.write_byte, if_pos (by omega), Nat.add_sub_cancel_left]
  · rw [State.write_byte, if_neg (by omega)]

end Sys2Proof.Machine
end

section
/-!
PROOFS. Core programs: scalar registers, immediates, special registers and control (06 R230 to R232).
-/
namespace Sys2Proof.Machine

open Sys2Proof.Claims

/-! ## What the scalar operations compute -/

theorem ofNat_add_toNat {w : Nat} (x y : BitVec w) : BitVec.ofNat w (x.toNat + y.toNat) = x + y := by
  rw [BitVec.ofNat_add, BitVec.ofNat_toNat, BitVec.ofNat_toNat, BitVec.setWidth_eq, BitVec.setWidth_eq]

theorem ofInt_sub_toInt {w : Nat} (x y : BitVec w) : BitVec.ofInt w (x.toInt - y.toInt) = x - y := by
  apply BitVec.eq_of_toInt_eq
  rw [BitVec.toInt_ofInt, BitVec.toInt_sub]

theorem ofNat_mul_toNat (x y : DWord) : BitVec.ofNat 64 (x.toNat * y.toNat) = x * y := by
  rw [BitVec.ofNat_mul, BitVec.ofNat_toNat, BitVec.ofNat_toNat, BitVec.setWidth_eq, BitVec.setWidth_eq]

theorem shiftLeft_eq_ofNat {w : Nat} (x : BitVec w) (n : Nat) : x <<< n = BitVec.ofNat w (x.toNat * 2 ^ n) := by
  apply BitVec.eq_of_toNat_eq
  rw [BitVec.toNat_shiftLeft, BitVec.toNat_ofNat, Nat.shiftLeft_eq]

theorem ushiftRight_eq_ofNat {w : Nat} (x : BitVec w) (n : Nat) : x >>> n = BitVec.ofNat w (x.toNat / 2 ^ n) := by
  apply BitVec.eq_of_toNat_eq
  rw [BitVec.toNat_ushiftRight, BitVec.toNat_ofNat, Nat.shiftRight_eq_div_pow,
    Nat.mod_eq_of_lt ((Nat.div_le_self _ _).trans_lt x.isLt)]

theorem sshiftRight_eq_ofInt (x : DWord) (n : Nat) : x.sshiftRight n = BitVec.ofInt 64 (x.toInt / 2 ^ n) := by
  rw [BitVec.sshiftRight, Int.shiftRight_eq_div_pow]
  rfl

theorem flag_decide (p : Prop) [Decidable p] : flag (decide p) = if p then 1 else 0 := by
  by_cases hp : p <;> simp [flag, hp]

/-- A smaller operand, and either of two equal ones. -/
theorem slt_else_eq {x y a b : DWord} (h : x = y → a = b) : (if x.slt y then a else b) = if x.toInt ≤ y.toInt then a else b := by
  simp only [BitVec.slt, decide_eq_true_eq]
  split_ifs with hlt hle hle
  · rfl
  · omega
  · exact (h (BitVec.eq_of_toInt_eq (by omega))).symm
  · rfl

/-- A shift by a sign-extended IMM takes IMM[5:0]. -/
theorem shAmt_immS (i : BitVec 12) : shAmt (immS i) = i.toNat % 64 := by
  rw [shAmt, immS, BitVec.toNat_signExtend, BitVec.toNat_setWidth]
  split <;> omega

theorem ofInt_add_immS (x : DWord) (i : BitVec 12) : BitVec.ofInt 64 (x.toInt + i.toInt) = x + immS i := by
  apply BitVec.eq_of_toInt_eq
  rw [BitVec.toInt_ofInt, BitVec.toInt_add, immS, BitVec.signExtend, BitVec.toInt_ofInt, Int.add_bmod_bmod]

/-- MOVKh replaces sixteen bits and keeps the others (06 R231). -/
theorem movk_bits (x : DWord) (m : BitVec 16) (n i : Nat) (hi : i < 64) :
    ((x &&& ~~~(0xFFFF#64 <<< n)) ||| (m.zeroExtend 64 <<< n)).getLsbD i =
      if n ≤ i ∧ i < n + 16 then m.getLsbD (i - n) else x.getLsbD i := by
  have hmask (j : Nat) : (0xFFFF#64).getLsbD j = decide (j < 16) := by
    rw [BitVec.getLsbD_ofNat, show 0xFFFF = 2 ^ 16 - 1 from rfl, Nat.testBit_two_pow_sub_one, ← Bool.decide_and]
    exact decide_eq_decide.mpr (by omega)
  simp only [BitVec.getLsbD_or, BitVec.getLsbD_and, BitVec.getLsbD_not, BitVec.getLsbD_shiftLeft, BitVec.getLsbD_setWidth, hmask, hi,
    decide_true, Bool.true_and]
  by_cases hn : i < n
  · simp [hn, Nat.not_le.mpr hn]
  · by_cases hl : i - n < 16
    · simp [hn, hl, show n ≤ i by omega, show i < n + 16 by omega, show i - n < 64 by omega]
    · simp [hn, hl, show ¬i < n + 16 by omega, BitVec.getLsbD_of_ge m (i - n) (by omega)]

/-! ## What they answer when they issue -/

section Issued

variable {s : State} {c : Site} {r : Run} {d a b : Reg}

theorem exec_scalarOps_of_issuing {e : (Site → Reg → Reg → Reg → Instr) × Nat × (DWord → DWord → DWord)} (he : e ∈ scalarOps)
    (h : s.issuing c r (encRR 0 e.2.1 d a b 0 0)) :
    exec (e.1 c d a b) s = .next (s.writeS c d (e.2.2 ((s.core c).seq.sreg a) ((s.core c).seq.sreg b))) := by
  have hexec {op : Nat} {f g : DWord → DWord → DWord} (h : s.issuing c r (encRR 0 op d a b 0 0)) (hfg : ∀ x y, f x y = g x y) :
      scalarRR op f c d a b s = s.writeS c d (g ((s.core c).seq.sreg a) ((s.core c).seq.sreg b)) := by
    rw [scalarRR, State.issueAt_of_issuing h, hfg]
  simp only [scalarOps, List.mem_cons, List.not_mem_nil, or_false] at he
  obtain rfl | rfl | rfl | rfl | rfl | rfl | rfl | rfl | rfl | rfl | rfl | rfl | rfl | rfl := he <;>
    refine congrArg Host.Outcome.next (hexec h fun x y => ?_)
  · exact (ofNat_add_toNat x y).symm
  · exact (ofInt_sub_toInt x y).symm
  · exact (ofNat_mul_toNat x y).symm
  · rfl
  · rfl
  · rfl
  · exact shiftLeft_eq_ofNat x _
  · exact ushiftRight_eq_ofNat x _
  · exact sshiftRight_eq_ofInt x _
  · exact flag_decide _
  · exact flag_decide _
  · exact (congrArg flag (beq_eq_decide x y)).trans (flag_decide _)
  · exact slt_else_eq fun h => h
  · exact slt_else_eq fun h => h.symm

theorem exec_immediateOps_of_issuing {e : (Site → Reg → Reg → BitVec 12 → Instr) × Nat × (DWord → BitVec 12 → DWord)}
    {imm : BitVec 12} (he : e ∈ immediateOps) (h : s.issuing c r (encRI 1 e.2.1 d a imm.toNat)) :
    exec (e.1 c d a imm) s = .next (s.writeS c d (e.2.2 ((s.core c).seq.sreg a) imm)) := by
  have hexec {op : Nat} {f : DWord → DWord → DWord} {g : DWord → BitVec 12 → DWord} (h : s.issuing c r (encRI 1 op d a imm.toNat))
      (hfg : ∀ x, f x (immS imm) = g x imm) : scalarRI op f c d a imm s = s.writeS c d (g ((s.core c).seq.sreg a) imm) := by
    rw [scalarRI, State.issueAt_of_issuing h, hfg]
  simp only [immediateOps, List.mem_cons, List.not_mem_nil, or_false] at he
  obtain rfl | rfl | rfl | rfl | rfl | rfl | rfl := he <;> refine congrArg Host.Outcome.next (hexec h fun x => ?_)
  · exact (ofInt_add_immS x imm).symm
  · rfl
  · rfl
  · rfl
  · rw [shAmt_immS, shiftLeft_eq_ofNat]
  · rw [shAmt_immS, ushiftRight_eq_ofNat]
  · rw [shAmt_immS, sshiftRight_eq_ofInt]

theorem exec_movkOps_of_issuing {e : (Site → Reg → BitVec 16 → Instr) × Nat} {imm : BitVec 16} (he : e ∈ movkOps)
    (h : s.issuing c r (encMK (0x10 + e.2) d imm.toNat)) :
    exec (e.1 c d imm) s = .next (s.writeS c d
      (((s.core c).seq.sreg d &&& ~~~(0xFFFF#64 <<< (16 * e.2))) ||| (imm.zeroExtend 64 <<< (16 * e.2)))) := by
  simp only [movkOps, List.mem_cons, List.not_mem_nil, or_false] at he
  obtain rfl | rfl | rfl | rfl := he <;> exact congrArg Host.Outcome.next (State.issueAt_of_issuing h _)

theorem exec_mfsr_of_issuing {imm : BitVec 12} (hi : imm.toNat ≤ 8) (h : s.issuing c r (encRI 2 0x06 d 0 imm.toNat)) :
    exec (.mfsr c d imm) s = .next (s.writeS c d (specialReg s c (s.core c) r imm.toNat)) :=
  congrArg Host.Outcome.next ((State.issueAt_of_issuing h _).trans (if_neg (Nat.not_lt.mpr hi)))

end Issued

/-- Settles O4: each form answers with one write of s(D). -/
theorem scalarRegistersAndImmediates : Obligations.ScalarRegistersAndImmediates := by
  unfold Obligations.ScalarRegistersAndImmediates
  refine ⟨fun e he s c r d a b h => ?registers, fun e he s c r d a imm h => ?immediates, fun e he s c r d imm h => ?movk,
    fun s c r d imm hi h => ?mfsr⟩
  case registers => exact ⟨_, exec_scalarOps_of_issuing he h, s.writeS_only c d _⟩
  case immediates => exact ⟨_, exec_immediateOps_of_issuing he h, s.writeS_only c d _⟩
  case movk => exact ⟨_, _, exec_movkOps_of_issuing he h, s.writeS_only c d _, fun i hi => movk_bits _ imm _ i hi⟩
  case mfsr =>
    refine ⟨_, exec_mfsr_of_issuing hi h, ?_⟩
    generalize imm.toNat = n at hi
    have hreg := s.writeS_only c d (specialReg s c (s.core c) r n)
    interval_cases n <;> exact hreg

/-! ## Control -/

/-- A jump to a target that 06 R230 admits changes PC alone. -/
theorem State.jump_eq {s : State} {x : SeqState} {t : BitVec 14} (c : Nat) (h : goodTarget x t) :
    s.jump c x t = s.putCore c { s.core c with seq := { x with pc := t } } :=
  if_neg fun hbad => hbad.2 (h hbad.1)

theorem State.putCore_only (s : State) (c : Nat) (x : Core) : OnlyCore s (s.putCore c x) c x :=
  ⟨State.core_putCore_same _ _ _, fun _ h => State.core_putCore_ne _ _ _ _ h, rfl, fun a => State.byte_congr _ _ a rfl rfl⟩

theorem exec_branchOps_of_issuing {e : (Site → Reg → BitVec 14 → Instr) × Nat × (DWord → Prop)} {s : State} {c : Site} {r : Run}
    {a : Reg} {t : BitVec 14} (he : e ∈ branchOps) (h : s.issuing c r (encCT e.2.1 a t.toNat)) :
    ∃ cond : DWord → Bool, (∀ x, cond x = true ↔ e.2.2 x) ∧ exec (e.1 c a t) s =
      .next (if cond ((s.core c).seq.sreg a) then s.jump c (s.core c).seq t else s.seqTo c (s.core c).seq) := by
  simp only [branchOps, List.mem_cons, List.not_mem_nil, or_false] at he
  obtain rfl | rfl | rfl := he
  · exact ⟨fun x => x == 0, fun x => beq_iff_eq, congrArg Host.Outcome.next (State.issueAt_of_issuing h _)⟩
  · exact ⟨fun x => x != 0, fun x => bne_iff_ne, congrArg Host.Outcome.next (State.issueAt_of_issuing h _)⟩
  · exact ⟨fun x => x.slt 0, fun x => decide_eq_true_iff, congrArg Host.Outcome.next (State.issueAt_of_issuing h _)⟩

/-- CALL's link is PC + 1, counted modulo 2^14 (log 73). -/
theorem link_eq (pc : BitVec 14) : (pc + 1).zeroExtend 64 = BitVec.ofNat 64 ((pc.toNat + 1) % 16384) := by
  apply BitVec.eq_of_toNat_eq
  rw [BitVec.toNat_setWidth, BitVec.toNat_add, BitVec.toNat_ofNat]
  rfl

/-- Settles O5: a jump to an admitted target writes PC, and CALL writes s31 before it; PC counts modulo 2^14 (log 73). -/
theorem controlInstructions : Obligations.ControlInstructions := by
  unfold Obligations.ControlInstructions
  refine fun s c r => ⟨fun t ht h => ?br, fun e he a t ht h => ?branch, fun t ht h => ?call, fun a ht h => ?ret, fun h => ?nop⟩
  case br => exact ⟨_, congrArg Host.Outcome.next ((State.issueAt_of_issuing h _).trans (State.jump_eq c ht)), s.putCore_only c _⟩
  case branch =>
    obtain ⟨cond, hcond, hexec⟩ := exec_branchOps_of_issuing he h
    refine ⟨_, hexec, fun hc => ?_, fun hc => ?_⟩
    · rw [if_pos ((hcond _).mpr hc), State.jump_eq c ht]
      exact s.putCore_only c _
    · rw [if_neg fun h => hc ((hcond _).mp h)]
      exact s.seqTo_only c _
  case call =>
    refine ⟨_, congrArg Host.Outcome.next ((State.issueAt_of_issuing h _).trans (State.jump_eq c ht)), ?_⟩
    rw [SeqState.setS, link_eq]
    exact s.putCore_only c _
  case ret => exact ⟨_, congrArg Host.Outcome.next ((State.issueAt_of_issuing h _).trans (State.jump_eq c ht)), s.putCore_only c _⟩
  case nop => exact ⟨_, congrArg Host.Outcome.next (State.issueAt_of_issuing h _), s.seqTo_only c _⟩

end Sys2Proof.Machine
end

section
/-!
PROOFS. Scalar loads and stores of core memory, and what a write leaves of cores and of the module (06 R231, R252, R253).
-/
namespace Sys2Proof.Machine

open Sys2Proof.Claims

/-! ## What a write leaves -/

/-- `t` differs from `s` in memory, queues, cores and the Tally alone. -/
structure MemoryOnly (s t : State) : Prop where
  takeLast : t.takeLast = s.takeLast
  turns : t.turns = s.turns
  sync : t.sync = s.sync
  fab : t.fab = s.fab
  ke : t.ke = s.ke
  betas : t.betas = s.betas
  fault : t.fault = s.fault
  power : t.power = s.power
  start : t.start = s.start
  sec : t.sec = s.sec
  fwu : t.fwu = s.fwu
  pins : t.pins = s.pins
  pending : t.pending = s.pending
  sent : t.sent = s.sent
  freeCount : t.freeCount = s.freeCount

theorem MemoryOnly.refl (s : State) : MemoryOnly s s := by constructor <;> rfl

theorem MemoryOnly.trans {s t u : State} (h : MemoryOnly s t) (g : MemoryOnly t u) : MemoryOnly s u where
  takeLast := g.takeLast.trans h.takeLast
  turns := g.turns.trans h.turns
  sync := g.sync.trans h.sync
  fab := g.fab.trans h.fab
  ke := g.ke.trans h.ke
  betas := g.betas.trans h.betas
  fault := g.fault.trans h.fault
  power := g.power.trans h.power
  start := g.start.trans h.start
  sec := g.sec.trans h.sec
  fwu := g.fwu.trans h.fwu
  pins := g.pins.trans h.pins
  pending := g.pending.trans h.pending
  sent := g.sent.trans h.sent
  freeCount := g.freeCount.trans h.freeCount

theorem State.invalidateAt_memoryOnly (s : State) (line h : Nat) : MemoryOnly s (s.invalidateAt line h) := by
  unfold State.invalidateAt
  dsimp only
  split <;> constructor <;> rfl

theorem State.invalidate_memoryOnly (s : State) (line : Nat) : MemoryOnly s (s.invalidate line) := by
  unfold State.invalidate
  exact foldl_keeps (P := MemoryOnly s) _ (fun t h g => g.trans (t.invalidateAt_memoryOnly line h)) _ _ (.refl s)

theorem State.dropRunner_memoryOnly (s : State) (site lo hi : Nat) : MemoryOnly s (s.dropRunner site lo hi) := by
  unfold State.dropRunner
  dsimp only
  split <;> constructor <;> rfl

theorem State.writeLine_memoryOnly (s : State) (a : Nat) (bs : List Byte) : MemoryOnly s (s.writeLine a bs) := by
  unfold State.writeLine
  extract_lets l f m t
  have ht : MemoryOnly s t := by constructor <;> rfl
  split
  · exact ht.trans (t.dropRunner_memoryOnly _ _ _)
  · exact ht.trans (t.invalidate_memoryOnly _)

theorem State.write_memoryOnly (s : State) (a : Nat) (bs : List Byte) : MemoryOnly s (s.write a bs) :=
  foldl_keeps (P := MemoryOnly s) _ (fun t p g => g.trans (t.writeLine_memoryOnly p.1 p.2)) _ _ (.refl s)

/-! ## The cores after a write -/

theorem State.region_congr {s t : State} (h : t.start = s.start) (a : Nat) : t.region a = s.region a := by
  unfold State.region State.siteState State.lcoreOf State.siteOf
  rw [h]

theorem State.invalidate_cores (s : State) (line : Nat) : (s.invalidate line).cores = s.cores :=
  foldl_keeps (P := fun t : State => t.cores = s.cores) _ (fun t n h => by
    unfold State.invalidateAt
    dsimp only
    split <;> exact h) _ _ rfl

/-- Of a core a write drops the runner rows that the feeder holds (04 R172). -/
theorem State.dropRunner_core (s : State) (site lo hi x : Nat) :
    ∃ l, (s.dropRunner site lo hi).core x = { s.core x with arr := { (s.core x).arr with rLatch := l } } := by
  unfold State.dropRunner
  dsimp only
  split
  · exact ⟨_, rfl⟩
  · rw [State.core_putCore]
    split
    · next h =>
      subst h
      exact ⟨_, rfl⟩
    · exact ⟨_, rfl⟩

theorem State.dropRunner_core_ne (s : State) {site x : Nat} (h : x ≠ site) (lo hi : Nat) :
    (s.dropRunner site lo hi).core x = s.core x := by
  unfold State.dropRunner
  dsimp only
  split
  · rfl
  · exact State.core_putCore_ne _ _ _ _ h

theorem State.writeLine_core (s : State) (a : Nat) (bs : List Byte) (x : Nat) :
    ∃ l, (s.writeLine a bs).core x = { s.core x with arr := { (s.core x).arr with rLatch := l } } := by
  unfold State.writeLine
  extract_lets l f m t
  split
  · exact t.dropRunner_core _ _ _ x
  · exact ⟨_, congrArg (fun y => tget Core.reset y x) (t.invalidate_cores _)⟩

theorem State.writeLine_core_ne (s : State) {a x : Nat} (bs : List Byte) (h : s.region a ≠ .core x) :
    (s.writeLine a bs).core x = s.core x := by
  unfold State.writeLine
  extract_lets l f m t
  split
  · next site hs => exact t.dropRunner_core_ne (fun hx => h (hs.trans (congrArg Region.core hx.symm))) _ _
  · exact congrArg (fun y => tget Core.reset y x) (t.invalidate_cores _)

theorem State.write_core (s : State) (a : Nat) (bs : List Byte) (x : Nat) :
    ∃ l, (s.write a bs).core x = { s.core x with arr := { (s.core x).arr with rLatch := l } } :=
  foldl_keeps (P := fun t : State => ∃ l, t.core x = { s.core x with arr := { (s.core x).arr with rLatch := l } }) _
    (fun t p ⟨l, h⟩ => by
      obtain ⟨l', h'⟩ := t.writeLine_core p.1 p.2 x
      exact ⟨l', by rw [h', h]⟩) _ _ ⟨_, rfl⟩

/-- The pieces of a write lie within it. -/
theorem cutLines_bounds {n a : Nat} {bs : List Byte} {p : Nat × List Byte} (h : p ∈ cutLines n a bs) :
    a ≤ p.1 ∧ p.1 < a + bs.length := by
  induction n generalizing a bs with
  | zero => exact absurd h List.not_mem_nil
  | succ n ih =>
    rw [cutLines] at h
    split at h
    · exact absurd h List.not_mem_nil
    · next hne =>
      have hpos := List.length_pos_iff.mpr hne
      obtain rfl | h := List.mem_cons.mp h
      · exact ⟨le_refl a, by dsimp only; omega⟩
      · have := ih h
        rw [List.length_drop] at this
        omega

/-- A write to addresses that are no core memory of a site leaves that site's core. -/
theorem State.write_core_ne (s : State) {a x : Nat} {bs : List Byte}
    (h : ∀ b, a ≤ b → b < a + bs.length → s.region b ≠ .core x) : (s.write a bs).core x = s.core x := by
  unfold State.write
  have hin : ∀ p ∈ cutLines bs.length a bs, s.region p.1 ≠ .core x := fun p hp => h p.1 (cutLines_bounds hp).1 (cutLines_bounds hp).2
  generalize cutLines bs.length a bs = l at hin
  suffices ∀ t : State, t.start = s.start → t.core x = s.core x →
      (l.foldl (fun t p => t.writeLine p.1 p.2) t).core x = s.core x from this s rfl rfl
  induction l with
  | nil => exact fun t _ ht => ht
  | cons p l ih =>
    intro t hs ht
    refine ih (fun q hq => hin q (List.mem_cons_of_mem _ hq)) _ ((t.writeLine_start _ _).trans hs) ?_
    rw [t.writeLine_core_ne p.2 (by rw [State.region_congr hs]; exact hin p List.mem_cons_self), ht]

/-! ## Core memory -/

/-- An active site's core memory is its own (07 R268). -/
theorem State.region_coreAddr {s : State} {c off : Nat} (hc : c < 1536) (hs : s.siteState c = 0) (ho : off < 0x180000) :
    s.region (coreAddr c off) = .core c := by
  have hsite : (coreAddr c off - coreBase) / 0x200000 = c := by simp only [coreAddr, coreBase]; omega
  have hoff : (coreAddr c off - coreBase) % 0x200000 = off := by simp only [coreAddr, coreBase]; omega
  rw [State.region, if_neg (by simp only [coreAddr, coreBase, hbmTop]; omega), if_pos (by simp only [coreAddr, coreBase, coreTop]; omega)]
  simp only [hsite, hoff, coreBytes]
  rw [if_pos ⟨ho, hs⟩]

/-- A write of a core's memory leaves every other core, and of this one all but the feeder's rows. -/
theorem State.write_coreMemory {s : State} {c off : Nat} {bs : List Byte} (hc : c < 1536) (hs : s.siteState c = 0)
    (ho : off + bs.length ≤ 0x180000) {x : Nat} (hx : x ≠ c) : (s.write (coreAddr c off) bs).core x = s.core x := by
  refine s.write_core_ne fun b hl hh => ?_
  have hb : b = coreAddr c (b - coreAddr c 0) := by simp only [coreAddr] at *; omega
  rw [hb, State.region_coreAddr hc hs (by simp only [coreAddr] at *; omega)]
  exact fun h => hx (Region.core.inj h).symm

/-! ## Checks that pass -/

/-- An aligned access of one line inside the extent that no slot holds passes when the line reads clean (06 R252, R253). -/
theorem State.coreCheck_eq_ok {s : State} {c : Site} {r : Run} {m n align : Nat} {write : Bool} (ha : m % align = 0)
    (he : m + n ≤ 64 * r.extent) (hw : (s.core c).waits m (m + n) write = false)
    (hu : ∀ l ∈ accessReads (coreAddr c m) n write, s.isUe l = false) : s.coreCheck c r m n align write = .ok := by
  rw [State.coreCheck, if_neg (not_not.mpr ha), if_neg (by omega), if_neg (by simp [hw]), List.find?_eq_none.mpr (by simpa using hu)]

theorem isUe_congr_line {s : State} {a b : Nat} (h : a / 64 = b / 64) : s.isUe a = s.isUe b := by
  rw [State.isUe, State.isUe, lineOf, lineOf, h]

/-- What an aligned access of 4 or 8 bytes reads lies in its own line. -/
theorem accessReads_line {c : Site} {m n : Nat} {write : Bool} (hn : n = 4 ∨ n = 8) (hm : m % n = 0) {l : Nat}
    (hl : l ∈ accessReads (coreAddr c m) n write) : l / 64 = coreAddr c m / 64 := by
  have hc : coreAddr c m % 8 = m % 8 ∧ coreAddr c m % 64 = m % 64 := by simp only [coreAddr, coreBase]; omega
  cases write with
  | false =>
    have hsame : (coreAddr c m + n - 1) / 64 = coreAddr c m / 64 := by obtain rfl | rfl := hn <;> omega
    have hne : n ≠ 0 := by omega
    simp only [accessReads, Bool.not_false, if_true, linesOf, hne, if_false, List.mem_map, List.mem_range, hsame] at hl
    obtain ⟨i, hi, rfl⟩ := hl
    omega
  | true =>
    simp only [accessReads, lineOf, Bool.not_true, Bool.false_eq_true, if_false, List.mem_append, List.mem_ite_nil_left,
      List.mem_singleton] at hl
    obtain rfl | rfl := hn <;> omega

/-! ## Loads and stores -/

theorem memOperand_eq (k : Core) (a : Reg) (n : Nat) (imm : BitVec 12) :
    memOperand k a n imm = (k.seq.sreg a + BitVec.ofNat 64 n * imm.signExtend 64).toNat := rfl

/-- The low bytes of a register, little byte first. -/
theorem natLe_eq_map (n : Nat) (x : Nat) : natLe n x = (List.range n).map fun i => BitVec.ofNat 8 (x / 2 ^ (8 * i)) := by
  induction n generalizing x with
  | zero => rfl
  | succ n ih =>
    rw [natLe, ih, List.range_succ_eq_map, List.map_cons, List.map_map]
    refine congrArg₂ _ (by simp) (List.map_congr_left fun i _ => ?_)
    rw [Function.comp_apply, Nat.div_div_eq_div_mul, Nat.mul_succ, Nat.pow_add, Nat.mul_comm]

theorem natLe_toNat {w : Nat} (n : Nat) (v : BitVec w) : natLe n v.toNat = (List.range n).map fun i => v.extractLsb' (8 * i) 8 := by
  rw [natLe_eq_map]
  refine List.map_congr_left fun i _ => ?_
  rw [BitVec.extractLsb', Nat.shiftRight_eq_div_pow]

theorem natLe_length (n x : Nat) : (natLe n x).length = n := by rw [natLe_eq_map, List.length_map, List.length_range]

/-- A store of a core's memory writes its bytes, moves its PC on, and leaves every other core. -/
theorem State.store_seqTo {s : State} {c : Site} {off : Nat} {bs : List Byte} (x : SeqState) (hs : s.siteState c = 0)
    (ho : off + bs.length ≤ 0x180000) :
    Stored s ((s.write (coreAddr c off) bs).seqTo c x) (coreAddr c off) bs ∧
      (((s.write (coreAddr c off) bs).seqTo c x).core c).seq = x.next ∧
      (((s.write (coreAddr c off) bs).seqTo c x).core c).tile = (s.core c).tile ∧
      ∀ y, y ≠ c.val → ((s.write (coreAddr c off) bs).seqTo c x).core y = s.core y := by
  have hbyte (b : Nat) : ((s.write (coreAddr c off) bs).seqTo c x).byte b = (s.write (coreAddr c off) bs).byte b :=
    State.byte_congr _ _ b rfl rfl
  obtain ⟨hin, hout⟩ := readsAfterWrites s (coreAddr c off) bs
  obtain ⟨l, hl⟩ := s.write_core (coreAddr c off) bs c
  refine ⟨⟨fun i hi => (hbyte _).trans (hin i hi), fun b hb => (hbyte _).trans (hout b hb)⟩, ?_, ?_, fun y hy => ?_⟩
  · rw [State.seqTo, State.core_putCore_same]
  · rw [State.seqTo, State.core_putCore_same, hl]
  · rw [State.seqTo, State.core_putCore_ne _ _ _ _ hy, State.write_coreMemory c.isLt hs ho hy]

/-- Settles O6: an aligned operand lies in one line, which reads clean; the write of memory gives the store its bytes. -/
theorem scalarMemory : Obligations.ScalarMemory := by
  unfold Obligations.ScalarMemory
  have width {α : Type} {f g : α} {i j : Nat} {e : α × Nat × Nat} (he : e ∈ [(f, i, 8), (g, j, 4)]) : e.2.2 = 4 ∨ e.2.2 = 8 := by
    simp only [List.mem_cons, List.not_mem_nil, or_false] at he
    obtain rfl | rfl := he <;> simp
  refine ⟨fun e he s c r d a imm h => ?loads, fun e he s c r d a imm hs hext h => ?stores⟩
  case loads =>
    intro m hm hmax hw hu
    have hexec : exec (e.1 c d a imm) s = .next (loadN e.2.1 e.2.2 c d a imm s) := by
      simp only [List.mem_cons, List.not_mem_nil, or_false] at he
      obtain rfl | rfl := he <;> rfl
    have hok := State.coreCheck_eq_ok (write := false) hm hmax hw fun l hl =>
      (isUe_congr_line (accessReads_line (width he) hm hl)).trans hu
    rw [hexec, loadN, State.issueAt_of_issuing h]
    simp only [memOperand_eq]
    rw [hok]
    exact ⟨_, rfl, s.writeS_only c d _⟩
  case stores =>
    intro m hm hmax hw hu
    have hexec : exec (e.1 c d a imm) s = .next (storeN e.2.1 e.2.2 c d a imm s) := by
      simp only [List.mem_cons, List.not_mem_nil, or_false] at he
      obtain rfl | rfl := he <;> rfl
    have hok := State.coreCheck_eq_ok (write := true) hm hmax hw fun l hl =>
      (isUe_congr_line (accessReads_line (width he) hm hl)).trans hu
    rw [hexec, storeN, State.issueAt_of_issuing h]
    simp only [memOperand_eq]
    rw [hok, natLe_toNat]
    exact ⟨_, rfl, State.store_seqTo (s.core c).seq hs (by rw [List.length_map, List.length_range]; omega)⟩

end Sys2Proof.Machine
end

section
/-!
PROOFS. VGATHER at an extent beyond any core memory (06 R231, R239).
-/
namespace Sys2Proof.Machine

open Sys2Proof.Claims

/-- A run of a program with an extent that is far beyond a core memory, which no item gives. -/
def farRun : Run :=
  { q := 0, k := 0, ctx := 0, extent := 2 ^ 60, job := true, inst := 0, count := 1, vflags := false, seed := 0, trap := false, tag := 0,
    image := 0, ilen := 0 }

/-- A core whose next word is VGATHER v1, s2, v3 under p0, with s2 eight bytes below 2^64. -/
def farSeq : SeqState :=
  { SeqState.reset with phase := .running, run := some farRun, imem := [(0, encRR 5 0x02 1 2 3 0 0)]
                        s := vset SeqState.reset.s 2 (BitVec.ofNat 64 (2 ^ 64 - 8)) }

/-- That core on site 0, and a byte of 1 eight bytes below the core memories. -/
def farState : State :=
  (State.reset.putCore 0 { Core.reset with seq := farSeq }).setMem { MemSt.reset with cells := [(2 ^ 40 - 8, 1)] }

theorem farState_issuing : farState.issuing (0 : Site) farRun (encRR 5 0x02 1 2 3 0 0) := by
  constructor <;> decide

/-- Every lane of VGATHER names the word eight bytes below 2^64. -/
theorem farState_laneAddr (l : Nat) : laneAddr (farState.core (0 : Site)) 2 3 l = 2 ^ 64 - 8 := by
  have hzero : lane ((farState.core (0 : Site)).seq.vreg 3) l = 0 := by
    rw [show (farState.core (0 : Site)).seq.vreg 3 = Vector.replicate 64 0 from rfl, lane, vget, Vector.getElem?_replicate]
    split <;> rfl
  have hbase : (farState.core (0 : Site)).seq.sreg 2 = BitVec.ofNat 64 (2 ^ 64 - 8) := rfl
  rw [laneAddr, show ((3 : Reg) : Nat) = 3 from rfl, hzero]
  decide

theorem farState_check : lanesCheck farState (0 : Site) (farState.core (0 : Site)) farRun 2 3 0 false = .ok := by
  have hlane (l : Nat) : farState.coreCheck (0 : Site) farRun (laneAddr (farState.core (0 : Site)) 2 3 l) 4 4 false = .ok := by
    rw [farState_laneAddr]
    exact State.coreCheck_eq_ok (by decide) (by decide) (by decide) fun l _ => rfl
  rw [lanesCheck, if_neg (by decide), List.find?_eq_none.mpr]
  · rfl
  · exact fun m hm => by
      obtain ⟨l, -, rfl⟩ := List.mem_map.mp hm
      simpa using hlane l

/-- What VGATHER puts in lane 0 is the word at its address, which reads 0. -/
theorem farState_gathers : exec (.vgather 0 1 2 3 0) farState =
    .next (farState.writeV (0 : Site) (1 : Reg) ((farState.core (0 : Site)).seq.lanes (1 : Reg) (0 : PReg) fun l =>
      BitVec.ofNat 32 (farState.num (coreAddr (0 : Site) (laneAddr (farState.core (0 : Site)) 2 3 l)) 4))) := by
  refine congrArg Host.Outcome.next ((State.issueAt_of_issuing farState_issuing _).trans ?_)
  rw [farState_check]
  rfl

theorem farState_far : farState.num (coreAddr 0 (2 ^ 64 - 8)) 4 = 0 := rfl
theorem farState_near : farState.num (coreAddr 0 (2 ^ 64 - 8) % 2 ^ 64) 4 = 1 := rfl

theorem SeqState.wroteV_inj {x : SeqState} {d : Nat} {v w : Vector Word 64} (hd : d < 32) (h : x.wroteV d v = x.wroteV d w) : v = w := by
  have hreg := congrArg (fun y : SeqState => y.vreg d) h
  have hput (u : Vector Word 64) : (x.wroteV d u).vreg d = u := (x.vreg_setV d d u hd).trans (if_pos rfl)
  exact (hput v).symm.trans (hreg.trans (hput w))

@[simp] theorem lane_ofFn (f : Fin 64 → Word) (l : Fin 64) : lane (Vector.ofFn f) l = f l := by simp [lane, vget]

/-- Under p0 lane 0 is active. -/
theorem lanes_p0_inj {x : SeqState} {d : Nat} {f g : Nat → Word} (h : x.lanes d 0 f = underPredicate x d 0 g) : f 0 = g 0 := by
  have hlane := congrArg (fun v => lane v (0 : Fin 64)) h
  rw [SeqState.lanes, underPredicate] at hlane
  rw [lane_ofFn, lane_ofFn, SeqState.preg_zero, if_pos rfl, if_pos rfl, if_pos (by decide)] at hlane
  exact hlane

/-- Refutes O7: its address of a lane of VGATHER takes the whole sum modulo 2^64, core memory's base included, where the instruction
takes s(A) + 4 v(B)[l] alone. With an extent that reaches that far the two name different bytes. -/
theorem not_vectorMemory : ¬ Obligations.VectorMemory := by
  unfold Obligations.VectorMemory
  intro h
  obtain ⟨t, ht, ⟨hcore, -⟩⟩ := h.1.2 farState 0 farRun 1 2 3 0 farState_issuing farState_check
  obtain rfl := Host.Outcome.next.inj (farState_gathers.symm.trans ht)
  have hseq := congrArg Core.seq ((farState.writeV_only _ _ _).1.symm.trans hcore)
  have hlane := lanes_p0_inj (SeqState.wroteV_inj (by decide) hseq)
  rw [farState_laneAddr] at hlane
  have hword := (congrArg (BitVec.ofNat 32) farState_far).symm.trans (hlane.trans (congrArg (BitVec.ofNat 32) farState_near))
  exact absurd hword (by decide)

end Sys2Proof.Machine
end

section
/-!
PROOFS. Vector instructions: lanes under a predicate, floating results and estimates with their flags, comparisons, integers,
predicates and masks (02 R91, 05 R208, 06 R223, R231 to R236).
-/
namespace Sys2Proof.Machine

open Sys2Proof.Claims

/-! ## Lanes and operands -/

theorem SeqState.lanes_eq (x : SeqState) (d p : Nat) (f : Nat → Word) : x.lanes d p f = underPredicate x d p f := by
  unfold SeqState.lanes underPredicate
  refine congrArg Vector.ofFn (funext fun l => ?_)
  by_cases hp : p = 0
  · subst hp
    rw [SeqState.preg_zero, BitVec.getLsbD_allOnes, if_pos (decide_eq_true l.isLt), if_pos (if_pos rfl)]
  · rw [SeqState.preg, if_neg hp, if_neg hp]

theorem lane_bvec (x : SeqState) (b : Nat) (sb : Bool) (l : Nat) : lane (x.bvec b sb) l = operandB x b sb l := by
  cases sb with
  | false => rfl
  | true =>
    simp only [operandB, SeqState.bvec, if_true, lane, vget, Vector.getElem?_replicate]
    split <;> rfl

/-- A floating instruction writes its lanes and raises its flags, and nothing else changes. -/
theorem State.writeVF_only (s : State) (c : Nat) (r : Run) (d p : Nat) (f : Nat → Word) (fl : Nat → Flags) :
    OnlyCore s (s.writeVF c r d p f fl) c
      { s.core c with seq := (s.core c).seq.wroteV d (underPredicate (s.core c).seq d p f)
                      tile := { (s.core c).tile with flags := (s.core c).tile.flags.or (vecFlags (s.core c).seq r p fl) } } := by
  rw [← SeqState.lanes_eq]
  exact s.putCore_only c _

/-- Settles O8: every form answers with one write of lanes and flags. -/
theorem vectorFloats : Obligations.VectorFloats := by
  unfold Obligations.VectorFloats
  refine ⟨fun e he s c r d a b p sb h => ?floats, fun e he s c r d a p h => ?estimates⟩
  case floats =>
    have hexec : exec (e.1 c d a b p sb) s = .next (vecF e.2.1 e.2.2.1 e.2.2.2.1 e.2.2.2.2 c d a b p sb s) := by
      simp only [floatOps, List.mem_cons, List.not_mem_nil, or_false] at he
      obtain rfl | rfl | rfl | rfl | rfl | rfl | rfl | rfl := he <;> rfl
    rw [hexec, vecF, State.issueAt_of_issuing (w := encV e.2.1 d a b p sb) h]
    simp only [lane_bvec]
    exact ⟨_, rfl, s.writeVF_only c r d p _ _⟩
  case estimates =>
    have hexec : exec (e.1 c d a p) s = .next (vecE e.2.1 e.2.2 c d a p s) := by
      simp only [estimateOps, List.mem_cons, List.not_mem_nil, or_false] at he
      obtain rfl | rfl | rfl | rfl := he <;> rfl
    rw [hexec, vecE, State.issueAt_of_issuing (w := encV e.2.1 d a 0 p false) h]
    exact ⟨_, rfl, s.writeVF_only c r d p _ _⟩

/-! ## Masks -/

/-- The sum of the lanes' bits has just those bits. -/
theorem sum_bits_testBit (f : Nat → Bool) (n i : Nat) :
    (((List.range n).map fun l => if f l then 2 ^ l else 0).sum).testBit i = (decide (i < n) && f i) := by
  induction n generalizing i with
  | zero => simp
  | succ n ih =>
    have hlow : ((List.range n).map fun l => if f l then 2 ^ l else 0).sum < 2 ^ n :=
      Nat.lt_pow_two_of_testBit _ fun i hi => by rw [ih, decide_eq_false (by omega), Bool.false_and]
    rw [List.range_succ, List.map_append, List.sum_append, List.map_singleton, List.sum_singleton]
    by_cases hin : i = n
    · subst hin
      split
      · next hf => rw [Nat.add_comm, Nat.testBit_two_pow_add_eq, ih]; simp [hf]
      · next hf => rw [Nat.add_zero, ih]; simp [hf]
    · have hor (b : Bool) : (((List.range n).map fun l => if f l then 2 ^ l else 0).sum + if b then 2 ^ n else 0).testBit i =
          (decide (i < n) && f i) := by
        cases b with
        | false => exact ih i
        | true =>
          have hadd := Nat.two_pow_add_eq_or_of_lt hlow 1
          rw [Nat.mul_one] at hadd
          rw [if_pos rfl, Nat.add_comm, hadd, Nat.testBit_or, Nat.testBit_two_pow_of_ne (Ne.symm hin), Bool.false_or, ih]
      rw [hor, decide_eq_decide.mpr (by omega : i < n ↔ i < n + 1)]

/-- Bit `l` of a mask says what holds on lane `l`. -/
theorem maskOf_getLsbD (f : Nat → Bool) {l : Nat} (hl : l < 64) : (maskOf f).getLsbD l = f l := by
  rw [maskOf, BitVec.getLsbD_ofNat, sum_bits_testBit]
  simp [hl]

/-- Lists of one length joined are one list, by quotient and remainder. -/
theorem flatten_map_range {α : Type} (n : Nat) {k : Nat} (hk : 0 < k) (g : Nat → Nat → α) :
    ((List.range n).map fun i => (List.range k).map (g i)).flatten = (List.range (n * k)).map fun j => g (j / k) (j % k) := by
  induction n with
  | zero => simp
  | succ n ih =>
    rw [List.range_succ, List.map_append, List.flatten_append, ih, Nat.succ_mul, List.range_add, List.map_append, List.map_map]
    refine congrArg₂ _ rfl ?_
    simp only [List.map_singleton, List.flatten_singleton]
    refine List.map_congr_left fun j hj => ?_
    have hj := List.mem_range.mp hj
    rw [Function.comp_apply, Nat.mul_comm, Nat.mul_add_div hk, Nat.mul_add_mod, Nat.div_eq_of_lt hj, Nat.mod_eq_of_lt hj, Nat.add_zero]

/-- Bit `i` of the number that bytes spell is bit `i mod 8` of byte `i / 8`. -/
theorem leNat_testBit (bs : List Byte) (i : Nat) : (leNat bs).testBit i = (bs.getD (i / 8) 0).getLsbD (i % 8) := by
  induction bs generalizing i with
  | nil => simp [leNat]
  | cons b bs ih =>
    have hadd := Nat.two_pow_add_eq_or_of_lt b.isLt (leNat bs)
    rw [leNat, Nat.add_comm, show 256 = 2 ^ 8 from rfl, hadd, Nat.testBit_or, Nat.testBit_two_pow_mul]
    by_cases hi : i < 8
    · simp only [Nat.not_le.mpr hi, Nat.div_eq_of_lt hi, Nat.mod_eq_of_lt hi, decide_false, Bool.false_and, Bool.false_or,
        List.getD_cons_zero, BitVec.testBit_toNat]
    · obtain ⟨j, rfl⟩ : ∃ j, i = j + 8 := ⟨i - 8, by omega⟩
      rw [Nat.add_sub_cancel, ih, Nat.add_div_right _ (by decide), Nat.add_mod_right, List.getD_cons_succ,
        BitVec.testBit_toNat, BitVec.getLsbD_of_ge b _ (by omega)]
      simp

/-- The lanes of a mask register, little byte first. -/
theorem laneMask_getLsbD (v : Vector Word 64) {i : Nat} (hi : i < 256) : (laneMask v).getLsbD i = (lane v (i / 32)).getLsbD (i % 32) := by
  have hbytes : ((List.range 8).map fun i => natLe 4 (lane v i).toNat).flatten =
      (List.range 32).map fun j => (lane v (j / 4)).extractLsb' (8 * (j % 4)) 8 := by
    simp only [natLe_toNat]
    exact flatten_map_range 8 (by decide) fun i j => (lane v i).extractLsb' (8 * j) 8
  have hbyte : ((List.range 32).map fun j => (lane v (j / 4)).extractLsb' (8 * (j % 4)) 8).getD (i / 8) 0 =
      (lane v (i / 8 / 4)).extractLsb' (8 * (i / 8 % 4)) 8 := by
    simp [List.getD_eq_getElem?_getD, show i / 8 < 32 by omega]
  rw [laneMask, hbytes, BitVec.getLsbD_ofNat, leNat_testBit, hbyte, BitVec.getLsbD_extractLsb', Nat.div_div_eq_div_mul]
  simp only [hi, show i % 8 < 8 by omega, show 8 * (i / 8 % 4) + i % 8 = i % 32 by omega, decide_true, Bool.true_and]

/-! ## What the integer, predicate and mask instructions answer -/

theorem exec_integerOps {e : (Site → Reg → Reg → Reg → PReg → Bool → Instr) × Nat × (Word → Word → Word)} (he : e ∈ integerOps)
    (s : State) (c : Site) (d a b : Reg) (p : PReg) (sb : Bool) :
    exec (e.1 c d a b p sb) s = .next (vecI e.2.1 e.2.2 c d a b p sb s) := by
  have hfun {op : Nat} {f g : Word → Word → Word} (h : ∀ x y, f x y = g x y) :
      Host.Outcome.next (vecI op f c d a b p sb s) = (Host.Outcome.next (vecI op g c d a b p sb s) : Answer) := by
    rw [show f = g from funext₂ h]
  simp only [integerOps, List.mem_cons, List.not_mem_nil, or_false] at he
  obtain rfl | rfl | rfl | rfl | rfl | rfl | rfl := he
  · exact hfun fun x y => (ofNat_add_toNat x y).symm
  · exact hfun fun x y => (ofInt_sub_toInt x y).symm
  · rfl
  · rfl
  · rfl
  · exact hfun fun x y => shiftLeft_eq_ofNat x _
  · exact hfun fun x y => ushiftRight_eq_ofNat x _

/-- Settles O9: every form answers with one write of a vector, predicate or mask register. -/
theorem vectorIntegersAndPredicates : Obligations.VectorIntegersAndPredicates := by
  unfold Obligations.VectorIntegersAndPredicates
  refine ⟨fun e he s c r d a b p sb hd h => ?compare, fun s c r d a b p sb => ⟨fun h => ?vsel, fun e he h => ?integer, fun h => ?vlane,
    fun h => ?vbcast⟩, fun s c r d a b p => ⟨fun e he h => ?andOr, fun h => ?pnot, fun h => ?pmov, fun hd h hq => ?vmsk⟩⟩
  case compare =>
    refine ⟨_, _, exec_compareOps_of_issuing he h hd, s.writeP_only c d _, fun l hl => ?_⟩
    rw [maskOf_getLsbD _ hl, lane_bvec]
  case vsel =>
    refine ⟨_, congrArg Host.Outcome.next (State.issueAt_of_issuing (w := encV 0x14 d a b p sb) h _), ?_⟩
    simp only [lane_bvec]
    exact s.writeV_only c d _
  case integer =>
    rw [exec_integerOps he, vecI, State.issueAt_of_issuing (w := encV e.2.1 d a b p sb) h]
    simp only [lane_bvec, SeqState.lanes_eq]
    exact ⟨_, rfl, s.writeV_only c d _⟩
  case vlane =>
    refine ⟨_, congrArg Host.Outcome.next (State.issueAt_of_issuing (w := encV 0x20 d 0 0 p false) h _), ?_⟩
    rw [SeqState.lanes_eq]
    exact s.writeV_only c d _
  case vbcast =>
    refine ⟨_, congrArg Host.Outcome.next (State.issueAt_of_issuing (w := encV 0x21 d a 0 p false) h _), ?_⟩
    rw [SeqState.lanes_eq]
    exact s.writeV_only c d _
  case andOr => exact ⟨_, exec_predicateOps_of_issuing he h, s.writeP_only c _ _⟩
  case pnot => exact ⟨_, exec_pnot_of_issuing h, s.writeP_only c _ _⟩
  case pmov => exact ⟨_, exec_pmov_of_issuing h, s.writeP_only c _ _⟩
  case vmsk =>
    have hfree : ¬(s.core c).tile.queue.any (fun x => x.isTmm && twMaskEn x.word && decide (twMaskId x.word = d.val)) = true := by
      rw [List.any_eq_true]
      rintro ⟨q, hmem, hq'⟩
      simp only [Bool.and_eq_true, decide_eq_true_eq] at hq'
      exact hq q hmem hq'.1.1 hq'.1.2 hq'.2
    refine ⟨_, laneMask ((s.core c).seq.vreg a), congrArg Host.Outcome.next
      ((State.issueAt_of_issuing (w := encV 0x2C d a 0 p false) h _).trans ((if_neg (Nat.not_le.mpr hd)).trans (if_neg hfree))),
      s.putCore_only c _, fun i hi => laneMask_getLsbD _ hi⟩

end Sys2Proof.Machine
end

section
/-!
PROOFS. Conversions of 64 lanes and lane reductions (06 R237, R238, R240 to R243).
-/
namespace Sys2Proof.Machine

open Sys2Proof.Claims

/-! ## Packed lanes -/

/-- Packed elements read back from their bits. -/
theorem packNat_div_mod (b : Nat) (l : List Nat) (i : Nat) : packNat b l / 2 ^ (b * i) % 2 ^ b = l.getD i 0 % 2 ^ b := by
  induction l generalizing i with
  | nil => simp [packNat]
  | cons v l ih =>
    cases i with
    | zero => rw [packNat, Nat.mul_zero, Nat.pow_zero, Nat.div_one, Nat.add_mul_mod_self_left, Nat.mod_mod, List.getD_cons_zero]
    | succ i =>
      rw [packNat, Nat.mul_succ, Nat.pow_add, Nat.mul_comm (2 ^ (b * i)), ← Nat.div_div_eq_div_mul, Nat.add_mul_div_left _ _ (Nat.two_pow_pos b),
        Nat.div_eq_of_lt (Nat.mod_lt _ (Nat.two_pow_pos b)), Nat.zero_add, ih, List.getD_cons_succ]

theorem lanesOf_packNat (l : List Nat) (i : Fin 64) : (lanesOf (packNat 32 l))[i] = BitVec.ofNat 32 (l.getD i 0) := by
  rw [lanesOf]
  simp only [Fin.getElem_fin, Vector.getElem_ofFn]
  apply BitVec.eq_of_toNat_eq
  rw [BitVec.toNat_ofNat, BitVec.toNat_ofNat, Nat.shiftRight_eq_div_pow, packNat_div_mod]

/-! ## Conversions -/

theorem cvBad_eq_false {fmt : BitVec 4} {rnd : BitVec 2} {sr : Bool} (hf : fmt.toNat ≤ 0xC) (hr : rnd.toNat ≤ 1)
    (hs : sr = true → rnd.toNat = 0) : cvBad fmt rnd sr = false := by
  unfold cvBad fmtValid
  cases sr with
  | false => simp [hf, hr]
  | true => simp [hf, hs rfl]

/-! ## The fixed tree -/

/-- One level of the tree joins neighbours. -/
theorem pairUp_map_range (f : Word → Word → Word) (n : Nat) (g : Nat → Word) :
    pairUp f ((List.range (2 * n)).map g) = (List.range n).map fun l => f (g (2 * l)) (g (2 * l + 1)) := by
  induction n generalizing g with
  | zero => rfl
  | succ n ih =>
    rw [Nat.mul_succ, List.range_succ_eq_map, List.range_succ_eq_map, List.range_succ_eq_map]
    simp only [List.map_cons, List.map_map, pairUp]
    refine congrArg₂ _ rfl ((ih fun i => g (i + 1 + 1)).trans ?_)
    rfl

theorem treeReduce_map_range (f : Word → Word → Word) (g : Nat → Word) : treeReduce f ((List.range 64).map g) = tree f g 6 0 := by
  have level (n k : Nat) : pairUp f ((List.range (2 * n)).map (tree f g k)) = (List.range n).map (tree f g (k + 1)) :=
    pairUp_map_range f n _
  rw [treeReduce, show g = tree f g 0 from rfl, level 32 0, level 16 1, level 8 2, level 4 3, level 2 4, level 1 5]
  rfl

/-- Settles O10: a conversion answers with one write of lanes, scales and flags, and a reduction with one write of s(D). -/
theorem conversionsAndReductions : Obligations.ConversionsAndReductions := by
  unfold Obligations.ConversionsAndReductions
  refine ⟨fun s c r d a fmt rnd sat sr hf hr hs => ⟨fun h => ?vcvto, fun h => ?vcvti⟩, fun e he s c r d a p h => ?reduce⟩
  case vcvto =>
    refine ⟨_, congrArg Host.Outcome.next ((State.issueAt_of_issuing h _).trans
      (if_neg (by rw [cvBad_eq_false hf hr hs]; exact Bool.false_ne_true))), ?_⟩
    cases fmtScaled fmt.toNat <;> exact s.putCore_only c _
  case vcvti =>
    refine ⟨_, _, _, congrArg Host.Outcome.next ((State.issueAt_of_issuing h _).trans
      (if_neg (by rw [cvBad_eq_false hf hr hs]; exact Bool.false_ne_true))), s.putCore_only c _, fun l => ?_⟩
    rw [lanesOf_packNat]
    simp [List.getD_eq_getElem?_getD]
  case reduce =>
    have hexec : exec (e.1 c d a p) s = .next (vecReduce e.2.1 e.2.2.1 e.2.2.2 c d a p s) := by
      simp only [reduceOps, List.mem_cons, List.not_mem_nil, or_false] at he
      obtain rfl | rfl | rfl := he <;> rfl
    rw [hexec, vecReduce, State.issueAt_of_issuing h]
    simp only [treeReduce_map_range]
    exact ⟨_, rfl, s.writeS_only c d _⟩

end Sys2Proof.Machine
end

section
/-!
PROOFS. Stream instructions of a core and the events of their slots (06 R231, R244 to R246, R252, 08 R316 to R318).
-/
namespace Sys2Proof.Machine

open Sys2Proof.Claims

/-! ## Issue -/

/-- What the checks of SRD and SWR share passes with a free slot and lines within the extent that nothing holds (06 R244, R247, R252). -/
theorem State.slotCheck_ok {s : State} {c : Site} {r : Run} {line n : Nat} {write : Bool} (hn : n ≤ 24576) (he : line + n ≤ r.extent)
    (hs : (s.core c).seq.slots.length < 8) (hw : (s.core c).waits (64 * line) (64 * (line + n)) write = false) :
    s.slotCheck c r line n write = .ok := by
  rw [State.slotCheck, if_neg (by omega), if_neg (by omega), if_neg (by rw [hw]; rintro (h | h) <;> [omega; cases h])]

theorem State.swrCheck_none {s : State} {r : Run} {addr n : Nat} (ha : addr % 64 = 0)
    (hl : ∀ i, i < n → s.checkLine (s.runWins r) rightW (addr + 64 * i) = none) : s.swrCheck r addr n = none := by
  rw [State.swrCheck, if_neg (not_not.mpr ha)]
  exact List.findSome?_eq_none_iff.mpr fun i hi => hl i (List.mem_range.mp hi)

theorem State.takeSlot_only (s : State) (c : Nat) (o : SlotOp) : OnlySeq s (s.takeSlot c o) c
    { (s.core c).seq with slots := (s.core c).seq.slots ++ [o], pc := (s.core c).seq.pc + 1 } :=
  s.seqTo_only c _

theorem streamInstructions : StreamInstructions := by
  intro s c r d a b
  refine ⟨fun h hn => ?srdNone, fun h hn hfits hphase hctx hw => ?srd, fun h hn => ?swrNone, fun h hn hfits hw ha hl hu => ?swr,
    fun h => ?sfence⟩
  case srdNone => exact ⟨_, congrArg Host.Outcome.next ((State.issueAt_of_issuing h _).trans (if_pos hn)), s.seqTo_only c _⟩
  case srd =>
    refine ⟨_, congrArg Host.Outcome.next ((State.issueAt_of_issuing h _).trans ((if_neg hn).trans
      ((if_neg (by rw [hphase, hctx]; simp)).trans ?_))), s.takeSlot_only c _⟩
    rw [State.slotCheck_ok hfits.1 hfits.2.1 hfits.2.2 hw]
    rfl
  case swrNone => exact ⟨_, congrArg Host.Outcome.next ((State.issueAt_of_issuing h _).trans (if_pos hn)), s.seqTo_only c _⟩
  case swr =>
    refine ⟨_, congrArg Host.Outcome.next ((State.issueAt_of_issuing h _).trans ((if_neg hn).trans ?_)), s.takeSlot_only c _⟩
    have hclean := List.find?_eq_none.mpr fun l hmem => Bool.eq_false_iff.mp (hu l hmem)
    rw [State.slotCheck_ok hfits.1 hfits.2.1 hfits.2.2 hw]
    dsimp only [State.withMem]
    rw [State.swrCheck_none ha hl]
    dsimp only
    rw [hclean]
  case sfence =>
    refine ⟨_, congrArg Host.Outcome.next (State.issueAt_of_issuing h _), ?_⟩
    by_cases hslots : (s.core c).seq.slots = []
    · rw [if_pos hslots, if_pos (List.isEmpty_iff.mpr hslots)]
      exact s.seqTo_only c _
    · rw [if_neg hslots, if_neg (mt List.isEmpty_iff.mp hslots)]
      exact s.putCore_only c _

/-! ## Slots -/

theorem State.byte_congr_cells {s t : State} (hc : t.mem.cells = s.mem.cells) (hu : t.mem.unset = s.mem.unset)
    (hs : t.start.img = s.start.img) (a : Nat) : t.byte a = s.byte a := by
  unfold State.byte State.loc State.hubOf State.hubOffset MemSt.byte
  rw [hc, hu, hs]

/-- A read of a stream that passes gives its lines and moves POS on (08 R316 to R318). -/
theorem State.consume_ok {s : State} {st ctx count : Nat} {ws : WinSet} {a : ArrayState} {bad : Fail}
    (hp : (s.stream st).phase = .active) (hx : (s.stream st).ctx = ctx)
    (hl : (s.stream st).pos + count ≤ (readDesc (s.stream st).desc).length)
    (hc : (readDesc (s.stream st).desc).checkLines s ((readDesc (s.stream st).desc).layFor (s.stream st).lay (s.stream st).pos a) ws
      (some st) (s.stream st).pos count = none) :
    let x := s.stream st
    let d := readDesc x.desc
    let pos := x.pos + count
    let lay := d.layAfter x.lay x.pos a pos
    s.consume st ctx ws a count bad [] =
      ((s.putStream st { x with pos := pos, phase := if pos = d.length then .ended else .active, lay := lay }).freeDelivered st d
        (d.layFor lay pos a) pos,
       .inr ((List.range count).map fun i => d.lineBytes s (d.layFor x.lay x.pos a (x.pos + i)) (x.pos + i)).flatten) := by
  intro x d pos lay
  unfold State.consume
  rw [if_neg (by rw [hp, hx]; simp; omega)]
  dsimp only [State.bufferEcc, List.foldl_nil]
  rw [hc]

/-! ## The queues after a write -/

theorem QueueSt.fire_eq (x : QueueSt) (a n : Nat) : ∃ p, x.fire a n = { x with pos := p } := by
  unfold QueueSt.fire
  split
  · split
    · exact ⟨_, rfl⟩
    · exact ⟨_, rfl⟩
  · exact ⟨_, rfl⟩

theorem State.fireLinks_queue (s : State) (a n q : Nat) : (s.fireLinks a n).queue q = (s.queue q).fire a n :=
  tget_tmap (d := QueueSt.reset) (f := fun x : QueueSt => x.fire a n) rfl

theorem State.invalidate_queues (s : State) (line : Nat) : (s.invalidate line).queues = s.queues := by
  unfold State.invalidate
  refine foldl_keeps (P := fun t : State => t.queues = s.queues) _ (fun t n h => ?_) _ _ rfl
  unfold State.invalidateAt
  dsimp only
  split <;> exact h

theorem State.dropRunner_queues (s : State) (site lo hi : Nat) : (s.dropRunner site lo hi).queues = s.queues := by
  unfold State.dropRunner
  dsimp only
  split <;> rfl

/-- Of a queue a write moves a LINK watch alone (10 R420). -/
theorem State.writeLine_queue (s : State) (a : Nat) (bs : List Byte) (q : Nat) :
    ∃ p, (s.writeLine a bs).queue q = { s.queue q with pos := p } := by
  unfold State.writeLine
  extract_lets l f m t
  have ht : t.queue q = (s.queue q).fire a bs.length := (s.setMem m).fireLinks_queue a bs.length q
  obtain ⟨p, hp⟩ := (s.queue q).fire_eq a bs.length
  refine ⟨p, ?_⟩
  rw [← hp, ← ht]
  split
  · exact congrArg (fun x => tget QueueSt.reset x q) (t.dropRunner_queues _ _ _)
  · exact congrArg (fun x => tget QueueSt.reset x q) (t.invalidate_queues _)

theorem State.write_queue (s : State) (a : Nat) (bs : List Byte) (q : Nat) :
    ∃ p, (s.write a bs).queue q = { s.queue q with pos := p } :=
  foldl_keeps (P := fun t : State => ∃ p, t.queue q = { s.queue q with pos := p }) _ (fun t w ⟨p, h⟩ => by
    obtain ⟨p', h'⟩ := t.writeLine_queue w.1 w.2 q
    exact ⟨p', by rw [h', h]⟩) _ _ ⟨_, rfl⟩

@[simp] theorem State.write_item? (s : State) (a : Nat) (bs : List Byte) (q k : Nat) : (s.write a bs).item? q k = s.item? q k := by
  obtain ⟨p, hp⟩ := s.write_queue a bs q
  rw [State.item?, hp]
  rfl

/-! ## The end of a slot's operation -/

/-- An item that has no status does not settle. -/
theorem State.settleItem_of_undecided {s : State} {q k : Nat} (h : ∀ j, s.item? q k = some j → j.status = 0) : s.settleItem q k = s := by
  unfold State.settleItem
  split
  · rfl
  · next i hi => exact if_neg fun hst => hst.1 (h i hi)

/-- The slots of a core that waits for none, and whose item has no status, move nothing else. -/
theorem State.slotsMoved_eq {s : State} {c : Nat} {r : Run} (hr : (s.core c).seq.run = some r) (hp : (s.core c).seq.phase = .running)
    (h : ∀ j, s.item? r.q r.k = some j → j.status = 0) : s.slotsMoved c = s := by
  unfold State.slotsMoved
  have hf : ¬((s.core c).seq.phase = .waitF ∧ (s.core c).seq.slots.isEmpty = true) := by rw [hp]; simp
  dsimp only
  rw [if_neg hf, hr]
  exact State.settleItem_of_undecided h

/-- A slot whose lines are written is freed, and nothing else of its core changes (06 R244 to R246). -/
theorem State.slotWritten {s : State} {c : Site} {r : Run} (i a : Nat) (bs : List Byte) (hr : (s.core c).seq.run = some r)
    (hp : (s.core c).seq.phase = .running) (h : ∀ j, s.item? r.q r.k = some j → j.status = 0) :
    Stored s (((s.setSlot c i none).write a bs).slotsMoved c) a bs ∧
      ((((s.setSlot c i none).write a bs).slotsMoved c).core c).seq =
        { (s.core c).seq with slots := (s.core c).seq.slots.eraseIdx i } := by
  have hput : (s.setSlot c i none).core c = { s.core c with seq := { (s.core c).seq with slots := (s.core c).seq.slots.eraseIdx i } } :=
    State.core_putCore_same _ _ _
  obtain ⟨l, hl⟩ := (s.setSlot c i none).write_core a bs c
  rw [hput] at hl
  rw [State.slotsMoved_eq (r := r) (by rw [hl]; exact hr) (by rw [hl]; exact hp) (by rw [State.write_item?]; exact h)]
  obtain ⟨hin, hout⟩ := readsAfterWrites (s.setSlot c i none) a bs
  exact ⟨⟨hin, fun b hb => (hout b hb).trans (State.byte_congr _ _ b rfl rfl)⟩, by rw [hl]⟩

/-- CONSUMING_READ whose read of the stream passes gives its slot the lines. -/
theorem exec_consumingRead_of_slot {s t : State} {c : Site} {r : Run} {i line count st : Nat} {data : List Byte}
    (hr : (s.core c).seq.run = some r) (hslot : (s.core c).seq.slots[i]? = some (.srd line count st none))
    (h : ∀ bad, s.consume st r.ctx (s.runWins r) (s.core c).arr count bad [] = (t, .inr data)) :
    exec (.consumingRead c i []) s = .next (t.setSlot c i (some (.srd line count st (some data)))) := by
  show execConsumingRead c i [] s = _
  unfold execConsumingRead
  rw [hr, hslot]
  dsimp only
  rw [h]

theorem streamSlotEvents : StreamSlotEvents := by
  intro s c r i line count hr
  refine ⟨fun st hslot => ?consuming, fun st data hp _ hst hslot _ => ?srd, fun addr hp hst hslot => ?swr⟩
  case consuming =>
    intro x d hp hx hl f hc
    have hexec := exec_consumingRead_of_slot hr hslot fun bad => State.consume_ok (bad := bad) hp hx hl hc
    refine ⟨_, _, hexec, ?_, rfl, ?_, fun y hy => ?_, fun y hy => State.core_putCore_ne _ _ _ _ hy,
      fun y => State.byte_congr_cells rfl rfl rfl y⟩
    · rw [State.setSlot, State.core_putCore_same]
      rfl
    · exact tget_tput_same
    · exact tget_tput_ne hy
  case srd =>
    obtain ⟨hstored, hseq⟩ := State.slotWritten i (coreAddr c (64 * line)) data hr hp hst
    exact ⟨_, by
      show execStreamOperationComplete c i s = _
      rw [execStreamOperationComplete, hslot], hstored, hseq⟩
  case swr =>
    obtain ⟨hstored, hseq⟩ := State.slotWritten i addr (s.bytes (coreAddr c (64 * line)) (64 * count)) hr hp hst
    exact ⟨_, by
      show execStreamOperationComplete c i s = _
      rw [execStreamOperationComplete, hslot], hstored, hseq⟩

/-- Settles O11: an instruction takes a slot or goes on, and the two events of a slot take their lines and free it. A count of 0 passes
before the other checks, and the layout of a read is that of its tile's first line (log 73). -/
theorem coreStreams : Obligations.CoreStreams := ⟨streamInstructions, streamSlotEvents⟩

end Sys2Proof.Machine
end

section
/-!
PROOFS. WFIRE where a core stands twice in the table of cores (10 R421).
-/
namespace Sys2Proof.Machine

open Sys2Proof.Claims

/-- A core that issues WFIRE on wire 0. -/
def firingCore : Core :=
  { Core.reset with seq := { SeqState.reset with phase := .running, run := some farRun, imem := [(0, encRI 8 0x03 0 0 0)] } }

/-- A core that runs the same item and sleeps on wire 0. -/
def sleepingCore : Core := { Core.reset with seq := { SeqState.reset with phase := .waitW 0, run := some farRun } }

/-- A table of cores that no step makes: site 1 stands in it twice. -/
def doubledState : State := State.reset.setCores [(0, firingCore), (1, sleepingCore), (1, sleepingCore)]

theorem doubledState_issuing : doubledState.issuing (0 : Site) farRun (encRI 8 0x03 0 0 (0 : BitVec 12).toNat) := by
  constructor <;> decide

/-- The wake reaches site 1 twice: the first time it goes on, and the second sets its latch. -/
theorem doubledState_fires : ∃ t, exec (.wfire 0 0) doubledState = .next t ∧ (t.core 1).seq.wake = 1 :=
  ⟨_, congrArg Host.Outcome.next ((State.issueAt_of_issuing doubledState_issuing _).trans (if_neg (by decide))), rfl⟩

/-- Refutes O12: in a state whose table of cores lists a site twice WFIRE wakes that site twice, so that a core asleep on the wire goes
on with its latch set, where the statement leaves the latch as it was. -/
theorem not_countersWiresAndHerds : ¬ Obligations.CountersWiresAndHerds := by
  unfold Obligations.CountersWiresAndHerds
  intro h
  obtain ⟨t, ht, hwake⟩ := doubledState_fires
  obtain ⟨u, hu, -, hcore, -⟩ := (h.2 doubledState 0 farRun).2.1 0 (by decide) doubledState_issuing
  obtain rfl := Host.Outcome.next.inj (hu.symm.trans ht)
  have hlatch := congrArg (fun k : Core => k.seq.wake) (hcore 1 farRun (by decide) (by decide) rfl rfl rfl)
  rw [hwake] at hlatch
  exact absurd hlatch (by decide)

end Sys2Proof.Machine
end

section
/-!
PROOFS. Records of a queue whose RING_HELD is set while no record waits (09 R388, R390).
-/
namespace Sys2Proof.Machine

open Sys2Proof.Claims

/-- A running queue with a ring in host memory, marked held though no record of it waits. -/
def heldQueue (pos : QPos) (items : List Item) : QueueSt :=
  { QueueSt.reset with st := .running, pos := pos, items := items, cqBase := 0x8000000000010000, ringHeld := true }

/-- The module with that queue 0, host port 0 up, and at address 0 a list of no items: LIST with LSEQ 1, then LINK. -/
def heldState (pos : QPos) (items : List Item) : State :=
  ((State.reset.putQueue 0 (heldQueue pos items)).setMem
    { MemSt.reset with cells := [(0, 1), (2, 2), (16, 1), (32, 2), (34, 1)] }).putPcie 0 { PcieSt.reset with speed := 5 }

/-- A queue marked held takes a record behind those that wait, and writes none. -/
theorem State.post_of_ringHeld {s : State} {q : Nat} {r : List Byte} (h : (s.queue q).ringHeld = true) :
    s.post q r = s.putQueue q { s.queue q with held := (s.queue q).held ++ [r] } := by
  rw [State.post, State.drainFree, if_pos]
  simpa [State.queue, State.putQueue] using h

theorem heldState_readList : (heldState (.list 0) []).readList 0 0 = ⟨[], [], some 2, []⟩ := by decide +kernel

theorem heldState_acceptance :
    exec (.listAcceptance 0) (heldState (.list 0) []) = .next ((heldState (.list 0) []).acceptList 0 0 ⟨[], [], some 2, []⟩ 2) := by
  have htake : (heldState (.list 0) []).takeList 0 0 = (heldState (.list 0) []).acceptList 0 0 ⟨[], [], some 2, []⟩ 2 := by
    rw [State.takeList, heldState_readList]
    exact if_neg (by decide)
  exact congrArg Host.Outcome.next ((if_neg (by decide)).trans htake)

/-- The accepted list's record waits behind the mark, and TAIL stands. -/
theorem heldState_accepted_written : (((heldState (.list 0) []).acceptList 0 0 ⟨[], [], some 2, []⟩ 2).queue 0).written = 0 := by
  rw [State.acceptList, State.post_of_ringHeld rfl]
  rfl

/-- Refutes O22: in a state whose queue is marked RING_HELD while no record waits, the ACCEPT record of an accepted list waits behind the
mark, where the statement has it written and TAIL count on. -/
theorem not_listsAcceptedOrRefused : ¬ Obligations.ListsAcceptedOrRefused := by
  unfold Obligations.ListsAcceptedOrRefused
  intro h
  obtain ⟨t, ht, -, -, -, -, hwritten, -⟩ := (h (heldState (.list 0) []) 0 (by decide) rfl (by decide)).1 0 2 rfl rfl
    (congrArg Walk.fails heldState_readList) (congrArg Walk.link heldState_readList) (by decide +kernel) rfl (by decide) (by decide)
    (by decide)
  obtain rfl := Host.Outcome.next.inj (heldState_acceptance.symm.trans ht)
  exact absurd (heldState_accepted_written.symm.trans hwritten) (by decide)

/-- An item that has completed, number 1 of its queue. -/
def endedItem : Item :=
  { k := 1, op := 3, iflags := 0, len := 1, tag := 0, addr := 0, lseq := 1, ctx := 0, wins := Vector.replicate 16 Window.off, gen := 0,
    csig := none, due := none, trap := false, acceptDtc := 0, boundarySeen := false, phase := .ended, cmd := [], work := .none, status := 0,
    fl := {}, saturated := false, retried := false, progress := 1, detail := 0, startDtc := none, endDtc := 0 }

theorem heldState_release :
    exec (.recordRelease 0) (heldState .none [endedItem]) = .next ((heldState .none [endedItem]).post 0 (endedItem.record 0)) := rfl

/-- The final record waits behind the mark, and TAIL stands. -/
theorem heldState_released_written : (((heldState .none [endedItem]).post 0 (endedItem.record 0)).queue 0).written = 0 := by
  rw [State.post_of_ringHeld rfl]
  rfl

/-- Refutes O23: in a state whose queue is marked RING_HELD while no record waits, RECORD_RELEASE leaves the final record waiting behind
the mark, where the statement has it written and TAIL count on. -/
theorem not_completionAndRecords : ¬ Obligations.CompletionAndRecords := by
  unfold Obligations.CompletionAndRecords
  rintro ⟨-, h, -⟩
  obtain ⟨t, ht, -, -, hwritten, -⟩ := (h (heldState .none [endedItem]) 0 rfl (by decide) (by decide)).2.1 endedItem (by decide) rfl rfl rfl
  obtain rfl := Host.Outcome.next.inj (heldState_release.symm.trans ht)
  exact absurd (heldState_released_written.symm.trans hwritten) (by decide)

end Sys2Proof.Machine
end

section
/-!
PROOFS. What the operations that the families share leave alone: the frame of an item's end, of a failing item, of watches, of messages
and of records with their rings.
-/
namespace Sys2Proof.Machine

/-- A relation that holds between a state and what it becomes when bytes of memory are written, with all that a write brings, and when
messages leave. -/
structure WriteFrame (R : State → State → Prop) : Prop where
  refl : ∀ s, R s s
  trans : ∀ {u t s}, R u t → R t s → R u s
  rows : ∀ (s : State) c x, x = { s.core c with arr := { (s.core c).arr with rLatch := x.arr.rLatch } } → R (s.putCore c x) s
  fired : ∀ (s : State) a n, R (s.fireLinks a n) s
  mem : ∀ (s : State) (x : MemSt), x.streams = s.mem.streams → x.wins = s.mem.wins → x.peer = s.mem.peer → R (s.setMem x) s
  live : ∀ (s : State) x, R (s.setTally { s.tally with live := x }) s
  sent : ∀ (s : State) x, R (s.setSent x) s
  pba : ∀ (s : State) p x, R (s.putPcie p { s.pcie p with pba := x }) s

/-- The same for operations that write records, and entries in the fault log. -/
structure RecordFrame (R : State → State → Prop) : Prop extends WriteFrame R where
  records : ∀ (s : State) q (x : QueueSt), x.st = (s.queue q).st → x.cqBase = (s.queue q).cqBase → R (s.putQueue q x) s
  log : ∀ (s : State) cls kind unit sev arg0 arg1, R (s.logEvent cls kind unit sev arg0 arg1) s

/-- A queue with no item and no record that waits. -/
structure QueueSt.Bare (x : QueueSt) : Prop where
  items : x.items = []
  held : x.held = []
  refusals : x.refusals = []

/-- `y` has the ring of `x`, and is bare where `x` is. -/
structure QueueSt.SameRing (y x : QueueSt) : Prop where
  base : y.cqBase = x.cqBase
  bare : x.Bare → y.Bare

/-- A relation that holds between a state and what it becomes when the shared operations change what they may: cores, queues, KE herds,
bytes of memory with their marks and hubs, the ports that carry messages, counters, watches and herds, the Tally's counters, and what leaves. -/
structure Frame (R : State → State → Prop) : Prop extends WriteFrame R where
  cores : ∀ (s : State) x, R (s.setCores x) s
  queues : ∀ (s : State) x, (∀ q, (tget QueueSt.reset x q).SameRing (s.queue q)) → R (s.setQueues x) s
  ke : ∀ (s : State) x, R (s.setKe x) s
  links : ∀ (s : State) l x, (s.link l).carries = true → R (s.putLink l x) s
  sync : ∀ (s : State) ctr watches waiting host herds run, (run = s.sync.run ∨ run = none) → R (s.setSync { s.sync with
    ctr := ctr, watches := watches, waiting := waiting, host := host, herds := herds, run := run }) s

/-- The same for operations that may make entries in the fault log and write records. -/
structure LogFrame (R : State → State → Prop) : Prop extends Frame R, RecordFrame R

@[refl] protected theorem QueueSt.SameRing.rfl {x : QueueSt} : x.SameRing x := ⟨rfl, id⟩

theorem QueueSt.SameRing.trans {z y x : QueueSt} (h : z.SameRing y) (g : y.SameRing x) : z.SameRing x :=
  ⟨h.base.trans g.base, fun hx => h.bare (g.bare hx)⟩

theorem QueueSt.mapItem_sameRing (x : QueueSt) (k : Nat) (f : Item → Item) : (x.mapItem k f).SameRing x :=
  ⟨rfl, fun ⟨hi, hh, hr⟩ => ⟨by rw [QueueSt.mapItem, hi]; rfl, hh, hr⟩⟩

/-- A queue whose state and preemption request alone may have changed. -/
theorem QueueSt.sameRing_ite {c : Prop} [Decidable c] (x : QueueSt) (st : QState) (r : PreReq) :
    (if c then { x with st := st, preReq := r } else x).SameRing x := by
  split
  · exact ⟨rfl, fun ⟨hi, hh, hr⟩ => ⟨hi, hh, hr⟩⟩
  · exact .rfl

theorem QueueSt.atPoint_sameRing (x : QueueSt) (i : Item) : (x.atPoint i).SameRing x := x.sameRing_ite x.st _
theorem QueueSt.settle_sameRing (x : QueueSt) : x.settle.SameRing x := x.sameRing_ite _ _

namespace WriteFrame

variable {R : State → State → Prop}

theorem ite (_ : WriteFrame R) {c : Prop} [Decidable c] {a b s : State} (ha : R a s) (hb : R b s) : R (if c then a else b) s := by
  split
  · exact ha
  · exact hb

variable (hR : WriteFrame R)
include hR

theorem foldl {β : Type} {f : State → β → State} (hf : ∀ t b, R (f t b) t) (l : List β) (s : State) : R (l.foldl f s) s :=
  foldl_keeps (P := fun t => R t s) f (fun t b h => hR.trans (hf t b) h) l s (hR.refl s)

theorem putHub (s : State) (h : Nat) (x : HubSt) : R (s.putHub h x) s := hR.mem s _ rfl rfl rfl
theorem emit (s : State) (o : Out) : R (s.emit o) s := hR.sent s _
theorem tallyAdd (s : State) (off n : Nat) : R (s.tallyAdd off n) s := hR.live s _

theorem msix (s : State) (p v : Nat) : R (s.msix p v) s := hR.ite (hR.pba s p _) (hR.emit s _)

theorem invalidate (s : State) (line : Nat) : R (s.invalidate line) s :=
  hR.foldl (fun t _ => hR.ite (hR.refl t) (hR.trans (hR.tallyAdd _ _ _) (hR.putHub t _ _))) _ s

theorem dropRunner (s : State) (site lo hi : Nat) : R (s.dropRunner site lo hi) s := hR.ite (hR.refl s) (hR.rows s _ _ rfl)

theorem writeLine (s : State) (a : Nat) (bs : List Byte) : R (s.writeLine a bs) s := by
  have hmem : R (s.setMem _) s := hR.mem s
    { s.mem.fix (s.loc a) with
      cells := putBytes (s.mem.fix (s.loc a)).cells (s.loc a) bs
      ue := if bs.length = 64 then (s.mem.fix (s.loc a)).ue.filter (· ≠ lineOf (s.loc a)) else (s.mem.fix (s.loc a)).ue }
    (MemSt.fix_streams _ _) (MemSt.fix_wins _ _) (by unfold MemSt.fix; dsimp only; split <;> rfl)
  have hfire := hR.trans (hR.fired _ a bs.length) hmem
  unfold State.writeLine
  dsimp only
  split
  · exact hR.trans (hR.dropRunner _ _ _ _) hfire
  · exact hR.trans (hR.invalidate _ _) hfire

theorem write (s : State) (a : Nat) (bs : List Byte) : R (s.write a bs) s := hR.foldl (fun t _ => hR.writeLine t _ _) _ s

end WriteFrame

namespace RecordFrame

variable {R : State → State → Prop} (hR : RecordFrame R)
include hR

theorem writeRecord (s : State) (q : Nat) (r : List Byte) : R (s.writeRecord q r) s := by
  have hwrote (x : QueueSt) (now : DWord) : (x.wrote r now).st = x.st ∧ (x.wrote r now).cqBase = x.cqBase := by
    unfold QueueSt.wrote
    dsimp only
    split <;> exact ⟨rfl, rfl⟩
  exact hR.trans (hR.ite (hR.trans (hR.msix _ _ _) (hR.records _ _ _ (by rfl) (by rfl))) (hR.refl _))
    (hR.trans (hR.records _ _ _ (hwrote _ _).1 (hwrote _ _).2) (hR.ite (hR.emit s _) (hR.write s _ _)))

theorem drainHeld (n : Nat) (s : State) (q : Nat) : R (Machine.drainHeld n s q) s := by
  induction n generalizing s with
  | zero => exact hR.refl s
  | succ n ih =>
    unfold Machine.drainHeld
    split
    · exact hR.refl s
    · split
      · exact hR.refl s
      · exact hR.ite (hR.refl s) (hR.trans (hR.log _ _ _ _ _ _ _) (hR.records s _ _ (by rfl) (by rfl)))
      · exact hR.trans (ih _) (hR.trans (hR.writeRecord _ _ _) (hR.records s _ _ (by rfl) (by rfl)))

theorem drain (s : State) (q : Nat) : R (s.drain q) s := hR.drainHeld _ s q
theorem drainFree (s : State) (q : Nat) : R (s.drainFree q) s := hR.ite (hR.refl s) (hR.drain s q)
theorem post (s : State) (q : Nat) (r : List Byte) : R (s.post q r) s := hR.trans (hR.drainFree _ _) (hR.records s _ _ (by rfl) (by rfl))

theorem releaseRecord (s : State) (q : Nat) : R (s.releaseRecord q) s := by
  unfold State.releaseRecord
  dsimp only
  split
  · exact hR.trans (hR.post _ _ _) (hR.trans (hR.records _ _ _ (by rfl) (by rfl)) (hR.drainFree s q))
  · split
    · exact hR.trans (hR.post _ _ _) (hR.drainFree s q)
    · exact hR.drainFree s q

theorem releaseMany (n : Nat) (s : State) (q : Nat) : R (Machine.releaseMany n s q) s := by
  induction n generalizing s with
  | zero => exact hR.refl s
  | succ n ih => exact hR.trans (ih _) (hR.releaseRecord s q)

theorem releaseAll (s : State) : R s.releaseAll s := hR.foldl (fun t _ => hR.releaseMany _ t _) _ s

theorem drainPort (s : State) (p : Nat) : R (s.drainPort p) s := hR.foldl (fun t _ => hR.ite (hR.drain t _) (hR.refl t)) _ s
theorem drainAll (s : State) : R s.drainAll s := hR.foldl (fun t _ => hR.drain t _) _ s

end RecordFrame

/-! ## Ports that carry messages -/

theorem lt_of_carries {s : State} {l : Nat} (h : (s.link l).carries = true) : l < 16 := by
  by_contra hl
  have hreset : s.link l = LinkSt.reset := by simp [State.link, vget, hl]
  rw [hreset] at h
  exact absurd h (by decide)

theorem FabricImg.up_of_pickPort {f : FabricImg} {up : Nat → Bool} {src d dir p : Nat} (h : f.pickPort up src d dir = .port p) :
    up p = true := by
  unfold FabricImg.pickPort at h
  grind

/-- The procedure answers a port in service alone (11 R480). -/
theorem FabricImg.up_of_route {f : FabricImg} {up lost : Nat → Bool} {src d hops p : Nat} (h : f.route up lost src d hops = .port p) :
    up p = true := by
  have hpick := @FabricImg.up_of_pickPort f up src d
  unfold FabricImg.route at h
  grind

theorem State.carries_of_route {s : State} {src d hops p : Nat} (h : s.route src d hops = .port p) : (s.link p).carries = true := by
  have hup := FabricImg.up_of_route h
  rw [State.linkUp, Bool.and_eq_true] at hup
  exact hup.1

namespace Frame

variable {R : State → State → Prop} (hR : Frame R)
include hR

/-! ## Parts by number -/

theorem putCore (s : State) (c : Nat) (x : Core) : R (s.putCore c x) s := hR.cores s _
theorem putQueue (s : State) (q : Nat) (x : QueueSt) (h : x.SameRing (s.queue q)) : R (s.putQueue q x) s := by
  refine hR.queues s _ fun y => ?_
  rw [tget_tput]
  split
  · next hy => exact hy ▸ h
  · exact .rfl
theorem putHerd (s : State) (h : Nat) (x : Herd) : R (s.putHerd h x) s := hR.sync s _ _ _ _ _ _ (.inl rfl)
theorem putKeHerd (s : State) (h : Nat) (x : KeHerd) : R (s.putKeHerd h x) s := hR.ke s _

/-! ## Messages between devices -/

theorem pumpLink (s : State) (l : Nat) (h : (s.link l).carries = true) : R (s.pumpLink l) s :=
  hR.trans (hR.foldl (fun t _ => hR.emit t _) _ _) (hR.links s _ _ h)

theorem sendOn (s : State) (l kind : Nat) (m : MsgHead) (data : List Line) (h : (s.link l).carries = true) :
    R (s.sendOn l kind m data) s := by
  refine hR.trans (hR.pumpLink _ _ ?_) (hR.trans (hR.links _ _ _ h) (hR.emit s _))
  rw [State.link_putLink _ _ _ _ (lt_of_carries h), if_pos rfl]
  exact h

theorem sendTo (s : State) (kind : Nat) (m : MsgHead) (data : List Line) : R (s.sendTo kind m data) s := by
  unfold State.sendTo
  split
  · next h => exact hR.sendOn s _ _ _ _ (State.carries_of_route h)
  · exact hR.refl s

theorem originate (s : State) (kind dst mtag arg : Nat) (data : List Line) : R (s.originate kind dst mtag arg data) s :=
  hR.sendTo s _ _ _

/-! ## The end of an item -/

theorem mapItem (s : State) (q k : Nat) (f : Item → Item) : R (s.mapItem q k f) s := hR.putQueue s _ _ (QueueSt.mapItem_sameRing _ _ _)

theorem bseqGone (s : State) (q : Nat) (i : Item) : R (s.bseqGone q i) s :=
  hR.ite (hR.trans (hR.foldl (fun t _ => hR.ite (hR.refl t) (hR.putHub t _ _)) _ _) (hR.putKeHerd s _ _)) (hR.refl s)

theorem writeReport (s : State) (i : Item) : R (s.writeReport i) s := by
  unfold State.writeReport
  split
  · exact hR.ite (hR.write s _ _) (hR.refl s)
  · exact hR.refl s

theorem endNow (s : State) (q k : Nat) (f : Option Fail) : R (s.endNow q k f).1 s := by
  unfold State.endNow
  split
  · exact hR.refl s
  · split
    · exact hR.refl s
    · exact hR.trans (hR.putQueue _ _ _ ((QueueSt.settle_sameRing _).trans ((QueueSt.atPoint_sameRing _ _).trans (QueueSt.mapItem_sameRing _ _ _))))
        (hR.trans (hR.writeReport _ _) (hR.ite (hR.bseqGone s _ _) (hR.refl s)))

/-! ## Counters and watches -/

theorem dropWatch (s : State) (w : Watch) : R (s.dropWatch w) s := hR.sync s _ _ _ _ _ _ (.inl rfl)

theorem releaseWaiter (s : State) (w : Watch) : R (s.releaseWaiter w).1 s := by
  unfold State.releaseWaiter
  split
  case h_1 => exact hR.endNow s _ _ _
  case h_2 => exact hR.ite (hR.putCore s _ _) (hR.refl s)
  case h_3 => exact hR.trans (hR.msix _ _ _) (hR.sync s _ _ _ _ _ _ (.inl rfl))

theorem fireWatch (s : State) (w : Watch) : R (s.fireWatch w).1 s := hR.trans (hR.releaseWaiter _ w) (hR.dropWatch s w)

theorem fireAll (s : State) (ws : List Watch) : R (Machine.fireAll s ws).1 s := by
  induction ws generalizing s with
  | nil => exact hR.refl s
  | cons w ws ih => exact hR.trans (ih _) (hR.fireWatch s w)

theorem tryClaim (s : State) (c : Nat) : R (s.tryClaim c).1 s := by
  unfold State.tryClaim
  split
  · exact hR.refl s
  · split
    · exact hR.fireWatch s _
    · exact hR.refl s

theorem change1 (s : State) (c : Nat) (d : DWord) : R (s.change1 c d).1 s :=
  hR.trans (hR.tryClaim _ _) (hR.trans (hR.fireAll _ _) (hR.sync s _ _ _ _ _ _ (.inl rfl)))

theorem runOps (n : Nat) (s : State) (l : List (Nat × DWord)) : R (Machine.runOps n s l) s := by
  induction n generalizing s l with
  | zero => exact hR.refl s
  | succ n ih =>
    cases l with
    | nil => exact hR.refl s
    | cons e l => exact hR.trans (ih _ _) (hR.change1 s e.1 e.2)

theorem ops (s : State) (l : List (Nat × DWord)) : R (s.ops l) s := hR.runOps _ s l

theorem place (s : State) (w : Watch) : R (s.place w) s :=
  hR.ite (hR.trans (hR.ops _ _) (hR.trans (hR.fireWatch _ _) (hR.sync s _ _ _ _ _ _ (.inl rfl)))) (hR.sync s _ _ _ _ _ _ (.inl rfl))

theorem register (s : State) (w : Watch) : R (s.register w) s := hR.ite (hR.place s w) (hR.sync s _ _ _ _ _ _ (.inl rfl))

theorem withdraw (s : State) (who : Waiter) : R (s.withdraw who) s := by
  unfold State.withdraw
  dsimp only
  split
  · exact hR.sync s _ _ _ _ _ _ (.inl rfl)
  · exact hR.trans (hR.ite (hR.trans (hR.ops _ _) (hR.trans (hR.tryClaim _ _) (hR.dropWatch _ _))) (hR.dropWatch _ _))
      (hR.sync s _ _ _ _ _ _ (.inl rfl))

theorem withdrawAll (s : State) (gone : Waiter → Bool) : R (s.withdrawAll gone) s :=
  hR.trans (hR.foldl (fun _ _ => hR.trans (hR.ops _ _) (hR.tryClaim _ _)) _ _)
    (hR.trans (hR.foldl hR.dropWatch _ _) (hR.sync s _ _ _ _ _ _ (.inl rfl)))

/-! ## Cores that run a part of an item -/

theorem releaseCore (s : State) (site : Nat) : R (s.releaseCore site) s := by
  unfold State.releaseCore
  dsimp only
  split
  · exact hR.refl s
  · exact hR.trans (hR.putCore _ _ _) (hR.mapItem s _ _ _)

theorem stopNow (s : State) (site : Nat) : R (s.stopNow site) s :=
  hR.trans (hR.putCore _ _ _) (hR.ite (hR.withdraw s _) (hR.ite (hR.sync s _ _ _ _ _ _ (.inl rfl)) (hR.refl s)))

theorem stopWith (s : State) (site : Nat) (x : StopReq) : R (s.stopWith site x) s :=
  hR.ite (hR.putCore s _ _) (hR.trans (hR.stopNow _ _) (hR.putCore s _ _))

theorem settleItem (s : State) (q k : Nat) : R (s.settleItem q k) s := by
  have hrelease (l : List Nat) : R (l.foldl (fun t c => t.releaseCore c) s) s := hR.foldl hR.releaseCore l s
  unfold State.settleItem
  split
  · exact hR.refl s
  · exact hR.ite (hR.ite (hR.trans (hR.endNow _ _ _ _) (hrelease _)) (hrelease _)) (hR.refl s)

/-! ## Herds -/

theorem checkCoreHerd (s : State) (h : Nat) : R (s.checkCoreHerd h) s :=
  hR.ite (hR.trans (hR.foldl (fun t _ => hR.ite (hR.putCore t _ _) (hR.refl t)) _ _) (hR.putHerd s _ _)) (hR.refl s)

theorem releaseBarriers (s : State) (h : Nat) : R (s.releaseBarriers h) s :=
  hR.foldl (fun t _ => hR.trans (hR.ops _ _) (hR.endNow t _ _ _)) _ s

theorem checkFabricHerd (s : State) (h : Nat) : R (s.checkFabricHerd h) s :=
  hR.ite (hR.trans (hR.releaseBarriers _ _)
    (hR.trans (hR.foldl (fun t _ => hR.originate t _ _ _ _ _) _ _) (hR.putHerd s _ _))) (hR.refl s)

theorem arriveFabric (s : State) (h : Nat) : R (s.arriveFabric h) s :=
  hR.ite (hR.trans (hR.checkFabricHerd _ _) (hR.putHerd s _ _)) (hR.originate s _ _ _ _ _)

theorem cancelFabric (s : State) (h : Nat) : R (s.cancelFabric h) s := hR.ite (hR.putHerd s _ _) (hR.originate s _ _ _ _ _)

/-! ## Failing items -/

theorem withdrawItem (s : State) (i : Item) : R (s.withdrawItem i) s := by
  unfold State.withdrawItem
  split
  · exact hR.cancelFabric s _
  · exact hR.sync s _ _ _ _ _ _ (.inr rfl)
  · exact hR.refl s

/-- A failing item changes nothing else once the uncorrectable read that failed it is reported. -/
theorem failItem_of_noted (s : State) (q k : Nat) (f : Fail) : R (s.failItem q k f) (s.noteUe f) := by
  unfold State.failItem
  dsimp only
  split
  · exact hR.refl _
  · split
    · exact hR.trans (hR.settleItem _ _ _) (hR.trans (hR.foldl (fun t c => hR.stopWith t c _) _ _)
        (hR.trans (hR.mapItem _ _ _ _) (hR.trans (hR.ite (hR.withdrawItem _ _) (hR.refl _)) (hR.withdrawAll _ _))))
    · exact hR.settleItem _ _ _

theorem failItem (s : State) (q k : Nat) {f : Fail} (h : f.ue = none) : R (s.failItem q k f) s := by
  have hnote : s.noteUe f = s := by rw [State.noteUe, h]
  simpa only [hnote] using hR.failItem_of_noted s q k f

theorem failAll (s : State) {f : Fail} (h : f.ue = none) : R (s.failAll f) s :=
  hR.trans (hR.foldl (fun t _ => hR.failItem t _ _ h) _ _) (hR.withdrawAll s _)

theorem endOpen (s : State) : R s.endOpen s := hR.foldl (fun t _ => hR.endNow t _ _ _) _ s

theorem finishWrites (s : State) (site : Nat) : R (s.finishWrites site) s := by
  refine hR.foldl (fun t o => ?_) _ s
  cases o with
  | swr line count addr => exact hR.write t _ _
  | srd _ _ _ _ => exact hR.refl t

theorem endAll (s : State) {f : Fail} (h : f.ue = none) : R (s.endAll f) s :=
  hR.trans (hR.endOpen _)
    (hR.trans (hR.foldl (fun t _ => hR.trans (hR.releaseCore _ _) (hR.finishWrites t _)) _ _) (hR.failAll s h))

theorem cutAll (s : State) : R s.cutAll s :=
  hR.trans (hR.endOpen _) (hR.trans (hR.foldl (fun t _ => hR.putCore t _ _) _ _) (hR.foldl (fun t _ => hR.mapItem t _ _ _) _ s))

theorem finishNow (s : State) (q k n : Nat) : R (s.finishNow q k n) s :=
  hR.trans (hR.ops _ _) (hR.trans (hR.endNow _ _ _ _) (hR.mapItem s _ _ _))

end Frame

namespace LogFrame

variable {R : State → State → Prop} (hR : LogFrame R)
include hR

theorem ueRead (s : State) (a sev : Nat) : R (s.ueRead a sev) s := by
  unfold State.ueRead
  split
  · exact hR.trans (hR.log _ _ _ _ _ _ _) (hR.putHub s _ _)
  · exact hR.trans (hR.log _ _ _ _ _ _ _) (hR.putHub s _ _)
  · exact hR.log s _ _ _ _ _ _
  · exact hR.refl s

theorem noteUe (s : State) (f : Fail) : R (s.noteUe f) s := by
  unfold State.noteUe
  split
  · exact hR.ueRead s _ _
  · exact hR.refl s

theorem failItem (s : State) (q k : Nat) (f : Fail) : R (s.failItem q k f) s :=
  hR.trans (hR.failItem_of_noted s q k f) (hR.noteUe s f)

theorem gateUpdates (s : State) : R s.gateUpdates s := by
  refine hR.foldl (fun t e => ?_) _ s
  split
  · exact hR.refl t
  · dsimp only
    split
    · exact hR.failItem t _ _ _
    · exact hR.refl t

end LogFrame

/-! ## The two frames -/

/-- `t` keeps of `s` what no shared operation changes, in the fault log what no entry changes. -/
structure Steady (t s : State) : Prop where
  power : t.power = s.power
  start : t.start = s.start
  sec : t.sec = s.sec
  fwu : t.fwu = s.fwu
  betas : t.betas = s.betas
  takeLast : t.takeLast = s.takeLast
  turns : t.turns = s.turns
  pending : t.pending = s.pending
  freeCount : t.freeCount = s.freeCount
  streams : t.mem.streams = s.mem.streams
  wins : t.mem.wins = s.mem.wins
  peer : t.mem.peer = s.mem.peer
  fab : t.fab = { s.fab with links := t.fab.links }
  sync : t.sync = { s.sync with
    ctr := t.sync.ctr, watches := t.sync.watches, waiting := t.sync.waiting, host := t.sync.host, herds := t.sync.herds, run := t.sync.run }
  tally : t.tally = { s.tally with live := t.tally.live }
  faults : t.fault = { s.fault with log := t.fault.log, seq := t.fault.seq, last := t.fault.last, count := t.fault.count }
  pins : t.pins = { s.pins with pcie := t.pins.pcie, alert := t.pins.alert }
  pcie : ∀ p, t.pcie p = { s.pcie p with pba := (t.pcie p).pba }

/-- The same with the fault log and MG_ALERT_N as they were. -/
structure Quiet (t s : State) : Prop extends Steady t s where
  fault : t.fault = s.fault
  alert : t.pins.alert = s.pins.alert

/-- A change of pending messages leaves the rest of every port. -/
theorem State.putPcie_pba (s : State) (p y : Nat) (x : Table Bool) :
    (s.putPcie p { s.pcie p with pba := x }).pcie y =
      { s.pcie y with pba := ((s.putPcie p { s.pcie p with pba := x }).pcie y).pba } := by
  by_cases hp : p < 2
  · rw [State.pcie_putPcie _ _ _ _ hp]
    split
    · next h => rw [h]
    · rfl
  · rw [State.putPcie, vset_beyond _ _ _ (by omega)]
    rfl

theorem Steady.trans {u t s : State} (h : Steady u t) (g : Steady t s) : Steady u s where
  power := h.power.trans g.power
  start := h.start.trans g.start
  sec := h.sec.trans g.sec
  fwu := h.fwu.trans g.fwu
  betas := h.betas.trans g.betas
  takeLast := h.takeLast.trans g.takeLast
  turns := h.turns.trans g.turns
  pending := h.pending.trans g.pending
  freeCount := h.freeCount.trans g.freeCount
  streams := h.streams.trans g.streams
  wins := h.wins.trans g.wins
  peer := h.peer.trans g.peer
  fab := h.fab.trans (congrArg (fun x : FabricSt => { x with links := u.fab.links }) g.fab)
  sync := h.sync.trans (congrArg (fun x : SyncSt => { x with
    ctr := u.sync.ctr, watches := u.sync.watches, waiting := u.sync.waiting, host := u.sync.host, herds := u.sync.herds,
    run := u.sync.run }) g.sync)
  tally := h.tally.trans (congrArg (fun x : TallySt => { x with live := u.tally.live }) g.tally)
  faults := h.faults.trans (congrArg (fun x : FaultSt => { x with
    log := u.fault.log, seq := u.fault.seq, last := u.fault.last, count := u.fault.count }) g.faults)
  pins := h.pins.trans (congrArg (fun x : PinSt => { x with pcie := u.pins.pcie, alert := u.pins.alert }) g.pins)
  pcie p := (h.pcie p).trans (congrArg (fun x : PcieSt => { x with pba := (u.pcie p).pba }) (g.pcie p))

@[refl] protected theorem Steady.rfl {s : State} : Steady s s :=
  ⟨rfl, rfl, rfl, rfl, rfl, rfl, rfl, rfl, rfl, rfl, rfl, rfl, rfl, rfl, rfl, rfl, rfl, fun _ => rfl⟩

theorem State.setQueues_steady (s : State) (x : Table QueueSt) : Steady (s.setQueues x) s :=
  ⟨rfl, rfl, rfl, rfl, rfl, rfl, rfl, rfl, rfl, rfl, rfl, rfl, rfl, rfl, rfl, rfl, rfl, fun _ => rfl⟩

theorem steady_frame : Frame Steady where
  refl _ := .rfl
  trans := .trans
  rows _ _ _ _ := ⟨rfl, rfl, rfl, rfl, rfl, rfl, rfl, rfl, rfl, rfl, rfl, rfl, rfl, rfl, rfl, rfl, rfl, fun _ => rfl⟩
  fired _ _ _ := ⟨rfl, rfl, rfl, rfl, rfl, rfl, rfl, rfl, rfl, rfl, rfl, rfl, rfl, rfl, rfl, rfl, rfl, fun _ => rfl⟩
  cores _ _ := ⟨rfl, rfl, rfl, rfl, rfl, rfl, rfl, rfl, rfl, rfl, rfl, rfl, rfl, rfl, rfl, rfl, rfl, fun _ => rfl⟩
  queues s x _ := s.setQueues_steady x
  ke _ _ := ⟨rfl, rfl, rfl, rfl, rfl, rfl, rfl, rfl, rfl, rfl, rfl, rfl, rfl, rfl, rfl, rfl, rfl, fun _ => rfl⟩
  mem _ _ hs hw hp := ⟨rfl, rfl, rfl, rfl, rfl, rfl, rfl, rfl, rfl, hs, hw, hp, rfl, rfl, rfl, rfl, rfl, fun _ => rfl⟩
  links _ _ _ _ := ⟨rfl, rfl, rfl, rfl, rfl, rfl, rfl, rfl, rfl, rfl, rfl, rfl, rfl, rfl, rfl, rfl, rfl, fun _ => rfl⟩
  sync _ _ _ _ _ _ _ _ := ⟨rfl, rfl, rfl, rfl, rfl, rfl, rfl, rfl, rfl, rfl, rfl, rfl, rfl, rfl, rfl, rfl, rfl, fun _ => rfl⟩
  live _ _ := ⟨rfl, rfl, rfl, rfl, rfl, rfl, rfl, rfl, rfl, rfl, rfl, rfl, rfl, rfl, rfl, rfl, rfl, fun _ => rfl⟩
  sent _ _ := ⟨rfl, rfl, rfl, rfl, rfl, rfl, rfl, rfl, rfl, rfl, rfl, rfl, rfl, rfl, rfl, rfl, rfl, fun _ => rfl⟩
  pba s p x := ⟨rfl, rfl, rfl, rfl, rfl, rfl, rfl, rfl, rfl, rfl, rfl, rfl, rfl, rfl, rfl, rfl, rfl, fun y => s.putPcie_pba p y x⟩

theorem State.putLink_steady (s : State) (l : Nat) (x : LinkSt) : Steady (s.putLink l x) s :=
  ⟨rfl, rfl, rfl, rfl, rfl, rfl, rfl, rfl, rfl, rfl, rfl, rfl, rfl, rfl, rfl, rfl, rfl, fun _ => rfl⟩

theorem State.gateLinks_steady (s : State) : Steady s.gateLinks s :=
  steady_frame.foldl (fun t _ => steady_frame.ite .rfl (t.putLink_steady _ _)) _ s

theorem quiet_frame : Frame Quiet where
  refl _ := ⟨.rfl, rfl, rfl⟩
  trans h g := ⟨h.toSteady.trans g.toSteady, h.fault.trans g.fault, h.alert.trans g.alert⟩
  rows s c x h := ⟨steady_frame.rows s c x h, rfl, rfl⟩
  fired s a n := ⟨steady_frame.fired s a n, rfl, rfl⟩
  cores s x := ⟨steady_frame.cores s x, rfl, rfl⟩
  queues s x h := ⟨steady_frame.queues s x h, rfl, rfl⟩
  ke s x := ⟨steady_frame.ke s x, rfl, rfl⟩
  mem s x hs hw hp := ⟨steady_frame.mem s x hs hw hp, rfl, rfl⟩
  links s l x h := ⟨steady_frame.links s l x h, rfl, rfl⟩
  sync s c w v o h r e := ⟨steady_frame.sync s c w v o h r e, rfl, rfl⟩
  live s x := ⟨steady_frame.live s x, rfl, rfl⟩
  sent s x := ⟨steady_frame.sent s x, rfl, rfl⟩
  pba s p x := ⟨steady_frame.pba s p x, rfl, rfl⟩

/-- An entry in the log, with its messages and alert. -/
theorem State.logEvent_steady (s : State) (cls kind unit sev arg0 arg1 : Nat) : Steady (s.logEvent cls kind unit sev arg0 arg1) s := by
  have hirq (t : State) (p : Nat) : Steady (t.fltIrq p sev) t := steady_frame.ite (steady_frame.msix t _ _) .rfl
  have hpins (t : State) (x : Option DWord) : Steady (t.setPins { t.pins with alert := x }) t :=
    ⟨rfl, rfl, rfl, rfl, rfl, rfl, rfl, rfl, rfl, rfl, rfl, rfl, rfl, rfl, rfl, rfl, rfl, fun _ => rfl⟩
  have hlog (l : List LogEntry) (n : DWord) (a : Nat) (b : BitVec 16) :
      Steady (s.setFault { s.fault with log := l, seq := n, last := a, count := b }) s :=
    ⟨rfl, rfl, rfl, rfl, rfl, rfl, rfl, rfl, rfl, rfl, rfl, rfl, rfl, rfl, rfl, rfl, rfl, fun _ => rfl⟩
  have halert (t : State) (n : DWord) : Steady (t.alertFor sev n) t :=
    steady_frame.ite (steady_frame.ite ((steady_frame.emit _ _).trans (hpins t _)) (hpins t _)) .rfl
  exact (halert _ _).trans ((hirq _ 1).trans ((hirq _ 0).trans (hlog _ _ _ _)))

theorem steady_logFrame : LogFrame Steady where
  toFrame := steady_frame
  records _ _ _ _ _ := ⟨rfl, rfl, rfl, rfl, rfl, rfl, rfl, rfl, rfl, rfl, rfl, rfl, rfl, rfl, rfl, rfl, rfl, fun _ => rfl⟩
  log := State.logEvent_steady

end Sys2Proof.Machine
end

section
/-!
PROOFS. Entries of the fault log (14 R580), and the statements about the reference, the host ports, the test port and management
(15 R588 to R591, 16 R625, 17 R673 to R678, 20 R726 to R734).
-/
namespace Sys2Proof.Machine

open Sys2Proof.Claims

/-! ## Entries of the log -/

/-- The entry that `logEvent` makes. -/
def State.entry (s : State) (cls kind unit sev arg0 arg1 : Nat) : LogEntry :=
  ⟨s.fault.seq + 1, s.sync.dtc, s.sync.bcnt, cls, kind, sev, unit, BitVec.ofNat 64 arg0, BitVec.ofNat 64 arg1⟩

/-- The log keeps its newest entry at its end. -/
theorem State.logEvent_newest (s : State) (cls kind unit sev arg0 arg1 : Nat) :
    (s.logEvent cls kind unit sev arg0 arg1).fault.log.getLast? = some (s.entry cls kind unit sev arg0 arg1) := by
  rw [(s.logEvent_log cls kind unit sev arg0 arg1).2, List.getLast?_drop, if_neg (by simp), List.getLast?_concat]
  rfl

theorem State.logEvent_logged (s : State) (cls kind unit sev arg0 arg1 : Nat) :
    logged s (s.logEvent cls kind unit sev arg0 arg1) cls unit :=
  ⟨(s.logEvent_log ..).1, _, s.logEvent_newest .., (s.logEvent_log ..).1.symm, rfl, rfl, rfl⟩

/-- Only the faults of the later state, and SEQ and the device time of the earlier one, tell whether an entry was made. -/
theorem logged_congr {s t u v : State} {cls unit : Nat} (h : logged u t cls unit) (hseq : u.fault.seq = s.fault.seq)
    (hdtc : u.sync.dtc = s.sync.dtc) (hfault : v.fault = t.fault) : logged s v cls unit := by
  obtain ⟨hn, e, he, hes, hed, hcls, hunit⟩ := h
  exact ⟨by rw [hfault, hn, hseq], e, by rw [hfault, he], by rw [hfault, hes], by rw [hed, hdtc], hcls, hunit⟩

/-- An entry made in a state that has the SEQ and the device time of an earlier one. -/
theorem logEvent_logged_of {s u : State} (hseq : u.fault.seq = s.fault.seq) (hdtc : u.sync.dtc = s.sync.dtc)
    (cls kind unit sev arg0 arg1 : Nat) : logged s (u.logEvent cls kind unit sev arg0 arg1) cls unit :=
  logged_congr (u.logEvent_logged ..) hseq hdtc rfl

/-- The entry before the newest one is in the log too. -/
theorem State.mem_log_logEvent {s : State} {e : LogEntry} (h : s.fault.log.getLast? = some e) (cls kind unit sev arg0 arg1 : Nat) :
    e ∈ (s.logEvent cls kind unit sev arg0 arg1).fault.log := by
  obtain ⟨l, hl⟩ := List.getLast?_eq_some_iff.mp h
  rw [(s.logEvent_log cls kind unit sev arg0 arg1).2, hl, List.append_assoc, List.drop_append_of_le_length (by simp)]
  simp

/-! ## The reference (15 R588 to R591) -/

theorem State.failAll_quiet (s : State) {f : Fail} (h : f.ue = none) : Quiet (s.failAll f) s := quiet_frame.failAll s h

/-- The state in which the entry of a reset request is made. -/
def State.asked (s : State) (trigger : Nat) : State :=
  s.setFault { s.fault with pending := some (trigger, s.now), wanted := none }

/-- A reset request that is taken changes, but for its entry and for what the shared operations change, the request alone. -/
theorem State.beginReset_quiet (s : State) (trigger : Nat) :
    Quiet (s.beginReset trigger) ((s.asked trigger).logEvent 1 0 0 4 trigger 0) :=
  quiet_frame.trans (State.failAll_quiet _ rfl) (quiet_frame.tallyAdd _ _ _)

theorem State.asked_pending (s : State) (trigger cls kind unit sev arg0 arg1 : Nat) :
    ((s.asked trigger).logEvent cls kind unit sev arg0 arg1).fault.pending = some (trigger, s.now) := by
  rw [(State.logEvent_steady _ ..).faults]
  rfl

/-- The module right after its reference is lost, with the loss logged. -/
def State.refLost (s : State) : State :=
  ((s.setPower { s.power with refOk := false, holdover := true, losses := satAdd 255 s.power.losses 1 }).tallyAdd 0xA8 1).logEvent
    0x52 0 0 3 0 0

theorem State.refLost_power (s : State) :
    s.refLost.power = { s.power with refOk := false, holdover := true, losses := satAdd 255 s.power.losses 1 } := by
  simp [State.refLost]

theorem State.refLost_commanding (s : State) : s.refLost.commanding = s.commanding := by
  simp only [State.commanding, State.started, State.refLost_power]
  rw [State.refLost, (State.logEvent_steady _ ..).faults, State.logEvent_start]
  rfl

theorem exec_referenceLoss {s : State} (hphase : s.power.phase = .on) (href : s.power.refOk = true) (hstep : 4 ≤ s.start.step)
    (hcmd : s.commanding = true) :
    exec .referenceLoss s = .next ((s.refLost.beginReset 4).setFault { (s.refLost.beginReset 4).fault with hold := true }) := by
  have hgo : ¬(s.power.phase ≠ .on ∨ !s.power.refOk ∨ s.start.step < 4) := by simp [hphase, href, hstep]
  have hreset : (if s.refLost.commanding then s.refLost.beginReset 4 else s.refLost) = s.refLost.beginReset 4 :=
    if_pos (s.refLost_commanding.trans hcmd)
  exact congrArg Host.Outcome.next ((if_neg hgo).trans (congrArg (fun t : State => t.setFault { t.fault with hold := true }) hreset))

/-- The sequencers of two states' cores are the same. -/
def SameSeqs (t s : State) : Prop := ∀ c, (t.core c).seq = (s.core c).seq

theorem sameSeqs_of_cores {t s : State} (h : t.cores = s.cores) : SameSeqs t s := fun c => by simp only [State.core, h]

theorem State.write_sameSeqs (s : State) (a : Nat) (bs : List Byte) : SameSeqs (s.write a bs) s := fun c => by
  obtain ⟨l, h⟩ := s.write_core a bs c
  rw [h]

theorem State.bseqGone_cores (s : State) (q : Nat) (i : Item) : (s.bseqGone q i).cores = s.cores := by
  have hdrop (t : State) (h b : Nat) : (t.dropChunks h b).cores = t.cores :=
    foldl_keeps (P := fun u : State => u.cores = t.cores) _ (fun u n hu => by dsimp only; split <;> simp [hu]) _ t rfl
  unfold State.bseqGone
  dsimp only
  split <;> split <;> simp [hdrop]

theorem State.writeReport_sameSeqs (s : State) (i : Item) : SameSeqs (s.writeReport i) s := by
  unfold State.writeReport
  split
  · dsimp only
    split
    · exact s.write_sameSeqs _ _
    · exact fun _ => rfl
  · exact fun _ => rfl

/-- The end of an item leaves every core's sequencer. -/
theorem State.endNow_sameSeqs (s : State) (q k : Nat) (f : Option Fail) : SameSeqs (s.endNow q k f).1 s := by
  unfold State.endNow
  split
  · exact fun _ => rfl
  · split
    · exact fun _ => rfl
    · refine fun c => (State.writeReport_sameSeqs _ _ c).trans (sameSeqs_of_cores ?_ c)
      split
      · exact s.bseqGone_cores _ _
      · rfl

theorem State.endOpen_sameSeqs (s : State) : SameSeqs s.endOpen s :=
  foldl_keeps (P := fun t => SameSeqs t s) _ (fun t e h c => (t.endNow_sameSeqs e.1 e.2 none c).trans (h c)) _ s fun _ => rfl

theorem mem_of_tget_ne {α : Type} {d : α} {t : Table α} {k : Nat} (h : tget d t k ≠ d) : (k, tget d t k) ∈ t := by
  induction t with
  | nil => exact absurd rfl h
  | cons e t ih =>
    rw [tget] at h ⊢
    split
    · next hk => exact hk ▸ List.mem_cons_self
    · next hk => exact List.mem_cons_of_mem _ (ih (by rwa [if_neg hk] at h))

/-- A core with a run is one of the busy sites. -/
theorem State.mem_busySites {s : State} {c : Nat} (h : (s.core c).seq.run ≠ none) : c ∈ s.busySites := by
  have hmem : (c, s.core c) ∈ s.cores := mem_of_tget_ne fun hr => h (congrArg (fun x : Core => x.seq.run) hr)
  exact List.mem_map.mpr ⟨_, List.mem_filter.mpr ⟨hmem, Option.isSome_iff_ne_none.mpr h⟩, rfl⟩

/-- Freeing a list of cores leaves no run on them, and begins none elsewhere. -/
theorem freed_foldl_run (l : List Nat) (s : State) (c : Nat) :
    (c ∈ l ∨ (s.core c).seq.run = none → ((l.foldl (fun u x => u.putCore x (u.core x).freed) s).core c).seq.run = none) := by
  induction l generalizing s with
  | nil => exact fun h => h.resolve_left List.not_mem_nil
  | cons x l ih =>
    refine fun h => ih _ ?_
    by_cases hx : c = x
    · exact .inr (by rw [hx, State.core_putCore_same]; rfl)
    · rw [State.core_putCore_ne _ _ _ _ hx]
      exact h.imp_left fun hc => (List.mem_cons.mp hc).resolve_left hx

/-- Settles O36: the loss logs its entry before the reset's, and at the end of holdover every busy core is freed. -/
theorem referenceClock : Obligations.ReferenceClock := by
  unfold Obligations.ReferenceClock
  refine fun s hphase => ⟨fun href hstep hcmd _ => ?lost, fun href => ?returned, fun href hhold hpend => ?ended⟩
  case lost =>
    have hquiet := s.refLost.beginReset_quiet 4
    have hpower : (s.refLost.beginReset 4).power = s.refLost.power := by rw [hquiet.power, State.logEvent_power]; rfl
    have hnewest : (s.refLost.asked 4).fault.log.getLast? = _ := State.logEvent_newest _ 0x52 0 0 3 0 0
    have hlog := State.mem_log_logEvent hnewest 1 0 0 4 4 0
    refine ⟨_, exec_referenceLoss hphase href hstep hcmd, ?_, ?_, rfl, ?_, ?_, _, (congrArg FaultSt.log hquiet.fault).symm ▸ hlog, rfl⟩
    · exact congrArg PowerSt.refOk (hpower.trans s.refLost_power)
    · exact congrArg PowerSt.holdover (hpower.trans s.refLost_power)
    · exact congrArg PowerSt.losses (hpower.trans s.refLost_power)
    · refine (congrArg FaultSt.pending hquiet.fault).trans ((State.asked_pending _ ..).trans ?_)
      simp [State.refLost, State.now]
  case returned => exact congrArg Host.Outcome.next (if_neg (by simp [href, hphase]))
  case ended =>
    refine ⟨_, congrArg Host.Outcome.next (if_neg (by simp [href, hhold, Option.isSome_iff_ne_none.mp hpend])), fun c => ?_⟩
    rw [State.endOpen_sameSeqs]
    refine freed_foldl_run _ _ c ?_
    by_cases hrun : ((s.failAll ⟨0x13, 0, none⟩).core c).seq.run = none
    · exact .inr hrun
    · exact .inl (State.mem_busySites hrun)

end Sys2Proof.Machine
end

section
/-!
PROOFS. Host ports, the test port and management (14 R552, R556, 16 R625, 17 R673 to R678, 20 R726 to R734).
-/
namespace Sys2Proof.Machine

open Sys2Proof.Claims

/-! ## The test port -/

/-- Settles O47: each instruction of the port is one branch of its own rule, and the entry leaves the selection. -/
theorem testPort : Obligations.TestPort := by
  unfold Obligations.TestPort
  intro s hphase
  have hpower : s.tapPowered = true := decide_eq_true hphase
  have hoff : ¬((!s.tapPowered) = true) := by simp [hpower]
  refine ⟨fun hon hlo hhi => ?driven, fun hstep => ?refused, fun cells => ?sample, ?bypass, ?reset, fun c b hopen => ?debug,
    fun x hlocked => ?locked⟩
  case driven =>
    have htake (x : TapSel) : s.takePins x = s.setTap x := (if_neg hoff).trans (if_pos ⟨hon, hlo, hhi⟩)
    exact ⟨congrArg _ (htake _), congrArg _ (htake _), congrArg _ (htake _)⟩
  case refused =>
    have htake : s.takePins .extest = (s.setTap .bypass).logEvent 0x60 0 0 2 0 0 :=
      (if_neg hoff).trans (if_neg (by omega))
    refine ⟨_, congrArg Host.Outcome.next htake, ?_, logEvent_logged_of (u := s.setTap .bypass) rfl rfl ..⟩
    exact congrArg PinSt.tap ((s.setTap .bypass).logEvent_steady ..).pins
  case sample => exact congrArg Host.Outcome.next (if_pos hpower)
  case bypass => exact congrArg Host.Outcome.next (if_pos hpower)
  case reset => exact congrArg Host.Outcome.next (if_pos hpower)
  case debug =>
    refine ⟨_, congrArg Host.Outcome.next ((if_neg hoff).trans (if_neg (by simp [hopen]))), ?_, rfl⟩
    exact congrArg (fun k : Core => k.seq.halted) (State.core_putCore_same ..)
  case locked => exact congrArg Host.Outcome.next ((if_neg hoff).trans (if_pos (by simp [hlocked])))

/-! ## Host ports -/

/-- A message of FLT_IRQ leaves a port alone whose FLT_IRQ is off. -/
theorem State.fltIrq_pcie_of_off (s : State) {q : Nat} (sev : Nat) {p : Nat} (hq : q < 2)
    (h : (vget s.fault.irq p 0).getLsbD 31 = false) : (s.fltIrq q sev).pcie p = s.pcie p := by
  unfold State.fltIrq
  dsimp only
  split
  case isFalse => rfl
  case isTrue hon =>
    have hne : p ≠ q := fun hpq => Bool.false_ne_true (h.symm.trans (hpq ▸ hon.1))
    unfold State.msix
    split
    · rw [State.pcie_putPcie _ _ _ _ hq, if_neg hne]
    · rfl

theorem State.alertFor_pcie (s : State) (sev : Nat) (n : DWord) (p : Nat) : (s.alertFor sev n).pcie p = s.pcie p := by
  unfold State.alertFor
  split
  · dsimp only
    split <;> rfl
  · rfl

/-- An entry leaves a port alone whose FLT_IRQ is off. -/
theorem State.logEvent_pcie_of_off (s : State) (cls kind unit sev arg0 arg1 : Nat) {p : Nat}
    (h : (vget s.fault.irq p 0).getLsbD 31 = false) : (s.logEvent cls kind unit sev arg0 arg1).pcie p = s.pcie p := by
  have hirq (f : FaultSt) (hf : f.irq = s.fault.irq) : (((s.setFault f).fltIrq 0 sev).fltIrq 1 sev).pcie p = s.pcie p := by
    have hoff : (vget f.irq p 0).getLsbD 31 = false := hf ▸ h
    rw [State.fltIrq_pcie_of_off _ _ (by decide) (by rw [State.fltIrq_fault]; exact hoff),
      (s.setFault f).fltIrq_pcie_of_off sev (by decide) hoff]
    rfl
  exact (State.alertFor_pcie _ _ _ _).trans (hirq _ rfl)

/-- A port with no link. -/
def PcieSt.lost (x : PcieSt) : PcieSt := { x with speed := 0, width := 0, reversed := false }

theorem State.portDown_eq (s : State) (p : Nat) : s.portDown p = (s.putPcie p (s.pcie p).lost).logEvent 3 4 p 3 0 0 := rfl

theorem State.portDown_speed (s : State) (p : Port) : ((s.portDown p).pcie p).speed = 0 := by
  rw [State.portDown_eq, (State.logEvent_steady _ ..).pcie, State.pcie_putPcie _ _ _ _ p.isLt, if_pos rfl]
  rfl

theorem State.portDown_logged (s : State) (p : Port) : logged s (s.portDown p) 0x03 p := by
  rw [State.portDown_eq]
  exact logEvent_logged_of (u := s.putPcie p (s.pcie p).lost) rfl rfl ..

theorem State.portDown_other (s : State) (p : Port) (h : (vget s.fault.irq (1 - p.val) 0).getLsbD 31 = false) :
    (s.portDown p).pcie (1 - p.val) = s.pcie (1 - p.val) := by
  have hne : 1 - p.val ≠ p.val := by omega
  rw [State.portDown_eq, State.logEvent_pcie_of_off (s.putPcie p (s.pcie p).lost) 3 4 p 3 0 0 h,
    State.pcie_putPcie _ _ _ _ p.isLt, if_neg hne]

theorem State.portDown_queues (s : State) (p : Nat) : (s.portDown p).queues = s.queues := by
  rw [State.portDown_eq, State.logEvent_queues]
  rfl

/-- Settles O39: a lost link and PERST_N make one entry, and training keeps its result while waiting records are written. -/
theorem hostPorts : Obligations.HostPorts := by
  unfold Obligations.HostPorts
  refine fun s p => ⟨fun hup => ⟨?lost, ?perst⟩, fun speed hspeed hdown hready hgate => ?trained⟩
  case lost =>
    exact ⟨_, congrArg Host.Outcome.next (if_neg hup), s.portDown_speed p, s.portDown_logged p, s.portDown_queues p, s.portDown_other p⟩
  case perst =>
    have hdown : (if (s.pcie p).speed = 0 then s else s.portDown p) = s.portDown p := if_neg hup
    refine ⟨_, rfl, ?_, ?_, ?_, fun h => ?_⟩
    · rw [State.pcie_putPcie _ _ _ _ p.isLt, if_pos rfl]
    · rw [hdown]
      exact logged_congr (s.portDown_logged p) rfl rfl rfl
    · rw [hdown]
      exact s.portDown_queues p
    · rw [State.pcie_putPcie _ _ _ _ p.isLt, if_neg (by omega), hdown]
      exact s.portDown_other p h
  case trained =>
    have hgo : ¬(speed.val = 0 ∨ (s.pcie p).speed ≠ 0 ∨ !s.endpointReady ∨ !s.power.gate1.toNat.testBit (8 + p.val)) := by
      simpa [hspeed, hdown, hready, BitVec.getLsbD] using hgate
    have hport := (steady_logFrame.drainPort (s.putPcie p
      { s.pcie p with laneFault := 0, width := 16, reversed := false, speed := speed.val }) p).pcie p
    rw [State.pcie_putPcie _ _ _ _ p.isLt, if_pos rfl] at hport
    exact ⟨_, congrArg Host.Outcome.next (if_neg hgo), congrArg PcieSt.speed hport, congrArg PcieSt.width hport,
      congrArg PcieSt.reversed hport⟩

/-! ## Management -/

section Answered

variable {s u : State} {t : Transport} {code : Nat} {data : List Byte} {f : State → Nat × List Byte}

/-- Nimtia takes a message by keeping at most its transport. -/
theorem State.addressed_eq (h : s.addressed t = some u) : ∃ p, u = s.setPins p := by
  cases t <;> simp only [State.addressed, Option.ite_none_right_eq_some, Option.some.injEq] at h <;> obtain ⟨-, rfl⟩ := h
  case smbus => exact ⟨_, rfl⟩
  case i3c => exact ⟨s.pins, rfl⟩
  case pcie => exact ⟨s.pins, rfl⟩

theorem State.mgmt_eq (h : s.addressed t = some u) (hf : f u = (code, data)) : s.mgmt t f = u.emit (.mgmt t code data) := by
  rw [State.mgmt, h]
  exact congrArg (fun x : Nat × List Byte => u.emit (.mgmt t x.1 x.2)) hf

theorem replied_emit (h : s.addressed t = some u) : replied s u (u.emit (.mgmt t code data)) t code data := by
  obtain ⟨p, rfl⟩ := State.addressed_eq h
  exact ⟨rfl, rfl, by cases s; rfl⟩

/-- A message that is taken is answered on its transport. -/
theorem State.mgmt_replied (h : s.addressed t = some u) (hf : f u = (code, data)) :
    ∃ x, (.next (s.mgmt t f) : Answer) = .next x ∧ replied s u x t code data :=
  ⟨_, rfl, by rw [State.mgmt_eq h hf]; exact replied_emit h⟩

/-- The same for a message whose answer may hold free values. -/
theorem State.mgmt_replied_free (h : s.addressed t = some u) (hf : f u = (code, data)) :
    ∃ x, (.next ((s.mgmt t f).setFreeCount (s.freeCount + 1)) : Answer) = .next x ∧ replied s u x t code data :=
  ⟨_, rfl, by rw [State.mgmt_eq h hf]; exact replied_emit h⟩

end Answered

theorem State.chunk64_spec (s : State) {bs : List Byte} {k : Nat} :
    (s.chunk64 bs k).length = 64 ∧ ∀ i, i < 64 → 64 * k + i < bs.length → (s.chunk64 bs k).getD i 0 = bs.getD (64 * k + i) 0 := by
  unfold State.chunk64
  refine ⟨by simp, fun i hi hlt => ?_⟩
  rw [List.getD_append _ _ _ _ (by simp; omega)]
  simp [List.getD_eq_getElem?_getD, hi]

/-- READ_LOG of an entry that the log holds. -/
theorem exec_readLog_held {s u : State} {t : Transport} {n : DWord} (h : s.addressed t = some u)
    (hn : s.slotSeq (n.toNat % 512) = n.toNat) :
    exec (.readLog t n) s = .next (if s.pins.alert = some n then
      (u.emit (.mgmt t 0 (u.logSlot (n.toNat % 512)))).setPins { u.pins with alert := none }
      else u.emit (.mgmt t 0 (u.logSlot (n.toNat % 512)))) := by
  have hf : (if decide (s.slotSeq (n.toNat % 512) = n.toNat) then (0, u.logSlot (n.toNat % 512)) else (3, [])) =
      (0, u.logSlot (n.toNat % 512)) := if_pos (decide_eq_true hn)
  have hmgmt := State.mgmt_eq
    (f := fun v => if decide (s.slotSeq (n.toNat % 512) = n.toNat) then (0, v.logSlot (n.toNat % 512)) else (3, [])) h hf
  rw [exec, execReadLog, hmgmt]
  simp only [hn, decide_true, h, Option.isSome_some, true_and]
  rfl

theorem managementMessages : ManagementMessages := by
  unfold ManagementMessages
  intro s u t h
  obtain ⟨p, hu⟩ := State.addressed_eq h
  have htally : u.tally = s.tally := by rw [hu]; rfl
  have hraw : u.start.img.raw = s.start.img.raw := by rw [hu]; rfl
  have hslot (i : Nat) : u.logSlot i = s.logSlot i := by rw [hu]; rfl
  refine ⟨fun off count => ⟨fun h4 h0 h16 hend => ⟨fun hreads => ?word, fun hno => ?early⟩, fun hbad => ?badRange⟩, fun chunk hc => ?record,
    ?current, ?last, fun area chunk h0 h1 => ?noArea, fun n hn => ⟨fun ha => ?entry, fun ha => ?newest⟩, fun n hn => ?noEntry,
    fun chunk hc => ?image, fun chunk hc => ?noImage, ?status⟩
  case word =>
    refine State.mgmt_replied_free h ((if_neg (by omega)).trans (if_neg ?_))
    simpa using hreads
  case early =>
    obtain ⟨i, hi, hr⟩ := hno
    refine State.mgmt_replied_free h ((if_neg (by omega)).trans (if_pos ?_))
    simpa using ⟨i, hi, hr⟩
  case badRange => exact State.mgmt_replied_free h (if_pos hbad)
  case record => exact State.mgmt_replied h ((if_pos ⟨rfl, hc⟩).trans (by rw [htally]))
  case current => exact State.mgmt_replied h (by rw [← htally]; rfl)
  case last => exact State.mgmt_replied h (by rw [← htally]; rfl)
  case noArea => exact State.mgmt_replied h ((if_neg h0).trans ((if_neg (by tauto)).trans (if_neg (by tauto))))
  case entry =>
    rw [exec_readLog_held h hn, if_neg ha, hslot]
    exact ⟨_, rfl, replied_emit h⟩
  case newest =>
    rw [exec_readLog_held h hn, if_pos ha, hslot]
    subst hu
    exact ⟨_, rfl, rfl, rfl, by cases s; rfl⟩
  case noEntry =>
    have hf : (if decide (s.slotSeq (n.toNat % 512) = n.toNat) then (0, u.logSlot (n.toNat % 512)) else (3, [])) = (3, ([] : List Byte)) :=
      if_neg (by simpa using hn)
    refine ⟨_, congrArg Host.Outcome.next ((if_neg (by simp [hn])).trans (State.mgmt_eq h hf)), replied_emit h⟩
  case image =>
    obtain ⟨hlen, hget⟩ := u.chunk64_spec (bs := u.start.img.raw) (k := chunk)
    have hf : (if u.start.img.raw.length ≤ 64 * chunk then (1, []) else (0, u.chunk64 u.start.img.raw chunk)) =
        (0, u.chunk64 u.start.img.raw chunk) := if_neg (by rw [hraw]; omega)
    obtain ⟨x, hx, hr⟩ := State.mgmt_replied_free
      (f := fun v => if v.start.img.raw.length ≤ 64 * chunk then (1, []) else (0, v.chunk64 v.start.img.raw chunk)) h hf
    exact ⟨x, _, hx, hr, hlen, fun i hi hlt => by rw [hget i hi (by rw [hraw]; exact hlt), hraw]⟩
  case noImage => exact State.mgmt_replied_free h (if_pos (by rw [hraw]; exact hc))
  case status => exact State.mgmt_replied h rfl

/-- Settles O46: each message is one answer of Nimtia, and each event of the bus one change of its pins. -/
theorem management : Obligations.Management := by
  unfold Obligations.Management
  refine ⟨managementMessages, fun s a hup => ⟨fun hi ht => ?entdaa, fun hi ht => ?alert, fun hi => ?recovered, fun hi hb => ?failed,
    fun hi hb => ?isolated, fun hi => ?sensed⟩⟩
  case entdaa => exact congrArg Host.Outcome.next (if_pos (by simpa [hup, hi] using ht))
  case alert =>
    have haddr : s.addressed .smbus = some (s.setPins { s.pins with transport := 1 }) := if_pos (by simp [hup, hi, ht])
    simp only [exec, execAlertResponse, haddr]
    rfl
  case recovered => exact congrArg Host.Outcome.next ((if_neg (by simp [hup, hi])).trans rfl)
  case failed =>
    have hbad : ¬3 ≤ s.pins.badTries + 1 := by omega
    refine ⟨_, congrArg Host.Outcome.next ((if_neg (by simp [hup, hi])).trans (if_neg hbad)), if_neg hbad, decide_eq_false hbad⟩
  case isolated =>
    have hbad : 3 ≤ s.pins.badTries + 1 := by omega
    refine ⟨_, congrArg Host.Outcome.next ((if_neg (by simp [hup, hi])).trans (if_pos hbad)), ?_, logEvent_logged_of (by rfl) (by rfl) ..⟩
    exact (congrArg PinSt.isolated (State.logEvent_steady _ ..).pins).trans (decide_eq_true hbad)
  case sensed =>
    refine ⟨_, congrArg Host.Outcome.next (if_pos ⟨hup, hi, rfl⟩), ?_, logEvent_logged_of (by rfl) (by rfl) ..⟩
    exact congrArg PinSt.isolated (State.logEvent_steady _ ..).pins

end Sys2Proof.Machine
end

section
/-!
PROOFS. Writes and reads of BAR0 (00 R14 to R17, R753, 07 R289, 09 R345, R404, R405).
-/
namespace Sys2Proof.Machine

open Sys2Proof.Claims

/-! ## A queue's and a context's registers -/

theorem State.putQueue_only (s : State) (q : Nat) (x : QueueSt) : OnlyQueue s (s.putQueue q x) q x :=
  ⟨s.queue_putQueue_same q x, fun y hy => s.queue_putQueue_ne q y x hy, by cases s; rfl, fun _ => rfl⟩

/-- Of two writes of one queue the later stands. -/
theorem State.putQueue_putQueue_only (s : State) (q : Nat) (x y : QueueSt) : OnlyQueue s ((s.putQueue q y).putQueue q x) q x :=
  ⟨State.queue_putQueue_same _ q x, fun z hz => (State.queue_putQueue_ne _ q z x hz).trans (s.queue_putQueue_ne q z y hz), by cases s; rfl,
    fun _ => rfl⟩

/-- A word in a queue's block is a register of the queue. -/
theorem State.writeOpen_queue (s : State) (p : Port) (q : Queue) {o n : Nat} (v : Word) (ho : o = 0x80000 + 0x80 * q.val + n)
    (hn : n < 0x80) : s.writeOpen p o v = s.writeQueue p q n v := by
  have hq := q.isLt
  have hp := p.isLt
  have hdiv : (o - 0x80000) / 0x80 = q.val := by omega
  have hmod : (o - 0x80000) % 0x80 = n := by omega
  have hin : 0x80000 ≤ o ∧ (o - 0x80000) / 0x80 < 176 := by omega
  unfold State.writeOpen
  rw [if_neg (by omega), if_neg (by omega), if_neg (by omega), if_neg (by omega), if_neg (by omega), if_neg (by omega), dif_pos hin, hmod]
  exact congrArg (fun x => s.writeQueue p x n v) (Fin.ext hdiv)

theorem State.writeQueue_start_low (s : State) (p : Port) (q : Queue) (v : Word) (h : ¬(s.qOwner q ≠ p)) :
    s.writeQueue p q 8 v = s.putQueue q { s.queue q with start := setHalf (s.queue q).start false v } := by
  rw [State.writeQueue, if_neg h, if_neg (by decide), if_neg (by decide), if_pos (by decide)]
  rfl

theorem State.writeQueue_start_high (s : State) (p : Port) (q : Queue) (v : Word) (h : ¬(s.qOwner q ≠ p)) :
    s.writeQueue p q 0xC v = s.putQueue q { s.queue q with start := setHalf (s.queue q).start true v } := by
  rw [State.writeQueue, if_neg h, if_neg (by decide), if_neg (by decide), if_pos (by decide)]
  rfl

/-- Both halves of a register written are the whole value. -/
theorem setHalf_both (x v : DWord) : setHalf (setHalf x false (v.extractLsb' 0 32)) true (v.extractLsb' 32 32) = v := by
  simp only [setHalf, Bool.false_eq_true, if_false, if_true]
  apply BitVec.eq_of_getLsbD_eq
  intro i hi
  simp only [BitVec.getLsbD_append, BitVec.getLsbD_extractLsb']
  split
  · next h => simp [h]
  · next h => simp [show i - 32 < 32 by omega, show 32 + (i - 32) = i by omega]

/-- A word in a context's block is a register of the context. -/
theorem State.writeOpen_ctx (s : State) (p : Port) (x : Ctx) {o n : Nat} (v : Word) (ho : o = 0xC0000 + 0x400 * x.val + n)
    (hn : n < 0x400) : s.writeOpen p o v = s.writeCtx p x n v := by
  have hx := x.isLt
  have hp := p.isLt
  have hdiv : (o - 0xC0000) / 0x400 = x.val := by omega
  have hmod : (o - 0xC0000) % 0x400 = n := by omega
  have hin : 0xC0000 ≤ o ∧ (o - 0xC0000) / 0x400 < 64 := by omega
  unfold State.writeOpen
  rw [if_neg (by omega), if_neg (by omega), if_neg (by omega), if_neg (by omega), if_neg (by omega), if_neg (by omega),
    dif_neg (by omega), dif_pos hin, hmod]
  exact congrArg (fun y => s.writeCtx p y n v) (Fin.ext hdiv)

/-- Outside the firmware block a word is written once BAR0 is open, and not in recovery. -/
theorem State.writeWord_open (s : State) (p : Port) {o : Nat} (v : Word) (ho : 0x40000 ≤ o) (hbar : s.barOpen = true)
    (hrec : s.fwu.recovery = false) : s.writeWord p o v = s.writeOpen p o v := by
  rw [State.writeWord, if_neg (by omega), if_pos (by simp [hbar, hrec])]

/-- Outside the firmware block a word whose write would change nothing changes nothing. -/
theorem State.writeWord_ignored {s : State} (p : Port) {o : Nat} (v : Word) (ho : 0x40000 ≤ o) (h : s.writeOpen p o v = s) :
    s.writeWord p o v = s := by
  rw [State.writeWord, if_neg (by omega), h, ite_self]

/-! ## Whole accesses -/

theorem exec_registerWrite_word (p : Port) {off : BitVec 26} (v : DWord) (s : State) (h : off.toNat % 4 = 0) :
    exec (.registerWrite p off 4 v) s = .next (s.writeWord p off.toNat (v.extractLsb' 0 32)) :=
  congrArg Host.Outcome.next (if_pos ⟨rfl, h⟩)

theorem exec_registerWrite_pair (p : Port) {off : BitVec 26} (v : DWord) (s : State) (h : off.toNat % 8 = 0) :
    exec (.registerWrite p off 8 v) s =
      .next ((s.writeWord p off.toNat (v.extractLsb' 0 32)).writeWord p (off.toNat + 4) (v.extractLsb' 32 32)) :=
  congrArg Host.Outcome.next ((if_neg (by omega)).trans (if_pos ⟨rfl, h⟩))

theorem exec_registerWrite_ignored (p : Port) {off : BitVec 26} {w : Nat} (v : DWord) (s : State)
    (h : ¬((w = 4 ∨ w = 8) ∧ off.toNat % w = 0)) : exec (.registerWrite p off w v) s = .next s := by
  refine congrArg Host.Outcome.next ((if_neg ?_).trans (if_neg ?_)) <;> rintro ⟨rfl, h0⟩ <;> simp [h0] at h

/-- An access whose words change nothing changes nothing. -/
theorem exec_registerWrite_of_words {s : State} (p : Port) {off : BitVec 26} (w : Nat) (v : DWord)
    (h : ∀ o u, off.toNat ≤ o → o ≤ off.toNat + 4 → (o ≠ off.toNat → off.toNat % 8 = 0) → s.writeWord p o u = s) :
    exec (.registerWrite p off w v) s = .next s := by
  by_cases hform : (w = 4 ∨ w = 8) ∧ off.toNat % w = 0
  · obtain ⟨rfl | rfl, hoff⟩ := hform
    · rw [exec_registerWrite_word p v s hoff, h _ _ (by omega) (by omega) (by simp)]
    · rw [exec_registerWrite_pair p v s hoff, h _ _ (by omega) (by omega) (by simp), h _ _ (by omega) (by omega) fun _ => hoff]
  · exact exec_registerWrite_ignored p v s hform

/-- Settles O48: an access is its words in order, and a word in a queue's or a context's block is a register of it. -/
theorem registerWrites : Obligations.RegisterWrites := by
  unfold Obligations.RegisterWrites
  refine fun s p off v => ⟨fun h w => ?unaligned, fun w h4 h8 => ?width, fun h => ?half, fun w h => ?readsZero, fun h => ?readsTwo,
    fun h => ?twoWords, fun q w hlo hhi hown => ?othersQueue, fun x w hlo hhi hown => ?othersCtx, fun q hbar hrec ho hown => ?start,
    fun q hbar hrec ho hown => ?prio, fun x hbar hrec ho hown => ?window⟩
  case unaligned => exact exec_registerWrite_ignored p v s (by rintro ⟨rfl | rfl, h0⟩ <;> omega)
  case width => exact exec_registerWrite_ignored p v s (by tauto)
  case half => exact exec_registerWrite_ignored p v s (by rintro ⟨-, h0⟩; exact h h0)
  case readsZero =>
    rw [State.regRead, if_neg, if_neg] <;> rintro ⟨rfl, h0⟩ <;> simp [h0] at h
  case readsTwo =>
    rw [State.regRead, if_neg (by omega), if_pos ⟨rfl, h⟩, State.regRead, if_pos (by omega), State.regRead, if_pos (by omega)]
  case twoWords =>
    have hadd : (off + 4).toNat = off.toNat + 4 := by bv_omega
    have hhigh : (v >>> 32).extractLsb' 0 32 = v.extractLsb' 32 32 := by
      apply BitVec.eq_of_getLsbD_eq; intro i hi; simp [hi]
    rw [exec_registerWrite_pair p v s h]
    refine ⟨_, exec_registerWrite_word p v s (by omega), ?_⟩
    rw [exec_registerWrite_word p (v >>> 32) _ (by omega), hadd, hhigh]
  case othersQueue =>
    refine exec_registerWrite_of_words p w v fun o u h1 h2 h8 => State.writeWord_ignored p u (by omega) ?_
    have hq : o < 0x80000 + 0x80 * q.val + 0x80 := by
      by_cases ho : o = off.toNat
      · omega
      · have := h8 ho
        omega
    rw [s.writeOpen_queue p q (n := o - (0x80000 + 0x80 * q.val)) u (by omega) (by omega), State.writeQueue]
    exact if_pos hown
  case othersCtx =>
    refine exec_registerWrite_of_words p w v fun o u h1 h2 h8 => State.writeWord_ignored p u (by omega) ?_
    have hx : o < 0xC0000 + 0x400 * x.val + 0x400 := by
      by_cases ho : o = off.toNat
      · omega
      · have := h8 ho
        omega
    rw [s.writeOpen_ctx p x (n := o - (0xC0000 + 0x400 * x.val)) u (by omega) (by omega), State.writeCtx]
    exact if_pos hown
  case start =>
    have hown' : ¬(s.qOwner q ≠ p) := by simpa using hown
    have hhigh (x : QueueSt) (u : Word) : (s.putQueue q x).writeWord p (off.toNat + 4) u =
        (s.putQueue q x).putQueue q { x with start := setHalf x.start true u } := by
      rw [(s.putQueue q x).writeWord_open p u (by omega) hbar hrec, State.writeOpen_queue _ p q (n := 0xC) _ (by omega) (by decide),
        (s.putQueue q x).writeQueue_start_high p q u hown', State.queue_putQueue_same]
    rw [exec_registerWrite_pair p v s (by omega), s.writeWord_open p _ (by omega) hbar hrec,
      s.writeOpen_queue p q (n := 8) _ ho (by decide), s.writeQueue_start_low p q _ hown', hhigh, setHalf_both]
    exact ⟨_, rfl, s.putQueue_putQueue_only q _ _⟩
  case prio =>
    rw [exec_registerWrite_word p v s (by omega), s.writeWord_open p _ (by omega) hbar hrec,
      s.writeOpen_queue p q (n := 0) _ (by omega) (by decide), State.writeQueue, if_neg (by simpa using hown), if_pos rfl]
    have hbits : (v.extractLsb' 0 32).extractLsb' 26 2 = v.extractLsb' 26 2 := by
      apply BitVec.eq_of_getLsbD_eq
      intro i hi
      simp [hi]
    rw [hbits]
    exact ⟨_, rfl, s.putQueue_only q _⟩
  case window =>
    have hbits : (v.extractLsb' 0 32).setWidth 30 = v.setWidth 30 := by
      apply BitVec.eq_of_getLsbD_eq
      intro i hi
      simp [hi, show i < 32 by omega]
    rw [exec_registerWrite_word p v s (by omega), s.writeWord_open p _ (by omega) hbar hrec,
      s.writeOpen_ctx p x (n := 0) _ (by omega) (by decide), State.writeCtx, if_neg (by simpa using hown), if_pos (by decide)]
    refine ⟨_, rfl, ?_, ?_, fun y hy => s.ctx_putCtx_ne x y _ hy⟩
    · rw [State.ctx_putCtx_same]
    · rw [State.ctx_putCtx_same, vget_vset _ _ _ _ _ (by decide), if_pos rfl, ← hbits]
      rfl

end Sys2Proof.Machine
end

section
/-!
PROOFS. Gates, CLKOBS, the limiter and sensors (15 R592 to R612, 20 R725).
-/
namespace Sys2Proof.Machine

open Sys2Proof.Claims

/-! ## Gates and CLKOBS -/

/-- The parts of a value of CLK_OBS. -/
theorem obs_fields {sel src n : Nat} (hsel : sel < 32) (hsrc : src ≤ 9) (hn : n ≤ 16) :
    bitsOf (BitVec.ofNat 32 (sel * 65536 + src * 4096 + n)).toNat 20 16 = sel ∧
      bitsOf (BitVec.ofNat 32 (sel * 65536 + src * 4096 + n)).toNat 15 12 = src ∧
      bitsOf (BitVec.ofNat 32 (sel * 65536 + src * 4096 + n)).toNat 4 0 = n := by
  simp only [bitsOf, BitVec.toNat_ofNat, Nat.shiftRight_eq_div_pow]
  omega

/-- The block `b` of PWR_GATE0 switched off. -/
def State.blockOff (s : State) (b : Nat) : State := s.setPower { s.power with stat0 := s.power.stat0 &&& ~~~(1#32 <<< b) }

theorem exec_gateOff {s : State} {b : Fin 44} (hb : b.val < 32) (hgate : s.power.gate0.getLsbD b = false)
    (hstat : s.power.stat0.getLsbD b = true) (hidle : s.blockIdle b = true) :
    exec (.gateOff b) s = .next (if 16 ≤ b.val then (s.blockOff b).linkOff (b.val - 16) else s.blockOff b) := by
  have hgo : ¬((if b.val < 32 then s.power.gate0.toNat.testBit b else s.power.gate1.toNat.testBit (b.val - 32)) ||
      !(if b.val < 32 then s.power.stat0.toNat.testBit b else s.power.stat1.toNat.testBit (b.val - 32)) || !s.blockIdle b) = true := by
    rw [if_pos hb, if_pos hb, hidle, show s.power.gate0.toNat.testBit b = false from hgate,
      show s.power.stat0.toNat.testBit b = true from hstat]
    decide
  refine congrArg Host.Outcome.next ((if_neg hgo).trans ?_)
  have hoff : s.setPower (if b.val < 32 then { s.power with stat0 := s.power.stat0 &&& ~~~(1#32 <<< b.val) }
      else { s.power with stat1 := s.power.stat1 &&& ~~~(1#12 <<< (b.val - 32)) }) = s.blockOff b := by rw [if_pos hb]; rfl
  simp only [hoff]
  by_cases h16 : 16 ≤ b.val
  · rw [if_pos ⟨h16, hb⟩, if_pos h16]
  · rw [if_neg (by omega), if_neg (by omega), if_neg h16]

/-- Settles O37: a write of the enables leaves the rest of the power state, and a block that is off is a bit of its register. -/
theorem gatesAndClockOutput : Obligations.GatesAndClockOutput := by
  unfold Obligations.GatesAndClockOutput
  refine fun s => ⟨fun p v hbar => ⟨?low, ?high⟩, fun b hb hgate hstat hidle => ?off, fun h hgated => ?ready,
    fun v hbar hstat hsrc hsel => ?observed⟩
  case low =>
    refine ⟨_, congrArg Host.Outcome.next ((if_neg (by simp [hbar])).trans (if_neg (by decide))), ?_, ?_⟩ <;> rw [State.setGates_power]
  case high =>
    refine ⟨_, exec_pwrGateWrite_hi p v hbar, s.setGates_gate1 _ _, ?_⟩
    rw [State.setGates_gate1, getLsbD_setWidth_or_one_shiftLeft v (by omega)]
    simp
  case off =>
    refine ⟨_, exec_gateOff hb hgate hstat hidle, ?_, ?_, fun h16 => ?_⟩
    · split <;> rfl
    · split <;> rfl
    · rw [if_pos h16, State.linkOff, State.link_putLink _ _ _ _ (by omega), if_pos rfl]
  case ready => exact congrArg Host.Outcome.next (if_pos (by simp [hgated]))
  case observed =>
    have hlt : bitsOf v.toNat 20 16 < 32 := Nat.mod_lt _ (by decide)
    have hgo : ¬((!s.barOpen) = true ∨ (!s.power.stat1.toNat.testBit 11) = true ∨ 9 < bitsOf v.toNat 15 12 ∨
        obsCount (bitsOf v.toNat 15 12) ≤ bitsOf v.toNat 20 16) := by
      rw [hbar, show s.power.stat1.toNat.testBit 11 = true from hstat]
      simp only [Bool.not_true, Bool.false_eq_true, false_or]
      omega
    exact ⟨_, congrArg Host.Outcome.next (if_neg hgo), obs_fields hlt hsrc (Nat.min_le_left _ _)⟩

/-! ## The limiter -/

/-- The first `n` entries of a table changed one after another. -/
theorem tget_foldl_range {α : Type} [DecidableEq α] {d : α} (f : Nat → α → α) (t : Table α) (n k : Nat) :
    tget d ((List.range n).foldl (fun l q => tput d l q (f q (tget d l q))) t) k = if k < n then f k (tget d t k) else tget d t k := by
  induction n with
  | zero => simp
  | succ n ih =>
    have hlast := ih
    rw [List.range_succ, List.foldl_concat, tget_tput]
    by_cases hk : k = n
    · subst hk
      have hself : tget d ((List.range k).foldl (fun l q => tput d l q (f q (tget d l q))) t) k = tget d t k := by rw [ih, if_neg (by omega)]
      rw [if_pos rfl, if_pos (by omega), hself]
    · rw [if_neg hk, ih]
      exact if_congr (by omega) rfl rfl

/-- With no sensor failed the limiter reads the temperatures as they are. -/
theorem State.measured_temps {s : State} (m : Measures) (h : s.power.sensors = 0) : (s.measured m).power.temps = m.temps := by
  have hgood (u i : Nat) : s.sensorBad u i = false := by simp [State.sensorBad, h]
  refine Vector.ext fun i hi => ?_
  simp [State.measured, hgood]

/-- Some temperature reaches its threshold. -/
theorem zip_any_iff (v : Vector (BitVec 12) 40) (f : Nat → Int) :
    ((v.toList.zip (List.range 40)).any fun e => decide (f e.2 ≤ e.1.toInt)) = true ↔ ∃ i : Fin 40, f i ≤ v[i].toInt := by
  simp only [List.any_eq_true, decide_eq_true_eq]
  constructor
  · rintro ⟨e, he, hle⟩
    obtain ⟨i, hi, rfl⟩ := List.mem_iff_getElem.mp he
    simp only [List.length_zip, Vector.length_toList, List.length_range] at hi
    exact ⟨⟨i, by omega⟩, by simpa using hle⟩
  · rintro ⟨i, hle⟩
    exact ⟨(v[i], i.val), List.mem_iff_getElem.mpr ⟨i.val, by simp, by simp⟩, hle⟩

theorem State.limitWindow_fault (s : State) : s.limitWindow.fault = s.fault := rfl
theorem State.limitWindow_power (s : State) : s.limitWindow.power = s.power := rfl
theorem State.limitWindow_queues (s : State) : s.limitWindow.queues = s.queues := rfl

/-- The limiter's period, with no reset waiting. -/
theorem exec_limiterPeriod {s : State} {m : Measures} (hphase : s.power.phase = .on) (hdue : 10000 ≤ (s.now - s.power.limitAt).toNat)
    (hwanted : (s.measured m).limit.fault.wanted = none) :
    exec (.limiterPeriod m) s = .next (s.measured m).limit.limitWindow := by
  have hgo : ¬(s.power.phase ≠ .on ∨ (s.now - s.power.limitAt).toNat < 10000) :=
    not_or.mpr ⟨not_not.mpr hphase, Nat.not_lt.mpr hdue⟩
  have htake : (s.measured m).limit.limitWindow.takeWanted = (s.measured m).limit.limitWindow := by
    rw [State.takeWanted, State.limitWindow_fault, hwanted]
  exact congrArg Host.Outcome.next ((if_neg hgo).trans htake)

/-- What the items' end and the records leave of a trip. -/
theorem State.endAll_releaseAll_steady (s : State) {f : Fail} (h : f.ue = none) : Steady (s.endAll f).releaseAll s :=
  (steady_logFrame.releaseAll _).trans (steady_frame.endAll s h)

theorem State.trip_steady (s : State) : Steady s.trip (s.setPower { s.power with tripped := true }) :=
  (steady_frame.tallyAdd _ _ _).trans ((State.logEvent_steady _ ..).trans
    ((State.setQueues_steady _ _).trans (State.endAll_releaseAll_steady _ rfl)))

/-- A queue that a trip stops. -/
def QueueSt.tripped (x : QueueSt) : QueueSt := { x with st := .stopped, pos := .none, preReq := .none, stopNext := false }

/-- Every queue that a trip stops. -/
def tripQueues (n : Nat) (t : Table QueueSt) : Table QueueSt :=
  (List.range n).foldl (fun l q => tput QueueSt.reset l q (tget QueueSt.reset l q).tripped) t

theorem tget_tripQueues (n : Nat) (t : Table QueueSt) {q : Nat} (h : q < n) :
    tget QueueSt.reset (tripQueues n t) q = (tget QueueSt.reset t q).tripped := by
  exact (tget_foldl_range (fun _ x => x.tripped) t n q).trans (if_pos h)

theorem State.trip_queues (s : State) : ∃ t, s.trip.queues = tripQueues 176 t := by
  rw [State.trip, State.tallyAdd_queues, State.logEvent_queues, State.setQueues_queues]
  generalize 176 = n
  generalize ((s.setPower { s.power with tripped := true }).endAll ⟨0x1E, 0, none⟩).releaseAll.queues = t
  exact ⟨t, rfl⟩

theorem State.trip_queue (s : State) {q : Nat} (h : q < 176) : (s.trip.queue q).st = .stopped := by
  obtain ⟨t, ht⟩ := s.trip_queues
  rw [State.queue, ht, tget_tripQueues 176 t h]
  rfl

theorem State.trip_log (s : State) : ∃ e ∈ s.trip.fault.log, e.cls = 0x50 := by
  rw [State.trip, State.tallyAdd_fault]
  exact ⟨_, List.mem_of_getLast? (State.logEvent_newest ..), rfl⟩

/-- What one period does: the first row of R608 that the temperatures and the power meet. -/
theorem State.limit_of_trip {s : State} (h : (∃ i : Fin 40, tripAt i ≤ s.power.temps[i].toInt)) (ht : s.power.tripped = false) :
    s.limit = s.trip :=
  (if_pos ((zip_any_iff _ _).mpr h)).trans (if_neg (by simp [ht]))

theorem State.limit_of_warm {s : State} (hno : ¬∃ i : Fin 40, tripAt i ≤ s.power.temps[i].toInt)
    (h : (∃ i : Fin 40, 380 ≤ s.power.temps[i].toInt) ∨ profWatts s.profile < s.power.watts.toNat) (hs : s.power.steps < s.stepLimit) :
    ∃ a b, s.limit = s.setPower { s.power with steps := s.power.steps + 1, byTemp := a, byPower := b } := by
  have hany := (zip_any_iff s.power.temps fun _ => throttleAt).trans Iff.rfl
  exact ⟨_, _, (if_neg (mt (zip_any_iff _ _).mp hno)).trans ((if_pos (h.imp_left hany.mpr)).trans (if_pos hs))⟩

theorem State.limit_of_cool {s : State} (hno : ¬∃ i : Fin 40, tripAt i ≤ s.power.temps[i].toInt)
    (hcool : ¬∃ i : Fin 40, 360 ≤ s.power.temps[i].toInt) (hw : 100 * s.power.watts.toNat < 95 * profWatts s.profile)
    (hs : 0 < s.power.steps) : s.limit = s.setPower { s.power with steps := s.power.steps - 1 } := by
  have hwarm : ¬(((s.power.temps.toList.zip (List.range 40)).any fun e => decide (throttleAt ≤ e.1.toInt)) = true ∨
      profWatts s.profile < s.power.watts.toNat) := by
    rintro (h | h)
    · obtain ⟨i, hi⟩ := (zip_any_iff _ fun _ => throttleAt).mp h
      exact hcool ⟨i, le_trans (by decide) hi⟩
    · omega
  have hrelease : ((s.power.temps.toList.zip (List.range 40)).any fun e => decide (releaseAt ≤ e.1.toInt)) = false :=
    Bool.eq_false_iff.mpr (mt (zip_any_iff _ fun _ => releaseAt).mp hcool)
  exact (if_neg (mt (zip_any_iff _ _).mp hno)).trans ((if_neg hwarm).trans (if_pos ⟨by simp [hrelease], hw, hs⟩))

/-- A threshold of a trip lies above the others. -/
theorem tripAt_bound (i : Nat) : 420 ≤ tripAt i := by
  unfold tripAt
  split <;> decide

theorem exists_tripAt_iff (m : Measures) : (∃ i : Fin 40, tripAt i ≤ m.temps[i].toInt) ↔
    (∃ i : Fin 40, i.val < 32 ∧ 440 ≤ m.temps[i].toInt) ∨ ∃ i : Fin 40, 32 ≤ i.val ∧ 420 ≤ m.temps[i].toInt := by
  rw [← exists_or]
  refine exists_congr fun i => ?_
  unfold tripAt
  split <;> omega

theorem State.sensorBad_mark (s : State) (u : Fin 32) (i : Fin 2) (x : PowerSt)
    (h : x.sensors = s.power.sensors ||| (1#64 <<< (2 * u.val + i.val))) : (s.setPower x).sensorBad u i = true := by
  have hlt : 2 * u.val + i.val < 64 := by omega
  rw [State.sensorBad, State.setPower_power, h, BitVec.testBit_toNat, BitVec.getLsbD_or, ← BitVec.twoPow_eq, BitVec.getLsbD_twoPow]
  simp [hlt]

/-- The module with sensor `i` of logic die `u` failed, before its entry in the log. -/
def State.sensorFailed (s : State) (u i : Nat) : State :=
  let t := s.setPower { s.power with sensors := s.power.sensors ||| (1#64 <<< (2 * u + i)) }
  if t.sensorBad u 0 && t.sensorBad u 1 then t.setPower { t.power with temps := vset t.power.temps u 440 } else t

theorem State.sensorFailed_eq (s : State) (u i : Nat) :
    ∃ x, s.sensorFailed u i = s.setPower x ∧ x.sensors = s.power.sensors ||| (1#64 <<< (2 * u + i)) := by
  simp only [State.sensorFailed]
  split
  · exact ⟨_, rfl, rfl⟩
  · exact ⟨_, rfl, rfl⟩

theorem exec_sensorFault {s : State} {u : Fin 32} {i : Fin 2} (hphase : s.power.phase = .on) (hbad : s.sensorBad u i = false) :
    exec (.sensorFault u i) s = .next (if u.val < 24 then (s.sensorFailed u i).logEvent 0x50 5 u 3 0 0
      else (s.sensorFailed u i).logEvent 0x50 2 (u.val - 24) 3 0 0) :=
  congrArg Host.Outcome.next (if_neg (by simp [hphase, hbad]))

/-- Settles O38: with every sensor good the limiter's row is the measured one, and each event of a sensor or a strap is one entry. -/
theorem limiterAndSensors : Obligations.LimiterAndSensors := by
  unfold Obligations.LimiterAndSensors
  refine ⟨fun s m hphase hdue hgood hwanted => ?limiter, fun s u i hphase hbad => ?sensor,
    fun s cool slot cfg hoff hboot hcfg => ?strap⟩
  case limiter =>
    have htemps := s.measured_temps m hgood
    have hexec := fun h => exec_limiterPeriod (m := m) hphase hdue h
    dsimp only
    rw [← exists_tripAt_iff, ← htemps]
    refine ⟨fun hno hwarm hs => ?warm, fun hcool hw hs => ?cool, fun htrip ht => ?trip⟩
    case warm =>
      obtain ⟨a, b, hlimit⟩ := State.limit_of_warm (s := s.measured m) hno hwarm hs
      rw [hlimit] at hexec
      exact ⟨_, hexec hwanted, rfl, rfl, rfl⟩
    case cool =>
      have hno : ¬∃ i : Fin 40, tripAt i ≤ (s.measured m).power.temps[i].toInt := fun ⟨i, hi⟩ =>
        hcool ⟨i, le_trans (le_trans (by decide) (tripAt_bound i)) hi⟩
      have hlimit := State.limit_of_cool (s := s.measured m) hno hcool hw hs
      rw [hlimit] at hexec
      exact ⟨_, hexec hwanted, rfl, rfl, rfl⟩
    case trip =>
      have hlimit := State.limit_of_trip (s := s.measured m) htrip ht
      have hsteady := (s.measured m).trip_steady
      rw [hlimit] at hexec
      refine ⟨_, hexec ((congrArg FaultSt.wanted hsteady.faults).trans hwanted), ?_, fun q hq => ?_, ?_⟩
      · exact congrArg PowerSt.tripped hsteady.power
      · exact State.trip_queue _ hq
      · exact State.trip_log _
  case sensor =>
    obtain ⟨x, hx, hsensors⟩ := s.sensorFailed_eq u i
    rw [exec_sensorFault hphase hbad, hx]
    have hmark := s.sensorBad_mark u i x hsensors
    by_cases hu : u.val < 24
    · rw [if_pos hu, if_pos hu]
      refine ⟨_, rfl, ?_, logEvent_logged_of (by rfl) (by rfl) ..⟩
      rwa [State.sensorBad, State.logEvent_power]
    · rw [if_neg hu, if_neg hu]
      refine ⟨_, rfl, ?_, logEvent_logged_of (by rfl) (by rfl) ..⟩
      rwa [State.sensorBad, State.logEvent_power]
  case strap =>
    have hgo : ¬(s.power.phase = .off ∨ s.power.phase = .booting ∨
        (s.start.cool.toNat = cool.val ∧ s.start.slotId.toNat = slot.val ∧ s.start.cfgSrc = cfg)) := by tauto
    refine ⟨_, congrArg Host.Outcome.next (if_neg hgo), ?_, logEvent_logged_of (by rfl) (by rfl) ..⟩
    rw [State.logEvent_start]
    rfl

end Sys2Proof.Machine
end

section
/-!
PROOFS. Queue commands (07 R289 to R291, 09 R388 to R390, R401, 14 R572, R573).
-/
namespace Sys2Proof.Machine

open Sys2Proof.Claims

/-- With no record held there is nothing to try again. -/
theorem State.drain_of_held_nil {s : State} {q : Nat} (h : (s.queue q).held = []) : s.drain q = s := by
  rw [State.drain, h]
  rfl

theorem onlyQueue_drain {s t : State} {q : Nat} {x : QueueSt} (h : OnlyQueue s t q x) (hx : x.held = []) : OnlyQueue s (t.drain q) q x := by
  rwa [State.drain_of_held_nil (by rw [h.1, hx])]

/-- START moves the queue alone. -/
theorem startCommand : Sys2Proof.Claims.StartCommand := by
  refine fun s p q => ⟨fun hcom hown hst hring => ?idle, fun hcom hown hst hring => ?stopped, fun h => ?refused⟩
  case idle =>
    refine ⟨_, congrArg Host.Outcome.next (if_pos ⟨hcom, hown, .inl hst, hring⟩), ?_⟩
    rw [if_pos hst]
    exact s.putQueue_only q _
  case stopped =>
    refine ⟨_, congrArg Host.Outcome.next (if_pos ⟨hcom, hown, .inr hst, hring⟩), ?_⟩
    rw [if_neg (by simp [hst])]
    exact s.putQueue_only q _
  case refused => exact congrArg Host.Outcome.next (if_neg (by tauto))

/-- The writes of a queue's head and of its rebase move the queue alone where no record is held. -/
theorem queueRegisterCommands : Sys2Proof.Claims.QueueRegisterCommands := by
  refine fun s p q hbar hown hheld => ⟨fun v hv => ?head, fun v hv => ?beyond, fun hrebase => ?rebase,
    fun c hctx hbusy => ?commit, fun c hctx hbusy => ?busy⟩
  case head =>
    refine ⟨_, congrArg Host.Outcome.next (if_pos ⟨hbar, hown⟩), ?_⟩
    rw [if_pos hv]
    exact onlyQueue_drain (s.putQueue_only q _) hheld
  case beyond =>
    refine congrArg Host.Outcome.next ((if_pos ⟨hbar, hown⟩).trans ?_)
    rw [if_neg (Nat.not_le.mpr hv), State.drain_of_held_nil hheld]
  case rebase =>
    exact ⟨_, congrArg Host.Outcome.next (if_pos ⟨hbar, hown, hrebase⟩), onlyQueue_drain (s.putQueue_only q _) hheld⟩
  case commit =>
    refine ⟨_, congrArg Host.Outcome.next (if_pos ⟨hbar, hctx, by simp [hbusy]⟩), ?_, ?_, fun y hy => s.ctx_putCtx_ne c y _ hy, rfl, fun _ => rfl⟩
    · rw [s.ctx_putCtx_same]
    · rw [s.ctx_putCtx_same]
  case busy => exact congrArg Host.Outcome.next (if_neg (by simp [hbusy]))

/-- Settles O24: each command is one write of its queue or context. -/
theorem queueCommands : Obligations.QueueCommands := by
  unfold Obligations.QueueCommands
  exact ⟨startCommand, queueRegisterCommands⟩

end Sys2Proof.Machine
end

section
/-!
PROOFS. ABORT of a queue whose items that have not started still own watches (09 R399, 10 R417, R419).
-/
namespace Sys2Proof.Machine

open Sys2Proof.Claims

/-- An item that has not started, number `k` of its queue. -/
def waitingItem (k : Nat) : Item := { endedItem with k := k, phase := .notStarted, progress := 0 }

/-- The PREEMPTED queue of those two items. -/
def abortQueue : QueueSt := { QueueSt.reset with st := .preempted, items := [waitingItem 1, waitingItem 2] }

/-- A claim of 1 on counter 0 that holds at once. -/
def itemClaim (k : Nat) : Watch := ⟨0, .item 0 k, 0, 0, some 1, 0⟩

/-- The module with that queue 0, and with a claiming watch of each of its items on counter 0. -/
def abortState : State :=
  (State.reset.putQueue 0 abortQueue).setSync { State.reset.sync with watches := [itemClaim 1, itemClaim 2] }

/-- The status of item `k` of queue 0 in the answer's state. -/
def answerStatus (k : Nat) : Answer → Option Nat
  | .next t => (t.item? 0 k).map (·.status)
  | _ => none

/-- The end of item 1 withdraws its claim, and the claim of item 2 then completes item 2 with DONE. -/
theorem abortState_aborted : answerStatus 2 (exec (.abort 0 0) abortState) = some 0 := by decide +kernel

/-- Refutes O25: in a state whose PREEMPTED queue has two items that have not started, each with a claiming watch on one counter, ABORT
ends the second with DONE, where the statement has it end with FAILED_PREEMPT_ABORT. -/
theorem not_preemption : ¬ Obligations.Preemption := by
  unfold Obligations.Preemption
  rintro ⟨h, -, -⟩
  obtain ⟨-, -, -, -, habort, -⟩ := h abortState 0 0 (by decide) (by decide)
  obtain ⟨t, ht, -, hitems, -⟩ := habort rfl (by decide) fun _ => rfl
  obtain ⟨j, hj, -, hstatus⟩ := hitems 2 (waitingItem 2) (by decide) rfl rfl
  have hitem : t.item? 0 2 = some j := hj
  have hdone := abortState_aborted
  rw [ht, answerStatus, hitem] at hdone
  exact absurd ((Option.some.inj hdone).symm.trans hstatus) (by decide)

end Sys2Proof.Machine
end

section
/-!
PROOFS. Counters written by the host, and host watches (10 R408, R411 to R415, R453).
-/
namespace Sys2Proof.Machine

open Sys2Proof.Claims

/-! ## Counters and watches -/

theorem State.setCounter_counter (s : State) (c n : Nat) (v : DWord) : (s.setCounter c v).counter n = if n = c then v else s.counter n := tget_tput

/-- A release that brings no operation is one change. -/
theorem State.ops_nil (s : State) : s.ops [] = s := by
  rw [State.ops, List.length_nil]
  generalize 0 + 2 * s.sync.watches.length = n
  rfl

/-- A signal on a counter that no watch names is its addition alone. -/
theorem State.signal_of_unwatched {s : State} {c : Nat} (d : DWord) (h : ∀ w ∈ s.sync.watches, w.counter ≠ c) :
    s.signal c d = s.setCounter c (s.counter c + d) := by
  have hfire : ((s.setCounter c (s.counter c + d)).sync.watches.filter fun w => decide (w.counter = c) && w.claim.isNone &&
      w.holds ((s.setCounter c (s.counter c + d)).counter c)) = [] :=
    List.filter_eq_nil_iff.mpr fun w hw => by simp [h w hw]
  have hclaim : ((s.setCounter c (s.counter c + d)).sync.watches.find? fun w => decide (w.counter = c) && w.claim.isSome) = none :=
    List.find?_eq_none.mpr fun w hw => by simp [h w hw]
  have hchange : s.change1 c d = (s.setCounter c (s.counter c + d), []) := by
    rw [State.change1, hfire]
    simp only [fireAll]
    rw [State.tryClaim, hclaim]
    rfl
  have hrun (n : Nat) : runOps (n + 1) s [(c, d)] = runOps n (s.change1 c d).1 ((s.change1 c d).2 ++ []) := rfl
  rw [State.signal, State.ops, hrun, hchange]
  generalize [(c, d)].length + 2 * s.sync.watches.length = n
  cases n <;> rfl

/-- A watch as it stands once it is registered. -/
def State.seen (s : State) (w : Watch) : Watch := { w with v0 := s.counter w.counter }

/-- The sync unit with that watch behind the others. -/
def State.watched (s : State) (w : Watch) : State := s.setSync { s.sync with watches := s.sync.watches ++ [s.seen w] }

theorem State.place_eq (s : State) (w : Watch) : s.place w =
    if (s.seen w).holds (s.counter w.counter) && (w.claim.isNone || !s.sync.watches.any fun x => decide (x.counter = w.counter) && x.claim.isSome) then
      ((s.watched w).fireWatch (s.seen w)).1.ops ((s.watched w).fireWatch (s.seen w)).2
    else s.watched w := rfl

/-- A watch that does not hold is kept. -/
theorem State.place_of_not_holds {s : State} {w : Watch} (h : (s.seen w).holds (s.counter w.counter) = false) : s.place w = s.watched w :=
  (s.place_eq w).trans (if_neg (by simp [h]))

/-- A host watch that holds fires at once. -/
theorem State.place_of_holds {s : State} {w : Watch} {p i : Nat} (h : (s.seen w).holds (s.counter w.counter) = true)
    (hclaim : w.claim = none) (hwho : w.who = .host p i) :
    s.place w = (((s.watched w).dropWatch (s.seen w)).releaseWaiter (s.seen w)).1 := by
  have hops (t : State) : (t.fireWatch (s.seen w)).2 = [] := by
    have hw : (s.seen w).claim = none := hclaim
    have hw' : (s.seen w).who = .host p i := hwho
    rw [State.fireWatch, hw, State.releaseWaiter, hw']
    rfl
  rw [s.place_eq, if_pos (by simp [h, hclaim]), hops, State.ops_nil]
  rfl

/-- A waiter with neither a watch nor a waiting registration has nothing to withdraw. -/
theorem State.withdraw_of_none {s : State} {who : Waiter} (hwatch : ∀ x ∈ s.sync.watches, x.who ≠ who) (hwait : s.sync.waiting = []) :
    s.withdraw who = s := by
  have hsync : s.setSync { s.sync with waiting := s.sync.waiting.filter fun w => decide (w.who ≠ who) } = s := by
    rw [hwait, List.filter_nil, ← hwait]
    cases s; rfl
  have hfind : (s.sync.watches.find? fun w => decide (w.who = who)) = none := List.find?_eq_none.mpr fun x hx => by simp [hwatch x hx]
  rw [State.withdraw]
  simp only [hsync, hfind]

/-- Of one watch without a claim the withdrawal leaves every other. -/
theorem State.withdraw_watches {s : State} {who : Waiter}
    (h : ∀ x ∈ s.sync.watches, x.who = who → x.claim = none ∧ s.sync.watches.countP (fun y => decide (y.who = x.who)) = 1) :
    (s.withdraw who).sync.watches = s.sync.watches.filter fun x => decide (x.who ≠ who) := by
  cases hfind : s.sync.watches.find? fun w => decide (w.who = who) with
  | none =>
    have hall : ∀ x ∈ s.sync.watches, x.who ≠ who := fun x hx => by simpa using List.find?_eq_none.mp hfind x hx
    rw [List.filter_eq_self.mpr fun x hx => by simpa using hall x hx, State.withdraw]
    simp only [State.setSync_sync, hfind]
  | some w =>
    obtain ⟨hw, hmem⟩ : w.who = who ∧ w ∈ s.sync.watches := ⟨by simpa using List.find?_some hfind, List.mem_of_find?_eq_some hfind⟩
    obtain ⟨hclaim, hcount⟩ := h w hmem hw
    have hone : ∀ x ∈ s.sync.watches, x.who = who → x = w := fun x hx hxw => by
      rw [List.countP_eq_length_filter, List.length_eq_one_iff] at hcount
      obtain ⟨a, ha⟩ := hcount
      have hin (y : Watch) (hy : y ∈ s.sync.watches) (hyw : y.who = who) : y = a :=
        List.mem_singleton.mp (ha ▸ List.mem_filter.mpr ⟨hy, by simp [hyw, hw]⟩)
      rw [hin x hx hxw, hin w hmem hw]
    have hdrop : s.sync.watches.filter (· ≠ w) = s.sync.watches.filter fun x => decide (x.who ≠ who) :=
      List.filter_congr fun x hx => decide_eq_decide.mpr ⟨fun hne hxw => hne (hone x hx hxw), fun hne hxw => hne (hxw ▸ hw)⟩
    rw [State.withdraw]
    simp only [State.setSync_sync, hfind, hclaim, Option.isSome_none, Bool.false_eq_true, if_false]
    exact hdrop

theorem hostCounterAdd : Sys2Proof.Claims.HostCounterAdd := by
  refine fun s p n v hbar hv => ⟨fun huse hwatch => ?added, fun huse => ?denied⟩
  case added =>
    have hexec : exec (.suCtrAdd p n v) s = .next (s.setCounter n (s.counter n + v.zeroExtend 64)) := by
      rw [← State.signal_of_unwatched _ hwatch]
      exact congrArg Host.Outcome.next ((if_neg (by rw [hbar]; exact not_or.mpr ⟨hv, by simp⟩)).trans (if_pos huse))
    refine ⟨_, hexec, ?_, fun c hc => ?_, rfl, rfl, rfl, rfl⟩
    · rw [s.setCounter_counter, if_pos rfl]
    · rw [s.setCounter_counter, if_neg hc]
  case denied =>
    refine ⟨_, congrArg Host.Outcome.next ((if_neg (by rw [hbar]; exact not_or.mpr ⟨hv, by simp⟩)).trans (if_neg (by simp [huse]))),
      s.logEvent_logged .., ?_, ?_, ?_⟩
    · rw [State.logEvent_sync]
    · rw [State.logEvent_mem]
    · rw [State.logEvent_queues]

/-! ## Host watches -/

theorem State.putHostWatch_same (s : State) (p i : Nat) (x : HostWatch) : (s.putHostWatch p i x).hostWatch p i = x := tget_tput_same

/-- A watch removed right after it was added. -/
theorem filter_append_self {w : Watch} {l : List Watch} (h : ∀ x ∈ l, x ≠ w) : (l ++ [w]).filter (· ≠ w) = l := by
  rw [List.filter_append, List.filter_eq_self.mpr fun x hx => by simpa using h x hx]
  simp

/-- A condition on the value alone does not look at the value of the registration. -/
theorem holds_seen {s : State} {w : Watch} (v : DWord) (h : w.cond < 2) : (s.seen w).holds v = w.holds v := by
  rcases (show w.cond = 0 ∨ w.cond = 1 by omega) with h0 | h1
  · simp [Watch.holds, State.seen, h0]
  · simp [Watch.holds, State.seen, h1]

theorem exec_watchGrant {s : State} {w : Watch} {ws : List Watch} (hwait : s.sync.waiting = w :: ws)
    (hroom : s.sync.watches.length < 16208) : exec .watchGrant s = .next ((s.setSync { s.sync with waiting := ws }).place w) := by
  refine congrArg Host.Outcome.next ?_
  simp only [hwait]
  exact if_pos hroom

/-- A write of a host watch's fields never sets EN. -/
theorem hwFields_en (old v : Word) : (hwFields old v).getLsbD 31 = false := by
  unfold hwFields
  split <;> simp

/-- The vector that a register takes is the written one. -/
theorem hwFields_vector (old v : Word) : bitsOf (hwFields old v ||| 0x80000000#32).toNat 26 16 = bitsOf v.toNat 26 16 := by
  have hbits : (hwFields old v ||| 0x80000000#32).extractLsb' 16 11 = v.extractLsb' 16 11 := by
    unfold hwFields
    apply BitVec.eq_of_getLsbD_eq
    intro i hi
    split
    · simp only [BitVec.getLsbD_extractLsb', BitVec.getLsbD_or, BitVec.getLsbD_and]
      interval_cases i <;> simp
    · simp only [BitVec.getLsbD_extractLsb', BitVec.getLsbD_or, BitVec.getLsbD_and]
      interval_cases i <;> simp
  have htoNat (x : Word) : bitsOf x.toNat 26 16 = (x.extractLsb' 16 11).toNat := by
    simp [bitsOf, BitVec.extractLsb'_toNat]
  rw [htoNat, htoNat, hbits]

/-- A host's register as its watch fires: EN ends, and FIRED is set. -/
def HostWatch.fired (h : HostWatch) : HostWatch := { h with ctl := (h.ctl &&& 0x7FFFFFFF#32) ||| 0x40000000#32 }

theorem fired_en (h : HostWatch) : h.fired.ctl.getLsbD 31 = false := by simp [HostWatch.fired]

theorem fired_fired (h : HostWatch) : h.fired.ctl.getLsbD 30 = true := by simp [HostWatch.fired]

theorem State.releaseWaiter_host {s : State} {w : Watch} {p i : Nat} (h : w.who = .host p i) :
    (s.releaseWaiter w).1 = (s.putHostWatch p i (s.hostWatch p i).fired).msix p (bitsOf (s.hostWatch p i).ctl.toNat 26 16) := by
  rw [State.releaseWaiter, h]
  rfl

theorem State.msix_of_unmasked {s : State} {p v : Nat} (h : (s.pcie p).masked v = false) : s.msix p v = s.emit (.msix p v) :=
  if_neg (by simp [h])

/-- The write of EN = 1 of a register that neither watches nor waits, before its registration. -/
def State.enabled (s : State) (p : Port) (i : Fin 64) (v : Word) : State :=
  s.putHostWatch p i { s.hostWatch p i with ctl := hwFields (s.hostWatch p i).ctl v ||| 0x80000000#32 }

/-- The watch that a register asks for. -/
def State.askedWatch (s : State) (p : Port) (i : Fin 64) (v : Word) : Watch :=
  ⟨bitsOf v.toNat 11 0, .host p i, (s.hostWatch p i).thr, bitsOf v.toNat 29 28, none, 0⟩

theorem exec_hostWatchRegister {s : State} {p : Port} {i : Fin 64} {v : Word} (hbar : s.barOpen = true) (hen : v.getLsbD 31 = true)
    (hcond : bitsOf v.toNat 29 28 ≠ 3) (huse : s.portMayUse p (bitsOf v.toNat 11 0) = true)
    (hwatch : ∀ x ∈ s.sync.watches, x.who ≠ .host p i) (hwait : s.sync.waiting = []) (hroom : s.sync.watches.length < 16208) :
    exec (.hostWatchRegister p i v) s = .next ((s.enabled p i v).place (s.askedWatch p i v)) := by
  refine congrArg Host.Outcome.next ((if_neg (by rw [hen, hbar]; decide)).trans ?_)
  dsimp only
  rw [State.withdraw_of_none hwatch hwait]
  exact (if_neg (by simp [hcond, huse])).trans (if_pos ⟨hroom, hwait⟩)

theorem hostWatches : Sys2Proof.Claims.HostWatches := by
  refine fun s p i v hbar => ⟨fun hen hcond huse hwatch hwait hroom => ⟨fun hno => ?waits, fun hholds hmask => ?fires⟩,
    fun hen => ⟨_, congrArg Host.Outcome.next (if_neg (by rw [hen, hbar]; decide)), fun h => ?_, ?_⟩, fun x ws hwait hroom hno hcond => ?granted⟩
  case waits =>
    refine ⟨_, exec_hostWatchRegister hbar hen hcond huse hwatch hwait hroom, ?_⟩
    rw [State.place_of_not_holds (s := s.enabled p i v) (w := s.askedWatch p i v) hno]
    exact ⟨rfl, congrArg HostWatch.ctl (s.putHostWatch_same p i _), fun _ => rfl, rfl⟩
  case fires =>
    refine ⟨_, exec_hostWatchRegister hbar hen hcond huse hwatch hwait hroom, ?_⟩
    rw [State.place_of_holds (s := s.enabled p i v) (w := s.askedWatch p i v) hholds rfl rfl]
    let w := (s.enabled p i v).seen (s.askedWatch p i v)
    have hreg : (((s.enabled p i v).watched (s.askedWatch p i v)).dropWatch w).hostWatch p i = (s.enabled p i v).hostWatch p i := rfl
    have hvector : bitsOf ((s.enabled p i v).hostWatch p i).ctl.toNat 26 16 = bitsOf v.toNat 26 16 := by
      rw [State.enabled, State.putHostWatch_same]
      exact hwFields_vector _ v
    rw [State.releaseWaiter_host (w := w) (p := p) (i := i) rfl, hreg, hvector, State.msix_of_unmasked (by exact hmask)]
    refine ⟨?_, ?_, ?_, rfl⟩
    · exact filter_append_self fun x hx => fun hxw => hwatch x hx (congrArg Watch.who hxw)
    · exact (congrArg (fun h => BitVec.getLsbD (HostWatch.ctl h) 31) (State.putHostWatch_same ..)).trans (fired_en _)
    · exact (congrArg (fun h => BitVec.getLsbD (HostWatch.ctl h) 30) (State.putHostWatch_same ..)).trans (fired_fired _)
  · exact State.withdraw_watches h
  · rw [State.putHostWatch_same]
    exact hwFields_en _ _
  case granted =>
    have hplaced : (s.setSync { s.sync with waiting := ws }).place x = (s.setSync { s.sync with waiting := ws }).watched x :=
      State.place_of_not_holds ((holds_seen _ hcond).trans hno)
    refine ⟨_, (exec_watchGrant hwait hroom).trans (congrArg Host.Outcome.next hplaced), rfl, rfl⟩

/-- Settles O27: a signal that no watch awaits is one addition, and a host's register holds one watch. -/
theorem hostSync : Obligations.HostSync := by
  unfold Obligations.HostSync
  exact ⟨hostCounterAdd, hostWatches⟩

end Sys2Proof.Machine
end

section
/-!
PROOFS. The hubs: requests of the sort queue, sparing, patrol and prefetching (07 R295 to R307, 08 R321 to R334).
-/
namespace Sys2Proof.Machine

open Sys2Proof.Claims

/-! ## Contents of memory -/

/-- `t` and `s` hold the same bytes at the same places, with the same uncorrectable lines. -/
structure SameContents (t s : State) : Prop where
  cells : t.mem.cells = s.mem.cells
  unset : t.mem.unset = s.mem.unset
  ue : t.mem.ue = s.mem.ue
  start : t.start = s.start

theorem SameContents.trans {u t s : State} (h : SameContents u t) (g : SameContents t s) : SameContents u s :=
  ⟨h.cells.trans g.cells, h.unset.trans g.unset, h.ue.trans g.ue, h.start.trans g.start⟩

theorem State.byte_of_contents {s t : State} (hc : t.mem.cells = s.mem.cells) (hu : t.mem.unset = s.mem.unset) (hs : t.start = s.start)
    (b : Nat) : t.byte b = s.byte b := by
  rw [State.byte, State.loc_congr hs, State.byte, MemSt.byte, MemSt.byte, hc, hu]

theorem SameContents.byte {t s : State} (h : SameContents t s) (b : Nat) : t.byte b = s.byte b :=
  State.byte_of_contents h.cells h.unset h.start b

theorem SameContents.isUe {t s : State} (h : SameContents t s) (a : Nat) : t.isUe a = s.isUe a := by
  rw [State.isUe, h.ue, State.loc_congr h.start]
  rfl

theorem State.slotsAt_contents (s : State) (h : Nat) : SameContents (s.slotsAt h) s := ⟨rfl, rfl, rfl, rfl⟩
theorem State.putHub_contents (s : State) (h : Nat) (x : HubSt) : SameContents (s.putHub h x) s := ⟨rfl, rfl, rfl, rfl⟩
theorem State.logEvent_contents (s : State) (cls kind unit sev arg0 arg1 : Nat) :
    SameContents (s.logEvent cls kind unit sev arg0 arg1) s := by
  constructor <;> simp

/-! ## Hubs by number -/

theorem State.putHub_hub_same (s : State) (h : Hub) (x : HubSt) : (s.putHub h x).hub h = x := by
  rw [State.hub_putHub _ _ _ _ h.isLt, if_pos rfl]

theorem State.putHub_hub_ne (s : State) (h : Hub) (x : HubSt) {y : Nat} (hy : y ≠ h) : (s.putHub h x).hub y = s.hub y := by
  rw [State.hub_putHub _ _ _ _ h.isLt, if_neg hy]

theorem State.logEvent_hub (s : State) (cls kind unit sev arg0 arg1 h : Nat) :
    (s.logEvent cls kind unit sev arg0 arg1).hub h = s.hub h := by
  rw [State.hub, State.logEvent_mem]
  rfl

/-- What writes of memory leave of a hub: the number of its next request. -/
theorem State.invalidate_nextReq (s : State) (line h : Nat) : ((s.invalidate line).hub h).nextReq = (s.hub h).nextReq := by
  refine foldl_keeps (P := fun t : State => (t.hub h).nextReq = (s.hub h).nextReq) _ (fun t n ht => ?_) _ s rfl
  refine Eq.trans ?_ ht
  unfold State.invalidateAt
  dsimp only
  split
  · rfl
  · rw [show ∀ x k, ((t.putHub n x).tallyAdd (0x280 + 8 * n) k).hub h = (t.putHub n x).hub h from fun _ _ => rfl]
    by_cases hn : n < 8
    · rw [State.hub_putHub _ _ _ _ hn]
      split
      · next hh => subst hh; rfl
      · rfl
    · rw [State.putHub, vset_beyond _ _ _ (by omega)]
      rfl

theorem State.writeLine_nextReq (s : State) (a : Nat) (bs : List Byte) (h : Nat) :
    ((s.writeLine a bs).hub h).nextReq = (s.hub h).nextReq := by
  have hfix (m : MemSt) (b : Nat) : (m.fix b).hubs = m.hubs := by unfold MemSt.fix; split <;> rfl
  unfold State.writeLine
  dsimp only
  split
  · rw [State.hub, State.dropRunner_mem]
    exact congrArg (fun v => (vget v h HubSt.reset).nextReq) (hfix _ _)
  · rw [State.invalidate_nextReq]
    exact congrArg (fun v => (vget v h HubSt.reset).nextReq) (hfix _ _)

/-! ## The sort queue -/

/-- The requests of a hub as slots are given keep their numbers. -/
theorem mem_giveSlots {s : State} {held rs : List HubReq} {x : HubReq} (h : x ∈ giveSlots s held rs) : ∃ r ∈ rs, r.id = x.id := by
  induction rs generalizing held with
  | nil => exact absurd h List.not_mem_nil
  | cons r rs ih =>
    rw [giveSlots] at h
    split at h
    · obtain rfl | h := List.mem_cons.mp h
      · exact ⟨r, List.mem_cons_self, rfl⟩
      · obtain ⟨y, hy, hx⟩ := ih h
        exact ⟨y, List.mem_cons_of_mem _ hy, hx⟩
    · obtain rfl | h := List.mem_cons.mp h
      · exact ⟨x, List.mem_cons_self, rfl⟩
      · obtain ⟨y, hy, hx⟩ := ih h
        exact ⟨y, List.mem_cons_of_mem _ hy, hx⟩

/-- What a request does to memory as it arrives. -/
def State.requested (s : State) (r : MemReq) : State :=
  match r.write with
  | some (m, d) => s.acceptWrite (64 * r.line.toNat) m d
  | none => s

/-- The bytes that a request of memory writes make a whole line. -/
def wholeLine (r : MemReq) : Bool :=
  match r.write with
  | some (m, _) => decide (m = BitVec.allOnes 64)
  | none => false

/-- A request of memory as it enters its hub. -/
def State.entered (s : State) (h : Nat) (r : MemReq) : State :=
  s.enterHub h r.line.toNat r.write.isSome (wholeLine r) (r.prefetch && r.write.isNone)

theorem State.entered_contents (s : State) (h : Nat) (r : MemReq) : SameContents (s.entered h r) s := ⟨rfl, rfl, rfl, rfl⟩

theorem State.enterHub_nextReq (s : State) (h : Hub) (line : Nat) (write whole prefetch : Bool) :
    ((s.enterHub h line write whole prefetch).hub h).nextReq = (s.hub h).nextReq + 1 := by
  rw [State.enterHub, State.slotsAt, State.putHub_hub_same, State.putHub_hub_same]

theorem State.enterHub_hub_ne (s : State) (h : Hub) (line : Nat) (write whole prefetch : Bool) {y : Nat} (hy : y ≠ h) :
    (s.enterHub h line write whole prefetch).hub y = s.hub y := by
  rw [State.enterHub, State.slotsAt, State.putHub_hub_ne _ _ _ hy, State.putHub_hub_ne _ _ _ hy]

theorem exec_hubRequestArrival {s : State} {h : Hub} {r : MemReq} (hl : hubsLine s h (64 * r.line.toNat))
    (hroom : (s.hub h).sorted.length < 65536) : exec (.hubRequestArrival h r) s = .next ((s.requested r).entered h r) := by
  obtain ⟨hr | ⟨hr, hg⟩, hh⟩ := hl
  · exact congrArg Host.Outcome.next (if_pos (by simp [hr, hh, hroom]))
  · exact congrArg Host.Outcome.next (if_pos (by simp [hr, hg, hh, hroom]))

theorem getD_dataLine (d : Line) {i : Nat} (hi : i < 64) :
    (natLe 64 d.toNat).getD i 0 = BitVec.ofNat 8 (bitsOf d.toNat (8 * i + 7) (8 * i)) := by
  have hw : 8 * i + 7 + 1 - 8 * i = 8 := by omega
  rw [natLe_eq_map, List.getD_eq_getElem?_getD, List.getElem?_map, List.getElem?_range hi, bitsOf, Nat.shiftRight_eq_div_pow, hw]
  exact BitVec.eq_of_toNat_eq (by simp)

theorem getD_maskedBytes (s : State) (a : Nat) (m : BitVec 64) (d : Line) {i : Nat} (hi : i < 64) : (maskedBytes s a m d).getD i 0 =
    if m.getLsbD i then BitVec.ofNat 8 (bitsOf d.toNat (8 * i + 7) (8 * i)) else s.byte (a + i) := by
  rw [maskedBytes, List.getD_eq_getElem?_getD, List.getElem?_map, List.getElem?_range hi]
  rfl

/-- A write that its line can take writes the bytes of its mask. -/
theorem State.acceptWrite_byte {s : State} {a : Nat} {m : BitVec 64} {d : Line} (ha : a % 64 = 0) (hue : s.isUe a = false) :
    (∀ i, i < 64 → (s.acceptWrite a m d).byte (a + i) =
      if m.getLsbD i then BitVec.ofNat 8 (bitsOf d.toNat (8 * i + 7) (8 * i)) else s.byte (a + i)) ∧
    ∀ b, b < a ∨ a + 64 ≤ b → (s.acceptWrite a m d).byte b = s.byte b := by
  have hline (bs : List Byte) (hbs : bs.length = 64) : (∀ i, i < 64 → (s.writeLine a bs).byte (a + i) = bs.getD i 0) ∧
      ∀ b, b < a ∨ a + 64 ≤ b → (s.writeLine a bs).byte b = s.byte b := by
    refine ⟨fun i hi => ?_, fun b hb => ?_⟩
    · rw [State.writeLine_byte _ (by omega), if_pos (by omega), Nat.add_sub_cancel_left]
    · rw [State.writeLine_byte _ (by omega), if_neg (by omega)]
  unfold State.acceptWrite
  split
  · next h0 => exact ⟨fun i _ => by simp [h0], fun _ _ => rfl⟩
  · split
    · next h1 =>
      refine (hline _ (natLe_length _ _)).imp_left fun h i hi => ?_
      rw [h i hi, getD_dataLine d hi, h1, if_pos (by rw [BitVec.getLsbD_allOnes]; exact decide_eq_true hi)]
    · rw [if_neg (by simp [hue])]
      refine (hline _ (by simp [maskedBytes])).imp_left fun h i hi => ?_
      rw [h i hi, getD_maskedBytes s a m d hi]

theorem State.acceptWrite_nextReq {s : State} {a : Nat} (m : BitVec 64) (d : Line) (hue : s.isUe a = false) (h : Nat) :
    ((s.acceptWrite a m d).hub h).nextReq = (s.hub h).nextReq := by
  unfold State.acceptWrite
  rw [hue]
  split
  · rfl
  · split
    · exact s.writeLine_nextReq _ _ _
    · exact s.writeLine_nextReq _ _ _

/-! ## Requests performed -/

/-- A hub with one request performed. -/
def HubSt.performed (x : HubSt) (s : State) (r : HubReq) : HubSt :=
  { x with reqs := x.reqs.filter fun y => decide (y.id ≠ r.id)
           openRow := tput none x.openRow (s.bankOf (64 * r.line)) (some (s.rowOf (64 * r.line)))
           runs := tput 0 x.runs (s.bankOf (64 * r.line)) (s.runsAfter x r) }

/-- A read that meets no error changes nothing. -/
theorem State.readFact_clean {s : State} {a : Nat} (h : s.isUe a = false) (mended : Bool) : s.readFact a (.once .clean) mended = s := by
  rw [State.readFact, State.meetsUe, h]
  rfl

/-- A performed request that meets no error changes its hub's queue alone. -/
theorem exec_requestPerformed {s : State} {h : Hub} {i : Nat} {r : HubReq}
    (hr : (s.hub h).inSlots.find? (fun x => decide (x.id = i)) = some r) (hgo : s.mayPerform (s.hub h) r = true)
    (hread : r.write = true ∨ s.isUe (64 * r.line) = false) :
    exec (.requestPerformed h i (.once .clean)) s = .next ((s.putHub h ((s.hub h).performed s r)).slotsAt h) := by
  have hid : r.id = i := by simpa using List.find?_some hr
  subst hid
  have hread' (mended : Bool) : (if r.write then (s.putHub h ((s.hub h).performed s r)).slotsAt h else
      ((s.putHub h ((s.hub h).performed s r)).slotsAt h).readFact (64 * r.line) (.once .clean) mended) =
      (s.putHub h ((s.hub h).performed s r)).slotsAt h := by
    split
    · rfl
    · next hw =>
      have hsame : SameContents ((s.putHub h ((s.hub h).performed s r)).slotsAt h) s := (State.slotsAt_contents _ _).trans (s.putHub_contents _ _)
      exact State.readFact_clean ((hsame.isUe _).trans (hread.resolve_left hw)) mended
  refine congrArg Host.Outcome.next ?_
  simp only [hr, hgo]
  exact hread' _

theorem hubRequests : Sys2Proof.Claims.HubRequests := by
  refine fun s h => ⟨fun r hl hroom => ⟨fun m d hw hue => ?written, fun hw => ?read⟩, fun i r hr hgo hread => ?performed⟩
  case written =>
    have hreq : s.requested r = s.acceptWrite (64 * r.line.toNat) m d := by rw [State.requested, hw]
    obtain ⟨hin, hout⟩ := State.acceptWrite_byte (s := s) (m := m) (d := d) (Nat.mul_mod_right 64 r.line.toNat) hue
    refine ⟨_, exec_hubRequestArrival hl hroom, ?_, fun i hi => ?_, fun b hb => ?_⟩
    · rw [State.entered, State.enterHub_nextReq, hreq, State.acceptWrite_nextReq m d hue]
    · rw [(State.entered_contents _ _ _).byte, hreq, hin i hi]
    · rw [(State.entered_contents _ _ _).byte, hreq, hout b hb]
  case read =>
    have hreq : s.requested r = s := by rw [State.requested, hw]
    refine ⟨_, exec_hubRequestArrival hl hroom, ?_, fun y _ hy => ?_, fun b => ?_⟩
    · rw [State.entered, State.enterHub_nextReq, hreq]
    · rw [State.entered, State.enterHub_hub_ne _ _ _ _ _ _ hy, hreq]
    · rw [(State.entered_contents _ _ _).byte, hreq]
  case performed =>
    refine ⟨_, exec_requestPerformed hr hgo hread, fun x hx => ?_, fun y _ hy => ?_, fun b => ?_⟩
    · rw [State.slotsAt, State.putHub_hub_same, State.putHub_hub_same] at hx
      obtain ⟨y, hy, hyx⟩ := mem_giveSlots hx
      rw [HubSt.performed, List.mem_filter] at hy
      have hid : r.id = i := by simpa using List.find?_some hr
      rw [← hyx, ← hid]
      simpa using hy.2
    · rw [State.slotsAt, State.putHub_hub_ne _ _ _ hy, State.putHub_hub_ne _ _ _ hy]
    · rfl

/-! ## Sparing and patrol -/

theorem State.hubOf_eq_of_hubsLine {s : State} {h : Hub} {a : Nat} (hl : hubsLine s h a) : s.hubOf a = h := hl.2

theorem exec_patrolScrub {s : State} {h : Hub} {a : BitVec 42} (hl : hubsLine s h a.toNat) (e : ReadFact) :
    exec (.patrolScrub h a e) s = .next (if s.meetsUe a.toNat e then
      (s.readFact a.toNat e false).logEvent 0x20 2 h 0 (lineOf a.toNat) 0 else s.readFact a.toNat e false) := by
  obtain ⟨hr | ⟨hr, hg⟩, hh⟩ := hl
  · exact congrArg Host.Outcome.next (if_pos (by simp [hr, hh]))
  · exact congrArg Host.Outcome.next (if_pos (by simp [hr, hg, hh]))

theorem State.retirePc_spec (s : State) (h : Hub) (pc : Nat) : SameContents (s.retirePc h pc) s ∧
    ((s.retirePc h pc).hub h).hbmCE = (s.hub h).hbmCE := by
  unfold State.retirePc
  dsimp only
  split
  · exact ⟨⟨rfl, rfl, rfl, rfl⟩, rfl⟩
  · split
    · exact ⟨(State.logEvent_contents ..).trans (s.putHub_contents _ _), by rw [State.logEvent_hub, State.putHub_hub_same]⟩
    · exact ⟨(State.logEvent_contents ..).trans (s.putHub_contents _ _), by rw [State.logEvent_hub, State.putHub_hub_same]⟩

/-- A correction counts at its hub and changes no byte. -/
theorem State.correction_spec {s : State} {h : Hub} {a : Nat} (hl : s.hubOf a = h) (n : Nat) :
    SameContents (s.correction a n) s ∧
      (s.region a = .hbm → ((s.correction a n).hub h).hbmCE = sat32 (s.hub h).hbmCE 1) ∧
      (s.region a = .lp → ((s.correction a n).hub h).lpCE = sat32 (s.hub h).lpCE 1) := by
  unfold State.correction
  dsimp only
  rw [hl]
  split
  · next hr => exact ⟨s.putHub_contents _ _, fun h => by simp [hr] at h, fun _ => by rw [State.putHub_hub_same]⟩
  · next hr =>
    refine ⟨?_, fun _ => ?_, fun h => by simp [hr] at h⟩
    · split
      · exact (State.retirePc_spec _ _ _).1.trans ⟨rfl, rfl, rfl, rfl⟩
      · exact ⟨rfl, rfl, rfl, rfl⟩
    · have hsame (x : HubSt) : ((s.putHub h x).tallyHbm h 1).hub h = x := s.putHub_hub_same h x
      split
      · rw [(State.retirePc_spec _ _ _).2, hsame]
      · rw [hsame]
  · next hr hr' => exact ⟨⟨rfl, rfl, rfl, rfl⟩, fun h => absurd h hr', fun h => absurd h hr⟩

/-- A marked line reads uncorrectable. -/
theorem State.markUe_isUe (s : State) (a : Nat) : (s.markUe a).isUe a = true := by
  by_cases h : s.isUe a = true
  · rw [State.markUe, if_pos h]
    exact h
  · rw [State.markUe, if_neg h]
    exact List.elem_eq_true_of_mem List.mem_cons_self

theorem State.countUe_spec {s : State} {h : Hub} {a : Nat} (hl : s.hubOf a = h) : SameContents (s.countUe a) s ∧
    (s.region a = .hbm → ((s.countUe a).hub h).ueHbm = sat16 (s.hub h).ueHbm 1) ∧ (s.countUe a).fault = s.fault ∧
    (s.countUe a).sync = s.sync := by
  unfold State.countUe
  dsimp only
  rw [hl]
  split
  · exact ⟨s.putHub_contents _ _, fun _ => by rw [State.putHub_hub_same], rfl, rfl⟩
  · next hr => exact ⟨s.putHub_contents _ _, fun h => by simp [hr] at h, rfl, rfl⟩
  · next hr _ => exact ⟨⟨rfl, rfl, rfl, rfl⟩, fun h => absurd h hr, rfl, rfl⟩

theorem exec_spareCopyEnd {s : State} {h : Hub} {pc : Nat} {rest : List Nat} (hcopy : (s.hub h).copying = pc :: rest) :
    exec (.spareCopyEnd h) s = .next (s.putHub h { s.hub h with
      used := (s.hub h).used + 1, copying := rest, pc0 := if (s.hub h).used = 0 then pc else (s.hub h).pc0
      pc1 := if (s.hub h).used = 0 then (s.hub h).pc1 else pc }) := by
  refine congrArg Host.Outcome.next ?_
  simp only [hcopy]

theorem sparingAndPatrol : Sys2Proof.Claims.SparingAndPatrol := by
  refine fun s h => ⟨fun pc rest hcopy => ?spared, fun a n hl => ⟨fun hue => ?clean, fun hue => ?corrected, fun e he => ?lost⟩⟩
  case spared =>
    refine ⟨_, exec_spareCopyEnd hcopy, ?_⟩
    rw [State.putHub_hub_same]
    refine ⟨rfl, rfl, ?_, fun _ => rfl⟩
    split
    · rfl
    · rfl
  case clean =>
    have hmeets : s.meetsUe a.toNat (.once .clean) = false := by rw [State.meetsUe, hue]; rfl
    rw [exec_patrolScrub hl, hmeets, State.readFact_clean hue]
    rfl
  case corrected =>
    have hmeets : s.meetsUe a.toNat (.once (.corrected n)) = false := by rw [State.meetsUe, hue]; rfl
    have hfact : s.readFact a.toNat (.once (.corrected n)) false = s.correction a.toNat n := by rw [State.readFact, hmeets]; rfl
    obtain ⟨hsame, hhbm, hlp⟩ := State.correction_spec hl.2 n
    refine ⟨_, exec_patrolScrub hl _, ?_⟩
    rw [hmeets, hfact]
    exact ⟨hsame.byte, hsame.ue, hhbm, hlp⟩
  case lost =>
    have hmeets : s.meetsUe a.toNat (.repeated e) = true := by
      rcases he with h | h
      · rw [State.meetsUe, h]; rfl
      · rw [State.meetsUe, h]; exact Bool.or_true _
    have hfact : s.readFact a.toNat (.repeated e) false = (s.markUe a.toNat).countUe a.toNat := by rw [State.readFact, hmeets]; rfl
    obtain ⟨hsame, hcount, hfault, hsync⟩ := State.countUe_spec (s := s.markUe a.toNat) (h := h) (a := a.toNat) hl.2
    have hall := (State.logEvent_contents ((s.markUe a.toNat).countUe a.toNat) 0x20 2 h 0 (lineOf a.toNat) 0).trans hsame
    refine ⟨_, exec_patrolScrub hl _, ?_⟩
    rw [hmeets, if_pos rfl, hfact]
    refine ⟨(hall.isUe _).trans (s.markUe_isUe _), logEvent_logged_of (congrArg FaultSt.seq hfault) (congrArg SyncSt.dtc hsync) .., fun hr => ?_,
      fun b => (hall.byte b).trans rfl⟩
    rw [State.logEvent_hub, hcount hr]
    rfl

/-! ## Prefetching -/

theorem State.enterHub_fetches (s : State) (h : Hub) (line : Nat) (write whole prefetch : Bool) :
    ((s.enterHub h line write whole prefetch).hub h).fetches = (s.hub h).fetches := by
  rw [State.enterHub, State.slotsAt, State.putHub_hub_same, State.putHub_hub_same]

/-- A fetch that is made. -/
def State.fetchOf (s : State) (n : StreamNo) (h : Hub) (e : SrcLine) : Fetch := ⟨n, e.line, s.line e.line, false, e.index, (s.hub h).nextReq⟩

theorem exec_prefetchFetch {s : State} {n : StreamNo} {h : Hub} {e : SrcLine} (hphase : (s.stream n).phase = .active)
    (hbuf : (s.hub h).buf.length + (s.hub h).fetches.length < 524288) (hroom : (s.hub h).sorted.length < 65536)
    (he : (s.leadLines (s.stream n)).find? (fun e => s.fetchable n h (s.stream n) e) = some e) :
    exec (.prefetchFetch n h) s = .next ((s.putHub h { s.hub h with fetches := (s.hub h).fetches ++ [s.fetchOf n h e] }).enterHub h
      (e.line / 64) false false true) := by
  have hgo : ¬((s.stream n).phase ≠ .active ∨ 524288 ≤ (s.hub h).buf.length + (s.hub h).fetches.length ∨
      65536 ≤ (s.hub h).sorted.length) := by
    simp only [hphase, ne_eq, not_true_eq_false, false_or]
    omega
  refine congrArg Host.Outcome.next ((if_neg hgo).trans ?_)
  simp only [he]
  rfl

/-- The hub with fetch `i` returned. -/
def State.returned (s : State) (h : Hub) (i : Nat) : State := s.putHub h { s.hub h with fetches := (s.hub h).fetches.eraseIdx i }

/-- A returned copy is not buffered. -/
def State.unbuffered (s : State) (f : Fetch) : Bool :=
  f.stale || s.isUe f.line || decide ((s.stream f.stream).phase ≠ StreamPhase.active) ||
    !(readDesc (s.stream f.stream).desc).usedFrom s (fun _ => anyCore) (s.stream f.stream).pos f.line

theorem State.unbuffered_returned (s : State) (h : Hub) (i : Nat) (f : Fetch) : (s.returned h i).unbuffered f = s.unbuffered f := rfl

theorem exec_fetchReturn {s : State} {h : Hub} {i : Nat} {f : Fetch} (hf : (s.hub h).fetches[i]? = some f)
    (hdone : ∀ r ∈ (s.hub h).reqs, r.id ≠ f.req) : exec (.fetchReturn h i) s = .next (if s.unbuffered f then s.returned h i else
      (s.returned h i).putHub h { (s.returned h i).hub h with
        buf := ((s.returned h i).hub h).buf ++ [⟨f.stream, f.line, f.data, f.index⟩] }) := by
  have hgo : ¬((s.hub h).reqs.any fun r => decide (r.id = f.req)) = true := by simpa using hdone
  refine congrArg Host.Outcome.next ?_
  simp only [hf]
  rw [if_neg hgo, ← s.unbuffered_returned h i f]
  rfl

theorem prefetching : Sys2Proof.Claims.Prefetching := by
  refine fun s h => ⟨fun n e hphase hbuf hroom he => ?fetched, fun i f hf hdone hue => ?returned⟩
  case fetched =>
    refine ⟨_, s.fetchOf n h e, exec_prefetchFetch hphase hbuf hroom he, ?_, rfl, rfl, rfl, rfl, rfl, fun _ => rfl⟩
    rw [State.enterHub_fetches, State.putHub_hub_same]
  case returned =>
    have hreturned : (s.returned h i).hub h = { s.hub h with fetches := (s.hub h).fetches.eraseIdx i } := s.putHub_hub_same h _
    refine ⟨_, exec_fetchReturn hf hdone, ?_⟩
    by_cases hun : s.unbuffered f = true
    · rw [if_pos hun, hreturned]
      refine ⟨rfl, fun _ => rfl, fun hst hphase hused => absurd hun ?_, rfl, fun _ => rfl⟩
      simp [State.unbuffered, hst, hue, hphase, hused]
    · rw [if_neg hun, State.putHub_hub_same, hreturned]
      refine ⟨rfl, fun hst => absurd ?_ hun, fun _ _ _ => rfl, rfl, fun _ => rfl⟩
      simp [State.unbuffered, hst]

/-- Settles O28: a request leaves memory but for its masked bytes, a read that meets no error leaves everything, and the prefetcher moves
lines of its hub alone. -/
theorem hubs : Obligations.Hubs := by
  unfold Obligations.Hubs
  exact ⟨hubRequests, sparingAndPatrol, prefetching⟩

end Sys2Proof.Machine
end

section
/-!
PROOFS. The host's accesses through BAR2 and its configuration requests (07 R282, R284, R285, 16 R626, 20 R726, R727).
-/
namespace Sys2Proof.Machine

open Sys2Proof.Claims

/-! ## Bytes of lines -/

theorem State.bytes_add (s : State) (a m n : Nat) : s.bytes a (m + n) = s.bytes a m ++ s.bytes (a + m) n := by
  simp only [State.bytes, List.range_add, List.map_append, List.map_map]
  congr 1
  exact List.map_congr_left fun i _ => by simp [Nat.add_assoc]

/-- The part of an access that lies in the line `l`. -/
def linePart (a n l : Nat) : Nat × Nat := (max l a, min (l + 64) (a + n) - max l a)

/-- The parts of an access in its first lines are its first bytes. -/
theorem State.lineParts_bytes (s : State) (a n j : Nat) :
    (((List.range j).map fun i => linePart a n (64 * (a / 64 + i))).map fun p => s.bytes p.1 p.2).flatten =
      s.bytes a (min (64 * (a / 64 + j)) (a + n) - a) := by
  induction j with
  | zero =>
    have h0 : min (64 * (a / 64 + 0)) (a + n) - a = 0 := by omega
    rw [h0]
    rfl
  | succ j ih =>
    rw [List.range_succ, List.map_append, List.map_append, List.flatten_append, ih]
    have hsplit : min (64 * (a / 64 + (j + 1))) (a + n) - a =
        (min (64 * (a / 64 + j)) (a + n) - a) + (min (64 * (a / 64 + j) + 64) (a + n) - max (64 * (a / 64 + j)) a) := by omega
    rw [hsplit, s.bytes_add]
    congr 1
    by_cases hlt : 64 * (a / 64 + j) < a + n
    · have hat : a + (min (64 * (a / 64 + j)) (a + n) - a) = max (64 * (a / 64 + j)) a := by omega
      simp [linePart, hat]
    · have hnone : min (64 * (a / 64 + j) + 64) (a + n) - max (64 * (a / 64 + j)) a = 0 := by omega
      simp [linePart, hnone, State.bytes]

/-- The parts of an access in its lines are its bytes. -/
theorem State.linesOf_bytes (s : State) (a n : Nat) : (((linesOf a n).map (linePart a n)).map fun p => s.bytes p.1 p.2).flatten = s.bytes a n := by
  unfold linesOf
  split
  · next h => simp [h, State.bytes]
  · next h =>
    have hall : min (64 * (a / 64 + ((a + n - 1) / 64 + 1 - a / 64))) (a + n) - a = n := by omega
    have hparts := s.lineParts_bytes a n ((a + n - 1) / 64 + 1 - a / 64)
    rw [hall] at hparts
    simpa only [List.map_map, Function.comp_def] using hparts

/-! ## BAR2 -/

/-- A read of lines that give data changes nothing. -/
theorem barReads_data {s : State} (p : Nat) (l : List (Nat × Nat)) (h : ∀ e ∈ l, s.barLine e.1 = .data) :
    barReads p l s = (s, (l.map fun e => s.bytes e.1 e.2).flatten, l.map fun _ => false) := by
  induction l with
  | nil => rfl
  | cons e l ih =>
    have hread : s.barRead p e.1 e.2 = (s, s.bytes e.1 e.2, false) := by rw [State.barRead, h e List.mem_cons_self]
    rw [barReads, hread, ih fun x hx => h x (List.mem_cons_of_mem _ hx)]
    rfl

theorem exec_hostBar2Read {s : State} {p : Port} {off : BitVec 42} {len : Nat} (hreach : s.hostReach p = true)
    (hfit : off.toNat + len ≤ s.bar2Bytes p)
    (hdata : ∀ l ∈ linesOf (s.bar2Addr p off.toNat) len, s.barLine (max l (s.bar2Addr p off.toNat)) = .data) :
    exec (.hostBar2Read p off len) s = .next (s.emit (.completion p (s.bytes (s.bar2Addr p off.toNat) len)
      ((linesOf (s.bar2Addr p off.toNat) len).map fun _ => false))) := by
  have hgo : ¬(!s.hostReach p || decide (s.bar2Bytes p < off.toNat + len)) = true := by simp [hreach, hfit]
  have hreads := barReads_data p ((linesOf (s.bar2Addr p off.toNat) len).map (linePart (s.bar2Addr p off.toNat) len)) fun e he => by
    obtain ⟨l, hl, rfl⟩ := List.mem_map.mp he
    exact hdata l hl
  rw [s.linesOf_bytes, List.map_map] at hreads
  exact congrArg Host.Outcome.next ((if_neg hgo).trans
    (congrArg (fun r : State × List Byte × List Bool => r.1.emit (.completion p r.2.1 r.2.2)) hreads))

theorem State.invalidateAt_ue (s : State) (line h : Nat) : (s.invalidateAt line h).mem.ue = s.mem.ue := by
  unfold State.invalidateAt
  dsimp only
  split <;> rfl

theorem State.invalidate_ue (s : State) (line : Nat) : (s.invalidate line).mem.ue = s.mem.ue := by
  unfold State.invalidate
  exact foldl_keeps (P := fun t : State => t.mem.ue = s.mem.ue) _ (fun t _ h => (t.invalidateAt_ue _ _).trans h) _ _ rfl

/-- A write of a line marks none uncorrectable. -/
theorem State.mem_writeLine_ue {s : State} {a l : Nat} {bs : List Byte} (h : l ∈ (s.writeLine a bs).mem.ue) : l ∈ s.mem.ue := by
  have hfix (m : MemSt) (b : Nat) : (m.fix b).ue = m.ue := by unfold MemSt.fix; split <;> rfl
  have hue : (s.writeLine a bs).mem.ue =
      if bs.length = 64 then (s.mem.fix (s.loc a)).ue.filter (· ≠ lineOf (s.loc a)) else (s.mem.fix (s.loc a)).ue := by
    unfold State.writeLine
    dsimp only
    split
    · rw [State.dropRunner_mem]; rfl
    · rw [State.invalidate_ue]; rfl
  rw [hue, hfix] at h
  split at h
  · exact List.mem_of_mem_filter h
  · exact h

/-- A line that gives data gives data after a write of any line. -/
theorem State.writeLine_barLine {s : State} (a : Nat) (bs : List Byte) {b : Nat} (h : s.barLine b = .data) :
    (s.writeLine a bs).barLine b = .data := by
  have hstart := s.writeLine_start a bs
  have hregion : (s.writeLine a bs).region b = s.region b := State.region_congr hstart b
  have hgated : (s.writeLine a bs).gatedAt b = s.gatedAt b := by
    rw [State.gatedAt, State.gatedAt, hregion, State.lpGated, State.lpGated, s.writeLine_power, State.hubOf, State.hubOf, hstart]
  have hue : s.isUe b = false → (s.writeLine a bs).isUe b = false := by
    rw [State.isUe, State.isUe, State.loc_congr hstart, Bool.eq_false_iff, Bool.eq_false_iff, ne_eq, ne_eq, List.elem_iff, List.elem_iff]
    exact mt State.mem_writeLine_ue
  unfold State.barLine at h ⊢
  rw [hstart, hregion, hgated]
  split at h
  · exact absurd h (by decide)
  · next hstep =>
    rw [if_neg hstep]
    split at h
    · exact absurd h (by decide)
    · exact absurd h (by decide)
    · next hhole hctl =>
      split at h
      · exact absurd h (by decide)
      · next hg =>
        split at h
        · exact absurd h (by decide)
        · next hu =>
          rw [hue (Bool.eq_false_iff.mpr hu), if_neg hg]
          rfl

/-- A host's write of lines that give data is a write of memory. -/
theorem foldl_barWrite {s : State} (p : Nat) (l : List (Nat × List Byte)) (h : ∀ c ∈ l, s.barLine c.1 = .data) :
    l.foldl (fun t c => t.barWrite p c.1 c.2) s = l.foldl (fun t c => t.writeLine c.1 c.2) s := by
  induction l generalizing s with
  | nil => rfl
  | cons c l ih =>
    have hwrite : s.barWrite p c.1 c.2 = s.writeLine c.1 c.2 := by rw [State.barWrite, h c List.mem_cons_self]
    rw [List.foldl_cons, List.foldl_cons, hwrite]
    exact ih fun x hx => State.writeLine_barLine _ _ (h x (List.mem_cons_of_mem _ hx))

theorem exec_hostBar2Write {s : State} {p : Port} {off : BitVec 42} {bs : List Byte} (hreach : s.hostReach p = true)
    (hfit : off.toNat + bs.length ≤ s.bar2Bytes p)
    (hdata : ∀ c ∈ cutLines bs.length (s.bar2Addr p off.toNat) bs, s.barLine c.1 = .data) :
    exec (.hostBar2Write p off bs) s = .next (s.write (s.bar2Addr p off.toNat) bs) :=
  congrArg Host.Outcome.next ((if_neg (by simp [hreach, hfit])).trans (foldl_barWrite p _ hdata))

/-! ## Configuration requests -/

/-- Settles O29: accesses to lines that give data are reads and writes of memory, and a configuration request is answered by one message. -/
theorem hostAccesses : Obligations.HostAccesses := by
  unfold Obligations.HostAccesses
  refine fun s p => ⟨fun off len hreach hfit hdata => ?read, fun off bs hreach hfit hdata => ?write, fun hspeed hstep hrec r => ?retried,
    fun hspeed hstep => ?answered⟩
  case read => exact ⟨_, exec_hostBar2Read hreach hfit hdata, rfl, rfl, rfl⟩
  case write =>
    refine ⟨_, exec_hostBar2Write hreach hfit hdata, ⟨fun i hi => ?_, fun b hb => ?_⟩, (quiet_frame.write s _ _).fault⟩
    · rw [State.write_byte, if_pos (by omega), Nat.add_sub_cancel_left]
    · rw [State.write_byte, if_neg (by omega)]
  case retried => exact congrArg Host.Outcome.next ((if_neg hspeed).trans (if_pos (by simp [hstep, hrec])))
  case answered =>
    have hgo (r : CfgReq) : ¬(s.start.step < 6 ∧ (!s.fwu.recovery) = true) := by omega
    have hput (x : PcieSt) : (s.putPcie p x).pcie p = x := by rw [State.pcie_putPcie _ _ _ _ p.isLt, if_pos rfl]
    refine ⟨congrArg Host.Outcome.next ((if_neg hspeed).trans (if_neg (hgo (.read 0)))), fun n =>
      ⟨_, congrArg Host.Outcome.next ((if_neg hspeed).trans (if_neg (hgo (.bar2Size n)))), ?_, ?_⟩, fun d =>
      ⟨_, congrArg Host.Outcome.next ((if_neg hspeed).trans (if_neg (hgo (.powerState d)))), ?_⟩⟩
    · exact congrArg PcieSt.bar2Size (hput _)
    · exact (congrArg PcieSt.bar2Base (hput { s.pcie p with bar2Size := n })).trans rfl
    · exact congrArg PcieSt.d3hot (hput _)

end Sys2Proof.Machine
end

section
/-!
PROOFS. Shutdown, the load switch and the loss of always-on power (14 R551 to R558, 15 R613 to R616, 19 R706).
-/
namespace Sys2Proof.Machine

open Sys2Proof.Claims

/-! ## Power down -/

theorem State.powerDown_phase (s : State) (p : PowerPhase) : (s.powerDown p).power = s.power.down p := rfl
theorem State.powerDown_step (s : State) (p : PowerPhase) : (s.powerDown p).start.step = 2 := rfl
theorem State.powerDown_tally (s : State) (p : PowerPhase) : (s.powerDown p).tally = s.tally := by
  simp [State.powerDown, State.resetDomain, State.forgetLoc, State.mapHerds, State.dropWatches]
theorem State.powerDown_dtc (s : State) (p : PowerPhase) : (s.powerDown p).sync.dtc = s.sync.dtc := rfl
theorem State.powerDown_stream (s : State) (p : PowerPhase) (n : Nat) : (s.powerDown p).stream n = Stream.free := rfl
theorem State.powerDown_links (s : State) (p : PowerPhase) : (s.powerDown p).fab.links = Vector.replicate 16 LinkSt.reset := rfl

theorem State.powerDown_box (s : State) (p : PowerPhase) : (s.powerDown p).sec.box = s.sec.box := by
  simp [State.powerDown, State.resetDomain, State.forgetLoc, State.mapHerds, State.dropWatches]

theorem State.powerDown_slots (s : State) (p : PowerPhase) :
    (s.powerDown p).start.slot0 = s.start.slot0 ∧ (s.powerDown p).start.slot1 = s.start.slot1 := by
  simp [State.powerDown, State.resetDomain, State.forgetLoc, State.mapHerds, State.dropWatches]

/-! ## Orderly shutdown -/

/-- What an orderly shutdown does before the domains power down. -/
def State.wound (s : State) : State := ((s.logEvent 1 0 0 4 3 0).endAll ⟨0x13, 0, none⟩).releaseAll

theorem State.orderly_eq (s : State) : s.orderly = (s.wound.setTally { s.wound.tally with writeDue := true }).powerDown .standby := by
  unfold State.orderly State.wound
  rfl

theorem State.wound_steady (s : State) : Steady s.wound s :=
  (State.endAll_releaseAll_steady _ rfl).trans (s.logEvent_steady ..)

/-- An orderly shutdown brings the module to standby with its device time standing. -/
theorem State.orderly_off (s : State) : s.orderly.power.phase = .standby ∧ s.orderly.start.step = 2 ∧ s.orderly.tally.writeDue = true ∧
    s.orderly.sync.dtc = s.sync.dtc ∧ (∀ n, s.orderly.stream n = Stream.free) ∧ s.orderly.fab.links = Vector.replicate 16 LinkSt.reset := by
  have h := s.wound_steady
  rw [State.orderly_eq]
  generalize s.wound = w at h ⊢
  refine ⟨congrArg PowerSt.phase (State.powerDown_phase _ _), State.powerDown_step _ _, ?_, ?_, State.powerDown_stream _ _,
    State.powerDown_links _ _⟩
  · rw [State.powerDown_tally]
    rfl
  · rw [State.powerDown_dtc, State.setTally_sync, h.sync]

theorem State.orderly_power (s : State) : s.orderly.power = s.power.down .standby := by
  rw [State.orderly_eq, State.powerDown_phase, State.setTally_power, s.wound_steady.power]

/-- The module with its input out of its limits, logged. -/
def State.badInput (s : State) (x : PowerSt) : State := (s.setPower x).logEvent 0x51 0 0 3 0 0

theorem State.badInput_off (s : State) (x : PowerSt) : (s.badInput x).orderly.power.phase = .standby ∧ (s.badInput x).orderly.start.step = 2 ∧
    (s.badInput x).orderly.tally.writeDue = true ∧ (s.badInput x).orderly.sync.dtc = s.sync.dtc ∧
    (∀ n, (s.badInput x).orderly.stream n = Stream.free) ∧ (s.badInput x).orderly.fab.links = Vector.replicate 16 LinkSt.reset := by
  have hdtc : (s.badInput x).sync.dtc = s.sync.dtc := by rw [State.badInput, State.logEvent_sync, State.setPower_sync]
  have h := (s.badInput x).orderly_off
  rwa [hdtc] at h

theorem exec_vinUndervoltage {s : State} {vin : BitVec 16} (hphase : s.power.phase = .on) (hvin : vin.toNat < 4300) :
    exec (.vinUndervoltage vin) s = .next (s.badInput { s.power with vin := vin }).orderly := by
  change execVinUndervoltage vin s = _
  unfold execVinUndervoltage
  rw [if_pos ⟨hvin, hphase⟩, State.badInput]

theorem exec_vinOvervoltage {s : State} {vin : BitVec 16} (hphase : s.power.phase = .on) (hvin : 6100 < vin.toNat) :
    exec (.vinOvervoltage vin) s = .next (s.badInput { s.power with vin := vin, overVolt := true }).orderly := by
  change execVinOvervoltage vin s = _
  unfold execVinOvervoltage
  rw [if_pos ⟨hvin, hphase⟩, State.badInput]

theorem exec_pwrEnDeassert {s : State} (hphase : s.power.phase = .on) (hen : s.power.pwrEn = true) :
    exec .pwrEnDeassert s = .next (s.setPower { s.power with pwrEn := false }).orderly := by
  change execPwrEnDeassert s = _
  unfold execPwrEnDeassert
  rw [if_neg (by simp [hen])]
  simp only [State.setPower_power, hphase]

/-! ## The load switch -/

/-- The openings of the last 10 s with one more. -/
def State.opened (s : State) : List DWord := (s.power.openings.filter fun d => decide ((s.now - d).toNat ≤ 1000000000)) ++ [s.now]

/-- The module as the load switch opens, before its domains power down. -/
def State.cutShort (s : State) : State := ((s.logEvent 0x51 0 0 3 0 0).tallyAdd 0x68 1).cutAll

/-- The module with its domains powered down. -/
def State.switchedOff (s : State) : State := s.cutShort.powerDown (if 4 ≤ s.opened.length then .latched else .tripped)

theorem exec_efuseTrip {s : State} (hphase : s.power.phase = .on) :
    exec .efuseTrip s = .next (s.switchedOff.setPower { s.switchedOff.power with openings := s.opened }) := by
  change execEfuseTrip s = _
  unfold execEfuseTrip
  rw [if_neg (by simp [hphase])]
  unfold State.switchedOff State.cutShort State.opened
  rfl

/-! ## Loss of always-on power -/

/-- What a mailbox keeps without power. -/
theorem vget_map_powerOff (v : Vector Mailbox 2) (x : Port) :
    vget (v.map Mailbox.powerOff) x Mailbox.reset = (vget v x Mailbox.reset).powerOff := by
  have hx : x.val < 2 := x.isLt
  simp [vget, hx]

/-- Settles O35: an orderly shutdown and an opening of the load switch both power the domains down, and the loss of always-on power
resets what flash and fuses do not hold. -/
theorem powerOff : Obligations.PowerOff := by
  unfold Obligations.PowerOff
  refine fun s => ⟨fun hphase => ⟨fun hen => ?deassert, fun vin hvin => ?under, fun vin hvin => ?above, ?trip⟩,
    fun d hphase hlast hd => ?retry, fun hphase => ?lost⟩
  case deassert =>
    refine ⟨_, exec_pwrEnDeassert hphase hen, State.orderly_off _, ?_⟩
    rw [State.orderly_power, State.setPower_power]
    rfl
  case under => exact ⟨_, exec_vinUndervoltage hphase hvin, s.badInput_off _⟩
  case above =>
    refine ⟨_, exec_vinOvervoltage hphase hvin, s.badInput_off _, ?_⟩
    rw [State.orderly_power, State.badInput, State.logEvent_power, State.setPower_power]
    rfl
  case trip =>
    have hlen : s.opened.length = (s.power.openings.filter fun d => decide ((s.now - d).toNat ≤ 1000000000)).length + 1 := by
      rw [State.opened, List.length_append, List.length_singleton]
    refine ⟨_, exec_efuseTrip hphase, ?_, ?_, ?_⟩
    · rw [State.setPower_power, State.switchedOff, State.powerDown_phase]
      exact if_congr (by omega) rfl rfl
    · rw [State.setPower_power]
      exact List.getLast?_concat
    · rw [State.setPower_power]
      exact hlen
  case retry =>
    refine congrArg Host.Outcome.next ?_
    simp only [hphase, hlast]
    exact if_pos hd
  case lost =>
    refine ⟨_, congrArg Host.Outcome.next (if_neg hphase), rfl, rfl, rfl, rfl, rfl,
      ?_, ?_, (s.powerDown_slots .off).1, (s.powerDown_slots .off).2, fun x => ?_⟩
    · have hcopy := congrArg TallySt.copy0 (s.powerDown_tally .off)
      exact hcopy
    · have hcopy := congrArg TallySt.copy1 (s.powerDown_tally .off)
      exact hcopy
    have hbox := (vget_map_powerOff (s.powerDown .off).sec.box x).trans
      (congrArg (fun v : Vector Mailbox 2 => (vget v x Mailbox.reset).powerOff) (s.powerDown_box .off))
    have hkey := congrArg Mailbox.key hbox
    have hctr := congrArg Mailbox.ctr hbox
    exact ⟨hkey, hctr⟩

end Sys2Proof.Machine
end

section
/-!
PROOFS. Power-on and start-up (14 R558, 15 R613, R614, 16 R618 to R630).
-/
namespace Sys2Proof.Machine

open Sys2Proof.Claims

/-! ## What start-up leaves of the power state and of the straps -/

/-- `t` has the power phase, the mark of a power-on and the CFG_SRC strap of `s`. -/
structure Lit (t s : State) : Prop where
  phase : t.power.phase = s.power.phase
  cold : t.power.cold = s.power.cold
  cfg : t.start.cfgSrc = s.start.cfgSrc

@[refl] protected theorem Lit.rfl {s : State} : Lit s s := ⟨rfl, rfl, rfl⟩
theorem Lit.trans {u t s : State} (h : Lit u t) (g : Lit t s) : Lit u s :=
  ⟨h.phase.trans g.phase, h.cold.trans g.cold, h.cfg.trans g.cfg⟩
theorem Steady.lit {t s : State} (h : Steady t s) : Lit t s :=
  ⟨congrArg PowerSt.phase h.power, congrArg PowerSt.cold h.power, congrArg StartSt.cfgSrc h.start⟩

theorem lit_ite {c : Prop} [Decidable c] {a b s : State} (ha : Lit a s) (hb : Lit b s) : Lit (if c then a else b) s := by
  split
  · exact ha
  · exact hb

theorem foldl_lit {β : Type} {f : State → β → State} (hf : ∀ t b, Lit (f t b) t) (l : List β) (s : State) : Lit (l.foldl f s) s :=
  foldl_keeps (P := fun t => Lit t s) f (fun t b h => (hf t b).trans h) l s .rfl

theorem State.setFab_lit (s : State) (x : FabricSt) : Lit (s.setFab x) s := ⟨rfl, rfl, rfl⟩
theorem State.setMem_lit (s : State) (x : MemSt) : Lit (s.setMem x) s := ⟨rfl, rfl, rfl⟩
theorem State.setSync_lit (s : State) (x : SyncSt) : Lit (s.setSync x) s := ⟨rfl, rfl, rfl⟩
theorem State.setKe_lit (s : State) (x : Table KeHerd) : Lit (s.setKe x) s := ⟨rfl, rfl, rfl⟩
theorem State.setCores_lit (s : State) (x : Table Core) : Lit (s.setCores x) s := ⟨rfl, rfl, rfl⟩
theorem State.setQueues_lit (s : State) (x : Table QueueSt) : Lit (s.setQueues x) s := ⟨rfl, rfl, rfl⟩
theorem State.setFreeCount_lit (s : State) (x : Nat) : Lit (s.setFreeCount x) s := ⟨rfl, rfl, rfl⟩
theorem State.zeroLoc_lit (s : State) (lo hi : Nat) : Lit (s.zeroLoc lo hi) s := ⟨rfl, rfl, rfl⟩
theorem State.setStart_lit (s : State) (x : StartSt) (h : x.cfgSrc = s.start.cfgSrc) : Lit (s.setStart x) s := ⟨rfl, rfl, h⟩
theorem State.stepped_lit (s : State) (n : Nat) : Lit (s.setStart { s.start with step := n }) s := ⟨rfl, rfl, rfl⟩
theorem State.setPower_lit (s : State) (x : PowerSt) (hp : x.phase = s.power.phase) (hc : x.cold = s.power.cold) : Lit (s.setPower x) s :=
  ⟨hp, hc, rfl⟩
theorem State.setFwu_lit (s : State) (x : FwuSt) : Lit (s.setFwu x) s := ⟨rfl, rfl, rfl⟩

/-! ## Trainings -/

theorem State.failReq_lit (s : State) (tag : Nat) : Lit (s.failReq tag) s := by
  unfold State.failReq
  split
  · rfl
  · exact (steady_logFrame.failItem _ _ _ _).lit.trans (s.setFab_lit _)

theorem State.reroute_lit (s : State) (kind : Nat) (m : MsgHead) (data : List Line) : Lit (s.reroute kind m data) s := by
  unfold State.reroute
  split
  · next h => exact (steady_frame.sendOn s _ _ _ _ (State.carries_of_route h)).lit
  · exact lit_ite .rfl (lit_ite (s.failReq_lit _) (steady_frame.originate s _ _ _ _ _).lit)

theorem State.markLost_lit (s : State) (e : Nat) : Lit (s.markLost e) s :=
  lit_ite .rfl ((State.logEvent_steady _ ..).lit.trans (s.setFab_lit _))

theorem State.floodLost_lit (s : State) (m : MsgHead) : Lit (s.floodLost m) s :=
  foldl_lit (fun t _ => by
    split
    · next h => exact (steady_frame.sendOn t _ _ _ _ h).lit
    · rfl) _ s

theorem State.checkLost_lit (s : State) (e : Nat) : Lit (s.checkLost e) s :=
  lit_ite ((State.floodLost_lit _ _).trans ((State.markLost_lit _ _).trans (s.setFab_lit _))) .rfl

theorem State.linkDown_lit (s : State) (p : Nat) : Lit (s.linkDown p) s :=
  (State.checkLost_lit _ _).trans ((foldl_lit (fun t _ => t.reroute_lit _ _ _) _ _).trans
    ((State.logEvent_steady _ ..).lit.trans (s.setFab_lit _)))

theorem State.endTraining_lit (s : State) (l : Nat) (r : TrainFact) : Lit (s.endTraining l r) s := by
  have hlog : Lit (if r.locked ∧ r.peer.toNat ≠ (s.link l).expect then s.logEvent 0x32 3 l 0 r.peer.toNat 0 else s) s :=
    lit_ite (State.logEvent_steady _ ..).lit .rfl
  unfold State.endTraining
  exact lit_ite ((State.setFab_lit _ _).trans hlog) (lit_ite ((State.linkDown_lit _ _).trans ((State.setFab_lit _ _).trans hlog))
    ((State.setFab_lit _ _).trans hlog))

theorem State.firstTraining_lit (l : List (Link × TrainFact)) (s : State) (p : Nat) : Lit (State.firstTraining l s p) s := by
  refine lit_ite ?_ .rfl
  split
  · exact s.endTraining_lit _ _
  · exact s.endTraining_lit _ _

/-! ## The image in force -/

theorem State.setGates_lit (s : State) (g : Word) (g1 : BitVec 12) : Lit (s.setGates g g1) s :=
   (steady_logFrame.drainAll _).lit.trans ((steady_logFrame.gateUpdates _).lit.trans
    ((State.gateLinks_steady _).lit.trans ⟨rfl, rfl, rfl⟩))

theorem State.applyImage_lit (s : State) (m : Image) (gate1 : BitVec 12) : Lit (s.applyImage m gate1) s := by
  unfold State.applyImage
  exact (foldl_lit (fun t _ => t.setFab_lit _) _ _).trans ((State.setFab_lit _ _).trans ((State.setGates_lit _ _ _).trans
    ((State.setPower_lit _ _ (by rfl) (by rfl)).trans ((State.setSync_lit _ _).trans ((State.setSync_lit _ _).trans ((State.setMem_lit _ _).trans
      (s.setStart_lit _ (by rfl))))))))

theorem State.startImage_lit (s : State) (m : Image) : Lit (s.startImage m) s := by
  have howners : Lit (if s.start.loads = 0 then s.setOwners m else s) s := lit_ite ⟨rfl, rfl, rfl⟩ .rfl
  unfold State.startImage
  exact (State.setStart_lit _ _ (by rfl)).trans ((State.applyImage_lit _ _ _).trans ((State.setKe_lit _ _).trans
    ((State.setMem_lit _ _).trans howners)))

/-! ## Nimtia's boot and T0 -/

/-- The module after a boot of Nimtia whose own firmware verified (15 R613). -/
def State.booted (s : State) (cool : Fin 4) (slot : Fin 64) (cfg : Bool) : State :=
  let t := s.tallyLoad.tallyAdd 0x40 1
  let t := t.setPower { t.power with phase := if t.power.pwrEn && t.power.startable t.power.vin.toNat then .ready else .standby,
                                     strapCool := BitVec.ofNat 2 cool }
  let t := t.setPins { t.pins with transport := 0, address := 0x34 }
  let t := t.setFwu { t.fwu with recovery := false, bad := 0 }
  t.setStart { t.start with step := 2, result := 0, cool := BitVec.ofNat 2 cool, slotId := BitVec.ofNat 6 slot, cfgSrc := cfg }

theorem State.booted_phase (s : State) (cool : Fin 4) (slot : Fin 64) (cfg : Bool) : (s.booted cool slot cfg).power.phase =
    if s.power.pwrEn = true ∧ s.power.startable s.power.vin.toNat = true then .ready else .standby := by
  change (if (s.power.pwrEn && s.power.startable s.power.vin.toNat) = true then PowerPhase.ready else .standby) = _
  simp

theorem exec_nimtiaBoot_booting {s : State} (cool : Fin 4) (slot : Fin 64) (cfg : Bool) (hphase : s.power.phase = .booting) :
    exec (.nimtiaBoot cool slot cfg true) s = .next (s.booted cool slot cfg) :=
  congrArg Host.Outcome.next (if_neg (by simp [hphase]))

theorem exec_pwrEnAssert_standby {s : State} {vin : BitVec 16} (hen : s.power.pwrEn = false)
    (h : s.power.phase = .standby ∧ s.power.startable vin.toNat = true) : exec (.pwrEnAssert vin) s =
      .next (s.setPower { s.power with pwrEn := true, vin := vin, phase := .ready, overVolt := false }) := by
  change execPwrEnAssert vin s = _
  unfold execPwrEnAssert
  rw [if_neg (by simp [hen])]
  exact congrArg Host.Outcome.next (if_pos h)

/-! ## The steps of start-up -/

theorem State.logKeys_lit (s : State) : Lit s.logKeys s := by
  have hlog : Lit (if vendorKeyGood 0 then s else s.logEvent 0x60 0 0 2 0 0) s := lit_ite .rfl (State.logEvent_steady _ ..).lit
  exact lit_ite hlog ((State.logEvent_steady _ ..).lit.trans hlog)

theorem State.migrate_lit (s : State) : Lit s.migrate s :=
  foldl_lit (fun t _ => foldl_lit (fun u _ => lit_ite (u.setFwu_lit _) .rfl) _ t) _ s

theorem State.trainMemory_lit (s : State) (lp : BitVec 8) (spares : List (Hub × Fin 32)) : Lit (s.trainMemory lp spares) s :=
  (foldl_lit (f := State.spareAt) (fun t _ => lit_ite .rfl (t.setMem_lit _)) _ _).trans
    ((State.setStart_lit _ _ (by rfl)).trans (s.setPower_lit _ (by rfl) (by rfl)))

theorem State.startSites_lit (s : State) (facts : List SiteFact) (warm : Bool) : Lit (s.startSites facts warm) s := by
  have hrows (t : State) (f : SiteFact) (rows : BitVec 100) (last : DWord) : Lit (t.logRows f.site rows last) t :=
    foldl_lit (fun u _ => (State.logEvent_steady u ..).lit) _ t
  unfold State.startSites
  exact (State.zeroLoc_lit _ _ _).trans ((State.setStart_lit _ _ (by rfl)).trans ((State.setFreeCount_lit _ _).trans
    ((State.setCores_lit _ _).trans (foldl_lit (fun t f => hrows t f _ _) _ s))))

theorem State.rails_lit (s : State) : s.rails.power.phase = .on ∧ s.rails.power.cold = false ∧ s.rails.start.cfgSrc = s.start.cfgSrc := by
  obtain ⟨hphase, hcold, hcfg⟩ := State.logKeys_lit _
  exact ⟨hphase.trans rfl, hcold.trans rfl, hcfg.trans rfl⟩

/-- The module at the end of step 8. -/
def State.prepared (s : State) (f : StartFacts) : State :=
  let t := (s.rails.migrate.trainMemory f.lpFailed f.spares).startSites f.sites false
  t.setStart { t.start with step := 8 }

theorem State.prepared_lit (s : State) (f : StartFacts) : Lit (s.prepared f) s.rails :=
  (State.stepped_lit _ _).trans ((State.startSites_lit _ _ _).trans ((State.trainMemory_lit _ _ _).trans (State.migrate_lit _)))

/-- Start-up with no part failed. -/
theorem State.startUp_eq {s : State} {f : StartFacts} (hfw : f.fwBad = 0) (hhbm : f.hbmFailed = 0) : s.startUp f =
    if (s.prepared f).start.cfgSrc then (s.prepared f).setStart { (s.prepared f).start with result := 3 }
    else ((s.prepared f).startImage (s.prepared f).flashImage).finishStart f := by
  unfold State.startUp State.prepared
  rw [if_neg (by simp [hfw]), if_neg (by simp [hhbm])]

/-- The module with its ports trained and its queues open. -/
def State.trainedOpen (s : State) (f : StartFacts) : State := ((List.range 16).foldl (State.firstTraining f.links) s).reopen

/-- The end of step 11. -/
def State.upAt (s : State) (n : BitVec 16) : State := s.setStart { s.start with step := 11, result := 1, timeMs := n }

theorem State.finishStart_eq (s : State) (f : StartFacts) : s.finishStart f = ((s.trainedOpen f).upAt f.timeMs).releaseAll := by
  unfold State.finishStart State.trainedOpen State.upAt
  rfl

theorem State.finishStart_lit (s : State) (f : StartFacts) : Lit (s.finishStart f) s := by
  have hup (t : State) (n : BitVec 16) : Lit (t.upAt n) t := ⟨rfl, rfl, rfl⟩
  rw [State.finishStart_eq]
  exact (steady_logFrame.releaseAll _).lit.trans ((hup _ _).trans
    ((State.setQueues_lit _ _).trans (foldl_lit (State.firstTraining_lit f.links) _ s)))

theorem State.finishStart_start (s : State) (f : StartFacts) :
    (s.finishStart f).start.step = 11 ∧ (s.finishStart f).start.result = 1 ∧ (s.finishStart f).start.timeMs = f.timeMs := by
  rw [State.finishStart_eq, (steady_logFrame.releaseAll _).start, State.upAt, State.setStart_start]
  exact ⟨rfl, rfl, rfl⟩

theorem exec_startUp_ready {s : State} {f : StartFacts} (htap : s.tapHolds = false) (hphase : s.power.phase = .ready)
    (hstep : s.start.step = 2) (hrec : s.fwu.recovery = false) : exec (.startUp f) s = .next (s.startUp f) := by
  change execStartUp f s = _
  unfold execStartUp
  rw [if_neg (by simp [htap]), if_pos ⟨hphase, hstep, by simp [hrec]⟩]

theorem exec_startUp_waited {s : State} {f : StartFacts} (htap : s.tapHolds = false) (hphase : s.power.phase = .on)
    (hstep : s.start.step = 9) : exec (.startUp f) s = .next (s.finishStart f) := by
  change execStartUp f s = _
  unfold execStartUp
  rw [if_neg (by simp [htap]), if_neg (by simp [hphase]), if_pos ⟨hphase, hstep⟩]

/-- Settles O34: each step of start-up leaves the power phase and the strap, and the device time is the one that the rails set. -/
theorem powerOnAndStartUp : Obligations.PowerOnAndStartUp := by
  unfold Obligations.PowerOnAndStartUp
  refine fun s => ⟨fun vin hphase hvin => ?on, fun cool slot cfg hphase => ?boot, fun vin hen hphase hover hvin => ?assert,
    fun f htap hphase hstep hrec hfw hhbm => ⟨fun hcfg => ?started, fun hcfg => ?waits⟩, fun f htap hphase hstep => ?waited⟩
  case on => exact congrArg Host.Outcome.next (if_pos ⟨hphase, hvin⟩)
  case boot =>
    have hcool : cool.val % 2 ^ 2 = cool.val := Nat.mod_eq_of_lt cool.isLt
    have hslot : slot.val % 2 ^ 6 = slot.val := Nat.mod_eq_of_lt slot.isLt
    exact ⟨_, exec_nimtiaBoot_booting cool slot cfg hphase, rfl, (BitVec.toNat_ofNat _ _).trans hcool, (BitVec.toNat_ofNat _ _).trans hslot,
      rfl, rfl, s.booted_phase cool slot cfg⟩
  case assert =>
    have hstart : s.power.phase = .standby ∧ s.power.startable vin.toNat = true := ⟨hphase, by simp [PowerSt.startable, hvin, hover]⟩
    exact ⟨_, exec_pwrEnAssert_standby hen hstart, rfl, rfl⟩
  case started =>
    obtain ⟨hon, hcold, hstrap⟩ := s.rails_lit
    have hprep := s.prepared_lit f
    have hlit := (State.finishStart_lit ((s.prepared f).startImage (s.prepared f).flashImage) f).trans
      ((State.startImage_lit _ _).trans hprep)
    have heq : s.startUp f = ((s.prepared f).startImage (s.prepared f).flashImage).finishStart f := by
      rw [State.startUp_eq hfw hhbm, if_neg (by simp [hprep.cfg, hstrap, hcfg])]
    obtain ⟨h1, h2, h3⟩ := State.finishStart_start ((s.prepared f).startImage (s.prepared f).flashImage) f
    have hdtc := (s.startUp_kept f).dtc
    rw [heq] at hdtc
    refine ⟨_, (exec_startUp_ready htap hphase hstep hrec).trans (congrArg Host.Outcome.next heq), h1, h2, h3, hlit.phase.trans hon,
      hdtc, hlit.cold.trans hcold⟩
  case waits =>
    obtain ⟨hon, hcold, hstrap⟩ := s.rails_lit
    have hprep := s.prepared_lit f
    have heq : s.startUp f = (s.prepared f).setStart { (s.prepared f).start with result := 3 } := by
      rw [State.startUp_eq hfw hhbm, if_pos (by simp [hprep.cfg, hstrap, hcfg])]
    exact ⟨_, (exec_startUp_ready htap hphase hstep hrec).trans (congrArg Host.Outcome.next heq), rfl, rfl, hprep.phase.trans hon⟩
  case waited =>
    obtain ⟨h1, h2, -⟩ := s.finishStart_start f
    exact ⟨_, exec_startUp_waited htap hphase hstep, h1, h2⟩

end Sys2Proof.Machine
end

section
/-!
PROOFS. Firmware activation (18 R692 to R696).
-/
namespace Sys2Proof.Machine

open Sys2Proof.Claims

/-- With no warm reset wanted, the end of an activation is its result. -/
theorem State.endActivation_unwanted {s : State} (n : Nat) (r : Byte) (h : s.fault.wanted = none) :
    (s.endActivation n r).fwu = { s.fwu with actState := 0, actResult := n, actReason := r, actHerd := 0, actTarget := 0,
                                             reversion := s.fwu.reversion && decide (n ≠ 1) } := by
  unfold State.endActivation State.takeWanted
  rw [State.setFwu_fault, h]
  rfl

/-- A migration of records leaves the units and the faults. -/
theorem State.migrate_units (s : State) : s.migrate.fwu.units = s.fwu.units ∧ s.migrate.fault = s.fault :=
  foldl_keeps (P := fun t => t.fwu.units = s.fwu.units ∧ t.fault = s.fault) _
    (fun t u ht => foldl_keeps (P := fun t => t.fwu.units = s.fwu.units ∧ t.fault = s.fault) _
      (fun v r hv => by dsimp only; split; exacts [hv, hv]) _ t ht) _ s ⟨rfl, rfl⟩

/-- The switched state before the end of the activation. -/
def State.switched (s : State) : State :=
  let t := s.setFwu { s.fwu with units := s.fwu.units.map FwUnit.switch }
  if t.fwu.reversion then t.restoreRecords else t.migrate

theorem State.switched_units (s : State) : s.switched.fwu.units = s.fwu.units.map FwUnit.switch ∧ s.switched.fault = s.fault := by
  unfold State.switched
  dsimp only
  split
  · exact ⟨rfl, rfl⟩
  · exact State.migrate_units _

theorem exec_activationSwitch_drained {s : State} (h : s.draining = true) (hd : s.drained = true) :
    exec .activationSwitch s = .next (s.switched.endActivation 1 0) :=
  congrArg Host.Outcome.next (if_neg (by simp [h, hd]))

/-- Settles O44: the end of an activation writes the fields of the activation alone. -/
theorem firmwareActivation : Obligations.FirmwareActivation := by
  unfold Obligations.FirmwareActivation
  refine fun s hdrain hwant => ⟨fun hd => ⟨?switch, ?revert⟩, fun hd htime => ?cancel⟩
  case switch =>
    obtain ⟨hunits, hfault⟩ := s.switched_units
    have hend := s.switched.endActivation_unwanted 1 0 (by rw [hfault, hwant])
    have hunit (u : Nat) (hu : u < 4) : (s.switched.endActivation 1 0).unit u = (s.unit u).switch := by
      rw [State.unit, hend, hunits, vget_map _ _ _ hu]
      rfl
    refine ⟨_, exec_activationSwitch_drained hdrain hd, by rw [hend], by rw [hend], fun u hu hs => ?_, fun u hu hs => ?_⟩
    · rw [hunit u hu, FwUnit.switch, if_pos hs]
      exact ⟨rfl, rfl, rfl⟩
    · rw [hunit u hu, FwUnit.switch, if_neg hs]
  case revert =>
    have hend := s.endActivation_unwanted 3 0x0F hwant
    exact ⟨_, congrArg Host.Outcome.next (if_pos (by simp [hdrain, hd])), by rw [hend], by rw [hend], by rw [hend]⟩
  case cancel =>
    have hend := s.endActivation_unwanted 2 0x0E hwant
    exact ⟨_, congrArg Host.Outcome.next (if_pos ⟨hdrain, by simp [hd], htime⟩), by rw [hend], by rw [hend], by rw [hend]⟩

end Sys2Proof.Machine
end

section
/-!
PROOFS. Rules about items: an item after a change of its queue, after its start and after its end; and what messages between devices
leave.
-/
namespace Sys2Proof.Machine

open Sys2Proof.Claims

/-! ## Items of a queue -/

theorem QueueSt.item?_k {x : QueueSt} {k : Nat} {i : Item} (h : x.item? k = some i) : i.k = k := by
  simpa using List.find?_some h

theorem QueueSt.item?_mapItem (x : QueueSt) (k : Nat) {f : Item → Item} (hf : ∀ i, i.k = k → (f i).k = k) (y : Nat) :
    (x.mapItem k f).item? y = if y = k then (x.item? k).map f else x.item? y := by
  have hkey (i : Item) : (if i.k = k then f i else i).k = i.k := by
    split
    · next h => rw [hf i h, h]
    · rfl
  have hfind : (x.mapItem k f).item? y = (x.item? y).map fun i => if i.k = k then f i else i := by
    rw [QueueSt.item?, QueueSt.mapItem, List.find?_map, QueueSt.item?]
    simp only [Function.comp_def, hkey]
  rw [hfind]
  cases hy : x.item? y with
  | none =>
    split
    · next h => rw [← h, hy]; rfl
    · rfl
  | some i =>
    have hi := QueueSt.item?_k hy
    split
    · next h => rw [← h, hy, Option.map_some, Option.map_some, if_pos (hi.trans rfl)]
    · next h => rw [Option.map_some, if_neg (by rw [hi]; exact h)]

theorem QueueSt.item?_ite {c : Prop} [Decidable c] (x : QueueSt) (st : QState) (r : PreReq) (k : Nat) :
    (if c then { x with st := st, preReq := r } else x).item? k = x.item? k := by
  split <;> rfl

@[simp] theorem QueueSt.atPoint_item? (x : QueueSt) (i : Item) (k : Nat) : (x.atPoint i).item? k = x.item? k := x.item?_ite x.st _ k
@[simp] theorem QueueSt.settle_item? (x : QueueSt) (k : Nat) : x.settle.item? k = x.item? k := x.item?_ite _ _ k

/-- The item of a queue that was put. -/
theorem State.item?_putQueue (s : State) (q : Nat) (x : QueueSt) (y k : Nat) :
    (s.putQueue q x).item? y k = if y = q then x.item? k else s.item? y k := by
  by_cases h : y = q
  · rw [if_pos h, h, State.item?, State.queue_putQueue_same]
  · rw [if_neg h, State.item?, State.queue_putQueue_ne _ _ _ _ h, State.item?]

theorem State.item?_mapItem (s : State) (q k : Nat) {f : Item → Item} (hf : ∀ i, i.k = k → (f i).k = k) (y n : Nat) :
    (s.mapItem q k f).item? y n = if y = q ∧ n = k then (s.item? q k).map f else s.item? y n := by
  rw [State.mapItem, State.item?_putQueue, QueueSt.item?_mapItem _ _ hf]
  by_cases hy : y = q
  · subst hy
    by_cases hn : n = k <;> simp [hn, State.item?]
  · simp [hy]

/-! ## One item changed -/

theorem itemNow_of_queue {s t : State} {q k : Nat} {j : Item} {x : QueueSt} (hx : ∀ n, x.item? n = if n = k then some j else s.item? q n)
    (hq : t.queues = (s.putQueue q x).queues) : itemNow s t q k j := by
  have ht (y : Nat) : t.queue y = (s.putQueue q x).queue y := by simp only [State.queue, hq]
  have hi (y n : Nat) : t.item? y n = (s.putQueue q x).item? y n := by simp only [State.item?, ht]
  refine ⟨?_, fun n hn => ?_, fun y hy => (ht y).trans (State.queue_putQueue_ne _ _ _ _ hy)⟩
  · rw [hi, State.item?_putQueue, if_pos rfl, hx, if_pos rfl]
  · rw [hi, State.item?_putQueue, if_pos rfl, hx, if_neg hn]

/-- Only the queues tell which item changed. -/
theorem itemNow_congr {s t t' : State} {q k : Nat} {j : Item} (h : itemNow s t q k j) (hq : t'.queues = t.queues) : itemNow s t' q k j := by
  have ht (y : Nat) : t'.queue y = t.queue y := by simp only [State.queue, hq]
  obtain ⟨h1, h2, h3⟩ := h
  exact ⟨by rw [State.item?, ht]; exact h1, fun n hn => by rw [State.item?, ht]; exact h2 n hn, fun y hy => (ht y).trans (h3 y hy)⟩

theorem itemNow_trans {s t u : State} {q k : Nat} {i j : Item} (h : itemNow s t q k i) (g : itemNow t u q k j) : itemNow s u q k j :=
  ⟨g.1, fun n hn => (g.2.1 n hn).trans (h.2.1 n hn), fun y hy => (g.2.2 y hy).trans (h.2.2 y hy)⟩

theorem itemNow_mapItem {s t : State} {q k : Nat} {i : Item} {f : Item → Item} (h : itemNow s t q k i) (hf : ∀ i, i.k = k → (f i).k = k) :
    itemNow s (t.mapItem q k f) q k (f i) := by
  refine itemNow_trans h (itemNow_of_queue (fun n => ?_) rfl)
  rw [QueueSt.item?_mapItem _ _ hf]
  split
  · have hi : (t.queue q).item? k = some i := h.1
    rw [hi, Option.map_some]
  · rfl

theorem ended_of_itemNow {s t : State} {q k st pr : Nat} {j : Item} (h : itemNow s t q k j) (hp : j.phase = .ended) (hs : j.status = st)
    (hpr : j.progress = pr) (hd : j.endDtc = s.now) : ended s t q k st pr :=
  ⟨⟨j, h.1, hp, hs, hpr, hd⟩, h.2.1, h.2.2⟩

/-! ## The end of an item -/

/-- An item as its end leaves it. -/
def Item.finished (i : Item) (now : DWord) (f : Option Fail) : Item :=
  { { i with fl := i.allFlags }.ending now f i.flagDetail with startDtc := if i.phase = .notStarted then none else i.startDtc }

theorem Item.ending_k (i : Item) (now : DWord) (f : Option Fail) (n : Nat) : (i.ending now f n).k = i.k := by
  unfold Item.ending
  dsimp only
  split
  · rfl
  · split <;> (split <;> (try split) <;> (try split)) <;> rfl

theorem Item.finished_k (i : Item) (now : DWord) (f : Option Fail) : (i.finished now f).k = i.k := Item.ending_k _ _ _ _

theorem Item.ending_phase (i : Item) (now : DWord) (f : Option Fail) (n : Nat) : (i.ending now f n).phase = .ended ∧
    (i.ending now f n).endDtc = now := by
  unfold Item.ending
  dsimp only
  split
  · exact ⟨rfl, rfl⟩
  · split <;> (split <;> (try split) <;> (try split)) <;> exact ⟨rfl, rfl⟩

theorem Item.finished_phase (i : Item) (now : DWord) (f : Option Fail) : (i.finished now f).phase = .ended ∧
    (i.finished now f).endDtc = now := Item.ending_phase _ _ _ _

/-- A status once decided stands. -/
theorem Item.finished_status {i : Item} (now : DWord) (f : Option Fail) (h : i.status ≠ 0) : (i.finished now f).status = i.status := by
  rw [Item.finished, Item.ending, if_pos h]

/-- An item without a failure, a flag or a deadline that has come ends DONE. -/
theorem Item.ending_done {i : Item} {now : DWord} (n : Nat) (hs : i.status = 0) (hl : i.late now = false) (hf : i.fl.counts = false) :
    i.ending now none n = { i with phase := .ended, endDtc := now, progress := if i.op = 6 ∨ i.op = 7 then 1 else i.progress } := by
  have hlate (j : Item) (hj : j.due = i.due) : j.late now = false := by rw [← hl, Item.late, hj]; rfl
  unfold Item.ending
  by_cases hop : i.op = 6 ∨ i.op = 7 <;> simp [hs, hop, hf, hlate]

theorem Item.finished_done {i : Item} {now : DWord} (hs : i.status = 0) (hl : i.late now = false) (hf : i.allFlags.counts = false) :
    i.finished now none = { i with phase := .ended, endDtc := now, fl := i.allFlags, progress := if i.op = 6 ∨ i.op = 7 then 1 else i.progress
                                   startDtc := if i.phase = .notStarted then none else i.startDtc } := by
  have hend := Item.ending_done (i := { i with fl := i.allFlags }) (now := now) i.flagDetail hs hl hf
  rw [Item.finished, hend]

/-- The queue of an item that ends. -/
def QueueSt.ends (x : QueueSt) (k : Nat) (j : Item) : QueueSt := ((x.mapItem k fun _ => j).atPoint j).settle

theorem QueueSt.ends_item? (x : QueueSt) {k : Nat} {i j : Item} (h : x.item? k = some i) (hj : j.k = k) (n : Nat) :
    (x.ends k j).item? n = if n = k then some j else x.item? n := by
  rw [QueueSt.ends, QueueSt.settle_item?, QueueSt.atPoint_item?, QueueSt.item?_mapItem _ _ fun _ _ => hj, h, Option.map_some]

/-- An item whose end writes nothing but its queue: it is no UPDATE, and no collective whose bucket has not begun. -/
structure Item.Plain (i : Item) : Prop where
  begun : i.unbegun = false
  work : i.upd? = none

theorem State.endNow_plain {s : State} {q k : Nat} {i : Item} (h : s.item? q k = some i) (hp : i.phase ≠ .ended) (hi : i.Plain)
    (f : Option Fail) : s.endNow q k f = (s.putQueue q ((s.queue q).ends k (i.finished s.now f)), (i.finished s.now f).csigOps) := by
  have hwork : (i.finished s.now f).work = i.work := by
    unfold Item.finished Item.ending
    dsimp only
    split
    · rfl
    · split <;> (split <;> (try split) <;> (try split)) <;> rfl
  have hrep (j : Item) (hj : j.work = i.work) : s.writeReport j = s := by
    have hu := hi.work
    rw [State.writeReport, hj]
    rw [Item.upd?] at hu
    split
    · next w hw => rw [hw] at hu; cases hu
    · rfl
  rw [State.endNow, h]
  dsimp only
  rw [if_neg hp, hi.begun, if_neg (by simp)]
  exact congrArg (fun t : State => (t.putQueue q ((t.queue q).ends k (i.finished s.now f)), (i.finished s.now f).csigOps)) (hrep _ hwork)

/-- What such an end leaves. -/
theorem State.endNow_itemNow {s : State} {q k : Nat} {i : Item} (h : s.item? q k = some i) (hp : i.phase ≠ .ended) (hi : i.Plain)
    (f : Option Fail) : itemNow s (s.endNow q k f).1 q k (i.finished s.now f) := by
  rw [State.endNow_plain h hp hi]
  exact itemNow_of_queue (QueueSt.ends_item? _ h ((Item.finished_k _ _ _).trans (QueueSt.item?_k h))) rfl

/-! ## The start of an item -/

theorem State.startable_item {s : State} {q k : Nat} {i : Item} (h : s.startable q k = some i) :
    s.item? q k = some i ∧ s.ready q i = true := by
  unfold State.startable at h
  split at h
  · cases h
  · next hi =>
    split at h
    · next hr =>
      cases h
      simp only [Bool.and_eq_true] at hr
      exact ⟨hi, hr.1.2⟩
    · cases h

theorem State.ready_undecided {s : State} {q : Nat} {i : Item} (h : s.ready q i = true) :
    i.phase = .notStarted ∧ i.status = 0 ∧ i.late s.now = false := by
  simp only [State.ready, Bool.and_eq_true, decide_eq_true_eq, Bool.not_eq_true'] at h
  obtain ⟨⟨⟨⟨⟨-, hp⟩, hs⟩, hl⟩, -⟩, -⟩ := h
  exact ⟨hp, hs, hl⟩

theorem State.begin_itemNow {s : State} {q k : Nat} {i : Item} (h : s.item? q k = some i) : itemNow s (s.begin q k) q k (begun s i) := by
  have hturn : itemNow s (s.setTurns (tput 0 s.turns (4 * engineOf q + (s.queue q).prio.toNat) (q + 1))) q k i := ⟨h, fun _ _ => rfl, fun _ _ => rfl⟩
  exact itemNow_mapItem hturn fun _ hi => hi

/-- An item that starts, and passes the common checks, has the effect of its kind. -/
theorem State.startItem_starts {s : State} {q k op : Nat} {fields : Item → List (Nat × Bool)} {i : Item} (h : starts s q k op fields i)
    (go : State → Item → State) : s.startItem q k op fields go = go (s.begin q k) (begun s i) := by
  obtain ⟨hstart, hop, -, hcmd, hfield, hsig⟩ := h
  have hbegun : (s.begin q k).item? q k = some (begun s i) := (State.begin_itemNow (State.startable_item hstart).1).1
  rw [State.startItem, hstart]
  dsimp only
  rw [if_neg (by simp [hop]), hcmd]
  dsimp only
  rw [hbegun]
  dsimp only
  rw [hfield, hsig]

theorem starts_item {s : State} {q k op : Nat} {fields : Item → List (Nat × Bool)} {i : Item} (h : starts s q k op fields i) :
    s.item? q k = some i := (State.startable_item h.1).1

theorem starts_undecided {s : State} {q k op : Nat} {fields : Item → List (Nat × Bool)} {i : Item}
    (h : starts s q k op fields i) : i.phase = .notStarted ∧ i.status = 0 ∧ i.late s.now = false :=
  State.ready_undecided (State.startable_item h.1).2

/-! ## Messages between devices -/

/-- `t` is `s` but for the links' states and for what has left. -/
def Messaged (t s : State) : Prop := ∃ l o, t = (s.setFab { s.fab with links := l }).setSent o

namespace Messaged

theorem refl (s : State) : Messaged s s := ⟨s.fab.links, s.sent, rfl⟩
theorem trans {u t s : State} (h : Messaged u t) (g : Messaged t s) : Messaged u s := by
  obtain ⟨l, o, rfl⟩ := h
  obtain ⟨l', o', rfl⟩ := g
  exact ⟨l, o, rfl⟩
theorem foldl {β : Type} {f : State → β → State} (hf : ∀ t b, Messaged (f t b) t) (l : List β) (s : State) : Messaged (l.foldl f s) s :=
  foldl_keeps (P := fun t => Messaged t s) f (fun t b h => (hf t b).trans h) l s (refl s)

theorem queues {t s : State} (h : Messaged t s) : t.queues = s.queues := by obtain ⟨_, _, rfl⟩ := h; rfl
theorem sync {t s : State} (h : Messaged t s) : t.sync = s.sync := by obtain ⟨_, _, rfl⟩ := h; rfl
theorem mem {t s : State} (h : Messaged t s) : t.mem = s.mem := by obtain ⟨_, _, rfl⟩ := h; rfl
theorem cores {t s : State} (h : Messaged t s) : t.cores = s.cores := by obtain ⟨_, _, rfl⟩ := h; rfl
theorem fault {t s : State} (h : Messaged t s) : t.fault = s.fault := by obtain ⟨_, _, rfl⟩ := h; rfl
theorem start {t s : State} (h : Messaged t s) : t.start = s.start := by obtain ⟨_, _, rfl⟩ := h; rfl

end Messaged

theorem State.putLink_messaged (s : State) (l : Nat) (x : LinkSt) : Messaged (s.putLink l x) s :=
  ⟨vset s.fab.links l x, s.sent, rfl⟩
theorem State.emit_messaged (s : State) (o : Out) : Messaged (s.emit o) s := ⟨s.fab.links, _, rfl⟩

theorem State.pumpLink_messaged (s : State) (l : Nat) : Messaged (s.pumpLink l) s :=
  (Messaged.foldl (fun t _ => t.emit_messaged _) _ _).trans (s.putLink_messaged _ _)

theorem State.sendOn_messaged (s : State) (l kind : Nat) (m : MsgHead) (data : List Line) : Messaged (s.sendOn l kind m data) s :=
  (State.pumpLink_messaged _ _).trans ((State.putLink_messaged _ _ _).trans (s.emit_messaged _))

theorem State.sendTo_messaged (s : State) (kind : Nat) (m : MsgHead) (data : List Line) : Messaged (s.sendTo kind m data) s := by
  unfold State.sendTo
  split
  · exact s.sendOn_messaged _ _ _ _
  · exact Messaged.refl s

theorem State.originate_messaged (s : State) (kind dst mtag arg : Nat) (data : List Line) : Messaged (s.originate kind dst mtag arg data) s :=
  s.sendTo_messaged _ _ _

/-- A message that is sent on a port has left. -/
theorem State.mem_sent_sendOn (s : State) (l kind : Nat) (m : MsgHead) (data : List Line) : .msg l kind m data ∈ (s.sendOn l kind m data).sent := by
  have hmsg (t : State) (h : Out.msg l kind m data ∈ t.sent) : Out.msg l kind m data ∈ (t.pumpLink l).sent := by
    unfold State.pumpLink State.emitFlits
    exact foldl_keeps (P := fun u : State => Out.msg l kind m data ∈ u.sent) _ (fun u f hu => List.mem_append_left _ hu) _ _ h
  exact hmsg _ (List.mem_append_right _ (List.mem_singleton.mpr rfl))

end Sys2Proof.Machine
end

section
/-!
PROOFS. Operations on counters that no watch awaits, and the items that order others: NOP, FENCE, SIGNAL, WAIT, BARRIER and PREEMPT_POINT
(09 R374 to R376, 10 R408, R412 to R417, R430 to R434).
-/
namespace Sys2Proof.Machine

open Sys2Proof.Claims

/-! ## Counters without watches -/

/-- `t` is `s` but for the counters. -/
def Counted (t s : State) : Prop := ∃ x, t = s.setSync { s.sync with ctr := x }

theorem Counted.refl (s : State) : Counted s s := ⟨s.sync.ctr, rfl⟩
theorem Counted.trans {u t s : State} (h : Counted u t) (g : Counted t s) : Counted u s := by
  obtain ⟨x, rfl⟩ := h
  obtain ⟨y, rfl⟩ := g
  exact ⟨x, rfl⟩
theorem Counted.queues {t s : State} (h : Counted t s) : t.queues = s.queues := by obtain ⟨_, rfl⟩ := h; rfl
theorem Counted.mem {t s : State} (h : Counted t s) : t.mem = s.mem := by obtain ⟨_, rfl⟩ := h; rfl
theorem Counted.cores {t s : State} (h : Counted t s) : t.cores = s.cores := by obtain ⟨_, rfl⟩ := h; rfl
theorem Counted.watches {t s : State} (h : Counted t s) : t.sync.watches = s.sync.watches := by obtain ⟨_, rfl⟩ := h; rfl
theorem Counted.herd {t s : State} (h : Counted t s) (n : Nat) : t.herd n = s.herd n := by obtain ⟨_, rfl⟩ := h; rfl

theorem State.setCounter_counted (s : State) (c : Nat) (v : DWord) : Counted (s.setCounter c v) s := ⟨tput 0 s.sync.ctr c v, rfl⟩

theorem State.change1_unwatched {s : State} (h : s.sync.watches = []) (c : Nat) (d : DWord) :
    s.change1 c d = (s.setCounter c (s.counter c + d), []) := by
  have hwatch : (s.setCounter c (s.counter c + d)).sync.watches = [] := h
  rw [State.change1, hwatch]
  simp only [List.filter_nil, fireAll, State.tryClaim, hwatch, List.find?_nil, List.append_nil]

/-- What operations add to a counter. -/
def added (l : List (Nat × DWord)) (c : Nat) : DWord := ((l.filter fun e => decide (e.1 = c)).map (·.2)).sum

theorem runOps_unwatched (l : List (Nat × DWord)) (n : Nat) (s : State) (h : s.sync.watches = []) (hn : l.length ≤ n) :
    Counted (runOps n s l) s ∧ ∀ c, (runOps n s l).counter c = s.counter c + added l c := by
  induction l generalizing n s with
  | nil => cases n <;> exact ⟨.refl s, fun c => by simp [runOps, added]⟩
  | cons e l ih =>
    obtain ⟨n, rfl⟩ : ∃ m, n = m + 1 := ⟨n - 1, by simp only [List.length_cons] at hn; omega⟩
    have hstep : runOps (n + 1) s (e :: l) = runOps n (s.setCounter e.1 (s.counter e.1 + e.2)) l := by
      rw [runOps, State.change1_unwatched h]
      rfl
    obtain ⟨hc, hcount⟩ := ih n (s.setCounter e.1 (s.counter e.1 + e.2)) h (by simpa using hn)
    rw [hstep]
    refine ⟨hc.trans (s.setCounter_counted _ _), fun c => ?_⟩
    rw [hcount, State.setCounter_counter]
    by_cases hk : e.1 = c
    · rw [if_pos hk.symm, added, added, List.filter_cons_of_pos (by simp [hk]), List.map_cons, List.sum_cons, hk, BitVec.add_assoc]
    · rw [if_neg (Ne.symm hk), added, added, List.filter_cons_of_neg (by simp [hk])]

theorem State.ops_unwatched {s : State} (h : s.sync.watches = []) (l : List (Nat × DWord)) :
    Counted (s.ops l) s ∧ ∀ c, (s.ops l).counter c = s.counter c + added l c :=
  runOps_unwatched l _ s h (by omega)

/-- The signal of an item that ended without a failure. -/
theorem added_csigOps {i : Item} (h : i.status = 0) (c : Nat) : added i.csigOps c = if i.csig = some c then 1 else 0 := by
  unfold Item.csigOps
  cases hs : i.csig with
  | none => rfl
  | some n =>
    dsimp only
    rw [if_pos (by omega), added]
    by_cases hn : n = c <;> simp [hn]

/-- The signals of an item's end are counted, where it has none or no watch waits. -/
theorem State.ops_csigOps {s : State} {i : Item} (hs : i.status = 0) (h : i.csig = none ∨ s.sync.watches = []) :
    Counted (s.ops i.csigOps) s ∧ ∀ c, (s.ops i.csigOps).counter c = s.counter c + if i.csig = some c then 1 else 0 := by
  rcases h with h | h
  · have hnil : i.csigOps = [] := by rw [Item.csigOps, h]
    rw [hnil, State.ops_nil]
    exact ⟨.refl s, fun c => by simp [h]⟩
  · obtain ⟨hc, hcount⟩ := State.ops_unwatched h i.csigOps
    exact ⟨hc, fun c => by rw [hcount, added_csigOps hs]⟩

theorem ended_congr {s t t' : State} {q k st pr : Nat} (h : ended s t q k st pr) (hq : t'.queues = t.queues) : ended s t' q k st pr := by
  have ht (y : Nat) : t'.queue y = t.queue y := by simp only [State.queue, hq]
  have hi (y n : Nat) : t'.item? y n = t.item? y n := by simp only [State.item?, ht]
  obtain ⟨⟨j, hj⟩, h2, h3⟩ := h
  exact ⟨⟨j, by rw [hi]; exact hj⟩, fun n hn => (hi q n).trans (h2 n hn), fun y hy => (ht y).trans (h3 y hy)⟩

/-! ## Items that complete as they start -/

/-- A running item that has done no work ends DONE. -/
structure Item.Clean (j : Item) (now : DWord) : Prop where
  running : j.phase = .running
  undecided : j.status = 0
  early : j.late now = false
  flags : j.allFlags.counts = false
  plain : j.Plain

theorem Item.plain_of_op {j : Item} (hop : j.op < 0x30) (hw : j.upd? = none) : j.Plain :=
  ⟨by simp only [Item.unbegun]; rw [decide_eq_false (by omega)]; rfl, hw⟩

/-- A fresh item that starts is clean. -/
theorem begun_clean {s : State} {q k op : Nat} {fields : Item → List (Nat × Bool)} {i : Item} (h : starts s q k op fields i) (hf : fresh i)
    (hop : op < 0x30) : (begun s i).Clean s.now := by
  obtain ⟨hwork, hflags⟩ := hf
  obtain ⟨-, hs, hl⟩ := starts_undecided h
  have hsaved : (begun s i).savedRuns = [] := by simp [Item.savedRuns, begun, hwork]
  have hop' : (begun s i).op = op := h.2.1
  refine ⟨rfl, hs, hl, ?_, Item.plain_of_op (by rw [hop']; exact hop) (by simp [Item.upd?, begun, hwork])⟩
  rw [Item.allFlags, hsaved]
  exact hflags

/-- The end of a clean item. -/
theorem Item.Clean.finished {j : Item} {now : DWord} (h : j.Clean now) : (j.finished now none).status = 0 ∧ (j.finished now none).csig = j.csig ∧
    (j.finished now none).phase = .ended ∧ (j.finished now none).endDtc = now ∧
    (j.finished now none).progress = if j.op = 6 ∨ j.op = 7 then 1 else j.progress := by
  rw [Item.finished_done h.undecided h.early h.flags]
  exact ⟨h.undecided, rfl, rfl, rfl, rfl⟩

theorem State.endNow_clean {s t : State} {q k : Nat} {j : Item} (h : itemNow s t q k j) (hj : j.Clean t.now) (hnow : t.now = s.now) :
    ended s (t.endNow q k none).1 q k 0 (if j.op = 6 ∨ j.op = 7 then 1 else j.progress) ∧ (t.endNow q k none).2 = (j.finished t.now none).csigOps ∧
    (t.endNow q k none).1.sync = t.sync ∧ (t.endNow q k none).1.mem = t.mem ∧ (t.endNow q k none).1.cores = t.cores := by
  have hp : j.phase ≠ .ended := by rw [hj.running]; decide
  obtain ⟨hs, -, hend, hdtc, hpr⟩ := hj.finished
  refine ⟨ended_of_itemNow (itemNow_trans h (State.endNow_itemNow h.1 hp hj.plain none)) hend hs hpr (hdtc.trans hnow), ?_⟩
  rw [State.endNow_plain h.1 hp hj.plain]
  exact ⟨rfl, rfl, rfl, rfl⟩

theorem counter_congr {t s : State} (h : t.sync = s.sync) (c : Nat) : t.counter c = s.counter c := by rw [State.counter, h]; rfl

/-- A clean item's end, with further operations before its signal. -/
theorem State.endNow_clean_ops {s t : State} {q k : Nat} {j : Item} (h : itemNow s t q k j) (hj : j.Clean t.now) (hsync : t.sync = s.sync)
    (hc : s.sync.watches = []) (l : List (Nat × DWord)) :
    ended s ((t.endNow q k none).1.ops (l ++ (t.endNow q k none).2)) q k 0 (if j.op = 6 ∨ j.op = 7 then 1 else j.progress) ∧
    (∀ c, ((t.endNow q k none).1.ops (l ++ (t.endNow q k none).2)).counter c = s.counter c + added l c + if j.csig = some c then 1 else 0) ∧
    ((t.endNow q k none).1.ops (l ++ (t.endNow q k none).2)).mem = t.mem ∧
    ((t.endNow q k none).1.ops (l ++ (t.endNow q k none).2)).cores = t.cores ∧
    ((t.endNow q k none).1.ops (l ++ (t.endNow q k none).2)).sync.watches = [] := by
  obtain ⟨hend, hsig, hsync', hmem, hcores⟩ := State.endNow_clean h hj (congrArg SyncSt.dtc hsync)
  obtain ⟨hs, hcsig, -⟩ := hj.finished
  have hw : (t.endNow q k none).1.sync.watches = [] := by rw [hsync', hsync, hc]
  obtain ⟨hcounted, hcount⟩ := State.ops_unwatched hw (l ++ (t.endNow q k none).2)
  refine ⟨ended_congr hend hcounted.queues, fun c => ?_, hcounted.mem.trans hmem, hcounted.cores.trans hcores, hcounted.watches.trans hw⟩
  have hadd : added (l ++ (t.endNow q k none).2) c = added l c + added (j.finished t.now none).csigOps c := by
    rw [hsig, added, List.filter_append, List.map_append, List.sum_append]
    rfl
  rw [hcount, hadd, added_csigOps hs, hcsig, counter_congr (hsync'.trans hsync), BitVec.add_assoc]

/-- NOP, FENCE and PREEMPT_POINT. -/
theorem State.finishNow_begun {s : State} {q k op : Nat} {fields : Item → List (Nat × Bool)} {i : Item} (h : starts s q k op fields i)
    (hf : fresh i) (hop : op < 0x30) (hno : op ≠ 6 ∧ op ≠ 7) (hc : i.csig = none ∨ s.sync.watches = []) :
    ended s ((s.begin q k).finishNow q k 1) q k 0 1 ∧
    (∀ c, ((s.begin q k).finishNow q k 1).counter c = s.counter c + (if i.csig = some c then 1 else 0)) ∧
    ((s.begin q k).finishNow q k 1).mem = s.mem ∧ ((s.begin q k).finishNow q k 1).cores = s.cores := by
  have hitem := itemNow_mapItem (f := fun i => { i with progress := 1 }) (State.begin_itemNow (starts_item h)) fun _ hi => hi
  have hclean : Item.Clean { begun s i with progress := 1 } s.now := by
    obtain ⟨h1, h2, h3, h4, h5, h6⟩ := begun_clean h hf hop
    exact ⟨h1, h2, h3, h4, ⟨h5, h6⟩⟩
  obtain ⟨hend, hsig, hsync, hmem, hcores⟩ := State.endNow_clean hitem hclean rfl
  obtain ⟨hs, hcsig, -⟩ := hclean.finished
  have hno' : ¬((begun s i).op = 6 ∨ (begun s i).op = 7) := by
    have hop' : (begun s i).op = op := h.2.1
    rw [hop']
    exact not_or.mpr hno
  rw [if_neg hno'] at hend
  have hcs : (Item.finished { begun s i with progress := 1 } s.now none).csig = none ∨
      (((s.begin q k).mapItem q k fun i => { i with progress := 1 }).endNow q k none).1.sync.watches = [] := by
    rw [hcsig, hsync]
    exact hc
  obtain ⟨hcounted, hcount⟩ := State.ops_csigOps hs hcs
  have heq : (s.begin q k).finishNow q k 1 = (((s.begin q k).mapItem q k fun i => { i with progress := 1 }).endNow q k none).1.ops
      (Item.finished { begun s i with progress := 1 } s.now none).csigOps := congrArg (State.ops _) hsig
  rw [heq]
  refine ⟨ended_congr hend hcounted.queues, fun c => ?_, hcounted.mem.trans hmem, hcounted.cores.trans hcores⟩
  rw [hcount, hcsig, counter_congr hsync]
  rfl

theorem orderingItemsComplete : OrderingItemsComplete := by
  refine fun s q k i hf hc => ⟨fun e he h => ?_, fun h huse hw => ?_⟩
  · have hops : e ∈ orderOps → e.2 < 0x30 ∧ (e.2 ≠ 6 ∧ e.2 ≠ 7) ∧
        exec (e.1 q k) s = .next (s.startItem q k e.2 (fun i => [i.zero 8 8]) fun t _ => t.finishNow q k 1) := by
      simp only [orderOps, List.mem_cons, List.not_mem_nil, or_false]
      rintro (rfl | rfl | rfl) <;> exact ⟨by decide, by decide, rfl⟩
    obtain ⟨hop, hno, hexec⟩ := hops he
    exact ⟨_, hexec.trans (congrArg Host.Outcome.next (State.startItem_starts h _)), State.finishNow_begun h hf hop hno hc⟩
  · have hitem := itemNow_mapItem (f := fun i => { i with progress := 1 }) (State.begin_itemNow (starts_item h)) fun _ hi => hi
    have hclean : Item.Clean { begun s i with progress := 1 } s.now := by
      obtain ⟨h1, h2, h3, h4, h5, h6⟩ := begun_clean h hf (by decide)
      exact ⟨h1, h2, h3, h4, ⟨h5, h6⟩⟩
    have hop : (begun s i).op = 5 := h.2.1
    obtain ⟨hend, hcount, hmem, hcores, -⟩ := State.endNow_clean_ops hitem hclean rfl hw
      [((begun s i).fld 8 2, BitVec.ofNat 64 ((begun s i).fld 16 8))]
    rw [if_neg (by simp [hop])] at hend
    have hgo : ¬((!(s.begin q k).mayUse ((begun s i).fld 8 2) (begun s i).ctx) = true) := by
      have huse' : (s.begin q k).mayUse ((begun s i).fld 8 2) (begun s i).ctx = true := huse
      rw [huse']
      decide
    refine ⟨_, congrArg Host.Outcome.next ((State.startItem_starts h _).trans (if_neg hgo)), hend, fun c => ?_, hmem, hcores⟩
    refine (hcount c).trans ?_
    have hadd : added [((begun s i).fld 8 2, BitVec.ofNat 64 ((begun s i).fld 16 8))] c =
        if c = (begun s i).fld 8 2 then BitVec.ofNat 64 ((begun s i).fld 16 8) else 0 := by
      by_cases hn : (begun s i).fld 8 2 = c
      · simp [added, hn]
      · simp [added, hn, Ne.symm hn]
    rw [hadd]
    rfl

/-! ## WAIT -/

/-- The watch that fires at once is the only one there was. -/
theorem State.watched_dropWatch {s : State} (w : Watch) (h : s.sync.watches = []) : (s.watched w).dropWatch (s.seen w) = s := by
  have hfilter : (s.sync.watches ++ [s.seen w]).filter (· ≠ s.seen w) = s.sync.watches := by simp [h]
  have hdrop : (s.watched w).dropWatch (s.seen w) =
      s.setSync { s.sync with watches := (s.sync.watches ++ [s.seen w]).filter (· ≠ s.seen w) } := rfl
  rw [hdrop, hfilter]
  rfl

/-- The only watch, of an item, that holds at once: its claim is taken and its item ends. -/
theorem State.place_item {s : State} {w : Watch} {q k : Nat} (h : s.sync.watches = []) (hwho : w.who = .item q k)
    (hholds : (s.seen w).holds (s.counter w.counter) = true) : s.place w =
    (s.endNow q k none).1.ops ((match w.claim with | some a => [(w.counter, -a)] | none => []) ++ (s.endNow q k none).2) := by
  have hwho' : (s.seen w).who = .item q k := hwho
  have hfire : (s.watched w).fireWatch (s.seen w) =
      ((s.endNow q k none).1, (match w.claim with | some a => [(w.counter, -a)] | none => []) ++ (s.endNow q k none).2) := by
    rw [State.fireWatch, State.watched_dropWatch w h, State.releaseWaiter, hwho']
    rfl
  rw [s.place_eq, if_pos (by simp [hholds, h]), hfire]

theorem added_claim (n c : Nat) (x : Option DWord) :
    added (match x with | some a => [(n, -a)] | none => []) c = -(if c = n then x.getD 0 else 0) := by
  cases x with
  | none => simp [added]
  | some a =>
    by_cases hn : n = c
    · simp [added, hn]
    · simp [added, hn, Ne.symm hn]

theorem waitItem : WaitItem := by
  intro s q k i hf j n claim w h huse hwait
  have hitem := itemNow_mapItem (f := fun i => { i with work := .wait }) (State.begin_itemNow (starts_item h)) fun _ hi => hi
  have hgo : ¬((!(s.begin q k).mayUse n (begun s i).ctx) = true) := by
    have huse' : (s.begin q k).mayUse n (begun s i).ctx = true := huse
    rw [huse']
    decide
  have hexec : exec (.wait q k) s = .next (((s.begin q k).setWork q k .wait).register { w with v0 := 0 }) :=
    congrArg Host.Outcome.next ((State.startItem_starts h _).trans (if_neg hgo))
  have hplace (hlen : s.sync.watches.length < 16208) : ((s.begin q k).setWork q k .wait).register { w with v0 := 0 } =
      ((s.begin q k).setWork q k .wait).place { w with v0 := 0 } := if_pos ⟨hlen, hwait⟩
  refine ⟨fun hlen hno => ?_, fun hw hyes => ?_⟩
  · refine ⟨_, hexec.trans (congrArg Host.Outcome.next ((hplace hlen).trans (State.place_of_not_holds hno))), ?_⟩
    exact ⟨itemNow_congr hitem rfl, rfl, fun _ => rfl, rfl, rfl⟩
  · have hclean : Item.Clean { begun s i with work := .wait } s.now := by
      obtain ⟨h1, h2, h3, h4, h5, -⟩ := begun_clean h hf (by decide)
      have hop : (begun s i).op = 6 := h.2.1
      exact ⟨h1, h2, h3, hf.2, Item.plain_of_op (by rw [hop]; decide) rfl⟩
    obtain ⟨hend, hcount, hmem, hcores, hwatches⟩ := State.endNow_clean_ops hitem hclean rfl hw
      (match w.claim with | some a => [(w.counter, -a)] | none => [])
    rw [if_pos (.inl h.2.1)] at hend
    have hat := (hplace (by rw [hw]; decide)).trans (State.place_item (s := (s.begin q k).setWork q k .wait) (w := { w with v0 := 0 }) hw rfl hyes)
    refine ⟨_, hexec.trans (congrArg Host.Outcome.next hat), hend, hwatches, fun c => ?_, hmem, hcores⟩
    refine (hcount c).trans ?_
    rw [added_claim, ← BitVec.sub_eq_add_neg]
    rfl

/-! ## BARRIER -/

theorem mem_tins {α : Type} {t : Table α} {k : Nat} {v : α} {e : Nat × α} (h : e ∈ tins t k v) : e = (k, v) ∨ e ∈ t := by
  induction t with
  | nil => exact .inl (List.mem_singleton.mp h)
  | cons a t ih =>
    rw [tins] at h
    split at h
    · exact (List.mem_cons.mp h)
    · split at h
      · exact (List.mem_cons.mp h).imp_right (List.mem_cons_of_mem _)
      · rcases List.mem_cons.mp h with h | h
        · exact .inr (h ▸ List.mem_cons_self)
        · exact (ih h).imp_right (List.mem_cons_of_mem _)

theorem mem_tput {α : Type} [DecidableEq α] {d : α} {t : Table α} {k : Nat} {v : α} {e : Nat × α} (h : e ∈ tput d t k v) :
    e = (k, v) ∨ e ∈ t := by
  unfold tput at h
  split at h
  · exact .inr (List.mem_of_mem_filter h)
  · exact mem_tins h

/-- A BARRIER item that waits on a herd. -/
def Item.awaits (h : Nat) (i : Item) : Bool := i.live && (match i.work with | .barrier g _ => decide (g = h) | _ => false)

theorem State.mem_barriersOf {s : State} {h q k : Nat} :
    (q, k) ∈ s.barriersOf h ↔ ∃ x, (q, x) ∈ s.queues ∧ ∃ i ∈ x.items, i.awaits h = true ∧ i.k = k := by
  have hb : s.barriersOf h = (s.queues.map fun e => (e.2.items.filter (Item.awaits h)).map fun i => (e.1, i.k)).flatten := rfl
  rw [hb]
  constructor
  · intro hm
    obtain ⟨l, hl, hq⟩ := List.mem_flatten.mp hm
    obtain ⟨e, he, rfl⟩ := List.mem_map.mp hl
    obtain ⟨i, hi, heq⟩ := List.mem_map.mp hq
    obtain ⟨hi, haw⟩ := List.mem_filter.mp hi
    cases heq
    exact ⟨e.2, he, i, hi, haw, rfl⟩
  · rintro ⟨x, hx, i, hi, haw, rfl⟩
    exact List.mem_flatten.mpr ⟨_, List.mem_map.mpr ⟨_, hx, rfl⟩, List.mem_map.mpr ⟨i, List.mem_filter.mpr ⟨hi, haw⟩, rfl⟩⟩

/-- A listed item that awaits a herd is one of its BARRIER items. -/
theorem State.mem_barriersOf_item {s : State} {h q k : Nat} {i : Item} (hi : s.item? q k = some i) (haw : i.awaits h = true) :
    (q, k) ∈ s.barriersOf h := by
  have hne : s.queue q ≠ QueueSt.reset := fun hr => by rw [State.item?, hr] at hi; cases hi
  exact State.mem_barriersOf.mpr ⟨_, mem_of_tget_ne hne, i, List.mem_of_find?_eq_some hi, haw, QueueSt.item?_k hi⟩

/-- Changing items of one number in one queue makes no other item await a herd. -/
theorem State.barriersOf_mapItem {s : State} {h q k : Nat} {f : Item → Item} (hf : ∀ i, i.k = k → (f i).k = k)
    (hs : ∀ e ∈ s.barriersOf h, e = (q, k)) : ∀ e ∈ (s.mapItem q k f).barriersOf h, e = (q, k) := by
  rintro ⟨q', k'⟩ he
  obtain ⟨x, hx, i, hi, haw, rfl⟩ := State.mem_barriersOf.mp he
  have hput : (q', x) ∈ tput QueueSt.reset s.queues q ((s.queue q).mapItem k f) := hx
  rcases mem_tput hput with heq | hold
  · cases heq
    obtain ⟨j, hj, rfl⟩ := List.mem_map.mp hi
    by_cases hk : j.k = k
    · simp [hk, hf j hk]
    · rw [if_neg hk] at haw ⊢
      have hne : s.queue q ≠ QueueSt.reset := fun hr => by rw [hr] at hj; cases hj
      exact hs _ (State.mem_barriersOf.mpr ⟨_, mem_of_tget_ne hne, j, hj, haw, rfl⟩)
  · exact hs _ (State.mem_barriersOf.mpr ⟨x, hold, i, hi, haw, rfl⟩)

/-- One step of the release of a herd's BARRIER items. -/
def State.releaseBarrier (s : State) (e : Nat × Nat) : State := (s.endNow e.1 e.2 none).1.ops (s.endNow e.1 e.2 none).2

theorem State.releaseBarriers_eq (s : State) (h : Nat) : s.releaseBarriers h = (s.barriersOf h).foldl State.releaseBarrier s := rfl

/-- An item that has ended is not released again. -/
theorem State.releaseBarrier_ended {s : State} {q k : Nat} {j : Item} (h : s.item? q k = some j) (hp : j.phase = .ended) :
    s.releaseBarrier (q, k) = s := by
  have hend : s.endNow q k none = (s, []) := by
    rw [State.endNow, h]
    exact if_pos hp
  rw [State.releaseBarrier, hend, State.ops_nil]

/-- The only BARRIER item that awaits a herd is released with it. -/
theorem State.releaseBarriers_only {s : State} {h q k : Nat} (hall : ∀ e ∈ s.barriersOf h, e = (q, k)) (hmem : (q, k) ∈ s.barriersOf h)
    {j : Item} (hj : (s.releaseBarrier (q, k)).item? q k = some j) (hp : j.phase = .ended) :
    s.releaseBarriers h = s.releaseBarrier (q, k) := by
  have hrest : ∀ l : List (Nat × Nat), (∀ e ∈ l, e = (q, k)) →
      l.foldl State.releaseBarrier (s.releaseBarrier (q, k)) = s.releaseBarrier (q, k) := by
    intro l
    induction l with
    | nil => exact fun _ => rfl
    | cons e l ih =>
      intro hl
      rw [List.foldl_cons, hl e List.mem_cons_self, State.releaseBarrier_ended hj hp]
      exact ih fun e he => hl e (List.mem_cons_of_mem _ he)
  rw [State.releaseBarriers_eq]
  generalize s.barriersOf h = l at hall hmem
  cases l with
  | nil => cases hmem
  | cons e l =>
    rw [List.foldl_cons, hall e List.mem_cons_self]
    exact hrest l fun e he => hall e (List.mem_cons_of_mem _ he)

/-- The byte of a 16-byte command that names a BARRIER's herd. -/
theorem begun_fld_8_1 {s : State} {i : Item} (h : i.len = 1) : (begun s i).fld 8 1 = s.num (i.addr + 8) 1 := by
  have hbytes : s.bytes i.addr (16 * i.len) = s.bytes i.addr 8 ++ s.bytes (i.addr + 8) 8 := by rw [h, ← s.bytes_add]
  have hone : s.bytes (i.addr + 8) 8 = s.bytes (i.addr + 8) 1 ++ s.bytes (i.addr + 8 + 1) 7 := by rw [← s.bytes_add]
  have hlen (a n : Nat) : (s.bytes a n).length = n := by simp [State.bytes]
  have hcmd : (begun s i).cmd = s.bytes i.addr 8 ++ (s.bytes (i.addr + 8) 1 ++ s.bytes (i.addr + 8 + 1) 7) := by
    rw [← hone, ← hbytes]
    rfl
  rw [Item.fld, hcmd, List.drop_left' (hlen _ _), List.take_left' (hlen _ _), State.num]

/-- A BARRIER that starts is alone at its herd on this device. -/
theorem starts_barrier_alone {s : State} {q k : Nat} {i : Item} (h : starts s q k 0x07 (fun i => [(8, decide (64 ≤ i.fld 8 1)), i.zero 9 7]) i) :
    s.barriersOf ((begun s i).fld 8 1) = [] := by
  obtain ⟨hstart, hop, hlen, -, hfield, -⟩ := h
  have hlen1 : i.len = 1 := by simpa [lengthOk, hop] using hlen
  have hlt : (begun s i).fld 8 1 < 64 := by
    by_contra hge
    have hsome : (begun s i).badField [(8, decide (64 ≤ (begun s i).fld 8 1)), (begun s i).zero 9 7] ≠ none := by
      rw [Item.badField]
      split
      · exact Option.some_ne_none _
      · rw [List.find?_cons_of_pos (by simpa using hge)]
        exact Option.some_ne_none _
    exact hsome hfield
  have hready := (State.startable_item hstart).2
  simp only [State.ready, Bool.and_eq_true] at hready
  have hkind := hready.2
  rw [State.kindReady] at hkind
  simp only [hop] at hkind
  rw [if_neg (by decide), if_pos trivial, Bool.and_eq_true] at hkind
  rw [begun_fld_8_1 hlen1] at hlt ⊢
  rw [Nat.mod_eq_of_lt hlt] at hkind
  exact List.isEmpty_iff.mp hkind.2

/-- The herd of the master after a device's arrival that is not the last. -/
theorem State.checkFabricHerd_waits {s : State} {h d : Nat} (hd : d ∈ (s.herd h).members) (hn : d ∉ (s.herd h).arrived) :
    s.checkFabricHerd h = s := by
  refine if_neg fun hall => hn ?_
  have hd' := List.all_eq_true.mp hall.2.2.2 d hd
  simpa using hd'

/-- The master of a herd, all of whose members have arrived, before its BARRIER items are released. -/
def State.generation (s : State) (h : Nat) : State :=
  ((s.herd h).members.filter (· ≠ s.device)).foldl (fun t d => t.originate 0x31 d (s.releaseTag h) ((s.herd h).gen + 1).toNat [])
    (s.putHerd h { s.herd h with gen := (s.herd h).gen + 1, arrived := []
                                 held := (s.herd h).held.filter fun e => decide ((s.herd h).gen + 1 ≤ e.2) })

theorem State.checkFabricHerd_all {s : State} {h : Nat} (hk : (s.herd h).kind = 2) (hm : (s.herd h).master = s.device)
    (ha : (s.herd h).arrived ≠ []) (hall : ∀ d ∈ (s.herd h).members, d ∈ (s.herd h).arrived) :
    s.checkFabricHerd h = (s.generation h).releaseBarriers h := by
  refine if_pos ⟨hk, hm, ha, List.all_eq_true.mpr fun d hd => ?_⟩
  simpa using hall d hd

theorem State.generation_messaged (s : State) (h : Nat) : Messaged (s.generation h)
    (s.putHerd h { s.herd h with gen := (s.herd h).gen + 1, arrived := []
                                 held := (s.herd h).held.filter fun e => decide ((s.herd h).gen + 1 ≤ e.2) }) :=
  Messaged.foldl (fun t _ => t.originate_messaged _ _ _ _ _) _ _

/-- The module whose BARRIER item has started and is about to arrive. -/
def State.atBarrier (s : State) (q k h : Nat) : State := (s.begin q k).setWork q k (.barrier h (s.herd h).gen)

theorem exec_barrier_starts {s : State} {q : Queue} {k : Nat} {i : Item}
    (h : starts s q k 0x07 (fun i => [(8, decide (64 ≤ i.fld 8 1)), i.zero 9 7]) i) (hk : (s.herd ((begun s i).fld 8 1)).kind = 2)
    (hc : (s.herd ((begun s i).fld 8 1)).ctx = i.ctx) (hr : s.reachable (s.herd ((begun s i).fld 8 1)).master = true) :
    exec (.barrier q k) s = .next ((s.atBarrier q k ((begun s i).fld 8 1)).arriveFabric ((begun s i).fld 8 1)) := by
  have hr' : (s.begin q k).reachable ((s.begin q k).herd ((begun s i).fld 8 1)).master = true := hr
  refine congrArg Host.Outcome.next ((State.startItem_starts h _).trans ((if_neg ?_).trans ((if_neg ?_).trans rfl)))
  · exact not_or.mpr ⟨not_not.mpr hk, not_not.mpr hc⟩
  · rw [hr']
    decide

theorem barrierItem : BarrierItem := by
  intro s q k i hf j h x hst hkind hctx
  have hitem : itemNow s (s.atBarrier q k h) q k { j with work := .barrier h x.gen } :=
    itemNow_mapItem (State.begin_itemNow (starts_item hst)) fun _ hi => hi
  have hself (hm : x.master = s.device) : s.reachable x.master = true := by simp [State.reachable, hm]
  refine ⟨fun hm hmore => ?_, fun hm hall hw => ?_, fun p hm hport hreach => ?_⟩
  · obtain ⟨d, hd, hn, hne⟩ := hmore
    have harrive : (s.atBarrier q k h).arriveFabric h = (s.atBarrier q k h).putHerd h { x with arrived := x.arrived ++ [s.device] } := by
      refine (if_pos hm).trans (State.checkFabricHerd_waits (d := d) ?_ ?_)
      · rw [State.herd_putHerd_same]
        exact hd
      · rw [State.herd_putHerd_same]
        simpa using ⟨hn, hne⟩
    refine ⟨_, (exec_barrier_starts hst hkind hctx (hself hm)).trans (congrArg Host.Outcome.next harrive), itemNow_congr hitem rfl, ?_, rfl⟩
    exact State.herd_putHerd_same _ _ _
  · have hput : Messaged (((s.atBarrier q k h).putHerd h { x with arrived := x.arrived ++ [s.device] }).generation h) _ := State.generation_messaged _ _
    have harrive : (s.atBarrier q k h).arriveFabric h =
        (((s.atBarrier q k h).putHerd h { x with arrived := x.arrived ++ [s.device] }).generation h).releaseBarriers h := by
      refine (if_pos hm).trans (State.checkFabricHerd_all ?_ ?_ ?_ ?_) <;> rw [State.herd_putHerd_same]
      · exact hkind
      · exact hm
      · simp
      · exact fun d hd => (hall d hd).elim (List.mem_append_left _) fun he => List.mem_append_right _ (List.mem_singleton.mpr he)
    rw [State.herd_putHerd_same] at hput
    generalize ((s.atBarrier q k h).putHerd h { x with arrived := x.arrived ++ [s.device] }).generation h = u at hput harrive
    have hitem' : itemNow s u q k { j with work := .barrier h x.gen } := itemNow_congr hitem (hput.queues.trans rfl)
    have hqueues : u.queues = (s.atBarrier q k h).queues := hput.queues.trans rfl
    have hbarriers : u.barriersOf h = (s.atBarrier q k h).barriersOf h := by rw [State.barriersOf, hqueues]; rfl
    have hsync : ∃ herds, u.sync = { s.sync with herds := herds } ∧ (tget Herd.none herds h).gen = x.gen + 1 ∧
        (tget Herd.none herds h).arrived = [] := by
      refine ⟨_, hput.sync.trans rfl, ?_⟩
      rw [tget_tput_same]
      exact ⟨rfl, rfl⟩
    obtain ⟨herds, hsync, hgen, harr⟩ := hsync
    have hnow : u.now = s.now := (congrArg SyncSt.dtc hsync).trans rfl
    have hclean : Item.Clean { j with work := .barrier h x.gen } u.now := by
      obtain ⟨h1, h2, h3, h4, h5, -⟩ := begun_clean hst hf (by decide)
      have hop : (begun s i).op = 7 := hst.2.1
      exact ⟨h1, h2, hnow ▸ h3, hf.2, Item.plain_of_op (by rw [hop]; decide) rfl⟩
    obtain ⟨hend, hsig, hesync, -⟩ := State.endNow_clean hitem' hclean hnow
    rw [if_pos (.inr hst.2.1)] at hend
    have hwatch : (u.endNow q k none).1.sync.watches = [] := by rw [hesync, hsync]; exact hw
    obtain ⟨hcounted, -⟩ := State.ops_unwatched hwatch (u.endNow q k none).2
    have hended : ended s (u.releaseBarrier (q, k)) q k 0 1 := ended_congr hend hcounted.queues
    obtain ⟨⟨e, he, hep, -⟩, -⟩ := id hended
    have hall' : ∀ e ∈ u.barriersOf h, e = (q.val, k) := by
      rw [hbarriers]
      have hnone : s.barriersOf h = [] := starts_barrier_alone hst
      refine State.barriersOf_mapItem (fun _ hi => hi) (State.barriersOf_mapItem (fun _ hi => hi) ?_)
      have hturn : (s.setTurns (tput 0 s.turns (4 * engineOf q + (s.queue q).prio.toNat) (q + 1))).barriersOf h = [] := hnone
      rw [hturn]
      exact fun _ he => absurd he List.not_mem_nil
    have hmem : (q.val, k) ∈ u.barriersOf h := State.mem_barriersOf_item hitem'.1 (by simp [Item.awaits, Item.live, j, begun])
    have hherd : (u.releaseBarrier (q, k)).herd h = tget Herd.none herds h := by
      refine (hcounted.herd h).trans ?_
      rw [State.herd, hesync, hsync]
    refine ⟨_, (exec_barrier_starts hst hkind hctx (hself hm)).trans
      (congrArg Host.Outcome.next (harrive.trans (State.releaseBarriers_only hall' hmem he hep))), hended, ?_, ?_⟩
    · rw [hherd, hgen]
    · rw [hherd, harr]
  · have hr : s.reachable x.master = true := by simp [State.reachable, hreach]
    have harrive : (s.atBarrier q k h).arriveFabric h = (s.atBarrier q k h).sendOn p 0x30
        ⟨0, Fin.ofNat 512 s.device, Fin.ofNat 512 x.master, BitVec.ofNat 16 h, x.gen⟩ [] := by
      have hgen : BitVec.ofNat 64 x.gen.toNat = x.gen := by simp
      have hport' : (s.atBarrier q k h).route (Fin.ofNat 512 s.device) (Fin.ofNat 512 x.master) (0 : Fin 32) = .port p := hport
      refine (if_neg hm).trans ?_
      rw [State.originate, State.sendTo]
      dsimp only
      change (match (s.atBarrier q k h).route (Fin.ofNat 512 s.device) (Fin.ofNat 512 x.master) (0 : Fin 32) with
        | .port p => (s.atBarrier q k h).sendOn p 0x30 ⟨0, Fin.ofNat 512 s.device, Fin.ofNat 512 x.master, BitVec.ofNat 16 h, BitVec.ofNat 64 x.gen.toNat⟩ []
        | _ => s.atBarrier q k h) = _
      rw [hport', hgen]
    have hmsg := State.sendOn_messaged (s.atBarrier q k h) p 0x30
      ⟨0, Fin.ofNat 512 s.device, Fin.ofNat 512 x.master, BitVec.ofNat 16 h, x.gen⟩ []
    refine ⟨_, (exec_barrier_starts hst hkind hctx hr).trans (congrArg Host.Outcome.next harrive), itemNow_congr hitem hmsg.queues, ?_,
      State.mem_sent_sendOn _ _ _ _ _⟩
    rw [State.herd, hmsg.sync]
    rfl

/-- Settles O19: a started item is the only one of its queue that changes; it ends at once, or waits on its watch or its herd. -/
theorem orderingItems : Obligations.OrderingItems := ⟨orderingItemsComplete, waitItem, barrierItem⟩

end Sys2Proof.Machine
end

section
/-!
PROOFS. The end of an item in every state: what it leaves of items, the sync unit and sequencers; and how items fail while no watch waits.
-/
namespace Sys2Proof.Machine

open Sys2Proof.Claims

/-! ## Items through writes of memory -/

/-- `t` has the items, the sync unit and the sequencers of `s`. -/
structure SameItems (t s : State) : Prop where
  items : ∀ q k, t.item? q k = s.item? q k
  sync : t.sync = s.sync
  seqs : SameSeqs t s

theorem sameItems_of_queues {t s : State} (hq : t.queues = s.queues) (hs : t.sync = s.sync) (hc : SameSeqs t s) : SameItems t s :=
  ⟨fun q k => by simp only [State.item?, State.queue, hq], hs, hc⟩

theorem State.fireLinks_sameItems (s : State) (a n : Nat) : SameItems (s.fireLinks a n) s := by
  refine ⟨fun q k => ?_, rfl, fun _ => rfl⟩
  have hq : (s.fireLinks a n).queue q = (s.queue q).fire a n := tget_tmap (fun x => QueueSt.fire x a n) rfl
  rw [State.item?, hq, QueueSt.fire]
  split
  · split <;> rfl
  · rfl

theorem sameItems_frame : WriteFrame SameItems where
  refl _ := ⟨fun _ _ => rfl, rfl, fun _ => rfl⟩
  trans h g := ⟨fun q k => (h.items q k).trans (g.items q k), h.sync.trans g.sync, fun c => (h.seqs c).trans (g.seqs c)⟩
  rows s c x h := by
    refine ⟨fun _ _ => rfl, rfl, fun y => ?_⟩
    rw [State.core_putCore]
    split
    · next hy =>
      rw [hy]
      exact (congrArg Core.seq h :)
    · rfl
  fired s a n := s.fireLinks_sameItems a n
  mem _ _ _ _ _ := ⟨fun _ _ => rfl, rfl, fun _ => rfl⟩
  live _ _ := ⟨fun _ _ => rfl, rfl, fun _ => rfl⟩
  sent _ _ := ⟨fun _ _ => rfl, rfl, fun _ => rfl⟩
  pba _ _ _ := ⟨fun _ _ => rfl, rfl, fun _ => rfl⟩

theorem State.bseqGone_sameItems (s : State) (q : Nat) (i : Item) : SameItems (s.bseqGone q i) s := by
  have hke (h : Nat) (x : KeHerd) : SameItems (s.putKeHerd h x) s := ⟨fun _ _ => rfl, rfl, fun _ => rfl⟩
  exact sameItems_frame.ite (sameItems_frame.trans (sameItems_frame.foldl
    (fun t _ => sameItems_frame.ite (sameItems_frame.refl t) (sameItems_frame.putHub t _ _)) _ _) (hke _ _)) (sameItems_frame.refl s)

theorem State.writeReport_sameItems (s : State) (i : Item) : SameItems (s.writeReport i) s := by
  unfold State.writeReport
  split
  · exact sameItems_frame.ite (sameItems_frame.write s _ _) (sameItems_frame.refl s)
  · exact sameItems_frame.refl s

/-! ## The end of an item -/

/-- The module when the queue of an item that ends is about to change: its BSEQ is used and its report is written. -/
def State.endWrites (s : State) (q : Nat) (i j : Item) : State := (if i.unbegun then s.bseqGone q i else s).writeReport j

theorem State.endWrites_sameItems (s : State) (q : Nat) (i j : Item) : SameItems (s.endWrites q i j) s :=
  sameItems_frame.trans (State.writeReport_sameItems _ j) (sameItems_frame.ite (s.bseqGone_sameItems q i) (sameItems_frame.refl s))

theorem State.endNow_eq {s : State} {q k : Nat} {i : Item} (h : s.item? q k = some i) (hp : i.phase ≠ .ended) (f : Option Fail) :
    s.endNow q k f = ((s.endWrites q i (i.finished s.now f)).putQueue q
      (((s.endWrites q i (i.finished s.now f)).queue q).ends k (i.finished s.now f)), (i.finished s.now f).csigOps) := by
  have hnow : (if i.unbegun then s.bseqGone q i else s).now = s.now :=
    congrArg SyncSt.dtc (sameItems_frame.ite (s.bseqGone_sameItems q i) (sameItems_frame.refl s)).sync
  rw [State.endNow, h]
  dsimp only
  rw [if_neg hp, hnow]
  rfl

/-- An item's end leaves the sync unit. -/
theorem State.endNow_sync (s : State) (q k : Nat) (f : Option Fail) : (s.endNow q k f).1.sync = s.sync := by
  cases h : s.item? q k with
  | none => rw [State.endNow, h]
  | some i =>
    by_cases hp : i.phase = .ended
    · rw [State.endNow, h]
      dsimp only
      rw [if_pos hp]
    · rw [State.endNow_eq h hp]
      exact (s.endWrites_sameItems q i _).sync

/-- Of all items an end changes the one that ends. -/
theorem State.endNow_item? {s : State} {q k : Nat} {i : Item} (h : s.item? q k = some i) (hp : i.phase ≠ .ended) (f : Option Fail)
    (y n : Nat) : (s.endNow q k f).1.item? y n = if y = q ∧ n = k then some (i.finished s.now f) else s.item? y n := by
  have hsame := s.endWrites_sameItems q i (i.finished s.now f)
  have hk : (i.finished s.now f).k = k := (Item.finished_k _ _ _).trans (QueueSt.item?_k h)
  rw [State.endNow_eq h hp]
  dsimp only
  rw [State.item?_putQueue]
  by_cases hy : y = q
  · subst hy
    rw [if_pos rfl, QueueSt.ends_item? _ ((hsame.items y k).trans h) hk]
    by_cases hn : n = k
    · rw [if_pos hn, if_pos ⟨rfl, hn⟩]
    · rw [if_neg hn, if_neg fun hh => hn hh.2]
      exact hsame.items y n
  · rw [if_neg hy, if_neg fun hh => hy hh.1]
    exact hsame.items y n

theorem State.endNow_item?_ne (s : State) {q k y n : Nat} (f : Option Fail) (h : ¬(y = q ∧ n = k)) :
    (s.endNow q k f).1.item? y n = s.item? y n := by
  cases hi : s.item? q k with
  | none => rw [State.endNow, hi]
  | some i =>
    by_cases hp : i.phase = .ended
    · rw [State.endNow, hi]
      dsimp only
      rw [if_pos hp]
    · rw [State.endNow_item? hi hp, if_neg h]

/-! ## Failures while no watch waits -/

/-- A status that is decided stands, and an item without one gets none but `st`. -/
structure Item.DecidedBy (st : Nat) (j i : Item) : Prop where
  stands : i.status ≠ 0 → j.status = i.status
  gets : i.undecided = true → j.undecided = true ∨ j.status = st

/-- While no watch waits, `t` has every item of `s`, changed so at most, and still no watch waits. -/
def DecidedBy (st : Nat) (t s : State) : Prop :=
  s.sync.watches = [] → t.sync.watches = [] ∧ ∀ q k i, s.item? q k = some i → ∃ j, t.item? q k = some j ∧ j.DecidedBy st i

theorem Item.DecidedBy.refl (st : Nat) (i : Item) : i.DecidedBy st i := ⟨fun _ => rfl, .inl⟩

namespace DecidedBy

variable {st : Nat}

theorem trans {u t s : State} (h : DecidedBy st u t) (g : DecidedBy st t s) (hst : st ≠ 0) : DecidedBy st u s := by
  intro hw
  obtain ⟨hw', hg⟩ := g hw
  obtain ⟨hw'', hh⟩ := h hw'
  refine ⟨hw'', fun q k i hi => ?_⟩
  obtain ⟨j, hj, hji⟩ := hg q k i hi
  obtain ⟨l, hl, hlj⟩ := hh q k j hj
  refine ⟨l, hl, fun hs => ?_, fun hu => ?_⟩
  · rw [hlj.stands (by rw [hji.stands hs]; exact hs), hji.stands hs]
  · rcases hji.gets hu with hju | hjs
    · exact hlj.gets hju
    · exact .inr ((hlj.stands (by rw [hjs]; exact hst)).trans hjs)

theorem of_same {t s : State} (hi : ∀ q k, t.item? q k = s.item? q k) (hw : s.sync.watches = [] → t.sync.watches = []) : DecidedBy st t s :=
  fun h => ⟨hw h, fun q k i he => ⟨i, (hi q k).trans he, .refl st i⟩⟩

theorem of_sameItems {t s : State} (h : SameItems t s) : DecidedBy st t s := of_same h.items fun hw => by rw [h.sync, hw]

theorem refl (s : State) : DecidedBy st s s := of_same (fun _ _ => rfl) id

theorem foldl (hst : st ≠ 0) {β : Type} {f : State → β → State} (hf : ∀ t b, DecidedBy st (f t b) t) (l : List β) (s : State) :
    DecidedBy st (l.foldl f s) s :=
  foldl_keeps (P := fun t => DecidedBy st t s) f (fun t b h => (hf t b).trans h hst) l s (refl s)

theorem ite {c : Prop} [Decidable c] {a b s : State} (ha : DecidedBy st a s) (hb : DecidedBy st b s) : DecidedBy st (if c then a else b) s := by
  split
  · exact ha
  · exact hb

theorem mapItem (s : State) (q k : Nat) {f : Item → Item} (hk : ∀ i, (f i).k = i.k) (hf : ∀ i, (f i).DecidedBy st i) :
    DecidedBy st (s.mapItem q k f) s := by
  refine fun hw => ⟨hw, fun y n i hi => ?_⟩
  rw [State.item?_mapItem s q k fun i hi => (hk i).trans hi]
  split
  · next h =>
    obtain ⟨rfl, rfl⟩ := h
    exact ⟨f i, by rw [hi, Option.map_some], hf i⟩
  · exact ⟨i, hi, .refl st i⟩

theorem setWaiting (s : State) (x : List Watch) : DecidedBy st (s.setSync { s.sync with waiting := x }) s := of_same (fun _ _ => rfl) id

theorem withdraw (s : State) (who : Waiter) : DecidedBy st (s.withdraw who) s := by
  intro hw
  have heq : s.withdraw who = s.setSync { s.sync with waiting := s.sync.waiting.filter fun w => decide (w.who ≠ who) } := by
    unfold State.withdraw
    dsimp only
    rw [State.setSync_sync]
    dsimp only
    rw [hw, List.find?_nil]
  rw [heq]
  exact setWaiting s _ hw

theorem withdrawAll (s : State) (gone : Waiter → Bool) : DecidedBy st (s.withdrawAll gone) s := by
  intro hw
  have heq : s.withdrawAll gone = s.setSync { s.sync with waiting := s.sync.waiting.filter fun w => !gone w.who } := by
    unfold State.withdrawAll
    rw [hw]
    rfl
  rw [heq]
  exact setWaiting s _ hw

theorem cancelFabric (s : State) (h : Nat) : DecidedBy st (s.cancelFabric h) s := by
  unfold State.cancelFabric
  dsimp only
  split
  · exact of_same (fun _ _ => rfl) id
  · have hm := s.originate_messaged 0x32 (s.herd h).master h (s.herd h).gen.toNat []
    exact of_same (fun q k => by simp only [State.item?, State.queue, hm.queues]) fun hw => by rw [hm.sync, hw]

theorem withdrawItem (s : State) (i : Item) : DecidedBy st (s.withdrawItem i) s := by
  unfold State.withdrawItem
  split
  · exact cancelFabric s _
  · exact of_same (fun _ _ => rfl) id
  · exact refl s

theorem putCore (s : State) (c : Nat) (x : Core) : DecidedBy st (s.putCore c x) s := of_same (fun _ _ => rfl) id

theorem stopCore (hst : st ≠ 0) (s : State) (site : Nat) : DecidedBy st (s.stopCore site) s := by
  have hleave (t : State) : DecidedBy st (t.leaveWait site) t :=
    ite (withdraw t _) (ite (of_same (fun _ _ => rfl) id) (refl t))
  exact ite (putCore s _ _) (((putCore _ _ _).trans (hleave _) hst).trans (putCore s _ _) hst)

theorem addRun (s : State) (q k : Nat) (t : TileState) : DecidedBy st (s.mapItem q k fun i => i.addRun t) s := by
  have hkeep (i : Item) : (i.addRun t).k = i.k ∧ (i.addRun t).status = i.status ∧ (i.addRun t).phase = i.phase := by
    unfold Item.addRun
    dsimp only
    split <;> exact ⟨rfl, rfl, rfl⟩
  refine mapItem s q k (fun i => (hkeep i).1) fun i => ?_
  obtain ⟨-, hs, hp⟩ := hkeep i
  exact ⟨fun _ => hs, fun hu => .inl (by rw [Item.undecided, hs, hp]; exact hu)⟩

theorem releaseCore (hst : st ≠ 0) (s : State) (site : Nat) : DecidedBy st (s.releaseCore site) s := by
  unfold State.releaseCore
  dsimp only
  split
  · exact refl s
  · exact (putCore _ _ _).trans (addRun s _ _ _) hst

/-- An item whose status is decided ends with it. -/
theorem endNow {s : State} {q k : Nat} (h : ∀ i, s.item? q k = some i → i.status ≠ 0) (f : Option Fail) :
    DecidedBy st (s.endNow q k f).1 s := by
  refine fun hw => ⟨by rw [State.endNow_sync, hw], fun y n i hi => ?_⟩
  by_cases hyn : y = q ∧ n = k
  · obtain ⟨rfl, rfl⟩ := hyn
    by_cases hp : i.phase = .ended
    · refine ⟨i, ?_, .refl st i⟩
      rw [State.endNow, hi]
      dsimp only
      rw [if_pos hp, hi]
    · have hs := h i hi
      refine ⟨_, by rw [State.endNow_item? hi hp, if_pos ⟨rfl, rfl⟩], fun _ => Item.finished_status _ _ hs, fun hu => ?_⟩
      exact absurd (show i.status = 0 by simp only [Item.undecided, Bool.and_eq_true, decide_eq_true_eq] at hu; exact hu.2) hs
  · exact ⟨i, (s.endNow_item?_ne f hyn).trans hi, .refl st i⟩

theorem settleItem (hst : st ≠ 0) (s : State) (q k : Nat) : DecidedBy st (s.settleItem q k) s := by
  unfold State.settleItem
  split
  · exact refl s
  · next i hi =>
    dsimp only
    split
    · next hs =>
      have hfold := foldl hst (fun t c => releaseCore hst t c) ((s.sitesOf q k).filter fun c => (s.core c).stopped) s
      refine ite (fun hw => ?_) hfold
      refine (trans (endNow (fun j hj => ?_) none) hfold hst) hw
      obtain ⟨l, hl, hli⟩ := (hfold hw).2 q k i hi
      rw [hl] at hj
      cases hj
      rw [hli.stands hs.1]
      exact hs.1
    · exact refl s

end DecidedBy

/-! ## One failing item -/

/-- The item's status where it has none. -/
def Item.failed (f : Fail) (j : Item) : Item :=
  if j.status = 0 ∧ j.phase ≠ .ended then { j with status := f.status, detail := f.detail } else j

theorem Item.failed_decidedBy (f : Fail) (j : Item) : (j.failed f).k = j.k ∧ (j.failed f).DecidedBy f.status j := by
  unfold Item.failed
  split
  · next h => exact ⟨rfl, fun hs => absurd h.1 hs, fun _ => .inr rfl⟩
  · exact ⟨rfl, .refl _ j⟩

/-- The failure of an item: FAILED_DEADLINE once its deadline has come, but for a reset and a thermal trip (14 R570). -/
def Item.failure (i : Item) (now : DWord) (f : Fail) : Fail := if i.late now ∧ f.status ≠ 0x13 ∧ f.status ≠ 0x1E then ⟨0x14, 0, none⟩ else f

/-- What a failing item waits on is withdrawn. -/
def State.letGo (s : State) (q k : Nat) (i : Item) : State :=
  if i.live then (s.withdrawAll (s.waitsFor [(q, k)])).withdrawItem i else s.withdrawAll (s.waitsFor [(q, k)])

/-- The cores that run a part of an item stop. -/
def State.stopItem (s : State) (q k : Nat) : State := (s.sitesOf q k).foldl (fun t c => t.stopCore c) s

theorem State.failItem_eq {s : State} {q k : Nat} {f : Fail} {i : Item} (hi : s.item? q k = some i) (hu : i.undecided = true)
    (hue : f.ue = none) :
    s.failItem q k f = (((s.letGo q k i).mapItem q k (Item.failed (i.failure s.now f))).stopItem q k).settleItem q k := by
  have hnote : s.noteUe f = s := by rw [State.noteUe, hue]
  unfold State.failItem
  dsimp only
  rw [hnote, hi]
  dsimp only
  rw [if_pos hu]
  rfl

/-- A failing item of a reset. -/
theorem DecidedBy.failItem (s : State) (q k : Nat) {f : Fail} (hue : f.ue = none) (hf : f.status = 0x13) :
    DecidedBy 0x13 (s.failItem q k f) s ∧ (s.sync.watches = [] → ∀ i, s.item? q k = some i → i.undecided = true →
      ∃ j, (s.failItem q k f).item? q k = some j ∧ j.status = 0x13) := by
  have hnote : s.noteUe f = s := by rw [State.noteUe, hue]
  cases hi : s.item? q k with
  | none =>
    have heq : s.failItem q k f = s := by
      unfold State.failItem
      dsimp only
      rw [hnote, hi]
    rw [heq]
    exact ⟨.refl s, fun _ i h => by cases h⟩
  | some i =>
    by_cases hu : i.undecided = true
    · have hfail : i.failure s.now f = f := if_neg (by simp [hf])
      rw [State.failItem_eq hi hu hue, hfail]
      have hout : DecidedBy 0x13 (s.letGo q k i) s :=
        .ite (.trans (.withdrawItem _ i) (.withdrawAll s _) (by decide)) (.withdrawAll s _)
      have hmap (t : State) : DecidedBy 0x13 (t.mapItem q k (Item.failed f)) t :=
        .mapItem t q k (fun j => (j.failed_decidedBy f).1) fun j => hf ▸ (j.failed_decidedBy f).2
      have hrest (t : State) : DecidedBy 0x13 ((t.stopItem q k).settleItem q k) t :=
        .trans (.settleItem (by decide) _ _ _) (.foldl (by decide) (fun t c => .stopCore (by decide) t c) _ _) (by decide)
      generalize s.letGo q k i = t at hout
      refine ⟨((hrest _).trans (hmap t) (by decide)).trans hout (by decide), fun hw i' hi' hu' => ?_⟩
      cases hi'
      obtain ⟨hw', hitems⟩ := hout hw
      obtain ⟨j, hj, hji⟩ := hitems q k i hi
      have hfail : (j.failed f).status = 0x13 := by
        rcases hji.gets hu' with hju | hjs
        · simp only [Item.undecided, Bool.and_eq_true, decide_eq_true_eq] at hju
          rw [Item.failed, if_pos ⟨hju.2, hju.1⟩]
          exact hf
        · rw [Item.failed, if_neg (by simp [hjs])]
          exact hjs
      have hmapped : (t.mapItem q k (Item.failed f)).item? q k = some (j.failed f) := by
        rw [State.item?_mapItem t q k fun i hi => (i.failed_decidedBy f).1.trans hi, if_pos ⟨rfl, rfl⟩, hj, Option.map_some]
      obtain ⟨l, hl, hlj⟩ := (hrest (t.mapItem q k (Item.failed f)) hw').2 q k _ hmapped
      exact ⟨l, hl, (hlj.stands (by rw [hfail]; decide)).trans hfail⟩
    · have heq : s.failItem q k f = s.settleItem q k := by
        unfold State.failItem
        dsimp only
        rw [hnote, hi]
        exact if_neg hu
      rw [heq]
      exact ⟨.settleItem (by decide) s q k, fun _ i' hi' hu' => by cases hi'; exact absurd hu' hu⟩

/-- Every open item without a status fails in a reset. -/
theorem State.failAll_items {s : State} (hw : s.sync.watches = []) {q k : Nat} {i : Item} (hi : s.item? q k = some i)
    (ho : (q, k) ∈ s.openItems) (hu : i.undecided = true) : ∃ j, (s.failAll ⟨0x13, 0, none⟩).item? q k = some j ∧ j.status = 0x13 := by
  have hfold (l : List (Nat × Nat)) : ∀ t : State, t.sync.watches = [] →
      (∃ j, t.item? q k = some j ∧ (j.undecided = true ∧ (q, k) ∈ l ∨ j.status = 0x13)) →
      ∃ j, (l.foldl (fun t e => t.failItem e.1 e.2 ⟨0x13, 0, none⟩) t).item? q k = some j ∧ j.status = 0x13 := by
    induction l with
    | nil =>
      rintro t - ⟨j, hj, h | h⟩
      · cases h.2
      · exact ⟨j, hj, h⟩
    | cons e l ih =>
      rintro t hwt ⟨j, hj, h⟩
      obtain ⟨hdec, hown⟩ := DecidedBy.failItem t e.1 e.2 (f := ⟨0x13, 0, none⟩) rfl rfl
      obtain ⟨hw', hitems⟩ := hdec hwt
      obtain ⟨j', hj', hjj⟩ := hitems q k j hj
      refine ih _ hw' ⟨j', hj', ?_⟩
      rcases h with ⟨hju, hmem⟩ | hjs
      · rcases List.mem_cons.mp hmem with rfl | hmem
        · obtain ⟨l', hl', hls⟩ := hown hwt j hj hju
          rw [hj'] at hl'
          cases hl'
          exact .inr hls
        · exact (hjj.gets hju).imp_left fun h => ⟨h, hmem⟩
      · exact .inr ((hjj.stands (by rw [hjs]; decide)).trans hjs)
  obtain ⟨hw', hitems⟩ := DecidedBy.withdrawAll (st := 0x13) s (s.waitsFor s.openItems) hw
  obtain ⟨j, hj, hji⟩ := hitems q k i hi
  exact hfold s.openItems _ hw' ⟨j, hj, (hji.gets hu).imp_left fun h => ⟨h, ho⟩⟩

end Sys2Proof.Machine
end

section
/-!
PROOFS. Warm resets: the triggers, and what the reset leaves (14 R551 to R562, 07 R750).
-/
namespace Sys2Proof.Machine

open Sys2Proof.Claims

/-! ## The triggers -/

/-- A trigger that nothing holds is taken at once. -/
theorem State.requestReset_taken {s : State} (g : Nat) (hc : s.commanding = true) (hd : s.draining = false) (hh : s.hot = false) :
    s.requestReset g s.now = s.beginReset g := by
  have hq := s.beginReset_quiet g
  have hdtc : (s.beginReset g).sync.dtc = s.sync.dtc := by
    rw [hq.sync]
    exact (congrArg SyncSt.dtc (State.logEvent_steady (s.asked g) 1 0 0 4 g 0).sync).trans rfl
  have hat : s.atTick s.now (fun t => t.beginReset g) = (s.beginReset g).setSync { (s.beginReset g).sync with dtc := s.sync.dtc } := rfl
  unfold State.requestReset
  rw [if_neg (by simp [hc]), if_neg (by simp [hd, hh]), hat, ← hdtc]
  rfl

theorem State.beginReset_last (s : State) (g : Nat) : (s.beginReset g).fault.last = g ∧ (s.beginReset g).fault.pending = some (g, s.now) := by
  have hq := s.beginReset_quiet g
  rw [hq.fault]
  exact ⟨by simp [State.logEvent], State.asked_pending ..⟩

theorem State.beginReset_items {s : State} {g q k : Nat} {i : Item} (hw : s.sync.watches = []) (hi : s.item? q k = some i)
    (ho : (q, k) ∈ s.openItems) (hu : i.undecided = true) : ∃ j, (s.beginReset g).item? q k = some j ∧ j.status = 0x13 := by
  have hlog (t : State) (c k u v a b : Nat) : (t.logEvent c k u v a b).queues = t.queues := by simp
  have hq : (((s.asked g).logEvent 1 0 0 4 g 0).tallyAdd 0x70 1).queues = s.queues := by rw [State.tallyAdd_queues, hlog]; rfl
  have hw' : (((s.asked g).logEvent 1 0 0 4 g 0).tallyAdd 0x70 1).sync.watches = [] := by
    have hl : ((s.asked g).logEvent 1 0 0 4 g 0).sync = (s.asked g).sync := by simp
    exact (congrArg SyncSt.watches hl).trans hw
  refine State.failAll_items hw' (i := i) ?_ ?_ hu
  · rw [State.item?, State.queue, hq]
    exact hi
  · rw [State.openItems, hq]
    exact ho

/-! ## Records and the rest of a reset -/

/-- `t` has the sync unit and the sequencers of `s`, and every queue's state and ring. -/
structure Released (t s : State) : Prop where
  sync : t.sync = s.sync
  seqs : SameSeqs t s
  st : ∀ q, (t.queue q).st = (s.queue q).st

theorem released_frame : RecordFrame Released where
  refl _ := ⟨rfl, fun _ => rfl, fun _ => rfl⟩
  trans h g := ⟨h.sync.trans g.sync, fun c => (h.seqs c).trans (g.seqs c), fun q => (h.st q).trans (g.st q)⟩
  rows s c x h := ⟨rfl, (sameItems_frame.rows s c x h).seqs, fun _ => rfl⟩
  fired s a n := by
    refine ⟨rfl, fun _ => rfl, fun q => ?_⟩
    have hq : (s.fireLinks a n).queue q = (s.queue q).fire a n := tget_tmap (fun x => QueueSt.fire x a n) rfl
    rw [hq, QueueSt.fire]
    split
    · split <;> rfl
    · rfl
  mem _ _ _ _ _ := ⟨rfl, fun _ => rfl, fun _ => rfl⟩
  live _ _ := ⟨rfl, fun _ => rfl, fun _ => rfl⟩
  sent _ _ := ⟨rfl, fun _ => rfl, fun _ => rfl⟩
  pba _ _ _ := ⟨rfl, fun _ => rfl, fun _ => rfl⟩
  records s q x hst _ := by
    refine ⟨rfl, fun _ => rfl, fun y => ?_⟩
    by_cases hy : y = q
    · rw [hy, State.queue_putQueue_same, hst]
    · rw [State.queue_putQueue_ne _ _ _ _ hy]
  log s c k u v a b := ⟨by simp, sameSeqs_of_cores (by simp), fun q => by simp [State.queue]⟩

/-! ## Rings in host memory -/

/-- No record of the queue goes to the module's memory: its ring lies with the host, or it has neither items nor records. -/
def QueueSt.Safe (x : QueueSt) : Prop := x.hostRing = true ∨ x.Bare

def State.Safe (s : State) : Prop := ∀ q, (s.queue q).Safe

theorem QueueSt.SameRing.safe {y x : QueueSt} (h : y.SameRing x) (hx : x.Safe) : y.Safe :=
  hx.imp (fun hh => by rw [QueueSt.hostRing, h.base]; exact hh) h.bare

/-- `t` has the rings of `s`. -/
def SameRings (t s : State) : Prop := ∀ q, (t.queue q).SameRing (s.queue q)

theorem State.fireLinks_sameRings (s : State) (a n : Nat) : SameRings (s.fireLinks a n) s := by
  intro q
  have hq : (s.fireLinks a n).queue q = (s.queue q).fire a n := tget_tmap (fun x => QueueSt.fire x a n) rfl
  rw [hq, QueueSt.fire]
  split
  · split
    · exact ⟨rfl, fun ⟨hi, hh, hr⟩ => ⟨hi, hh, hr⟩⟩
    · exact .rfl
  · exact .rfl

theorem sameRings_frame : Frame SameRings where
  refl _ _ := .rfl
  trans h g q := (h q).trans (g q)
  rows _ _ _ _ _ := .rfl
  fired s a n := s.fireLinks_sameRings a n
  mem _ _ _ _ _ _ := .rfl
  live _ _ _ := .rfl
  sent _ _ _ := .rfl
  pba _ _ _ _ := .rfl
  cores _ _ _ := .rfl
  queues _ _ h := h
  ke _ _ _ := .rfl
  links _ _ _ _ _ := .rfl
  sync _ _ _ _ _ _ _ _ _ := .rfl

/-- A bare queue releases nothing. -/
theorem State.releaseRecord_bare {s : State} {q : Nat} (h : (s.queue q).Bare) : s.releaseRecord q = s := by
  have hfree : s.drainFree q = s := by
    rw [State.drainFree]
    split
    · rfl
    · rw [State.drain, h.held]
      rfl
  have hrefusal : (s.queue q).nextRefusal = none := by rw [QueueSt.nextRefusal, h.refusals]; rfl
  have hfinal : (s.queue q).nextFinal = none := by rw [QueueSt.nextFinal, QueueSt.item?, h.items]; rfl
  unfold State.releaseRecord
  dsimp only
  rw [hfree, hrefusal]
  dsimp only
  rw [hfinal]

/-- `t` is `s` after records of queue `q` went to a host: memory stands, and so does every other queue. -/
structure RungBy (q : Nat) (t s : State) : Prop where
  mem : t.mem = s.mem
  base : (t.queue q).cqBase = (s.queue q).cqBase
  others : ∀ y, y ≠ q → t.queue y = s.queue y

theorem RungBy.refl (q : Nat) (s : State) : RungBy q s s := ⟨rfl, rfl, fun _ _ => rfl⟩
theorem RungBy.trans {q : Nat} {u t s : State} (h : RungBy q u t) (g : RungBy q t s) : RungBy q u s :=
  ⟨h.mem.trans g.mem, h.base.trans g.base, fun y hy => (h.others y hy).trans (g.others y hy)⟩

theorem State.putQueue_rungBy (s : State) (q : Nat) (x : QueueSt) (h : x.cqBase = (s.queue q).cqBase) : RungBy q (s.putQueue q x) s :=
  ⟨rfl, by rw [State.queue_putQueue_same, h], fun y hy => State.queue_putQueue_ne _ _ _ _ hy⟩

theorem rungBy_of_queues {q : Nat} {t s : State} (hm : t.mem = s.mem) (hq : t.queues = s.queues) : RungBy q t s :=
  ⟨hm, by simp only [State.queue, hq], fun y _ => by simp only [State.queue, hq]⟩

theorem State.writeRecord_rungBy {s : State} {q : Nat} (r : List Byte) (h : (s.queue q).hostRing = true) : RungBy q (s.writeRecord q r) s := by
  have hwrote (x : QueueSt) (now : DWord) : (x.wrote r now).cqBase = x.cqBase := by
    unfold QueueSt.wrote
    dsimp only
    split <;> rfl
  have hirq (t : State) : RungBy q (t.queueIrq q) t := by
    unfold State.queueIrq
    dsimp only
    split
    · refine .trans ?_ (t.putQueue_rungBy q { t.queue q with irqCount := 0, irqFirst := none } rfl)
      exact rungBy_of_queues (by simp) (by simp)
    · exact .refl q t
  have hgo (t : State) (ht : RungBy q t s) (n : DWord) : RungBy q ((t.putQueue q ((t.queue q).wrote r n)).queueIrq q) s :=
    (hirq _).trans ((t.putQueue_rungBy q _ (hwrote _ _)).trans ht)
  unfold State.writeRecord
  dsimp only
  rw [if_pos h]
  exact hgo (s.emit _) (rungBy_of_queues rfl rfl) _

theorem drainHeld_rungBy (n : Nat) (s : State) (q : Nat) (h : (s.queue q).hostRing = true) : RungBy q (drainHeld n s q) s := by
  induction n generalizing s with
  | zero => exact .refl q s
  | succ n ih =>
    unfold drainHeld
    split
    · exact .refl q s
    · next r rest _ =>
      split
      · exact .refl q s
      · unfold State.holdLine
        dsimp only
        split
        · exact .refl q s
        · refine .trans ?_ (s.putQueue_rungBy q { s.queue q with ringHeld := true, heldAt := s.now } rfl)
          exact rungBy_of_queues (by simp) (by simp)
      · have hput := s.putQueue_rungBy q { s.queue q with held := rest } rfl
        have hhost : ((s.putQueue q { s.queue q with held := rest }).queue q).hostRing = true := by
          rw [QueueSt.hostRing, hput.base]
          exact h
        have hwrite := (State.writeRecord_rungBy r hhost).trans hput
        refine (ih _ ?_).trans hwrite
        rw [QueueSt.hostRing, hwrite.base]
        exact h

theorem State.drainFree_rungBy {s : State} {q : Nat} (h : (s.queue q).hostRing = true) : RungBy q (s.drainFree q) s := by
  unfold State.drainFree
  split
  · exact .refl q s
  · exact drainHeld_rungBy _ s q h

theorem State.post_rungBy {s : State} {q : Nat} (r : List Byte) (h : (s.queue q).hostRing = true) : RungBy q (s.post q r) s := by
  have hput := s.putQueue_rungBy q { s.queue q with held := (s.queue q).held ++ [r] } rfl
  refine (State.drainFree_rungBy ?_).trans hput
  rw [QueueSt.hostRing, hput.base]
  exact h

theorem State.releaseRecord_rungBy {s : State} {q : Nat} (h : (s.queue q).hostRing = true) : RungBy q (s.releaseRecord q) s := by
  have hfree := State.drainFree_rungBy h
  have hhost (t : State) (ht : RungBy q t s) : (t.queue q).hostRing = true := by rw [QueueSt.hostRing, ht.base]; exact h
  unfold State.releaseRecord
  dsimp only
  split
  · have hput := ((s.drainFree q).putQueue_rungBy q { (s.drainFree q).queue q with refusals := ((s.drainFree q).queue q).refusals.drop 1 } rfl).trans hfree
    exact (State.post_rungBy _ (hhost _ hput)).trans hput
  · split
    · exact (State.post_rungBy _ (hhost _ hfree)).trans hfree
    · exact hfree

/-- Safe queues release their records and write no memory. -/
theorem State.releaseRecord_safe {s : State} (h : s.Safe) (q : Nat) : (s.releaseRecord q).Safe ∧ (s.releaseRecord q).mem = s.mem := by
  rcases h q with hhost | hbare
  · have hrung := State.releaseRecord_rungBy hhost
    refine ⟨fun y => ?_, hrung.mem⟩
    by_cases hy : y = q
    · exact .inl (by rw [hy, QueueSt.hostRing, hrung.base]; exact hhost)
    · rw [hrung.others y hy]
      exact h y
  · rw [State.releaseRecord_bare hbare]
    exact ⟨h, rfl⟩

theorem State.releaseMany_safe (n : Nat) {s : State} (h : s.Safe) (q : Nat) : (releaseMany n s q).Safe ∧ (releaseMany n s q).mem = s.mem := by
  induction n generalizing s with
  | zero => exact ⟨h, rfl⟩
  | succ n ih =>
    obtain ⟨hs, hm⟩ := State.releaseRecord_safe h q
    obtain ⟨hs', hm'⟩ := ih hs
    exact ⟨hs', hm'.trans hm⟩

theorem State.releaseAll_safe {s : State} (h : s.Safe) : s.releaseAll.Safe ∧ s.releaseAll.mem = s.mem :=
  foldl_keeps (P := fun t => t.Safe ∧ t.mem = s.mem) _ (fun t e ⟨hs, hm⟩ => by
    obtain ⟨hs', hm'⟩ := State.releaseMany_safe (e.2.items.length + e.2.refusals.length + 1) hs e.1
    exact ⟨hs', hm'.trans hm⟩) _ s ⟨h, rfl⟩

/-- With every ring in host memory every queue is safe. -/
theorem State.safe_of_hostRings {s : State} (h : ∀ e ∈ s.queues, e.2.hostRing = true) : s.Safe := by
  intro q
  by_cases hr : s.queue q = QueueSt.reset
  · exact .inr (by rw [hr]; exact ⟨rfl, rfl, rfl⟩)
  · exact .inl (h (q, s.queue q) (mem_of_tget_ne hr))

/-! ## The steps of the reset -/

theorem tget_of_forall {α : Type} {P : α → Prop} {d : α} {t : Table α} (hd : P d) (ht : ∀ e ∈ t, P e.2) (k : Nat) : P (tget d t k) := by
  by_cases h : tget d t k = d
  · rw [h]
    exact hd
  · exact ht _ (mem_of_tget_ne h)

/-- The log entries of the row audits. -/
def State.logSites (s : State) (facts : List SiteFact) (warm : Bool) : State :=
  facts.foldl (fun t f => t.logRows f.site (f.rows &&& ~~~(if warm then (s.core f.site).arr.failed ||| (s.core f.site).arr.newFailed else 0))
    (s.core f.site).arr.auditDtc) s

/-- The core sites after their row audits. -/
def State.auditedSites (s : State) (facts : List SiteFact) (warm : Bool) : Table Core :=
  ((List.range 1536).map fun x => (x, (s.core x).restart ⟨warm, s.now, s.freeCount⟩ x (siteRows facts x))).filter fun e => decide (e.2 ≠ Core.reset)

theorem State.startSites_eq (s : State) (facts : List SiteFact) (warm : Bool) : ∃ n st, s.startSites facts warm =
    ((((s.logSites facts warm).setCores (s.auditedSites facts warm)).setFreeCount n).setStart st).zeroLoc coreBase coreTop := by
  unfold State.startSites State.logSites State.auditedSites
  exact ⟨_, _, rfl⟩

/-- Log entries leave the sync unit and the queues. -/
theorem State.logSites_steady (s : State) (facts : List SiteFact) (warm : Bool) : Steady (s.logSites facts warm) s ∧
    (s.logSites facts warm).sync = s.sync ∧ (s.logSites facts warm).queues = s.queues := by
  have hrows (t : State) (f : SiteFact) (rows : BitVec 100) (last : DWord) :
      Steady (t.logRows f.site rows last) t ∧ (t.logRows f.site rows last).sync = t.sync ∧ (t.logRows f.site rows last).queues = t.queues :=
    foldl_keeps (P := fun u => Steady u t ∧ u.sync = t.sync ∧ u.queues = t.queues) _ (fun u r ⟨hs, hy, hq⟩ =>
      ⟨(State.logEvent_steady u ..).trans hs, by simp [hy], by simp [hq]⟩) _ t ⟨.rfl, rfl, rfl⟩
  refine foldl_keeps (P := fun u => Steady u s ∧ u.sync = s.sync ∧ u.queues = s.queues) _ (fun u f ⟨hs, hy, hq⟩ => ?_) facts s ⟨.rfl, rfl, rfl⟩
  obtain ⟨hs', hy', hq'⟩ := hrows u f (f.rows &&& ~~~(if warm then (s.core f.site).arr.failed ||| (s.core f.site).arr.newFailed else 0))
    (s.core f.site).arr.auditDtc
  exact ⟨hs'.trans hs, hy'.trans hy, hq'.trans hq⟩

/-- No core site has a run after its row audit. -/
theorem State.auditedSites_run (s : State) (facts : List SiteFact) (warm : Bool) (c : Nat) :
    (tget Core.reset (s.auditedSites facts warm) c).seq.run = none := by
  refine tget_of_forall (P := fun x : Core => x.seq.run = none) rfl (fun e he => ?_) c
  obtain ⟨x, -, rfl⟩ := List.mem_map.mp (List.mem_of_mem_filter he)
  rfl

/-- Cleared core memory reads 0. -/
theorem State.zeroLoc_core (s : State) {a : Nat} (h : coreBase ≤ a) (h' : a < coreTop) : (s.zeroLoc coreBase coreTop).byte a = 0 := by
  have hloc : (s.zeroLoc coreBase coreTop).loc a = a := by
    have hh : ¬a < hbmTop := by simp only [coreBase, hbmTop] at *; omega
    have hl : ¬(lpBase ≤ a ∧ a < localTop) := by simp only [coreTop, lpBase] at *; omega
    rw [State.loc, if_neg hh, if_neg hl]
  have hcell : tget emptyByte (s.mem.cells.filter fun c => !(decide (coreBase ≤ c.1) && decide (c.1 < coreTop))) a = 0 := by
    by_contra hne
    obtain ⟨-, hin⟩ := List.mem_filter.mp (mem_of_tget_ne hne)
    simp [h, h'] at hin
  rw [State.byte, hloc]
  exact (MemSt.byte_of_not_open (openBase_cutRanges_in h h' _)).trans hcell

/-- A queue as it returns from a reset. -/
theorem QueueSt.reopen_st (x : QueueSt) (e : Bool) : ((x.reopen e).st = .closed ∨ (x.reopen e).st = .idle ∨ (x.reopen e).st = .stopped) ∧
    (x.reopen e).SameRing x := by
  refine ⟨?_, rfl, fun ⟨hi, hh, hr⟩ => ⟨hi, hh, hr⟩⟩
  unfold QueueSt.reopen
  cases e
  · exact .inl rfl
  · by_cases h : x.st = .idle ∨ x.st = .closed <;> simp [h]

theorem State.reopen_queue (s : State) (q : Nat) : s.reopen.queue q =
    if q < 176 then (s.queue q).reopen (((List.range 11).filter s.engineOpen).elem (engineOf q)) else s.queue q := by
  have hfold (l : List Nat) (n : Nat) := tget_foldl_range (d := QueueSt.reset) (fun q x => x.reopen (l.elem (engineOf q))) s.queues n q
  rw [State.queue, State.reopen, State.setQueues_queues]
  exact hfold _ 176

theorem State.reopen_eq (s : State) : ∃ x, s.reopen = s.setQueues x := ⟨_, rfl⟩

/-- A reset before its core sites are audited. -/
def State.cleared (s : State) : State := ((s.endAll ⟨0x13, 0, none⟩).releaseAll).resetDomain

/-- Core sites as their audits leave them, core memory cleared, and no reset pending any more. -/
def State.sited (t : State) (x : Table Core) (n : Nat) (st : StartSt) : State :=
  let u := (((t.setCores x).setFreeCount n).setStart st).zeroLoc coreBase coreTop
  (u.setFault { u.fault with pending := none }).setPower { u.power with tripped := false }

section Sited
variable (t : State) (x : Table Core) (n : Nat) (st : StartSt)
theorem State.sited_queues : (t.sited x n st).queues = t.queues := rfl
theorem State.sited_sync : (t.sited x n st).sync = t.sync := rfl
theorem State.sited_streams : (t.sited x n st).mem.streams = t.mem.streams := rfl
theorem State.sited_betas : (t.sited x n st).betas = t.betas := rfl
theorem State.sited_sec : (t.sited x n st).sec = t.sec := rfl
theorem State.sited_fwu : (t.sited x n st).fwu = t.fwu := rfl
theorem State.sited_cores : (t.sited x n st).cores = x := rfl
theorem State.sited_core {a : Nat} (h : coreBase ≤ a) (h' : a < coreTop) : (t.sited x n st).byte a = 0 := State.zeroLoc_core _ h h'
end Sited

/-- A reset before its queues open. -/
def State.restartedAt (s : State) (facts : List SiteFact) (n : Nat) (st : StartSt) : State :=
  (s.cleared.logSites facts true).sited (s.cleared.auditedSites facts true) n st

theorem State.warmReset_eq (s : State) (facts : List SiteFact) : ∃ n st, s.warmReset facts = (s.restartedAt facts n st).reopen.releaseAll := by
  obtain ⟨n, st, h⟩ := s.cleared.startSites_eq facts true
  refine ⟨n, st, ?_⟩
  have heq : s.warmReset facts = ((((s.cleared.startSites facts true).setFault { (s.cleared.startSites facts true).fault with pending := none }).setPower
      { (s.cleared.startSites facts true).power with tripped := false }).reopen).releaseAll := rfl
  rw [heq, h]
  rfl

/-- What the reset of the warm domain leaves. -/
theorem State.cleared_sync (s : State) : s.cleared.sync.watches = [] ∧ s.cleared.sync.waiting = [] ∧ s.cleared.sync.dtc = s.sync.dtc ∧
    s.cleared.sync.bcnt = s.sync.bcnt ∧ s.cleared.mem.streams = [] ∧ s.cleared.betas = Vector.replicate 16 (0x3F666666, 0x3F7D70A4) ∧
    s.cleared.sec.unlocked = false ∧ s.cleared.fwu.isOpen = false := by
  have hs := State.endAll_releaseAll_steady s (f := ⟨0x13, 0, none⟩) rfl
  unfold State.cleared
  generalize (s.endAll ⟨0x13, 0, none⟩).releaseAll = t at hs
  have hsync := hs.sync
  exact ⟨rfl, rfl, (congrArg SyncSt.dtc hsync).trans rfl, (congrArg SyncSt.bcnt hsync).trans rfl, rfl, rfl, rfl, rfl⟩

theorem State.resetDomain_queues (s : State) : s.resetDomain.queues = s.queues := by simp [State.resetDomain, State.dropWatches, State.mapHerds]

theorem State.cleared_safe {s : State} (h : ∀ e ∈ s.queues, e.2.hostRing = true) : s.cleared.Safe := by
  have hsafe := State.safe_of_hostRings h
  have hrings := sameRings_frame.endAll s (f := ⟨0x13, 0, none⟩) rfl
  obtain ⟨hrel, -⟩ := State.releaseAll_safe (s := s.endAll ⟨0x13, 0, none⟩) fun q => (hrings q).safe (hsafe q)
  intro q
  rw [State.cleared, State.queue, State.resetDomain_queues]
  exact hrel q

theorem State.restartedAt_safe {s : State} (h : ∀ e ∈ s.queues, e.2.hostRing = true) (facts : List SiteFact) (n : Nat) (st : StartSt) :
    (s.restartedAt facts n st).reopen.Safe := by
  intro q
  have hq : (s.restartedAt facts n st).queue q = s.cleared.queue q := by
    obtain ⟨-, -, hlog⟩ := s.cleared.logSites_steady facts true
    rw [State.queue, State.restartedAt, State.sited_queues, hlog]
    rfl
  rw [State.reopen_queue, hq]
  split
  · exact (QueueSt.reopen_st _ _).2.safe (State.cleared_safe h q)
  · exact State.cleared_safe h q

theorem exec_warmReset_pending {s : State} (facts : List SiteFact) {x : Nat × DWord} (hp : s.fault.pending = some x) (hh : s.fault.hold = false)
    (hs : s.started = true) : exec (.warmReset facts) s = .next (s.warmReset facts) :=
  congrArg Host.Outcome.next (if_pos ⟨by rw [hp]; rfl, by simp [hh], hs⟩)

/-- Settles O33: a trigger's failing items take their status while no watch waits, and the records that leave after a reset write only
their rings. -/
theorem warmResets : Obligations.WarmResets := by
  unfold Obligations.WarmResets
  refine fun s hc => ⟨fun hd hh hw => ⟨?_, ?_⟩, fun ha => ?_, fun sites x => ?_⟩
  · obtain ⟨hlast, hpend⟩ := s.beginReset_last 1
    have hlog := (congrArg FaultSt.log (s.beginReset_quiet 1).fault).trans rfl
    refine ⟨_, congrArg Host.Outcome.next (State.requestReset_taken 1 hc hd hh), hpend, hlast,
      ⟨_, (congrArg List.getLast? hlog).trans (State.logEvent_newest ..), rfl, rfl, rfl, rfl⟩, fun q k i => State.beginReset_items hw⟩
  · obtain ⟨hlast, hpend⟩ := (s.logEvent 4 0 0 4 0 0).beginReset_last 2
    have hs := State.logEvent_steady s 4 0 0 4 0 0
    have hnow : (s.logEvent 4 0 0 4 0 0).now = s.now := (congrArg SyncSt.dtc hs.sync).trans rfl
    have hc' : (s.logEvent 4 0 0 4 0 0).commanding = true := by
      rw [State.commanding, State.started, hs.power, hs.start, hs.faults]
      exact hc
    have hd' : (s.logEvent 4 0 0 4 0 0).draining = false := by
      rw [State.draining, hs.fwu]
      exact hd
    have hh' : (s.logEvent 4 0 0 4 0 0).hot = false := by
      rw [State.hot, hs.power]
      exact hh
    have htaken := State.requestReset_taken 2 hc' hd' hh'
    rw [hnow] at htaken hpend
    exact ⟨_, congrArg Host.Outcome.next ((if_pos hc).trans htaken), hpend, hlast⟩
  · have hpow : s.alwaysOnPowered = true := by
      simp only [State.commanding, State.started, Bool.and_eq_true, decide_eq_true_eq] at hc
      simp [State.alwaysOnPowered, hc.1.1]
    refine ⟨_, congrArg Host.Outcome.next (if_pos ⟨hpow, by simp [ha]⟩), rfl, ?_⟩
    obtain ⟨hn, e, he, hseq, hdtc, hcls, hunit⟩ := s.logEvent_logged 5 0 0 3 0 0
    exact ⟨hn, e, he, hseq, hdtc, hcls, hunit⟩
  · intro u
    have hstarted : u.started = true := by
      simp only [State.commanding, Bool.and_eq_true] at hc
      exact hc.1
    obtain ⟨n, st, heq⟩ := u.warmReset_eq sites
    obtain ⟨hwatch, hwait, hdtc, hbcnt, hstreams, hbetas, hsec, hfwu⟩ := u.cleared_sync
    obtain ⟨hlogs, hlogsync, -⟩ := u.cleared.logSites_steady sites true
    have hrel := released_frame.releaseAll (u.restartedAt sites n st).reopen
    have hsteady := steady_logFrame.releaseAll (u.restartedAt sites n st).reopen
    have hsafe (hall : ∀ e ∈ s.queues, e.2.hostRing = true) := State.releaseAll_safe (State.restartedAt_safe (s := u) hall sites n st)
    have hst (q : Nat) (hq : q < 176) : ((u.restartedAt sites n st).reopen.queue q).st = .closed ∨
        ((u.restartedAt sites n st).reopen.queue q).st = .idle ∨ ((u.restartedAt sites n st).reopen.queue q).st = .stopped := by
      rw [State.reopen_queue, if_pos hq]
      exact (QueueSt.reopen_st _ _).1
    obtain ⟨qs, hreopen⟩ := (u.restartedAt sites n st).reopen_eq
    rw [hreopen] at heq hrel hsteady hsafe hst
    have hsync : ((u.restartedAt sites n st).setQueues qs).releaseAll.sync = u.cleared.sync :=
      hrel.sync.trans (by rw [State.setQueues_sync, State.restartedAt, State.sited_sync, hlogsync])
    refine ⟨_, (exec_warmReset_pending sites (x := x) rfl rfl hstarted).trans (congrArg Host.Outcome.next heq), ?_, ?_, fun k => ?_, ?_, ?_, ?_, ?_,
      ?_, ?_, ?_, fun c => ?_, fun hall a hlo hhi => ?_, fun q hq => ?_⟩
    · rw [hsteady.faults]
      rfl
    · rw [hsteady.power]
      rfl
    · have hstr : ((u.restartedAt sites n st).setQueues qs).releaseAll.mem.streams = [] :=
        hsteady.streams.trans (by rw [State.setQueues_mem, State.restartedAt, State.sited_streams, hlogs.streams, hstreams])
      rw [State.stream, hstr]
      rfl
    · rw [hsync, hwatch]
    · rw [hsync, hwait]
    · exact hsteady.betas.trans (by rw [State.setQueues_betas, State.restartedAt, State.sited_betas, hlogs.betas, hbetas])
    · rw [hsync, hdtc]
      rfl
    · rw [hsync, hbcnt]
      rfl
    · exact (congrArg SecSt.unlocked (hsteady.sec.trans (by rw [State.setQueues_sec, State.restartedAt, State.sited_sec, hlogs.sec]))).trans hsec
    · exact (congrArg FwuSt.isOpen (hsteady.fwu.trans (by rw [State.setQueues_fwu, State.restartedAt, State.sited_fwu, hlogs.fwu]))).trans hfwu
    · rw [hrel.seqs c]
      rw [State.core, State.setQueues_cores, State.restartedAt, State.sited_cores]
      exact u.cleared.auditedSites_run sites true c
    · rw [State.byte, (hsafe hall).2, State.loc_congr hsteady.start]
      generalize hv : u.restartedAt sites n st = v
      have hzero : v.byte a = 0 := by
        rw [← hv, State.restartedAt]
        exact State.sited_core _ _ _ _ hlo hhi
      exact hzero
    · rw [hrel.st q]
      exact hst q hq

end Sys2Proof.Machine
end

section
/-!
PROOFS. Messages of the fabric herds (10 R431, R434, R435, R751, 11 R483).
-/
namespace Sys2Proof.Machine

open Sys2Proof.Claims

theorem State.takeMsg_messaged (s : State) (l kind : Nat) (m : MsgHead) (data : List Line) : Messaged (s.takeMsg l kind m data) s :=
  s.putLink_messaged _ _

/-- A message of another device that has come to its end. -/
theorem State.receive_heard {s : State} {l kind : Nat} {m : MsgHead} {data : List Line} (h : heard s l m) (here : State → State) :
    s.receive l kind m data here = here (s.takeMsg l kind m data) := by
  obtain ⟨hhear, hdst⟩ := h
  unfold State.receive
  rw [if_neg (by simp [hhear])]
  exact if_pos hdst

theorem Messaged.fabLost {t s : State} (h : Messaged t s) : t.fab.lost = s.fab.lost ∧ t.fab.seen = s.fab.seen := by
  obtain ⟨_, _, rfl⟩ := h
  exact ⟨rfl, rfl⟩

theorem State.floodLost_messaged (s : State) (m : MsgHead) : Messaged (s.floodLost m) s :=
  Messaged.foldl (fun t _ => by
    split
    · exact t.sendOn_messaged _ _ _ _
    · exact Messaged.refl t) _ s

/-- A device that is newly marked LOST, with the notice passed on. -/
theorem State.markLost_floodLost {s t : State} {x : List (Nat × DWord)} {e : Nat} {m : MsgHead} (h : s.fab.lost.getLsbD e = false)
    (ht : t = ((s.setFab { s.fab with seen := x }).markLost e).floodLost m) :
    t.fab.lost = s.fab.lost ||| 1#512 <<< e ∧ t.fab.seen = x ∧ logged s t 0x33 0 := by
  have hmark : (s.setFab { s.fab with seen := x }).markLost e =
      (s.setFab { s.fab with seen := x, lost := s.fab.lost ||| 1#512 <<< e }).logEvent 0x33 0 0 3 e 0 := if_neg (by simp [h])
  have hflood : Messaged t ((s.setFab { s.fab with seen := x, lost := s.fab.lost ||| 1#512 <<< e }).logEvent 0x33 0 0 3 e 0) := by
    rw [ht, hmark]
    exact State.floodLost_messaged _ m
  obtain ⟨hlost, hseen⟩ := hflood.fabLost
  have hlog : logged s ((s.setFab { s.fab with seen := x, lost := s.fab.lost ||| 1#512 <<< e }).logEvent 0x33 0 0 3 e 0) 0x33 0 :=
    logEvent_logged_of rfl rfl 0x33 0 0 3 e 0
  exact ⟨hlost.trans (by simp), hseen.trans (by simp), logged_congr hlog rfl rfl hflood.fault⟩

/-! ## The release of BARRIER items -/

/-- What a released BARRIER leaves: its herd stands, and its item has ended. -/
theorem State.releaseBarrier_sync {s : State} (h : s.sync.watches = []) (e : Nat × Nat) :
    (s.releaseBarrier e).sync.watches = [] ∧ (s.releaseBarrier e).now = s.now ∧ ∀ n, (s.releaseBarrier e).herd n = s.herd n := by
  have hw : (s.endNow e.1 e.2 none).1.sync.watches = [] := by rw [State.endNow_sync, h]
  obtain ⟨hc, -⟩ := State.ops_unwatched hw (s.endNow e.1 e.2 none).2
  have hsync := s.endNow_sync e.1 e.2 none
  obtain ⟨x, hx⟩ := hc
  have hrel : s.releaseBarrier e = (s.endNow e.1 e.2 none).1.setSync { (s.endNow e.1 e.2 none).1.sync with ctr := x } := hx
  rw [hsync] at hrel
  rw [hrel]
  exact ⟨h, rfl, fun _ => rfl⟩

theorem State.releaseBarrier_item? {s : State} (h : s.sync.watches = []) (e : Nat × Nat) (y n : Nat) :
    (s.releaseBarrier e).item? y n = (s.endNow e.1 e.2 none).1.item? y n := by
  have hw : (s.endNow e.1 e.2 none).1.sync.watches = [] := by rw [State.endNow_sync, h]
  have hc := (State.ops_unwatched hw (s.endNow e.1 e.2 none).2).1
  rw [State.releaseBarrier, State.item?, State.queue, hc.queues]
  rfl

theorem State.releaseBarriers_sync {s : State} (h : s.sync.watches = []) (n : Nat) : ∀ y, (s.releaseBarriers n).herd y = s.herd y := by
  rw [State.releaseBarriers_eq]
  exact (foldl_keeps (P := fun t : State => t.sync.watches = [] ∧ ∀ y, t.herd y = s.herd y) _ (fun t e ⟨hw, hh⟩ => by
    obtain ⟨hw', -, hh'⟩ := State.releaseBarrier_sync hw e
    exact ⟨hw', fun y => (hh' y).trans (hh y)⟩) _ s ⟨h, fun _ => rfl⟩).2

/-- A waiting BARRIER item ends when its release comes, and others do not change it. -/
theorem State.releaseBarriers_item {s : State} (hw : s.sync.watches = []) {n q k : Nat} {i : Item} (hm : (q, k) ∈ s.barriersOf n)
    (hi : s.item? q k = some i) (hp : i.phase ≠ .ended) : (s.releaseBarriers n).item? q k = some (i.finished s.now none) := by
  have hfold (l : List (Nat × Nat)) : ∀ t : State, t.sync.watches = [] → t.now = s.now →
      ((t.item? q k = some i ∧ (q, k) ∈ l) ∨ t.item? q k = some (i.finished s.now none)) →
      (l.foldl State.releaseBarrier t).item? q k = some (i.finished s.now none) := by
    induction l with
    | nil =>
      rintro t - - (⟨-, h⟩ | h)
      · cases h
      · exact h
    | cons e l ih =>
      intro t hwt hnow h
      obtain ⟨hw', hnow', -⟩ := State.releaseBarrier_sync hwt e
      refine ih _ hw' (hnow'.trans hnow) ?_
      rw [State.releaseBarrier_item? hwt]
      by_cases he : q = e.1 ∧ k = e.2
      · obtain ⟨rfl, rfl⟩ := he
        right
        rcases h with ⟨h, -⟩ | h
        · rw [State.endNow_item? h hp, if_pos ⟨rfl, rfl⟩, hnow]
        · have hend : t.endNow e.1 e.2 none = (t, []) := by
            rw [State.endNow, h]
            exact if_pos (Item.finished_phase _ _ _).1
          rw [hend]
          exact h
      · rw [State.endNow_item?_ne t none he]
        refine h.imp_left fun ⟨h, hmem⟩ => ⟨h, (List.mem_cons.mp hmem).resolve_left fun heq => he ?_⟩
        rw [← heq]
        exact ⟨rfl, rfl⟩
  rw [State.releaseBarriers_eq]
  exact hfold _ s hw rfl (.inl ⟨hi, hm⟩)

/-! ## The messages -/

/-- Settles O32: a message's end is reached with the herds as they stand, and a release ends each waiting item once. -/
theorem herdMessages : Obligations.HerdMessages := by
  unfold Obligations.HerdMessages
  intro s l m hheard n h
  have hmsg (kind : Nat) := s.takeMsg_messaged l kind m []
  have hherd (kind y : Nat) : (s.takeMsg l kind m []).herd y = s.herd y := rfl
  refine ⟨fun hk hmask => ⟨fun hm hgen hnot hmore => ?_, fun hm => ?_, fun hm hgen => ?_⟩, fun hk hm hw => ?_, fun hk => ?_, fun hseen hlost => ?_⟩
  · have hstray : (s.takeMsg l 0x30 m []).strayHerd m = false := by
      simp only [State.strayHerd, hherd]
      simp [show (s.herd (msgHerd m)).kind = 2 from hk, show (s.herd (msgHerd m)).mask.getLsbD m.src = true from hmask]
    obtain ⟨d, hd, hnd, hne⟩ := hmore
    have hnew : (!h.arrived.elem m.src.val) = true := by simpa using hnot
    refine ⟨(s.takeMsg l 0x30 m []).putHerd n { h with arrived := h.arrived ++ [m.src.val] }, ?_, State.herd_putHerd_same _ _ _, rfl⟩
    refine congrArg Host.Outcome.next ((State.receive_heard hheard _).trans ((if_neg (by simp [hstray])).trans ((if_neg (not_not.mpr hm)).trans
      ((if_pos ⟨hgen, hnew⟩).trans (State.checkFabricHerd_waits (d := d) ?_ ?_)))))
    · rw [State.herd_putHerd_same]
      exact hd
    · rw [State.herd_putHerd_same]
      simpa using ⟨hnd, hne⟩
  · have hstray : (s.takeMsg l 0x30 m []).strayHerd m = false := by
      simp only [State.strayHerd, hherd]
      simp [show (s.herd (msgHerd m)).kind = 2 from hk, show (s.herd (msgHerd m)).mask.getLsbD m.src = true from hmask]
    refine ⟨_, congrArg Host.Outcome.next ((State.receive_heard hheard _).trans ((if_neg (by simp [hstray])).trans (if_pos hm))), ?_, ?_⟩
    · rw [State.herd_putHerd_same]
      rfl
    · rw [State.herd_putHerd_same]
      exact List.mem_append_right _ (List.mem_singleton.mpr rfl)
  · have hstray : (s.takeMsg l 0x32 m []).strayHerd m = false := by
      simp only [State.strayHerd, hherd]
      simp [show (s.herd (msgHerd m)).kind = 2 from hk, show (s.herd (msgHerd m)).mask.getLsbD m.src = true from hmask]
    refine ⟨(s.takeMsg l 0x32 m []).putHerd n { h with arrived := h.arrived.filter (· ≠ m.src.toNat) }, ?_, State.herd_putHerd_same _ _ _, rfl⟩
    refine congrArg Host.Outcome.next ((State.receive_heard hheard _).trans ?_)
    exact (if_neg (by simp [hstray])).trans ((if_neg (not_not.mpr hm)).trans (if_pos hgen))
  · have htake (t : State) (y k : Nat) : (t.takeCount y k).sync = t.sync ∧ (t.takeCount y k).queues = t.queues := by
      unfold State.takeCount
      split <;> exact ⟨rfl, rfl⟩
    have hexec : exec (.release l m) s = .next ((((s.takeMsg l 0x31 m []).putHerd n { h with
        gen := m.arg, held := h.held.filter fun e => decide (m.arg ≤ e.2) }).takeCount n (bitsOf m.mtag.toNat 15 8)).releaseBarriers n) :=
      congrArg Host.Outcome.next ((State.receive_heard hheard _).trans (if_neg (not_or.mpr ⟨not_not.mpr hk, not_not.mpr hm⟩)))
    obtain ⟨hsync, hqueues⟩ := htake ((s.takeMsg l 0x31 m []).putHerd n { h with
        gen := m.arg, held := h.held.filter fun e => decide (m.arg ≤ e.2) }) n (bitsOf m.mtag.toNat 15 8)
    generalize ((s.takeMsg l 0x31 m []).putHerd n { h with
        gen := m.arg, held := h.held.filter fun e => decide (m.arg ≤ e.2) }).takeCount n (bitsOf m.mtag.toNat 15 8) = t at hexec hsync hqueues
    have hq : t.queues = s.queues := hqueues.trans rfl
    have hwt : t.sync.watches = [] := by rw [hsync]; exact hw
    have hnow : t.now = s.now := (congrArg SyncSt.dtc hsync).trans rfl
    have hn : (t.releaseBarriers n).herd n = { h with gen := m.arg, held := h.held.filter fun e => decide (m.arg ≤ e.2) } := by
      rw [State.releaseBarriers_sync hwt, State.herd, hsync]
      exact State.herd_putHerd_same _ _ _
    refine ⟨_, hexec, by rw [hn], by rw [hn], fun q k i g hb hi hlive hop hwork hs hlate hfl => ?_⟩
    have hi' : t.item? q k = some i := by rw [State.item?, State.queue, hq]; exact hi
    have hb' : (q, k) ∈ t.barriersOf n := by rw [State.barriersOf, hq]; exact hb
    have hp : i.phase ≠ .ended := by
      simp only [Item.live, decide_eq_true_eq] at hlive
      rw [hlive]
      decide
    have hall : i.allFlags = i.fl := by rw [Item.allFlags, Item.savedRuns, hwork]; rfl
    have hdone := Item.finished_done hs hlate (by rw [hall]; exact hfl)
    refine ⟨_, State.releaseBarriers_item hwt hb' hi' hp, ?_⟩
    rw [hnow, hdone]
    exact ⟨rfl, hs, if_pos (.inr hop)⟩
  · have hstray : (s.takeMsg l 0x30 m []).strayHerd m = true := by
      simp only [State.strayHerd, hherd]
      simp [show (s.herd (msgHerd m)).kind ≠ 2 from hk]
    refine ⟨(s.takeMsg l 0x30 m []).logEvent 0x34 3 l 0 0 0, congrArg Host.Outcome.next ((State.receive_heard hheard _).trans (if_pos hstray)),
      logEvent_logged_of rfl rfl 0x34 3 l 0 0 0, ?_⟩
    simp [(hmsg 0x30).sync]
  · obtain ⟨hl, hs⟩ := (hmsg 0x33).fabLost
    have hgo : exec (.lost l m) s = .next (((((s.takeMsg l 0x33 m []).setFab { (s.takeMsg l 0x33 m []).fab with
        seen := (s.takeMsg l 0x33 m []).fab.seen ++ [(m.src.toNat, m.arg)] }).markLost (m.mtag.toNat % 512))).floodLost (hopOn m)) := by
      refine congrArg Host.Outcome.next ((if_neg (by simp [hheard.1])).trans (if_neg ?_))
      have hno : s.fab.seen.elem (m.src.toNat, m.arg) = false := hseen
      rw [hs, hno]
      decide
    generalize ht : (((s.takeMsg l 0x33 m []).setFab { (s.takeMsg l 0x33 m []).fab with
        seen := (s.takeMsg l 0x33 m []).fab.seen ++ [(m.src.toNat, m.arg)] }).markLost (m.mtag.toNat % 512)).floodLost (hopOn m) = t at hgo
    obtain ⟨h1, h2, h3⟩ := State.markLost_floodLost (by rw [hl]; exact hlost) ht.symm
    exact ⟨t, hgo, by rw [h1, hl], by rw [h2]; exact List.mem_append_right _ (List.mem_singleton.mpr rfl), logged_congr h3 rfl rfl rfl⟩

end Sys2Proof.Machine
end

section
/-!
PROOFS. Step boundaries and the step pins (10 R442 to R451, R755).
-/
namespace Sys2Proof.Machine

open Sys2Proof.Claims

/-! ## An item that no watch names -/

/-- A core that runs a part of an item. -/
def Core.runs (q k : Nat) (c : Core) : Bool := match c.seq.run with | some r => decide (r.q = q) && decide (r.k = k) | none => false

theorem State.sitesOf_eq_nil {s : State} {q k : Nat} : s.sitesOf q k = [] ↔ ∀ e ∈ s.cores, e.2.runs q k = false := by
  have hs : s.sitesOf q k = (s.cores.filter fun e => e.2.runs q k).map (·.1) := rfl
  simp [hs]

/-- A core that takes a sequencer with the same run brings no core to an item. -/
theorem State.sitesOf_putCore {s : State} {q k : Nat} (h : s.sitesOf q k = []) (c : Nat) {x : Core} (hx : x.seq.run = (s.core c).seq.run) :
    (s.putCore c x).sitesOf q k = [] := by
  rw [State.sitesOf_eq_nil] at h ⊢
  intro e he
  rcases mem_tput (show e ∈ tput Core.reset s.cores c x from he) with rfl | he
  · have hruns : x.runs q k = (s.core c).runs q k := by simp only [Core.runs, hx]
    refine hruns.trans ?_
    by_cases hc : s.core c = Core.reset
    · rw [hc]
      rfl
    · exact h (c, s.core c) (mem_of_tget_ne hc)
  · exact h e he

/-- `t` has no core of an item where `s` has none. -/
def NoSites (q k : Nat) (t s : State) : Prop := s.sitesOf q k = [] → t.sitesOf q k = []

theorem noSites_frame (q k : Nat) : WriteFrame (NoSites q k) where
  refl _ := id
  trans h g hs := h (g hs)
  rows _ c _ hx hs := State.sitesOf_putCore hs c (congrArg (·.seq.run) hx)
  fired _ _ _ := id
  mem _ _ _ _ _ := id
  live _ _ := id
  sent _ _ := id
  pba _ _ _ := id

/-- What the end of an item keeps: a relation that lets queues and KE herds change, beside what a write brings. -/
theorem WriteFrame.endNow {R : State → State → Prop} (hR : WriteFrame R) (hke : ∀ (s : State) h x, R (s.putKeHerd h x) s)
    (hqueue : ∀ (s : State) q x, R (s.putQueue q x) s) (s : State) (y n : Nat) (f : Option Fail) : R (s.endNow y n f).1 s := by
  have hgone (i : Item) : R (s.bseqGone y i) s :=
    hR.ite (hR.trans (hR.foldl (fun t _ => hR.ite (hR.refl t) (hR.putHub t _ _)) _ _) (hke s _ _)) (hR.refl s)
  have hreport (t : State) (i : Item) : R (t.writeReport i) t := by
    unfold State.writeReport
    split
    · exact hR.ite (hR.write t _ _) (hR.refl t)
    · exact hR.refl t
  cases hi : s.item? y n with
  | none => rw [State.endNow, hi]; exact hR.refl s
  | some i =>
    by_cases hp : i.phase = .ended
    · rw [State.endNow, hi]
      dsimp only
      rw [if_pos hp]
      exact hR.refl s
    · rw [State.endNow_eq hi hp]
      exact hR.trans (hqueue _ _ _) (hR.trans (hreport _ _) (hR.ite (hgone i) (hR.refl s)))

theorem State.endNow_noSites (s : State) (q k y n : Nat) (f : Option Fail) : NoSites q k (s.endNow y n f).1 s :=
  (noSites_frame q k).endNow (fun _ _ _ => id) (fun _ _ _ => id) s y n f

/-- What holds of a module in which no watch names an item goes on to hold while watches are dropped and other waiters are released. -/
structure KeptByReleases (q k : Nat) (P : State → Prop) : Prop where
  watches : ∀ {s : State}, P s → ∀ w ∈ s.sync.watches, w.who ≠ .item q k
  sync : ∀ {s : State}, P s → ∀ x : SyncSt, (∀ w ∈ x.watches, w ∈ s.sync.watches) → P (s.setSync x)
  waiter : ∀ {s : State}, P s → ∀ w : Watch, w.who ≠ .item q k → P (s.releaseWaiter w).1

namespace KeptByReleases

variable {q k : Nat} {P : State → Prop} (hP : KeptByReleases q k P) {s : State}
include hP

theorem fireWatch (h : P s) {w : Watch} (hw : w.who ≠ .item q k) : P (s.fireWatch w).1 :=
  hP.waiter (hP.sync h _ fun _ hx => List.mem_of_mem_filter hx) w hw

theorem fireAll (h : P s) {ws : List Watch} (hws : ∀ w ∈ ws, w.who ≠ .item q k) : P (Machine.fireAll s ws).1 := by
  induction ws generalizing s with
  | nil => exact h
  | cons w ws ih => exact ih (hP.fireWatch h (hws w List.mem_cons_self)) fun x hx => hws x (List.mem_cons_of_mem _ hx)

theorem tryClaim (h : P s) (c : Nat) : P (s.tryClaim c).1 := by
  unfold State.tryClaim
  split
  · exact h
  · next w hw =>
    split
    · exact hP.fireWatch h (hP.watches h w (List.mem_of_find?_eq_some hw))
    · exact h

theorem change1 (h : P s) (c : Nat) (d : DWord) : P (s.change1 c d).1 := by
  have hset : P (s.setCounter c (s.counter c + d)) := hP.sync h _ fun _ hx => hx
  exact hP.tryClaim (hP.fireAll hset fun w hw => hP.watches hset w (List.mem_of_mem_filter hw)) c

theorem runOps (h : P s) (n : Nat) (l : List (Nat × DWord)) : P (Machine.runOps n s l) := by
  induction n generalizing s l with
  | zero => exact h
  | succ n ih =>
    cases l with
    | nil => exact h
    | cons e l => exact ih (hP.change1 h e.1 e.2) _

theorem ops (h : P s) (l : List (Nat × DWord)) : P (s.ops l) := hP.runOps h _ l

end KeptByReleases

/-- Item `k` of queue `q` is `i`, no watch names it, and no core runs a part of it. -/
structure Spared (q k : Nat) (i : Item) (s : State) : Prop where
  watches : ∀ w ∈ s.sync.watches, w.who ≠ .item q k
  item : s.item? q k = some i
  sites : s.sitesOf q k = []

theorem Spared.setSync {q k : Nat} {i : Item} {s : State} (h : Spared q k i s) (x : SyncSt) (hx : ∀ w ∈ x.watches, w ∈ s.sync.watches) :
    Spared q k i (s.setSync x) :=
  ⟨fun w hw => h.watches w (hx w hw), h.item, h.sites⟩

theorem spared_keptByReleases (q k : Nat) (i : Item) : KeptByReleases q k (Spared q k i) where
  watches h := h.watches
  sync h := h.setSync
  waiter {s} h w hw := by
    unfold State.releaseWaiter
    split
    · next y n hwho =>
      refine ⟨by rw [State.endNow_sync]; exact h.watches, ?_, State.endNow_noSites s q k y n none h.sites⟩
      rw [State.endNow_item?_ne s none fun he => hw (by rw [hwho, he.1, he.2])]
      exact h.item
    · next site _ =>
      dsimp only
      split
      · exact ⟨h.watches, h.item, State.sitesOf_putCore h.sites site rfl⟩
      · exact h
    · next p n _ =>
      have hmsix {t : State} (v : Nat) (ht : Spared q k i t) : Spared q k i (t.msix p v) := by
        have hsame := sameItems_frame.msix t p v
        exact ⟨by rw [hsame.sync]; exact ht.watches, (hsame.items q k).trans ht.item, (noSites_frame q k).msix t p v ht.sites⟩
      exact hmsix _ (h.setSync _ fun _ hx => hx)

/-- Dropping a list of watches leaves the others. -/
theorem foldl_dropWatch (l : List Watch) (s : State) : l.foldl State.dropWatch s =
    s.setSync { s.sync with watches := s.sync.watches.filter fun w => !l.contains w } := by
  induction l generalizing s with
  | nil => simp only [List.foldl_nil, List.contains_nil, Bool.not_false, List.filter_true]; rfl
  | cons x l ih =>
    rw [List.foldl_cons, ih]
    have hfilter : (s.dropWatch x).sync.watches.filter (fun w => !l.contains w) = s.sync.watches.filter fun w => !(x :: l).contains w := by
      rw [State.dropWatch, State.setSync_sync, List.filter_filter]
      refine List.filter_congr fun w _ => ?_
      by_cases h : w = x <;> simp [h]
    rw [hfilter]
    rfl

/-- Watches that are dropped with all that name an item leave none that names it. -/
theorem foldl_dropWatch_watches {s t : State} {q k : Nat} (h : t.sync.watches = s.sync.watches) {w : Watch}
    (hw : w ∈ ((s.sync.watches.filter fun w => s.waitsFor [(q, k)] w.who).foldl State.dropWatch t).sync.watches) : w.who ≠ .item q k := by
  intro hwho
  rw [foldl_dropWatch, State.setSync_sync] at hw
  obtain ⟨hin, hout⟩ := List.mem_filter.mp hw
  have hgone : s.waitsFor [(q, k)] w.who = true := by rw [hwho, State.waitsFor]; simp
  have hmem : w ∈ s.sync.watches.filter fun w => s.waitsFor [(q, k)] w.who := List.mem_filter.mpr ⟨h ▸ hin, hgone⟩
  simp only [Bool.not_eq_true', List.contains_eq_mem, decide_eq_false_iff_not] at hout
  exact hout hmem

/-- Once an item's watches are withdrawn, what holds of a module in which none names it goes on to hold. -/
theorem KeptByReleases.withdrawAll {q k : Nat} {P : State → Prop} (hP : KeptByReleases q k P) {s : State}
    (h : ∀ x : SyncSt, (∀ w ∈ x.watches, w.who ≠ .item q k) → P (s.setSync x)) : P (s.withdrawAll (s.waitsFor [(q, k)])) := by
  refine foldl_keeps (P := P) _ (fun t c ht => hP.ops (hP.tryClaim ht c) _) _ _ ?_
  have hno (w : Watch) := foldl_dropWatch_watches (q := q) (k := k) (s := s) (w := w)
    (t := s.setSync { s.sync with waiting := s.sync.waiting.filter fun w => !s.waitsFor [(q, k)] w.who }) rfl
  rw [foldl_dropWatch] at hno ⊢
  exact h _ fun w hw => hno w hw

/-- An item whose watches are all withdrawn is changed by none of those that are released then. -/
theorem State.withdrawAll_spared {s : State} {q k : Nat} {i : Item} (hi : s.item? q k = some i) (hs : s.sitesOf q k = []) :
    Spared q k i (s.withdrawAll (s.waitsFor [(q, k)])) :=
  (spared_keptByReleases q k i).withdrawAll fun _ hw => ⟨hw, hi, hs⟩

/-! ## What a boundary leaves of the sync unit -/

/-- `t` has the sync unit of `s` but for counters, watches and herds; a boundary in progress may be withdrawn. -/
structure SyncKept (t s : State) : Prop where
  sync : t.sync = { s.sync with ctr := t.sync.ctr, watches := t.sync.watches, waiting := t.sync.waiting, host := t.sync.host
                                herds := t.sync.herds, run := t.sync.run }
  run : t.sync.run = s.sync.run ∨ t.sync.run = none

@[refl] protected theorem SyncKept.rfl {s : State} : SyncKept s s := ⟨rfl, .inl rfl⟩

theorem SyncKept.trans {u t s : State} (h : SyncKept u t) (g : SyncKept t s) : SyncKept u s where
  sync := h.sync.trans (congrArg (fun x : SyncSt => { x with
    ctr := u.sync.ctr, watches := u.sync.watches, waiting := u.sync.waiting, host := u.sync.host, herds := u.sync.herds,
    run := u.sync.run }) g.sync)
  run := h.run.elim (fun h => g.run.imp h.trans h.trans) .inr

theorem syncKept_of_sync {t s : State} (h : t.sync = s.sync) : SyncKept t s := by
  refine ⟨?_, .inl (by rw [h])⟩
  rw [h]

theorem syncKept_logFrame : LogFrame SyncKept where
  refl _ := .rfl
  trans := .trans
  rows _ _ _ _ := ⟨rfl, .inl rfl⟩
  fired _ _ _ := ⟨rfl, .inl rfl⟩
  mem _ _ _ _ _ := ⟨rfl, .inl rfl⟩
  live _ _ := ⟨rfl, .inl rfl⟩
  sent _ _ := ⟨rfl, .inl rfl⟩
  pba _ _ _ := ⟨rfl, .inl rfl⟩
  cores _ _ := ⟨rfl, .inl rfl⟩
  queues _ _ _ := ⟨rfl, .inl rfl⟩
  ke _ _ := ⟨rfl, .inl rfl⟩
  links _ _ _ _ := ⟨rfl, .inl rfl⟩
  sync _ _ _ _ _ _ _ h := ⟨rfl, h⟩
  records _ _ _ _ _ := ⟨rfl, .inl rfl⟩
  log s c k u v a b := syncKept_of_sync (by simp)

theorem State.applyLive_syncKept (s : State) : SyncKept s.applyLive s := by
  have hstart (t : State) (x : StartSt) : SyncKept (t.setStart x) t := ⟨rfl, .inl rfl⟩
  have hherd (t : State) (e : Nat × Option HerdEntry × Option RingEntry) : SyncKept (t.reloadHerd e) t := by
    unfold State.reloadHerd
    dsimp only
    split
    · exact hstart _ _
    · exact (hstart _ _).trans ((syncKept_logFrame.putKeHerd _ _ _).trans (syncKept_logFrame.putHerd _ _ _))
  exact (syncKept_logFrame.foldl hherd _ _).trans (hstart _ _)

theorem State.takeoverHerd_syncKept (s : State) (h : Nat) : SyncKept (s.takeoverHerd h) s := by
  have hfwu (t : State) (x : FwuSt) : SyncKept (t.setFwu x) t := ⟨rfl, .inl rfl⟩
  have hdrop (m : BitVec 1536) : SyncKept (s.dropMembers h m) s := syncKept_logFrame.putKeHerd _ _ _
  have hall (m : BitVec 1536) (n : Nat) (y : Herd) (x : FwuSt) :
      SyncKept ((((s.dropMembers h m).logEvent 0x40 0 0 1 n 0).putHerd h y).setFwu x) s :=
    (hfwu _ _).trans ((syncKept_logFrame.putHerd _ _ _).trans ((syncKept_logFrame.log _ _ _ _ _ _ _).trans (hdrop m)))
  unfold State.takeoverHerd
  exact syncKept_logFrame.ite .rfl (syncKept_logFrame.ite ((syncKept_logFrame.arriveFabric _ _).trans (hall _ _ _ _))
    (syncKept_logFrame.ite ((syncKept_logFrame.checkFabricHerd _ _).trans (hall _ _ _ _)) (hall _ _ _ _)))

/-- The module once BCNT has counted. -/
def State.counted (s : State) : State := s.setSync { s.sync with bcnt := s.sync.bcnt + 1 }

theorem State.boundarySteps_syncKept (s : State) : SyncKept s.boundarySteps s.counted := by
  have hwindow (t : State) : SyncKept t.boundaryWindow t := by
    have hroll (u : State) (x : TallySt) : SyncKept (u.setTally x) u := ⟨rfl, .inl rfl⟩
    exact (hroll _ _).trans (syncKept_logFrame.ite (hroll t _) .rfl)
  have hbegin (t : State) : SyncKept t.beginActivation t := syncKept_logFrame.ite ⟨rfl, .inl rfl⟩ .rfl
  have hsee (t : State) : SyncKept t.seeBoundary t := ⟨rfl, .inl rfl⟩
  unfold State.boundarySteps
  exact (syncKept_logFrame.foldl State.takeoverHerd_syncKept _ _).trans
    ((State.applyLive_syncKept _).trans ((hbegin _).trans ((hwindow _).trans (hsee s.counted))))

/-- A boundary that is raised with its pulse or at once counts, and records how. -/
theorem State.raise_sync (s : State) (r : BoundaryRun) (x : Raise) (h : x.result ≠ 2) : (s.raise r x).sync.bcnt = s.sync.bcnt + 1 ∧
    (s.raise r x).sync.run = none ∧ (s.raise r x).sync.lastResult = x.result ∧ (s.raise r x).sync.lastOffset = x.offset ∧
    (s.raise r x).sync.unaligned = 0 ∧ (s.raise r x).sync.pulse = if x.used then none else s.sync.pulse := by
  have hnote (t : State) : t.noteRaise x = t.setSync { t.sync with run := none, lastResult := x.result, lastOffset := x.offset, unaligned := 0
                                                                   pulse := if x.used then none else t.sync.pulse } := by
    unfold State.noteRaise
    dsimp only
    rw [if_neg h, if_neg h]
    exact if_neg (by decide)
  have hdrive : s.driveOut.sync.bcnt = s.sync.bcnt ∧ s.driveOut.sync.pulse = s.sync.pulse := by
    unfold State.driveOut
    split <;> exact ⟨rfl, rfl⟩
  have hkept : SyncKept (s.raise r x) (s.driveOut.noteRaise x).counted :=
    (syncKept_logFrame.finishNow _ _ _ _).trans (State.boundarySteps_syncKept _)
  rw [hnote] at hkept
  obtain ⟨hsync, hrun⟩ := hkept
  refine ⟨(congrArg SyncSt.bcnt hsync).trans (congrArg (· + 1) hdrive.1), hrun.elim (fun h => h) (fun h => h),
    (congrArg SyncSt.lastResult hsync).trans rfl, (congrArg SyncSt.lastOffset hsync).trans rfl, (congrArg SyncSt.unaligned hsync).trans rfl,
    (congrArg SyncSt.pulse hsync).trans ?_⟩
  exact congrArg (fun p => if x.used then none else p) hdrive.2

/-! ## The start of a BOUNDARY -/

/-- The module whose BOUNDARY item has started. -/
def State.atBoundary (s : State) (q k : Nat) : State :=
  ((s.begin q k).setWork q k (.boundary s.now s.sync.stepWin.toNat s.stepWaits)).setSync
    { s.sync with run := some ⟨q, k, s.now, s.sync.stepWin.toNat, s.stepWaits⟩ }

theorem exec_boundary_starts {s : State} {q : Queue} {k : Nat} {i : Item} (h : starts s q k 0x41 (fun i => [i.zero 8 8]) i) :
    exec (.boundary q k) s = .next (s.atBoundary q k) ∨
    exec (.boundary q k) s = .next (((s.atBoundary q k).setSync { (s.atBoundary q k).sync with pulse := none }).logEvent 0x41 0 0 0 0 0) := by
  have hstart : exec (.boundary q k) s = .next (match s.sync.pulse with
      | some p => if p.toNat + s.sync.stepWin.toNat < s.now.toNat then
          ((s.atBoundary q k).setSync { (s.atBoundary q k).sync with pulse := none }).logEvent 0x41 0 0 0 0 0 else s.atBoundary q k
      | none => s.atBoundary q k) := congrArg Host.Outcome.next (State.startItem_starts h _)
  rw [hstart]
  split
  · split
    · exact .inr rfl
    · exact .inl rfl
  · exact .inl rfl

theorem boundary_starts {s : State} {q : Queue} {k : Nat} {i : Item} (h : starts s q k 0x41 (fun i => [i.zero 8 8]) i) :
    ∃ t, exec (.boundary q k) s = .next t ∧ t.sync.run = some ⟨q, k, s.now, s.sync.stepWin.toNat, s.stepWaits⟩ ∧
      itemNow s t q k { begun s i with work := .boundary s.now s.sync.stepWin.toNat s.stepWaits } ∧ t.sync.bcnt = s.sync.bcnt ∧ t.mem = s.mem := by
  have hitem : itemNow s (s.atBoundary q k) q k { begun s i with work := .boundary s.now s.sync.stepWin.toNat s.stepWaits } :=
    itemNow_congr (itemNow_mapItem (f := fun i => { i with work := .boundary s.now s.sync.stepWin.toNat s.stepWaits })
      (State.begin_itemNow (starts_item h)) fun _ hi => hi) rfl
  rcases exec_boundary_starts h with he | he
  · exact ⟨_, he, rfl, hitem, rfl, rfl⟩
  · refine ⟨_, he, ?_, itemNow_congr hitem (by simp), ?_, ?_⟩
    · rw [State.logEvent_sync]
      rfl
    · rw [State.logEvent_sync]
      rfl
    · rw [State.logEvent_mem]
      rfl

/-! ## Raising a boundary -/

theorem exec_boundaryRaise_due {s : State} {r : BoundaryRun} {x : Raise} (hr : s.sync.run = some r) (hx : s.raiseDue r = some x) :
    exec .boundaryRaise s = .next (s.raiseOr r x) := by
  change execBoundaryRaise s = _
  rw [execBoundaryRaise, hr]
  dsimp only
  rw [hx]

/-- A boundary whose deadline has come is withdrawn with its item. -/
theorem State.failItem_boundary {s : State} {q k : Nat} {i : Item} {b : DWord} {win : Nat} {w : Bool} (hi : s.item? q k = some i)
    (hu : i.undecided = true) (hl : i.late s.now = true) (hw : i.work = .boundary b win w) (hlive : i.live = true) (hs : s.sitesOf q k = []) :
    (s.failItem q k ⟨0x14, 0, none⟩).sync.bcnt = s.sync.bcnt ∧ (s.failItem q k ⟨0x14, 0, none⟩).sync.run = none ∧
      ∃ j, (s.failItem q k ⟨0x14, 0, none⟩).item? q k = some j ∧ j.phase = .ended ∧ j.status = 0x14 := by
  have hkept := syncKept_logFrame.withdrawAll s (s.waitsFor [(q, k)])
  have hgo : s.letGo q k i = (s.withdrawAll (s.waitsFor [(q, k)])).setSync { (s.withdrawAll (s.waitsFor [(q, k)])).sync with run := none } := by
    rw [State.letGo, if_pos hlive, State.withdrawItem, hw]
  have hspared : Spared q k i (s.letGo q k i) := by
    rw [hgo]
    exact (State.withdrawAll_spared hi hs).setSync _ fun _ hx => hx
  have hfail : (i.failure s.now ⟨0x14, 0, none⟩) = ⟨0x14, 0, none⟩ := if_pos ⟨hl, by decide, by decide⟩
  have hbcnt : (s.letGo q k i).sync.bcnt = s.sync.bcnt := by
    rw [hgo]
    exact (congrArg SyncSt.bcnt hkept.sync).trans rfl
  have hrun : (s.letGo q k i).sync.run = none := by rw [hgo]; rfl
  obtain ⟨hs0, hp0⟩ : i.status = 0 ∧ i.phase ≠ .ended := by
    simp only [Item.undecided, Bool.and_eq_true, decide_eq_true_eq] at hu
    exact ⟨hu.2, hu.1⟩
  have hfailed : Item.failed ⟨0x14, 0, none⟩ i = { i with status := 0x14, detail := 0 } := if_pos ⟨hs0, hp0⟩
  rw [State.failItem_eq hi hu rfl, hfail]
  generalize s.letGo q k i = t at hspared hbcnt hrun
  have hitem : (t.mapItem q k (Item.failed ⟨0x14, 0, none⟩)).item? q k = some { i with status := 0x14, detail := 0 } := by
    rw [State.item?_mapItem t q k fun j hj => (j.failed_decidedBy _).1.trans hj, if_pos ⟨rfl, rfl⟩, hspared.item, Option.map_some, hfailed]
  have hsites : (t.mapItem q k (Item.failed ⟨0x14, 0, none⟩)).sitesOf q k = [] := hspared.sites
  have hsync : (t.mapItem q k (Item.failed ⟨0x14, 0, none⟩)).sync = t.sync := rfl
  generalize t.mapItem q k (Item.failed ⟨0x14, 0, none⟩) = u at hitem hsites hsync
  have hstop : u.stopItem q k = u := by rw [State.stopItem, hsites, List.foldl_nil]
  have hsettle : u.settleItem q k = (u.endNow q k none).1 := by
    rw [State.settleItem, hitem]
    dsimp only
    rw [if_pos ⟨by simp, hp0⟩, hsites, List.filter_nil, List.foldl_nil, if_pos hsites]
  rw [hstop, hsettle]
  refine ⟨by rw [State.endNow_sync, hsync, hbcnt], by rw [State.endNow_sync, hsync, hrun], _, ?_, (Item.finished_phase _ u.now none).1,
    Item.finished_status (i := { i with status := 0x14, detail := 0 }) u.now none (by simp)⟩
  rw [State.endNow_item? hitem hp0, if_pos ⟨rfl, rfl⟩]

theorem stepBoundaries : StepBoundaries := by
  refine ⟨fun s q k i h => fun _ => boundary_starts h, fun s r hr hin => ⟨fun hw => ?_, fun i hw hdue hi hu hl hwork hlive hs _ => ?_, fun p hw hlate hp hh hnow => ?_⟩,
    fun s pin hin hpin hr => ?_⟩
  · have hdue : s.raiseDue r = some ⟨0, 0, false⟩ := by
      unfold State.raiseDue
      rw [if_neg (by simp [hin]), if_pos (by simp [hw])]
    have hraise : s.raiseOr r ⟨0, 0, false⟩ = s.raise r ⟨0, 0, false⟩ := if_neg (by simp [State.raiseLate, hw])
    obtain ⟨h1, h2, h3, -, h5, -⟩ := s.raise_sync r ⟨0, 0, false⟩ (by decide)
    exact ⟨_, (exec_boundaryRaise_due hr hdue).trans (congrArg Host.Outcome.next hraise), h1, h2, h3, h5⟩
  · obtain ⟨x, hx⟩ := Option.ne_none_iff_exists'.mp hdue
    have hraise : s.raiseOr r x = s.failItem r.q r.k ⟨0x14, 0, none⟩ := by
      refine if_pos ?_
      rw [State.raiseLate, hi, hw]
      exact hl
    obtain ⟨h1, h2, j, h3⟩ := State.failItem_boundary hi hu hl hwork hlive hs
    exact ⟨_, j, (exec_boundaryRaise_due hr hx).trans (congrArg Host.Outcome.next hraise), h1, h2, h3⟩
  · have hdue : s.raiseDue r = some ⟨1, (p - r.b).setWidth 18, true⟩ := by
      unfold State.raiseDue
      rw [if_neg (by simp [hin]), if_neg (by simp [hw]), hp]
      dsimp only
      rw [if_pos hh, if_pos hnow]
    have hraise : s.raiseOr r ⟨1, (p - r.b).setWidth 18, true⟩ = s.raise r ⟨1, (p - r.b).setWidth 18, true⟩ := if_neg (by simp [hlate])
    obtain ⟨h1, h2, h3, h4, -, h6⟩ := s.raise_sync r ⟨1, (p - r.b).setWidth 18, true⟩ (by simp)
    exact ⟨_, (exec_boundaryRaise_due hr hdue).trans (congrArg Host.Outcome.next hraise), h1, h2, h3, h4, h6⟩
  · have hgo : ¬((s.sync.inIgnored || (!pin && decide (s.sync.unaligned < 4))) = true) := by
      rcases hpin with h | h
      · simp [hin, h]
      · simp [hin, Nat.not_lt.mpr h]
    have hsync : s.ignoreIn.sync = { s.sync with inIgnored := true } := by
      rw [State.ignoreIn, State.tallyAdd_sync, State.logEvent_sync, State.setSync_sync]
    have hexec : exec (.stepSyncInIgnore pin) s = .next s.ignoreIn := by
      refine congrArg Host.Outcome.next ((if_neg hgo).trans ?_)
      dsimp only
      rw [hsync, hr]
    have hfault : s.ignoreIn.fault = ((s.setSync { s.sync with inIgnored := true }).logEvent 0x43 0 0 0 0 0).fault := rfl
    refine ⟨_, (s.setSync { s.sync with inIgnored := true }).entry 0x43 0 0 0 0 0, hexec, by rw [hsync], ?_, ?_, rfl, by rw [hsync]⟩
    · rw [hfault]
      exact (State.logEvent_log ..).1
    · rw [hfault]
      exact State.logEvent_newest _ 0x43 0 0 0 0 0

/-! ## The step pins -/

theorem stepPins : StepPins := by
  refine fun s => ⟨fun hin hp => ?_, fun hin hp => ?_, fun hin => ?_, fun d hd hle => ?_, fun hout => ?_, fun hbar => ?_⟩
  · refine congrArg Host.Outcome.next ((if_neg (by simp [hin])).trans ?_)
    simp only [hp, Option.isSome_none]
    rfl
  · have hexec : exec .stepSyncInPulse s = .next ((s.logEvent 0x41 0 0 0 0 0).setSync { (s.logEvent 0x41 0 0 0 0 0).sync with pulse := some s.now }) := by
      refine congrArg Host.Outcome.next ((if_neg (by simp [hin])).trans ?_)
      exact congrArg (fun t : State => t.setSync { t.sync with pulse := some s.now }) (if_pos (Option.isSome_iff_ne_none.mpr hp))
    refine ⟨_, hexec, logged_congr (s.logEvent_logged 0x41 0 0 0 0 0) rfl rfl rfl, ?_⟩
    rw [State.setSync_sync, State.logEvent_sync]
  · exact ⟨_, congrArg Host.Outcome.next (if_pos hin), s.logEvent_logged 0x41 0 0 0 0 0, by rw [State.logEvent_sync]⟩
  · have hexec : exec .stepSyncOutEnd s = .next ((s.setSync { s.sync with outEnd := none }).setPins { s.pins with stepOut := false }) := by
      change execStepSyncOutEnd s = _
      rw [execStepSyncOutEnd, hd]
      exact congrArg Host.Outcome.next (if_pos hle)
    exact ⟨_, hexec, rfl, rfl, rfl⟩
  · refine ⟨_, congrArg Host.Outcome.next (if_neg (by simp [hout])), ?_, ?_, ?_⟩
    · exact logged_congr (logEvent_logged_of (u := (s.setSync { s.sync with outDisabled := true, outEnd := none }).setPins
        { s.pins with stepOut := false }) rfl rfl 0x43 0 0 0 0 0) rfl rfl rfl
    · rw [State.tallyAdd_sync, State.logEvent_sync]
      rfl
    · have hpins (t : State) (h : t.pins.stepOut = false) : (t.logEvent 0x43 0 0 0 0 0).pins.stepOut = false := by
        rw [(State.logEvent_steady t ..).pins]
        exact h
      rw [State.tallyAdd_pins]
      exact hpins _ rfl
  · exact congrArg Host.Outcome.next (if_pos hbar)

/-- Settles O26: what a boundary does in its order leaves of the sync unit but counters, watches and herds what the raise wrote. -/
theorem boundaries : Obligations.Boundaries := ⟨stepBoundaries, stepPins⟩

end Sys2Proof.Machine
end

section
/-!
PROOFS. A failing response whose item's end lets an UPDATE item claim a counter (10 R417, R419, 11 R464, 13 R547).
-/
namespace Sys2Proof.Machine

open Sys2Proof.Claims

/-- A running COPY, item 1 of queue 0. -/
def copyItem : Item := { endedItem with phase := .running, op := 0x20, work := .copy 0 0, progress := 0 }

/-- An UPDATE whose check pass has begun, with its report at line 1 of HBM and one block counted. -/
def reportWork : UpdWork :=
  { desc := List.replicate 88 0 ++ natLe 8 64 ++ List.replicate 32 0, betas := Vector.replicate 16 (0, 0), flagWord := 0, checked := true,
    main := true, found := [], fault := false, finished := [], updated := 1, frozen := 0, skewed := 0, passed := 0, skipped := 0,
    firstSkewed := none, firstBad := none }

/-- That UPDATE as item 2 of queue 0. -/
def reportItem : Item := { endedItem with k := 2, phase := .running, op := 0x40, work := .update reportWork, progress := 0 }

/-- The COPY's request of device 1. -/
def copyRequest : OutReq := ⟨0, 0, 1, 1, false, 0, 0, 0, 0, 0⟩

/-- The response to it. -/
def copyResponse : MsgHead := ⟨0, 1, 0, 0, 0⟩

/-- The module with both items, each with a claiming watch on counter 0, and with the request on its way on port 0. -/
def responseState : State :=
  (((State.reset.putQueue 0 { QueueSt.reset with items := [copyItem, reportItem] }).setSync
    { State.reset.sync with watches := [itemClaim 1, itemClaim 2] }).setFab { State.reset.fab with out := [copyRequest] }).putLink 0
      { LinkSt.reset with phase := .up }

/-- Whether any byte of memory is listed in the answer's state. -/
def answerWritten : Answer → Bool
  | .next t => !t.mem.cells.isEmpty
  | _ => false

/-- The response fails the COPY, whose claim goes; the UPDATE's claim then ends it, and its report is written. -/
theorem responseState_refused : answerWritten (exec (.refused 0 copyResponse) responseState) = true := by decide +kernel

/-- Refutes O31: in a state in which a COPY and an UPDATE item each have a claiming watch on one counter, a failing response of the COPY
brings the end of the UPDATE, whose report changes memory, where the statement has memory stand. -/
theorem not_fabricRequests : ¬ Obligations.FabricRequests := by
  unfold Obligations.FabricRequests
  rintro ⟨-, h⟩
  obtain ⟨hheard, -⟩ := h responseState 0 copyResponse copyRequest copyItem 0 0 (by decide) (by decide) (by decide) rfl rfl (by decide)
  obtain ⟨-, -, hfail⟩ := hheard ⟨by decide, by decide⟩ (by decide)
  obtain ⟨t, -, ht, -, -, -, -, -, hmem⟩ := hfail (.refused, 0x10) List.mem_cons_self
  have hwritten := responseState_refused
  have hexec : exec (.refused 0 copyResponse) responseState = .next t := ht
  rw [hexec, answerWritten, hmem] at hwritten
  exact absurd hwritten (by decide)

end Sys2Proof.Machine
end

section
/-!
PROOFS. The lifetime Tally and the telemetry windows (19 R700 to R714).
-/
namespace Sys2Proof.Machine

open Sys2Proof.Claims

/-! ## A second's sample -/

/-- `t` has the Tally's counter at record offset `k` and the time of the last sample as `s` has them, and no link port of it is UP. -/
structure SampleKept (k : Nat) (s t : State) : Prop where
  sampled : t.tally.sampled = s.tally.sampled
  count : tget 0 t.tally.live k = tget 0 s.tally.live k
  down : ∀ p, p < 16 → (t.link p).phase ≠ .up

theorem State.tallyBin_live_ne {s : State} {off ovf n k : Nat} (hoff : k ≠ off) (hovf : k ≠ tallyOverflow) :
    tget 0 (s.tallyBin off ovf n).tally.live k = tget 0 s.tally.live k := by
  simp only [State.tallyBin, State.setTally]
  split
  · rw [tget_tput_ne hovf, tget_tput_ne hoff]
  · rw [tget_tput_ne hoff]

theorem SampleKept.tallyBin {s t : State} {k off ovf n : Nat} (h : SampleKept k s t) (hoff : k ≠ off) (hovf : k ≠ tallyOverflow) :
    SampleKept k s (t.tallyBin off ovf n) :=
  ⟨h.sampled, (State.tallyBin_live_ne hoff hovf).trans h.count, h.down⟩

theorem SampleKept.foldl {β : Type} {k : Nat} {s t : State} {f : State → β → State} {l : List β} (h : SampleKept k s t)
    (hf : ∀ u, ∀ b ∈ l, SampleKept k s u → SampleKept k s (f u b)) : SampleKept k s (l.foldl f t) :=
  List.foldlRecOn l f h fun u hu b hb => hf u b hb hu

/-- A lane of a port that is not UP counts in the port's own counter alone. -/
theorem SampleKept.laneSample {k : Nat} {s t : State} (h : SampleKept k s t) (e : Fin 80 × BitVec 32) : SampleKept k s (t.laneSample e) := by
  have hp : e.1.val / 5 < 16 := by omega
  rw [State.laneSample, if_neg (h.down _ hp)]
  refine ⟨h.sampled, h.count, fun p hp' => ?_⟩
  rw [State.link_putLink _ _ _ _ hp]
  split
  · exact h.down _ hp
  · exact h.down p hp'

/-- The counters of seconds lie below every bin of the record (19 R700). -/
theorem secsOffset_lt (s : State) : s.secsOffset < 0x300 := by
  have hle : s.profile ≤ 2 := by
    unfold State.profile profRank
    split <;> omega
  unfold State.secsOffset
  split <;> omega

/-- A second counted, before any bin is. -/
def State.secondCounted (s : State) : State := (s.setTally { s.tally with sampled := s.now }).tallyAdd s.secsOffset 1

/-- The second's input voltage and temperatures in their bins. -/
def State.sensorsBinned (s : State) : State :=
  (List.range 40).foldl (fun u i => u.tallyBin (0x400 + 64 * i + 4 * tempBin (vget u.power.temps i 0)) (1 + i) 1)
    (s.secondCounted.tallyBin (0x300 + 4 * vinBin s.power.vin) 0 1)

/-- The lanes of a sample that lists none. -/
def quietLanes : List (Fin 80 × BitVec 32) :=
  [] ++ ((List.finRange 80).filter fun i => !([] : List (Fin 80 × BitVec 32)).any fun e => decide (e.1 = i)).map fun i => (i, 0)

theorem exec_tallySample_nil {s : State} (hon : s.power.phase = .on) (hdue : s.sampleDue = true) :
    exec (.tallySample []) s = .next (quietLanes.foldl State.laneSample s.sensorsBinned) := by
  have hpow : s.alwaysOnPowered = true := by simp [State.alwaysOnPowered, hon]
  exact congrArg Host.Outcome.next ((if_neg (by simp [hpow, hdue])).trans (if_pos hon))

theorem State.secondCounted_live (s : State) : tget 0 s.secondCounted.tally.live s.secsOffset =
    min (2 ^ 64 - 1) (tget 0 s.tally.live s.secsOffset + 1) := by
  rw [State.secondCounted, State.tallyAdd_live, tget_tput_same]
  rfl

theorem State.sensorsBinned_kept {s : State} (hdown : ∀ p, p < 16 → (s.link p).phase ≠ .up) :
    SampleKept s.secsOffset s.secondCounted s.sensorsBinned := by
  have hlt := secsOffset_lt s
  have hovf : s.secsOffset ≠ tallyOverflow := by simp only [tallyOverflow]; omega
  have hvin : SampleKept s.secsOffset s.secondCounted (s.secondCounted.tallyBin (0x300 + 4 * vinBin s.power.vin) 0 1) :=
    SampleKept.tallyBin ⟨rfl, rfl, hdown⟩ (by omega) hovf
  exact hvin.foldl fun u i _ hu => hu.tallyBin (by omega) hovf

/-- A sample with no port UP adds one to the counter of seconds in force, and to bins above it. -/
theorem exec_tallySample_down {s : State} (hon : s.power.phase = .on) (hdue : s.sampleDue = true)
    (hdown : ∀ p, p < 16 → (s.link p).phase ≠ .up) :
    ∃ t, exec (.tallySample []) s = .next t ∧ t.tally.sampled = s.now ∧
      tget 0 t.tally.live s.secsOffset = min (2 ^ 64 - 1) (tget 0 s.tally.live s.secsOffset + 1) := by
  have hkept := (State.sensorsBinned_kept hdown).foldl (l := quietLanes) fun u e _ hu => hu.laneSample e
  exact ⟨_, exec_tallySample_nil hon hdue, hkept.sampled, hkept.count.trans s.secondCounted_live⟩

/-! ## Flash, snapshots and windows -/

theorem secsOffset_running {s : State} (hon : s.power.phase = .on) (hstep : s.start.step = 11) : s.secsOffset = 0x50 + 8 * s.profile :=
  if_pos ⟨hstep, hon⟩

/-- A write that succeeds leaves the record, with its new WSEQ, in the older copy (19 R705). -/
theorem exec_tallyWrite_good {s : State} (hpow : s.alwaysOnPowered = true) (hdue : s.writeDue = true) :
    ∃ t, exec (.tallyWrite true) s = .next t ∧ t.tally.wdtc = s.now ∧ t.tally.writeDue = false ∧
      tget 0 t.tally.live 8 = tget 0 s.tally.live 8 + 1 ∧
      (if copySeq s.tally.copy0 ≤ copySeq s.tally.copy1 then t.tally.copy0 = some t.tally.live ∧ t.tally.copy1 = s.tally.copy1
       else t.tally.copy1 = some t.tally.live ∧ t.tally.copy0 = s.tally.copy0) := by
  have hexec : exec (.tallyWrite true) s = .next (s.tallyFlash true) := congrArg Host.Outcome.next (if_pos (by simp [hpow, hdue]))
  refine ⟨_, hexec, rfl, rfl, ?_, ?_⟩
  · simp only [State.tallyFlash, State.setTally, if_true]
    rw [tget_tput_ne (by decide), tget_tput_ne (by decide), tget_tput_ne (by decide), tget_tput_same]
  · by_cases hold : copySeq s.tally.copy0 ≤ copySeq s.tally.copy1 <;> simp only [State.tallyFlash, State.setTally, hold, decide_true, decide_false, if_true, if_false, Bool.false_eq_true, and_self]

theorem exec_snap {s : State} {p : Port} (hopen : s.barOpen = true) :
    exec (.snap p) s = .next (s.setTally { s.tally with snap0 := if p = 0 then some s.tally.live else s.tally.snap0
                                                        snap1 := if p = 0 then s.tally.snap1 else some s.tally.live }) :=
  congrArg Host.Outcome.next (if_neg (by simp [hopen]))

/-- Settles O45: every bin that a sample counts lies above the counters of seconds. -/
theorem tallyAndTelemetry : Obligations.TallyAndTelemetry := by
  unfold Obligations.TallyAndTelemetry
  intro s
  refine ⟨fun hon hstep hdue hdown => ?_, exec_tallyWrite_good, fun hopen => ⟨?_, ?_, ?_⟩, fun hset hend => ?_⟩
  · rw [← secsOffset_running hon hstep]
    exact exec_tallySample_down hon hdue hdown
  · exact ⟨_, exec_snap hopen, rfl, rfl⟩
  · exact ⟨_, exec_snap hopen, rfl, rfl⟩
  · exact congrArg Host.Outcome.next (if_pos hopen)
  · exact ⟨_, congrArg Host.Outcome.next (if_pos ⟨hset, hend⟩), rfl, rfl, rfl⟩

end Sys2Proof.Machine
end

section
/-!
PROOFS. The commands of a firmware session (18 R682 to R699).
-/
namespace Sys2Proof.Machine

open Sys2Proof.Claims

/-! ## Tables put together -/

section Tables

variable {α : Type} {d : α} {t u : Table α} {k : Nat}

theorem tget_filter_key {P : Nat → Bool} (h : P k = true) : tget d (t.filter fun e => P e.1) k = tget d t k := by
  induction t with
  | nil => rfl
  | cons e t ih =>
    by_cases he : k = e.1
    · subst he
      simp [tget, h]
    · by_cases hp : P e.1 = true <;> simp [tget, hp, he, ih]

theorem tget_append_right (h : ∀ e ∈ t, k ≠ e.1) : tget d (t ++ u) k = tget d u k := by
  induction t with
  | nil => rfl
  | cons e t ih => simp [tget, h e List.mem_cons_self, ih fun x hx => h x (List.mem_cons_of_mem e hx)]

theorem tget_append_left (h : ∀ e ∈ u, k ≠ e.1) : tget d (t ++ u) k = tget d t k := by
  induction t with
  | nil => simpa [tget] using tget_append_right (d := d) (u := []) h
  | cons e t ih => simp [tget, ih]

theorem tget_shift (lo : Nat) : tget d (t.map fun e => (lo + e.1, e.2)) (lo + k) = tget d t k := by
  induction t with
  | nil => rfl
  | cons e t ih => simp [tget, ih]

/-- Bytes put one after another at an offset read back there, and every other key reads as before. -/
theorem tget_foldl_bytes (t : Table Byte) (off : Nat) (bs : List Byte) (a : Nat) :
    tget 0 ((bs.zip (List.range bs.length)).foldl (fun t e => tput 0 t (off + e.2) e.1) t) a =
      if off ≤ a ∧ a < off + bs.length then bs.getD (a - off) 0 else tget 0 t a := by
  induction bs using List.reverseRecOn with
  | nil => simp
  | append_singleton bs b ih =>
    rw [List.length_append, List.length_singleton, List.range_succ, List.zip_append (by simp), List.foldl_append]
    simp only [List.zip_cons_cons, List.zip_nil_right, List.foldl_cons, List.foldl_nil]
    rw [tget_tput, ih]
    grind

end Tables

/-! ## A command of a session -/

theorem State.fwuDo_of_session {s : State} {p : Port} (h : session s p) (cmd : Byte) (f : State → State) : s.fwuDo p cmd f = f s := by
  obtain ⟨hready, hbusy, hopen, hport⟩ := h
  rw [State.fwuDo, if_neg (by simp [hready, hbusy, hport]), if_neg (by simp [hopen])]

theorem State.unit_putUnit (s : State) {u : Nat} (w : Nat) (x : FwUnit) (h : u < 4) : (s.putUnit u x).unit w = if w = u then x else s.unit w :=
  vget_vset _ _ _ _ _ h

/-- BEGIN opens the session of a port where none is open (18 R682). -/
theorem exec_fwuBegin_closed {s : State} {p : Port} (hready : s.fwuReady = true) (hbusy : s.fwu.busy = false) (hopen : s.fwu.isOpen = false) :
    exec (.fwuBegin p) s = .next ((s.setFwu { s.fwu with isOpen := true, port := p.val, package := [] }).fwuEnd 1 0 0) :=
  congrArg Host.Outcome.next ((if_neg (by simp [hready, hbusy, hopen])).trans (if_neg (by simp [hopen])))

theorem exec_hostBar4Write_session {s : State} {p : Port} (h : session s p) {off : BitVec 20} {bs : List Byte}
    (hlen : off.toNat + bs.length ≤ 2 ^ 20) : exec (.hostBar4Write p off bs) s = .next (s.setFwu { s.fwu with
      bar4 := (bs.zip (List.range bs.length)).foldl (fun t e => tput 0 t (off.toNat + e.2) e.1) s.fwu.bar4 }) := by
  obtain ⟨hready, hbusy, hopen, hport⟩ := h
  exact (if_neg (by omega)).trans (congrArg Host.Outcome.next (if_neg (by simp [hready, hbusy, hopen, hport])))

/-! ## The package buffer -/

/-- The package buffer once a block of BAR4 has been written into it (18 R683). -/
def FwuSt.blockWritten (x : FwuSt) : Table Byte :=
  let n := x.len.toNat
  let lo := 16 * x.off.toNat
  x.package.filter (fun e => decide (e.1 < lo)) ++ ((x.bar4.filter fun e => decide (e.1 < 16 * n)).map fun e => (lo + e.1, e.2)) ++
    x.package.filter fun e => decide (lo + 16 * n ≤ e.1)

theorem exec_writeBlock_session {s : State} {p : Port} (h : session s p) (hn : s.fwu.len.toNat ≠ 0) (hmax : s.fwu.len.toNat ≤ 65536)
    (hfit : s.fwu.off.toNat + s.fwu.len.toNat ≤ 1048576) :
    exec (.writeBlock p) s = .next ((s.setFwu { s.fwu with package := s.fwu.blockWritten }).fwuEnd 2 0 0) :=
  congrArg Host.Outcome.next ((State.fwuDo_of_session h _ _).trans (if_neg (by omega)))

theorem FwuSt.blockWritten_in (x : FwuSt) {i : Nat} (h : i < 16 * x.len.toNat) :
    tget 0 x.blockWritten (16 * x.off.toNat + i) = tget 0 x.bar4 i := by
  rw [FwuSt.blockWritten, tget_append_left fun e he => ?above, tget_append_right fun e he => ?below, tget_shift,
    tget_filter_key (P := fun k => decide (k < 16 * x.len.toNat)) (by simpa using h)]
  case above => have hk := of_decide_eq_true (List.mem_filter.mp he).2; omega
  case below => have hk := of_decide_eq_true (List.mem_filter.mp he).2; omega

theorem FwuSt.blockWritten_out (x : FwuSt) {a : Nat} (h : a < 16 * x.off.toNat ∨ 16 * (x.off.toNat + x.len.toNat) ≤ a) :
    tget 0 x.blockWritten a = tget 0 x.package a := by
  have hblock : ∀ e ∈ (x.bar4.filter fun e => decide (e.1 < 16 * x.len.toNat)).map fun e => (16 * x.off.toNat + e.1, e.2), a ≠ e.1 := by
    intro e he
    obtain ⟨b, hb, rfl⟩ := List.mem_map.mp he
    have hk := of_decide_eq_true (List.mem_filter.mp hb).2
    dsimp only
    omega
  rcases h with h | h
  · rw [FwuSt.blockWritten, tget_append_left fun e he => ?above, tget_append_left hblock,
      tget_filter_key (P := fun k => decide (k < 16 * x.off.toNat)) (by simpa using h)]
    case above => have hk := of_decide_eq_true (List.mem_filter.mp he).2; omega
  · rw [FwuSt.blockWritten, List.append_assoc, tget_append_right fun e he => ?below, tget_append_right hblock,
      tget_filter_key (P := fun k => decide (16 * x.off.toNat + 16 * x.len.toNat ≤ k)) (by simp; omega)]
    case below => have hk := of_decide_eq_true (List.mem_filter.mp he).2; omega

/-! ## Staging -/

theorem exec_fwuStage_session {s : State} {p : Port} (h : session s p) : exec (.fwuStage p) s = .next (match s.stageChecks (s.pkg 0 256) with
    | .inr b => (s.staged (fieldOf (s.pkg 0 256) 6 1) ⟨s.pkg 0 256, b⟩).fwuEnd 3 0 0
    | .inl f => (if fieldOf (s.pkg 0 256) 6 1 < 4 then
        s.putUnit (fieldOf (s.pkg 0 256) 6 1) (s.unit (fieldOf (s.pkg 0 256) 6 1)).empty else s).fwuEnd 3 f.1 f.2) :=
  congrArg Host.Outcome.next (State.fwuDo_of_session h _ _)

/-- Only a manifest of one of the four units passes the checks (18 R684). -/
theorem State.unit_of_stageChecks {s : State} {m b : List Byte} (h : s.stageChecks m = .inr b) : fieldOf m 6 1 < 4 := by
  by_cases hok : manifestOk m = true
  · simp only [manifestOk, Bool.and_eq_true, decide_eq_true_eq] at hok
    omega
  · simp [State.stageChecks, hok] at h

/-- What a stage that passes its checks leaves of the units (18 R686, R698). -/
theorem State.staged_units {s : State} {u : Nat} (hu : u < 4) (i : FwImage) :
    (∀ w, w ≠ u → (s.staged u i).unit w = s.unit w) ∧
      (s.fwu.recovery = false → (s.staged u i).unit u = { s.unit u with oth := i, other := 2 }) ∧
      (s.fwu.recovery = true → ((s.staged u i).unit u).act = i ∧ (s.staged u i).fwu.bad = s.fwu.bad &&& ~~~(1#4 <<< u)) := by
  cases hrec : s.fwu.recovery
  · rw [State.staged, if_neg (by simp [hrec])]
    refine ⟨fun w hw => ?_, fun _ => ?_, fun hc => by simp at hc⟩
    · rw [State.unit_putUnit _ _ _ hu, if_neg hw]
    · rw [State.unit_putUnit _ _ _ hu, if_pos rfl]
  · rw [State.staged, if_pos hrec]
    refine ⟨fun w hw => (State.unit_putUnit _ _ _ hu).trans (if_neg hw), fun hc => by simp at hc, fun _ => ⟨?_, rfl⟩⟩
    exact congrArg FwUnit.act ((State.unit_putUnit _ _ _ hu).trans (if_pos rfl))

theorem FwUnit.empty_act (x : FwUnit) : x.empty.act = x.act := by
  unfold FwUnit.empty
  split <;> rfl

/-- A stage that fails leaves every active image (18 R686). -/
theorem State.unstaged_act (s : State) (u w : Nat) : ((if u < 4 then s.putUnit u (s.unit u).empty else s).unit w).act = (s.unit w).act := by
  split
  · next hu =>
    rw [State.unit_putUnit _ _ _ hu]
    split
    · next hw => rw [FwUnit.empty_act, hw]
    · rfl
  · rfl

/-! ## Commit, revert and abort -/

theorem State.unitsIn_eq {s t : State} {m n : Nat} (h : ∀ u, u < 4 → ((t.unit u).other = m ↔ (s.unit u).other = n)) :
    t.unitsIn m = s.unitsIn n :=
  List.filter_congr fun u hu => by simp [h u (List.mem_range.mp hu)]

theorem State.unitsIn_eq_nil {s : State} {m : Nat} : s.unitsIn m = [] ↔ ∀ u, u < 4 → (s.unit u).other ≠ m := by
  simp [State.unitsIn]

/-- Every unit changed in its place. -/
theorem State.unit_map {s t : State} {f : FwUnit → FwUnit} (h : t.fwu.units = s.fwu.units.map f) {u : Nat} (hu : u < 4) :
    t.unit u = f (s.unit u) := by
  rw [State.unit, h, vget_map _ _ _ hu]
  rfl

theorem FwUnit.commit_other (x : FwUnit) : x.commit.other ≠ 3 := by
  unfold FwUnit.commit
  split
  · simp
  · assumption

theorem FwUnit.commit_act (x : FwUnit) : x.commit.act = x.act := by
  unfold FwUnit.commit
  split <;> rfl

theorem FwUnit.commit_floor (x : FwUnit) :
    x.commit.floor = if x.other = 3 then BitVec.ofNat 64 (max x.floor.toNat x.act.floor) else x.floor := by
  unfold FwUnit.commit
  split <;> rfl

/-- The image that ran before is staged again (18 R697). -/
def FwUnit.restage (x : FwUnit) : FwUnit := if x.other = 3 then { x with other := 2 } else x

theorem FwUnit.restage_other {x : FwUnit} (h : x.other ≠ 2) : x.restage.other = 2 ↔ x.other = 3 := by
  unfold FwUnit.restage
  split <;> simp_all

theorem exec_fwuCommit_session {s : State} {p : Port} (h : session s p) (hkept : s.unitsIn 3 ≠ []) (hdrain : s.draining = false) :
    exec (.fwuCommit p) s = .next ((s.setFwu { s.fwu with units := s.fwu.units.map FwUnit.commit, backups := [] }).fwuEnd 5 0 0) :=
  congrArg Host.Outcome.next ((State.fwuDo_of_session h _ _).trans (if_neg (by simp [hkept, hdrain])))

theorem exec_fwuRevert_session {s : State} {p : Port} (h : session s p) (hkept : s.unitsIn 3 ≠ []) (hnone : s.unitsIn 2 = []) :
    exec (.fwuRevert p) s =
      .next ((s.setFwu { s.fwu with units := s.fwu.units.map FwUnit.restage, reversion := true }).fwuEnd 6 0 0) :=
  congrArg Host.Outcome.next ((State.fwuDo_of_session h _ _).trans (if_neg (by simp [hkept, hnone])))

theorem exec_fwuRestart_session {s : State} {p : Port} (h : session s p) (hrec : s.fwu.recovery = true) (hbad : s.fwu.bad = 0) :
    ∃ t, exec (.fwuRestart p) s = .next t ∧ t.fwu.recovery = false ∧ t.power.phase = .ready ∧ t.start.step = 2 :=
  ⟨_, congrArg Host.Outcome.next ((State.fwuDo_of_session h _ _).trans (if_neg (by simp [hrec, hbad]))), rfl, rfl, rfl⟩

theorem exec_fwuAbort_session {s : State} {p : Port} (h : session s p) :
    ∃ t, exec (.fwuAbort p) s = .next t ∧ t.fwu.isOpen = false ∧ t.fwu.status = 0 ∧
      (s.draining = false → t.fwu.actState = 0) ∧ (s.draining = true → t.fwu.actState = s.fwu.actState) := by
  refine ⟨_, congrArg Host.Outcome.next (State.fwuDo_of_session h _ _), rfl, rfl, fun hdrain => ?_, fun hdrain => ?_⟩
  · rw [if_neg (by simp [hdrain])]
    rfl
  · rw [if_pos hdrain]
    rfl

theorem exec_fwuStage_good {s : State} {p : Port} (h : session s p) {b : List Byte} (hb : s.stageChecks (s.pkg 0 256) = .inr b) :
    exec (.fwuStage p) s = .next ((s.staged (fieldOf (s.pkg 0 256) 6 1) ⟨s.pkg 0 256, b⟩).fwuEnd 3 0 0) := by
  rw [exec_fwuStage_session h, hb]

theorem exec_fwuStage_bad {s : State} {p : Port} (h : session s p) {f : Byte × Byte} (hf : s.stageChecks (s.pkg 0 256) = .inl f) :
    exec (.fwuStage p) s = .next ((if fieldOf (s.pkg 0 256) 6 1 < 4 then
      s.putUnit (fieldOf (s.pkg 0 256) 6 1) (s.unit (fieldOf (s.pkg 0 256) 6 1)).empty else s).fwuEnd 3 f.1 f.2) := by
  rw [exec_fwuStage_session h, hf]

/-- Settles O43: each command of an open session writes the fields of the session, and a stage the unit of its manifest alone. -/
theorem firmwareSession : Obligations.FirmwareSession := by
  unfold Obligations.FirmwareSession
  refine fun s p => ⟨fun hready hbusy hopen => ⟨_, exec_fwuBegin_closed hready hbusy hopen, rfl, rfl, rfl, rfl, rfl⟩, fun h =>
    ⟨fun off bs hlen => ?bar4, fun hn hmax hfit => ?block, ⟨fun b hb => ?good, fun f hf => ?bad⟩, exec_fwuAbort_session h,
      fun hkept hdrain => ?commit, fun hkept hnone => ?revert, exec_fwuRestart_session h⟩⟩
  case bar4 =>
    refine ⟨_, exec_hostBar4Write_session h hlen, fun i hi => ?_, fun a ha => ?_⟩
    · refine (tget_foldl_bytes _ _ _ _).trans ((if_pos (by omega)).trans ?_)
      rw [Nat.add_sub_cancel_left]
    · exact (tget_foldl_bytes _ _ _ _).trans (if_neg (by omega))
  case block =>
    exact ⟨_, exec_writeBlock_session h hn hmax hfit, rfl, rfl, fun i hi => s.fwu.blockWritten_in hi, fun a ha => s.fwu.blockWritten_out ha⟩
  case good =>
    obtain ⟨hother, hslot, hrec⟩ := State.staged_units (s := s) (State.unit_of_stageChecks hb) ⟨s.pkg 0 256, b⟩
    refine ⟨_, exec_fwuStage_good h hb, rfl, hother, fun hr => ?_, hrec⟩
    have hu := hslot hr
    exact ⟨congrArg FwUnit.other hu, congrArg FwUnit.oth hu, (congrArg FwUnit.act hu :)⟩
  case bad => exact ⟨_, exec_fwuStage_bad h hf, rfl, rfl, fun w => s.unstaged_act _ w⟩
  case commit =>
    refine ⟨_, exec_fwuCommit_session h hkept hdrain, rfl, State.unitsIn_eq_nil.mpr fun u hu => ?_, fun u hu => ?_⟩
    · rw [State.unit_map (s := s) (f := FwUnit.commit) rfl hu]
      exact FwUnit.commit_other _
    · rw [State.unit_map (s := s) (f := FwUnit.commit) rfl hu]
      exact ⟨FwUnit.commit_act _, FwUnit.commit_floor _⟩
  case revert =>
    refine ⟨_, exec_fwuRevert_session h hkept hnone, rfl, State.unitsIn_eq fun u hu => ?_, rfl⟩
    rw [State.unit_map (s := s) (f := FwUnit.restage) rfl hu]
    exact FwUnit.restage_other (State.unitsIn_eq_nil.mp hnone u hu)

end Sys2Proof.Machine
end

section
/-!
PROOFS. The end of a mailbox command and what it leaves, and the authenticated settings (14 R571 to R575, 15 R603, 17 R653 to R675).
-/
namespace Sys2Proof.Machine

open Sys2Proof.Claims

/-! ## The end of a command -/

/-- `t` has all of `s` that the end of a mailbox command leaves in every case. -/
structure SecRest (t s : State) : Prop where
  power : t.power = s.power
  start : t.start = s.start
  fwu : t.fwu = s.fwu
  mem : t.mem = s.mem
  queues : t.queues = s.queues
  sync : t.sync = s.sync

theorem SecRest.trans {u t s : State} (h : SecRest u t) (g : SecRest t s) : SecRest u s :=
  ⟨h.power.trans g.power, h.start.trans g.start, h.fwu.trans g.fwu, h.mem.trans g.mem, h.queues.trans g.queues, h.sync.trans g.sync⟩

theorem State.msix_secRest (s : State) (p v : Nat) : SecRest (s.msix p v) s := by
  unfold State.msix
  split <;> exact ⟨rfl, rfl, rfl, rfl, rfl, rfl⟩

theorem State.logEvent_secRest (s : State) (cls kind unit sev arg0 arg1 : Nat) : SecRest (s.logEvent cls kind unit sev arg0 arg1) s :=
  have h := s.logEvent_steady cls kind unit sev arg0 arg1
  ⟨h.power, h.start, h.fwu, s.logEvent_mem .., s.logEvent_queues .., s.logEvent_sync ..⟩

theorem State.secFailed_secRest (s : State) (p reason : Nat) : SecRest (s.secFailed p reason) s := by
  refine SecRest.trans ?_ (s.logEvent_secRest 0x60 4 p 2 0 0)
  unfold State.secFailed
  dsimp only
  split <;> exact ⟨rfl, rfl, rfl, rfl, rfl, rfl⟩

/-- A mailbox command once it is closed, with its failure recorded where it is one of authentication. -/
def State.secResult (s : State) (p : Nat) (e : SecEnd) : State :=
  if e.status = 0x18 then (s.secClosed p e).secFailed p e.reason else s.secClosed p e

theorem State.secEnd_eq (s : State) (p : Nat) (e : SecEnd) :
    s.secEnd p e = if (s.box p).irqEn then (s.secResult p e).msix p (s.box p).vector.toNat else s.secResult p e := rfl

/-- The end of a command writes the security state, the log and the Tally, and its message leaves. -/
theorem State.secEnd_rest (s : State) (p : Nat) (e : SecEnd) : SecRest (s.secEnd p e) s := by
  have hresult : SecRest (s.secResult p e) s := by
    unfold State.secResult
    split
    · exact (State.secFailed_secRest _ _ _).trans ⟨rfl, rfl, rfl, rfl, rfl, rfl⟩
    · exact ⟨rfl, rfl, rfl, rfl, rfl, rfl⟩
  rw [State.secEnd_eq]
  split
  · exact (State.msix_secRest _ _ _).trans hresult
  · exact hresult

theorem State.secEnd_fault (s : State) (p : Nat) (e : SecEnd) : (s.secEnd p e).fault = (s.secResult p e).fault := by
  rw [State.secEnd_eq]
  split
  · exact State.msix_fault _ _ _
  · rfl

/-- Only a failed authentication makes an entry (17 R660). -/
theorem State.secEnd_fault_of_ne (s : State) (p : Nat) {e : SecEnd} (h : e.status ≠ 0x18) : (s.secEnd p e).fault = s.fault := by
  rw [State.secEnd_fault, State.secResult, if_neg h]
  rfl

theorem State.secFailed_fault (s : State) (p reason : Nat) : (s.secFailed p reason).fault = (s.logEvent 0x60 4 p 2 0 0).fault := by
  unfold State.secFailed
  dsimp only
  split <;> rfl

/-- A failed authentication is logged (17 R660). -/
theorem State.secEnd_logged (s : State) (p : Nat) {e : SecEnd} (h : e.status = 0x18) : logged s (s.secEnd p e) 0x60 p := by
  refine logged_congr ((s.secClosed p e).logEvent_logged 0x60 4 p 2 0 0) rfl rfl ?_
  rw [State.secEnd_fault, State.secResult, if_pos h, State.secFailed_fault]

/-- Of the security state the end of a command writes the mailboxes and the order of the commands that wait. -/
theorem State.secEnd_sec_rest (s : State) (p : Nat) (e : SecEnd) :
    (s.secEnd p e).sec = { s.sec with box := (s.secEnd p e).sec.box, order := (s.secEnd p e).sec.order } := by
  rw [State.secEnd_sec]
  split
  · obtain ⟨t, ht, -, h⟩ := (s.secClosed p e).secFailed_cases p e.reason
    rw [h]
    split
    · simp only [State.putBox, State.setSec, ht]
      rfl
    · rw [ht]
      rfl
  · rfl

theorem State.secEnd_unlocked (s : State) (p : Nat) (e : SecEnd) : (s.secEnd p e).sec.unlocked = s.sec.unlocked :=
  (congrArg SecSt.unlocked (s.secEnd_sec_rest p e)).trans rfl
theorem State.secEnd_next (s : State) (p : Nat) (e : SecEnd) : (s.secEnd p e).sec.next = s.sec.next :=
  (congrArg SecSt.next (s.secEnd_sec_rest p e)).trans rfl

/-- The end of a command leaves key and counter of every port. -/
theorem State.secEnd_keys (s : State) (p x : Port) (e : SecEnd) :
    ((s.secEnd p e).box x).key = (s.box x).key ∧ ((s.secEnd p e).box x).ctr = (s.box x).ctr := by
  by_cases hx : x = p
  · subst hx
    rw [State.secEnd_box]
    exact ⟨rfl, rfl⟩
  · have hother (t : State) (m : Mailbox) : (t.putBox p m).box x = t.box x := by
      rw [State.box, State.putBox, State.setSec_sec, vget_vset _ _ _ _ _ p.isLt, if_neg (fun h => hx (Fin.ext h))]
      rfl
    have hbox : (s.secEnd p e).box x = s.box x := by
      rw [State.box_congr x (congrArg SecSt.box (s.secEnd_sec p e))]
      split
      · obtain ⟨t, ht, -, h⟩ := (s.secClosed p e).secFailed_cases p e.reason
        have htbox : t.box x = s.box x := (State.box_congr x (congrArg SecSt.box ht)).trans (hother _ _)
        rw [h]
        split
        · rw [hother, htbox]
        · exact htbox
      · exact hother _ _
    rw [hbox]
    exact ⟨rfl, rfl⟩

/-! ## A command that passes its checks -/

/-- A command with a tag that leaves the mailboxes ends with its status, its counter used (17 R655, R659). -/
theorem secEnded_of_used {s u : State} {p : Port} {op : Nat} (h : secGoes s p op) (hsec : u.sec.box = (s.secUsed p).sec.box)
    (hord : u.sec.order = (s.secUsed p).sec.order) (e : SecEnd) :
    secEnded s (u.secEnd p e) p (BitVec.ofNat 8 e.status) ∧ ((u.secEnd p e).box p).ctr = BitVec.ofNat 64 (s.box p).counter := by
  have hbox : u.box p = (s.secUsed p).box p := State.box_congr p hsec
  refine ⟨secEnded_secEnd e (by rw [hbox, State.secUsed_cmd]) (Eq.trans (b := s.sec.order) hord (order_of_secGoes h)), ?_⟩
  rw [(u.secEnd_keys p p e).2, hbox, State.secUsed_box]

/-- What a command with a tag that leaves the order of commands does when it is taken. -/
theorem State.secTake_used {s u : State} {p : Port} {op : Nat} {e : SecEnd} {f : State → Mailbox → State × SecEnd}
    (h : secGoes s p op) (ht : secTagged op = true) (hf : f (s.secUsed p) ((s.secUsed p).box p) = (u, e))
    (hord : u.sec.order = (s.secUsed p).sec.order) : s.secTake p op f = u.secEnd p e :=
  State.secTake_of_goes h ht hf (Eq.trans (b := s.sec.order) hord (order_of_secGoes h))

/-! ## SET_POWER_PROFILE -/

/-- The power profile that a command sets (15 R603). -/
def State.profileSet (s : State) (n : Nat) : State := s.setPower { s.power with profCmd := BitVec.ofNat 2 n }

theorem exec_setPowerProfile_goes {s : State} {p : Port} (h : secGoes s p 3) (hz : (s.box p).zeroFrom 17 = true)
    (hlt : (s.box p).field 16 1 < 4) :
    exec (.setPowerProfile p) s = .next (((s.secUsed p).profileSet ((s.box p).field 16 1)).secEnd p secDone) := by
  refine congrArg Host.Outcome.next (State.secTake_used h rfl ?_ rfl)
  dsimp only
  rw [Mailbox.zeroFrom_congr (s.secUsed_cmd p), Mailbox.field_congr (s.secUsed_cmd p), if_neg (by simp [hz]; omega)]
  rfl

/-! ## TAKEOVER_QUEUES -/

theorem tget_foldl_put {α : Type} [DecidableEq α] {d : α} {g : α → α} (hg : ∀ x, g (g x) = g x) (l : List Nat) (t : Table α) (k : Nat) :
    tget d (l.foldl (fun t q => tput d t q (g (tget d t q))) t) k = if k ∈ l then g (tget d t k) else tget d t k := by
  induction l generalizing t with
  | nil => simp
  | cons q l ih =>
    rw [List.foldl_cons, ih, tget_tput]
    by_cases hk : k = q
    · subst hk
      simp [hg]
    · simp [hk]

/-- A queue that changes its port waits for a rebase where its ring is in host memory (14 R573). -/
def QueueSt.taken (x : QueueSt) : QueueSt := { x with rebase := x.rebase || x.hostRing }

theorem QueueSt.taken_taken (x : QueueSt) : x.taken.taken = x.taken := by
  change { x with rebase := (x.rebase || x.hostRing) || x.hostRing } = x.taken
  rw [Bool.or_assoc, Bool.or_self]
  rfl

/-- A takeover but for its watches and its entry (14 R571). -/
def State.ownersTaken (s : State) (p : Nat) : State :=
  (s.setQueues ((s.othersQueues p).foldl (fun t q => tput QueueSt.reset t q (tget QueueSt.reset t q).taken) s.queues)).setStart
    { s.start with qOwner := if p = 0 then 0 else BitVec.allOnes 176, ctxOwner := if p = 0 then 0 else BitVec.allOnes 64 }

/-- What a takeover of `n` queues reports, with the firmware session at its port (14 R576, 18 R682). -/
def State.takeoverNoted (s : State) (p n : Nat) : State :=
  let t := s.setTakeLast (BitVec.ofNat 32 (2 ^ 31 + p * 2 ^ 30 + n))
  t.setFwu { t.fwu with port := if t.fwu.isOpen then p else t.fwu.port }

theorem State.takeover_eq (s : State) (p : Nat) : s.takeover p =
    (((s.ownersTaken p).dropHostWatches (1 - p)).takeoverNoted p (s.othersQueues p).length).logEvent 2 4 p 0 0 0 := rfl

/-- The state in which the entry of a takeover is made, where no host watch is withdrawn. -/
def State.takeoverDone (s : State) (p : Nat) : State := (s.ownersTaken p).takeoverNoted p (s.othersQueues p).length

theorem State.dropHostWatches_of_none {s : State} {p : Nat} (h : ∀ n, (s.hostWatch p n).ctl.getLsbD 31 = false) : s.dropHostWatches p = s :=
  foldl_keeps (P := fun t => t = s) _ (fun t i ht => by
    subst ht
    exact if_neg (by rw [show tget (⟨0, 0⟩ : HostWatch) t.sync.host (64 * p + i) = t.hostWatch p i from rfl, h]; simp)) _ s rfl

theorem State.takeover_of_no_watch {s : State} {p : Nat} (h : ∀ n, (s.hostWatch (1 - p) n).ctl.getLsbD 31 = false) :
    s.takeover p = (s.takeoverDone p).logEvent 2 4 p 0 0 0 := by
  have hdrop : (s.ownersTaken p).dropHostWatches (1 - p) = s.ownersTaken p := State.dropHostWatches_of_none h
  rw [State.takeover_eq, hdrop, State.takeoverDone]

theorem State.ownersTaken_queue (s : State) (p q : Nat) :
    (s.ownersTaken p).queue q = if q ∈ s.othersQueues p then (s.queue q).taken else s.queue q :=
  tget_foldl_put QueueSt.taken_taken _ _ _

theorem b01_testBit_owner {w : Nat} (p : Port) {q : Nat} (h : q < w) :
    b01 ((if p.val = 0 then 0 else BitVec.allOnes w : BitVec w).toNat.testBit q) = p.val := by
  match p with
  | 0 => simp [b01]
  | 1 => simp [b01, h]

/-- TAKEOVER_QUEUES when it is taken (14 R571). -/
theorem exec_takeoverQueues_goes {s : State} {p : Port} (h : secGoes s p 4) (hz : (s.box p).zeroFrom 16 = true) :
    exec (.takeoverQueues p) s = .next (((s.secUsed p).takeover p).secEnd p secDone) := by
  have hsec := (s.secUsed p).takeover_sec p
  refine congrArg Host.Outcome.next (State.secTake_used h rfl ?_ (congrArg SecSt.order hsec))
  rw [Mailbox.zeroFrom_congr (s.secUsed_cmd p), if_pos hz]

theorem takeover_settles {s : State} {p : Port} (h : secGoes s p 4) (hz : (s.box p).zeroFrom 16 = true)
    (hw : ∀ n, (s.hostWatch (1 - p.val) n).ctl.getLsbD 31 = false) :
    ∃ t, exec (.takeoverQueues p) s = .next t ∧ secEnded s t p 0 ∧ (t.box p).ctr = BitVec.ofNat 64 (s.box p).counter ∧
      (∀ q, q < 176 → t.qOwner q = p) ∧ (∀ x, x < 64 → t.ctxOwner x = p) ∧ (∀ q, q < 176 → (t.queue q).items = (s.queue q).items) ∧
      (∀ q, q < 176 → s.qOwner q ≠ p → (s.queue q).hostRing = true → (t.queue q).rebase = true) ∧
      (∃ e ∈ t.fault.log, e.cls = 0x02 ∧ e.unit = p.val ∧ e.seq = s.fault.seq + 1) := by
  have htake : (s.secUsed p).takeover p = ((s.secUsed p).takeoverDone p).logEvent 2 4 p 0 0 0 := State.takeover_of_no_watch hw
  have hsec := (s.secUsed p).takeover_sec p
  obtain ⟨hend, hctr⟩ := secEnded_of_used h (congrArg SecSt.box hsec) (congrArg SecSt.order hsec) secDone
  have hrest := ((s.secUsed p).takeover p).secEnd_rest p secDone
  have hlog := ((s.secUsed p).takeoverDone p).logEvent_secRest 2 4 p 0 0 0
  rw [← htake] at hlog
  have hdone := hrest.trans hlog
  have hqueue (q : Nat) : (((s.secUsed p).takeover p).secEnd p secDone).queue q = ((s.secUsed p).ownersTaken p).queue q :=
    congrArg (tget QueueSt.reset · q) hdone.queues
  refine ⟨_, exec_takeoverQueues_goes h hz, hend, hctr, fun q hq => ?_, fun x hx => ?_, fun q hq => ?_, fun q hq howner hring => ?_, ?_⟩
  · rw [State.qOwner, hdone.start]
    exact b01_testBit_owner p hq
  · rw [State.ctxOwner, hdone.start]
    exact b01_testBit_owner p hx
  · rw [hqueue, State.ownersTaken_queue]
    split <;> rfl
  · have hmem : q ∈ (s.secUsed p).othersQueues p := List.mem_filter.mpr ⟨List.mem_range.mpr hq, decide_eq_true howner⟩
    rw [hqueue, State.ownersTaken_queue, if_pos hmem]
    exact Bool.or_eq_true_iff.mpr (.inr hring)
  · refine ⟨((s.secUsed p).takeoverDone p).entry 2 4 p 0 0 0, ?_, rfl, rfl, rfl⟩
    rw [State.secEnd_fault_of_ne _ _ (by decide), htake]
    exact List.mem_of_getLast? (State.logEvent_newest _ ..)

/-! ## DEBUG_UNLOCK -/

/-- Debug unlocked or locked (17 R675). -/
def State.debugSet (s : State) (b : Bool) : State := s.setSec { s.sec with unlocked := b }

/-- DEBUG_UNLOCK with a good operand, by what it gives when it is taken (17 R675). -/
theorem exec_debugUnlock_goes {s u : State} {p : Port} {e : SecEnd} (h : secGoes s p 5) (hz : (s.box p).zeroFrom 17 = true)
    (hlt : (s.box p).field 16 1 < 2) (hord : u.sec.order = (s.secUsed p).sec.order)
    (hu : (if (s.box p).field 16 1 = 1 then ((s.secUsed p).debugSet false, secDone)
      else if !s.start.img.allowDebug then (s.secUsed p, secAuth 0x08)
      else if s.sec.debugOff then (s.secUsed p, secAuth 0x09) else ((s.secUsed p).debugSet true, secDone)) = (u, e)) :
    exec (.debugUnlock p) s = .next (u.secEnd p e) := by
  refine congrArg Host.Outcome.next (State.secTake_used h rfl ?_ hord)
  dsimp only
  rw [Mailbox.zeroFrom_congr (s.secUsed_cmd p), Mailbox.field_congr (s.secUsed_cmd p), if_neg (by simp [hz]; omega)]
  exact hu

/-- Settles O40: each command writes its own part of the state, and its end the mailbox, the log and the Tally alone. -/
theorem authenticatedSettings : Obligations.AuthenticatedSettings := by
  unfold Obligations.AuthenticatedSettings
  refine fun s p => ⟨fun h hz hlt => ?profile, takeover_settles, fun h hz hop => ?lock, fun h hz hop hallow hoff => ?unlock,
    fun h hz hop hallow => ?refused⟩
  case profile =>
    obtain ⟨hend, hctr⟩ := secEnded_of_used (u := (s.secUsed p).profileSet ((s.box p).field 16 1)) h rfl rfl secDone
    have hrest := ((s.secUsed p).profileSet ((s.box p).field 16 1)).secEnd_rest p secDone
    exact ⟨_, exec_setPowerProfile_goes h hz hlt, hend, congrArg PowerSt.profCmd hrest.power, hctr, hrest.mem, hrest.queues⟩
  case lock =>
    obtain ⟨hend, hctr⟩ := secEnded_of_used (u := (s.secUsed p).debugSet false) h rfl rfl secDone
    exact ⟨_, exec_debugUnlock_goes (u := (s.secUsed p).debugSet false) (e := secDone) h hz (by omega) rfl (if_pos hop), hend, hctr,
      State.secEnd_unlocked _ _ _⟩
  case unlock =>
    obtain ⟨hend, hctr⟩ := secEnded_of_used (u := (s.secUsed p).debugSet true) h rfl rfl secDone
    exact ⟨_, exec_debugUnlock_goes (u := (s.secUsed p).debugSet true) (e := secDone) h hz (by omega) rfl (by simp [hop, hallow, hoff]), hend,
      hctr, State.secEnd_unlocked _ _ _⟩
  case refused =>
    obtain ⟨hend, hctr⟩ := secEnded_of_used (u := s.secUsed p) h rfl rfl (secAuth 0x08)
    exact ⟨_, exec_debugUnlock_goes (u := s.secUsed p) (e := secAuth 0x08) h hz (by omega) rfl (by simp [hop, hallow]), hend, hctr,
      State.secEnd_unlocked _ _ _, logged_congr ((s.secUsed p).secEnd_logged p rfl) rfl rfl rfl⟩

end Sys2Proof.Machine
end

section
/-!
PROOFS. Identity, attestation, and the sending of mailbox commands (17 R653 to R662, R668 to R672).
-/
namespace Sys2Proof.Machine

open Sys2Proof.Claims

/-- A command without a tag that passes its checks acts, and ends with what it answers (17 R658). -/
theorem State.secTake_untagged {s u : State} {p : Port} {op : Nat} {e : SecEnd} {f : State → Mailbox → State × SecEnd}
    (h : secGoes s p op) (ht : secTagged op = false) (hf : f s (s.box p) = (u, e)) (hord : u.sec.order = s.sec.order) :
    s.secTake p op f = u.secEnd p e := by
  have ho := hord.trans (order_of_secGoes h)
  obtain ⟨hr, hb, hs, hop, hc⟩ := h
  unfold State.secTake
  rw [if_neg (by simp [hr, hb, hs, hop]), hc]
  dsimp only
  rw [if_neg (by simp [ht]), hf]
  exact State.secNext_of_order_nil (State.secEnd_order_only e ho)

theorem State.secEnd_out (s : State) (p : Port) (e : SecEnd) : ((s.secEnd p e).box p).out = e.out := by
  rw [State.secEnd_box]
  rfl

theorem exec_getIdentity_goes {s : State} {p : Port} (h : secGoes s p 0x10) (hz : (s.box p).zeroFrom 16 = true) :
    exec (.getIdentity p) s = .next (s.secEnd p ⟨0, 0, s.certificate⟩) :=
  congrArg Host.Outcome.next (State.secTake_untagged h rfl (if_pos hz) rfl)

/-- What ATTEST gives: the evidence of a nonce with its signature (17 R670, R672). -/
def State.attested (s : State) (nonce : List Byte) : List Byte :=
  s.evidence nonce ++ fitBytes 2820 (Config.deviceSignature s.sec.next (s.evidence nonce))

/-- ATTEST with an index left (17 R670). -/
theorem exec_attest_goes {s : State} {p : Port} (h : secGoes s p 0x11) (hleft : s.sec.next < 1048576) :
    exec (.attest p) s = .next ((s.setSec s.sec.useIndex).secEnd p ⟨0, 0, s.attested (((s.box p).bytes.drop 16).take 32)⟩) :=
  congrArg Host.Outcome.next (State.secTake_untagged h rfl (if_neg (by omega)) rfl)

/-- A command with a known opcode that no other precedes waits until it is taken (17 R653, R654). -/
theorem exec_secCtlGo_waits {s : State} {p : Port} (hbusy : (s.box p).busy = false) (hopen : s.barOpen = true)
    (hback : s.inBackoff p = false) (hord : s.sec.order = []) (hop : secOpcodes.elem (s.box p).op = true) :
    exec (.secCtlGo p) s = .next (s.secSent p) := by
  have hin : (s.secSent p).inBackoff p = false := by
    rw [← hback, State.inBackoff, State.inBackoff, State.secSent_box]
    rfl
  have hsent : ((s.secSent p).box p).op = (s.box p).op := by rw [State.secSent_box]; exact Mailbox.op_congr rfl
  have horder : (s.secSent p).sec.order = [p.val] := congrArg (· ++ [p.val]) hord
  have hstray : (s.secSent p).secStray = none := by
    rw [State.secStray, horder]
    exact if_neg (by simp only [hsent, hop]; simp)
  have hnext1 : (s.secSent p).secNext1 = s.secSent p := by rw [State.secNext1, hstray]
  have hnext : (s.secSent p).secNext = s.secSent p := by rw [State.secNext, hnext1, hnext1]
  change execSecCtlGo p s = _
  rw [execSecCtlGo, if_neg (by simp [hbusy, hopen])]
  have hcond : ¬((s.secSent p).secReady && (s.secSent p).inBackoff p) = true := by simp [hin]
  exact congrArg Host.Outcome.next ((if_neg hcond).trans hnext)

theorem exec_setPowerProfile_fails {s : State} {p : Port} {e : SecEnd} (hr : s.secReady = true) (hb : (s.box p).busy = true)
    (ho : s.sec.order = [p.val]) (hop : (s.box p).op = 3) (hc : s.secCheck p = some e) :
    exec (.setPowerProfile p) s = .next (s.secEnd p e) :=
  congrArg Host.Outcome.next (State.secTake_of_check _ hr hb ho hop hc)

/-- Settles O42: the end of a command gives its output, and a failed tag writes the mailbox, the log and the Tally alone. -/
theorem identityAndMailboxes : Obligations.IdentityAndMailboxes := by
  unfold Obligations.IdentityAndMailboxes
  refine fun s p => ⟨fun h hz => ?identity, fun h hleft => ?attest, fun hbusy hopen hr hback hord hop => ?go,
    fun hr hb ho hop hc => ?badTag, fun hsome hback => ?backoff⟩
  case identity =>
    exact ⟨_, exec_getIdentity_goes h hz, secEnded_secEnd _ rfl (order_of_secGoes h), State.secEnd_out _ _ _, State.secEnd_next _ _ _⟩
  case attest =>
    exact ⟨_, _, exec_attest_goes h hleft, secEnded_secEnd (u := s.setSec s.sec.useIndex) _ rfl (order_of_secGoes h), rfl,
      State.secEnd_out _ _ _, State.secEnd_next _ _ _⟩
  case go =>
    refine ⟨_, exec_secCtlGo_waits hbusy hopen hback hord hop, ?_, congrArg (· ++ [p.val]) hord⟩
    rw [State.secSent_box]
  case badTag =>
    have hbox := s.secEnd_box p (secAuth 1)
    refine ⟨_, exec_setPowerProfile_fails hr hb ho hop hc, secEnded_secEnd _ rfl ho, ?_, ?_, (s.secEnd_keys p p _).2, (s.secEnd_rest p _).power,
      s.secEnd_logged p rfl⟩
    · rw [hbox]; rfl
    · rw [hbox]; rfl
  case backoff =>
    have hbox := State.box_putBox_same s p { s.box p with backoff := none }
    exact ⟨_, congrArg Host.Outcome.next (if_pos (by simp [hsome, hback])), (congrArg Mailbox.backoff hbox :), (congrArg Mailbox.ctr hbox :)⟩

end Sys2Proof.Machine
end

section
/-!
PROOFS. LOAD_CONFIG, ACTIVATE_FIRMWARE, RESET_DEVICE and ZEROIZE (14 R552, 16 R643 to R646, 17 R667, 18 R688, R689).
-/
namespace Sys2Proof.Machine

open Sys2Proof.Claims

/-! ## Images that a command loads -/

/-- An image with its checks passed is loaded (16 R643, 17 R665). -/
theorem State.loadConfig_image {s : State} {p : Nat} {m : Mailbox} {i : Image} (hform : m.loadForm = true)
    (hquiet : (m.field 28 1).testBit 0 = true ∨ s.quiet = true) (hread : s.loadRead (m.field 16 8) (m.field 24 4) = none)
    (himage : readImage s.imageEnv 2 ((m.field 28 1).testBit 0) (s.bytes (m.field 16 8) (m.field 24 4)) = .inl i) :
    s.loadConfig p m = (s.loaded p i ((m.field 28 1).testBit 0) ((m.field 28 1).testBit 1), secDone) := by
  unfold State.loadConfig
  dsimp only
  rw [if_neg (by simp [hform]), if_neg (by rcases hquiet with h | h <;> simp [h]), hread]
  dsimp only
  rw [himage]

theorem Mailbox.loadForm_congr {m n : Mailbox} (h : m.cmd = n.cmd) : m.loadForm = n.loadForm := by
  simp only [Mailbox.loadForm, Mailbox.field_congr h, Mailbox.zeroFrom_congr h]

/-- LOAD_CONFIG when it is taken, by its operands. -/
theorem exec_loadConfig_goes {s : State} {p : Port} {i : Image} (h : secGoes s p 1) (htap : s.tapHolds = false)
    (hform : (s.box p).loadForm = true) (hquiet : ((s.box p).field 28 1).testBit 0 = true ∨ s.quiet = true)
    (hread : s.loadRead ((s.box p).field 16 8) ((s.box p).field 24 4) = none)
    (himage : readImage s.imageEnv 2 (((s.box p).field 28 1).testBit 0) (s.bytes ((s.box p).field 16 8) ((s.box p).field 24 4)) = .inl i)
    (hord : ((s.secUsed p).loaded p i (((s.box p).field 28 1).testBit 0) (((s.box p).field 28 1).testBit 1)).sec.order =
      (s.secUsed p).sec.order) :
    exec (.loadConfig p) s =
      .next (((s.secUsed p).loaded p i (((s.box p).field 28 1).testBit 0) (((s.box p).field 28 1).testBit 1)).secEnd p secDone) := by
  have hfield (off n : Nat) := Mailbox.field_congr (s.secUsed_cmd p) off n
  refine congrArg Host.Outcome.next ((if_neg (by simp [htap])).trans (State.secTake_used h rfl ?_ hord))
  have hload := State.loadConfig_image (s := s.secUsed p) (p := p) (m := (s.secUsed p).box p) (i := i)
    (by rw [Mailbox.loadForm_congr (s.secUsed_cmd p), hform]) (by rw [hfield]; exact hquiet) (by rw [hfield, hfield]; exact hread)
    (by rw [hfield, hfield, hfield]; exact himage)
  rw [hfield] at hload
  exact hload

/-! ## A full load -/

theorem State.setGates_start (s : State) (g : Word) (g1 : BitVec 12) : (s.setGates g g1).start = s.start :=
  ((steady_logFrame.drainAll _).start.trans (steady_logFrame.gateUpdates _).start).trans (State.gateLinks_steady _).start

theorem State.linkUnder_start (l : List Nat) (s : State) : (l.foldl State.linkUnder s).start = s.start := by
  induction l generalizing s with
  | nil => rfl
  | cons p l ih => exact (ih (s.linkUnder p)).trans rfl

/-- An image in force is the one that was given, and leaves the owners. -/
theorem State.applyImage_start (s : State) (m : Image) (g : BitVec 12) :
    (s.applyImage m g).start.img = m ∧ (s.applyImage m g).start.qOwner = s.start.qOwner ∧
      (s.applyImage m g).start.ctxOwner = s.start.ctxOwner := by
  unfold State.applyImage
  dsimp only
  rw [State.linkUnder_start, State.setFab_start, State.setGates_start]
  exact ⟨rfl, rfl, rfl⟩

theorem State.dropHostWatches_steady (s : State) (p : Nat) : Steady (s.dropHostWatches p) s :=
  steady_frame.foldl (fun t _ => steady_frame.ite ((steady_frame.sync _ _ _ _ _ _ _ (.inl rfl)).trans (steady_frame.withdraw t _)) .rfl) _ s

/-- A full load up to its queues: the image is in force, and streams and host watches are gone (16 R644). -/
def State.imageTaken (s : State) (p : Nat) (m : Image) : State :=
  ((((s.setOwners m).applyImage m (m.gate1 ||| (1#12 <<< (8 + p)))).freeStreams.dropHostWatches 0).dropHostWatches 1).setKe []

/-- The queues of a full load (16 R644). -/
def State.queuesReloaded (s : State) : State :=
  let opens := (List.range 11).filter s.engineOpen
  s.setQueues ((List.range 176).foldl (fun l q =>
    tput QueueSt.reset l q ((tget QueueSt.reset l q).reload (opens.elem (engineOf q)))) s.queues)

/-- The host links, windows and debug state of a full load (16 R644). -/
def State.loadClosed (s : State) (sris : BitVec 2) (m : Image) : State :=
  let t := ((s.reclock sris 0).reclock sris 1).rollWindow
  t.setSec { t.sec with unlocked := t.sec.unlocked && m.allowDebug }

theorem State.fullLoad_eq (s : State) (p : Nat) (m : Image) :
    s.fullLoad p m false = ((s.imageTaken p m).queuesReloaded).loadClosed s.power.sris m := rfl

theorem State.imageTaken_steady (s : State) (p : Nat) (m : Image) :
    Steady (s.imageTaken p m) ((s.setOwners m).applyImage m (m.gate1 ||| (1#12 <<< (8 + p)))).freeStreams :=
  (steady_frame.ke _ _).trans ((State.dropHostWatches_steady _ _).trans (State.dropHostWatches_steady _ _))

theorem State.loadClosed_rest (s : State) (sris : BitVec 2) (m : Image) :
    (s.loadClosed sris m).start = s.start ∧ (s.loadClosed sris m).mem = s.mem ∧ (s.loadClosed sris m).queues = s.queues := by
  have hclock (t : State) (p : Nat) : (t.reclock sris p).start = t.start ∧ (t.reclock sris p).mem = t.mem ∧ (t.reclock sris p).queues = t.queues := by
    unfold State.reclock
    split <;> exact ⟨rfl, rfl, rfl⟩
  obtain ⟨hstart0, hmem0, hqueues0⟩ := hclock s 0
  obtain ⟨hstart, hmem, hqueues⟩ := hclock (s.reclock sris 0) 1
  exact ⟨hstart.trans hstart0, hmem.trans hmem0, hqueues.trans hqueues0⟩

theorem State.queuesReloaded_queue (s : State) {q : Nat} (h : q < 176) :
    (s.queuesReloaded.queue q).st = .stopped ∨ (s.queuesReloaded.queue q).st = .closed := by
  have hq := (tget_foldl_range (d := QueueSt.reset) (fun q x => x.reload (((List.range 11).filter s.engineOpen).elem (engineOf q)))
    s.queues 176 q).trans (if_pos h)
  have hreload (x : QueueSt) (b : Bool) : (x.reload b).st = if b then .stopped else .closed := rfl
  rw [State.queue, State.queuesReloaded, State.setQueues_queues, hq, hreload]
  split
  · exact .inl rfl
  · exact .inr rfl

/-- What a full load leaves: the image with its owners, no stream, and every queue STOPPED or CLOSED (16 R644). -/
structure Reloaded (t : State) (m : Image) : Prop where
  img : t.start.img = m
  qOwner : t.start.qOwner = m.qOwner
  ctxOwner : t.start.ctxOwner = m.ctxOwner
  streams : t.mem.streams = []
  closed : ∀ q, q < 176 → (t.queue q).st = .stopped ∨ (t.queue q).st = .closed

theorem State.freeStreams_leaves (s : State) : s.freeStreams.start = s.start ∧ s.freeStreams.mem.streams = [] := ⟨rfl, rfl⟩

theorem State.fullLoad_leaves (s : State) (p : Nat) (m : Image) : Reloaded (s.fullLoad p m false) m := by
  obtain ⟨himg, hq, hx⟩ := (s.setOwners m).applyImage_start m (m.gate1 ||| (1#12 <<< (8 + p)))
  have htaken := s.imageTaken_steady p m
  obtain ⟨hstart, hmem, hqueues⟩ := (s.imageTaken p m).queuesReloaded.loadClosed_rest s.power.sris m
  obtain ⟨hfree, hnone⟩ := ((s.setOwners m).applyImage m (m.gate1 ||| (1#12 <<< (8 + p)))).freeStreams_leaves
  have hstart' := (hstart.trans (State.setQueues_start _ _)).trans (htaken.start.trans hfree)
  have hreloaded : (s.imageTaken p m).queuesReloaded.mem = (s.imageTaken p m).mem := State.setQueues_mem _ _
  rw [State.fullLoad_eq]
  refine ⟨?_, ?_, ?_, ?_, fun q hlt => ?_⟩
  · rw [hstart', himg]
  · rw [hstart', hq, State.setOwners, State.setStart_start]
  · rw [hstart', hx, State.setOwners, State.setStart_start]
  · rw [hmem, hreloaded, htaken.streams, hnone]
  · have hclosed := (s.imageTaken p m).queuesReloaded_queue hlt
    rwa [State.queue, ← hqueues] at hclosed

/-- The command ends with what a full load left. -/
theorem Reloaded.congr {t u : State} {m : Image} (h : Reloaded t m) (hstart : u.start = t.start) (hmem : u.mem = t.mem)
    (hqueues : u.queues = t.queues) : Reloaded u m :=
  ⟨by rw [hstart, h.img], by rw [hstart, h.qOwner], by rw [hstart, h.ctxOwner], by rw [hmem, h.streams],
    fun q hq => by rw [State.queue, hqueues]; exact h.closed q hq⟩

theorem State.loaded_live (s : State) (p : Nat) (i : Image) (keep : Bool) : s.loaded p i true keep = s.liveLoad i := if_pos rfl

theorem State.waitsImage_loaded {s : State} (p : Nat) (i : Image) (h : s.waitsImage = false) : s.loaded p i false false = s.fullLoad p i false :=
  (if_neg (by decide)).trans (if_neg (by simp [h]))

/-! ## ACTIVATE_FIRMWARE -/

theorem State.activateCheck_used (s : State) (p target herd : Nat) (b : Bool) :
    (s.secUsed p).activateCheck target herd b = s.activateCheck target herd b := rfl

/-- What an activation schedules, on the master of its herd or alone, and on another member (18 R689). -/
theorem State.activate_target (s : State) (target herd : Nat) (noHerd : Bool) :
    if noHerd = true ∨ (s.herd herd).master = s.device then
      (s.activate target herd noHerd).fwu.actState = 2 ∧ (s.activate target herd noHerd).fwu.actTarget = BitVec.ofNat 64 target
    else (s.activate target herd noHerd).fwu.actState = 1 := by
  by_cases h : noHerd = true ∨ (s.herd herd).master = s.device
  · have hown : (noHerd || decide ((s.herd herd).master = s.device)) = true := by simpa using h
    simp only [State.activate, State.setFwu_fwu, hown, if_pos h, if_true, and_self]
  · have hown : (noHerd || decide ((s.herd herd).master = s.device)) = false := by simpa using h
    simp only [State.activate, State.setFwu_fwu, hown, if_neg h, Bool.false_eq_true, if_false]

theorem exec_activateFirmware_goes {s : State} {p : Port} (h : secGoes s p 2) (hz : (s.box p).zeroFrom 25 = true)
    (hbit : ((s.box p).field 24 1).testBit 6 = false)
    (hc : s.activateCheck ((s.box p).field 16 8) ((s.box p).field 24 1 % 64) (((s.box p).field 24 1).testBit 7) = none) :
    exec (.activateFirmware p) s = .next (((s.secUsed p).activate ((s.box p).field 16 8) ((s.box p).field 24 1 % 64)
      (((s.box p).field 24 1).testBit 7)).secEnd p secDone) := by
  have hfield (off n : Nat) := Mailbox.field_congr (s.secUsed_cmd p) off n
  refine congrArg Host.Outcome.next (State.secTake_used h rfl ?_ rfl)
  dsimp only
  rw [hfield, hfield, Mailbox.zeroFrom_congr (s.secUsed_cmd p), if_neg (by simp [hz, hbit]), State.activateCheck_used, hc]

/-! ## A reset that a command asks for -/

/-- What a mailbox command leaves says what a command that asks for a reset leaves (17 R655). -/
theorem secEnded_congr {s t u : State} {p : Port} {st : Byte} (h : secEnded s t p st) (hsec : u.sec = t.sec) : secEnded s u p st := by
  have hbox : u.box p = t.box p := State.box_congr p (congrArg SecSt.box hsec)
  rw [secEnded, hbox, hsec]
  exact h

/-- A request that nothing holds is taken at its tick (14 R552). -/
theorem State.requestReset_atTick {s : State} (g : Nat) (tk : DWord) (hcmd : s.commanding = true) (hdrain : s.draining = false)
    (hhot : s.hot = false) : s.requestReset g tk = s.atTick tk fun t => t.beginReset g := by
  rw [State.requestReset, if_neg (by simp [hcmd]), if_neg (by simp [hdrain, hhot])]

theorem State.atTick_beginReset (s : State) (g : Nat) (tk : DWord) :
    (s.atTick tk fun t => t.beginReset g).fault.pending = some (g, tk) ∧ (s.atTick tk fun t => t.beginReset g).sec = s.sec ∧
      (s.atTick tk fun t => t.beginReset g).start = s.start := by
  let t := s.setSync { s.sync with dtc := tk }
  have hquiet := t.beginReset_quiet g
  have hlog := (t.asked g).logEvent_steady 1 0 0 4 g 0
  exact ⟨(congrArg FaultSt.pending hquiet.fault).trans (t.asked_pending ..), hquiet.sec.trans hlog.sec, hquiet.start.trans hlog.start⟩

theorem State.secEnd_ready (s : State) (p : Nat) {e : SecEnd} (h : e.status ≠ 0x18) : (s.secEnd p e).commanding = s.commanding ∧
    (s.secEnd p e).draining = s.draining ∧ (s.secEnd p e).hot = s.hot ∧ (s.secEnd p e).now = s.now := by
  have hrest := s.secEnd_rest p e
  have hfault := s.secEnd_fault_of_ne p h
  simp only [State.commanding, State.started, State.draining, State.hot, State.now, hrest.power, hrest.start, hrest.fwu, hrest.sync, hfault,
    and_self]

/-- A command that asks for a reset, once its end has been written. -/
theorem State.resetAfter_taken {u : State} {p : Port} (tk : DWord) (hcmd : u.commanding = true) (hdrain : u.draining = false)
    (hhot : u.hot = false) :
    (u.secEnd p secDone).requestReset 0 tk = (u.secEnd p secDone).atTick tk fun t => t.beginReset 0 := by
  obtain ⟨hcmd', hdrain', hhot', -⟩ := u.secEnd_ready p (e := secDone) (by decide)
  exact State.requestReset_atTick 0 tk (hcmd'.trans hcmd) (hdrain'.trans hdrain) (hhot'.trans hhot)

theorem exec_resetDevice_goes {s : State} {p : Port} (h : secGoes s p 8) (hz : (s.box p).zeroFrom 16 = true) :
    exec (.resetDevice p) s =
      .next (((s.secUsed p).secEnd p secDone).requestReset 0 (((s.secUsed p).secEnd p secDone).now + 1)) := by
  have htake : (s.secTake p 8 fun t m => if m.zeroFrom 16 then (t, secDone) else (t, secBad)) = (s.secUsed p).secEnd p secDone := by
    refine State.secTake_used h rfl ?_ rfl
    rw [Mailbox.zeroFrom_congr (s.secUsed_cmd p), if_pos hz]
  obtain ⟨hr, hb, hs, hop, hc⟩ := h
  change execResetDevice p s = _
  rw [execResetDevice, htake]
  exact congrArg Host.Outcome.next (if_pos (by simp [hr, hb, hs, hop, hc, hz]))

/-! ## ZEROIZE -/

/-- No item waits for its record in any queue. -/
theorem State.openItems_of_quiet {s : State} (h : s.quiet = true) : s.openItems = [] := by
  simp only [State.quiet, Bool.and_eq_true, List.all_eq_true, List.isEmpty_iff] at h
  obtain ⟨⟨hitems, -⟩, -⟩ := h
  simp only [State.openItems, List.flatten_eq_nil_iff, List.mem_map]
  rintro l ⟨e, he, rfl⟩
  rw [(hitems e he).1]
  rfl

theorem State.withdrawAll_of_none {s : State} {gone : Waiter → Bool} (h : ∀ w, gone w = false) : (s.withdrawAll gone).mem = s.mem := by
  have hout : (s.sync.watches.filter fun w => gone w.who) = [] := List.filter_eq_nil_iff.mpr fun w _ => by simp [h]
  unfold State.withdrawAll
  rw [hout]
  rfl

/-- With no item open a failure of all items leaves memory. -/
theorem State.failAll_mem {s : State} (f : Fail) (h : s.openItems = []) : (s.failAll f).mem = s.mem := by
  rw [State.failAll, h]
  refine State.withdrawAll_of_none fun w => ?_
  cases w with
  | item q k => rfl
  | core c =>
    unfold State.waitsFor
    dsimp only
    split <;> rfl
  | host p i => rfl

theorem State.atTick_beginReset_mem {s : State} (g : Nat) (tk : DWord) (h : s.openItems = []) :
    (s.atTick tk fun t => t.beginReset g).mem = s.mem := by
  let t := s.setSync { s.sync with dtc := tk }
  have hopen : (((t.asked g).logEvent 1 0 0 4 g 0).tallyAdd 0x70 1).openItems = [] := by
    rw [State.openItems, State.tallyAdd_queues, State.logEvent_queues]
    exact h
  refine (State.failAll_mem ⟨0x13, 0, none⟩ hopen).trans ?_
  rw [State.tallyAdd_mem, State.logEvent_mem]
  rfl

theorem State.zeroizeEnd_used {s : State} {p : Port} (hop : (s.box p).field 16 1 = 0xA5) (hz : (s.box p).zeroFrom 17 = true)
    (hq : s.quiet = true) : (s.secUsed p).zeroizeEnd ((s.secUsed p).box p) = secDone := by
  rw [State.zeroizeEnd, Mailbox.field_congr (s.secUsed_cmd p), Mailbox.zeroFrom_congr (s.secUsed_cmd p), if_neg (by simp [hop, hz])]
  exact if_neg (by simp only [show (s.secUsed p).quiet = s.quiet from rfl, hq]; simp)

theorem State.zeroized_box (s : State) (x : Port) : s.zeroized.box x = { s.box x with key := none, ctr := 0 } :=
  vget_map (fun m : Mailbox => { m with key := none, ctr := 0 }) _ _ x.isLt

theorem exec_zeroize_goes {s : State} {p : Port} (h : secGoes s p 9) (hop : (s.box p).field 16 1 = 0xA5)
    (hz : (s.box p).zeroFrom 17 = true) (hq : s.quiet = true) :
    exec (.zeroize p) s =
      .next (((s.secUsed p).zeroized.secEnd p secDone).requestReset 0 ((s.secUsed p).zeroized.secEnd p secDone).now) := by
  have hused := State.zeroizeEnd_used hop hz hq
  have hend : s.zeroizeEnd (s.box p) = secDone := by
    rw [State.zeroizeEnd, if_neg (by simp [hop, hz]), if_neg (by simp [hq])]
  have htake : (s.secTake p 9 fun t m => (if t.zeroizeEnd m = secDone then t.zeroized else t, t.zeroizeEnd m)) =
      (s.secUsed p).zeroized.secEnd p secDone := by
    refine State.secTake_used h rfl ?_ rfl
    rw [hused, if_pos rfl]
  obtain ⟨hr, hb, hs, hcode, hc⟩ := h
  change execZeroize p s = _
  rw [execZeroize, htake]
  exact congrArg Host.Outcome.next (if_pos (by simp [hr, hb, hs, hcode, hc, hend]))

theorem State.byte_of_mem_nil {s : State} (hcells : s.mem.cells = []) (hunset : s.mem.unset = []) (a : Nat) : s.byte a = 0 := by
  rw [State.byte, MemSt.byte, hcells, hunset]
  rfl

theorem zeroize_settles {s : State} {p : Port} (h : secGoes s p 9) (hop : (s.box p).field 16 1 = 0xA5)
    (hz : (s.box p).zeroFrom 17 = true) (hq : s.quiet = true) (hdrain : s.draining = false) (hhot : s.hot = false)
    (hcmd : s.commanding = true) :
    ∃ t, exec (.zeroize p) s = .next t ∧ secEnded s t p 0 ∧ (∀ a, t.byte a = 0) ∧ t.start.slot0 = [] ∧ t.start.slot1 = [] ∧
      (∀ x : Port, (t.box x).key = none ∧ (t.box x).ctr = 0) ∧ t.sec.unlocked = false ∧ t.fault.pending = some (0, s.now) := by
  let u := (s.secUsed p).zeroized
  have hrest := u.secEnd_rest p secDone
  obtain ⟨hpending, hsec, hstart⟩ := (u.secEnd p secDone).atTick_beginReset 0 (u.secEnd p secDone).now
  have hopen : (u.secEnd p secDone).openItems = [] := by
    rw [State.openItems, hrest.queues]
    exact State.openItems_of_quiet hq
  have hmem := (State.atTick_beginReset_mem 0 (u.secEnd p secDone).now hopen).trans hrest.mem
  have hgone := hstart.trans hrest.start
  have hnow := (u.secEnd_ready p (e := secDone) (by decide)).2.2.2
  have hbox (x : Port) := State.box_congr x (congrArg SecSt.box hsec)
  rw [exec_zeroize_goes h hop hz hq, State.resetAfter_taken (u := u) _ hcmd hdrain hhot]
  have hcmd' : (u.box p).cmd = (s.box p).cmd := (congrArg Mailbox.cmd (State.zeroized_box _ p)).trans (s.secUsed_cmd p)
  have hord : u.sec.order = [p.val] := Eq.trans (b := s.sec.order) rfl (order_of_secGoes h)
  refine ⟨_, rfl, secEnded_congr (secEnded_secEnd secDone hcmd' hord) hsec, fun a => State.byte_of_mem_nil ?_ ?_ a, ?_, ?_,
    fun x => ?_, ?_, ?_⟩
  · exact congrArg MemSt.cells hmem
  · exact congrArg MemSt.unset hmem
  · exact congrArg StartSt.slot0 hgone
  · exact congrArg StartSt.slot1 hgone
  · obtain ⟨hkey, hctr⟩ := u.secEnd_keys p x secDone
    rw [hbox, hkey, hctr, State.zeroized_box]
    exact ⟨rfl, rfl⟩
  · rw [hsec, State.secEnd_unlocked]
    rfl
  · rw [hpending, hnow]
    rfl

/-- Settles O41: each command acts with its counter used, and what it leaves stands at its end and under the reset that it asks for. -/
theorem authenticatedOperations : Obligations.AuthenticatedOperations := by
  unfold Obligations.AuthenticatedOperations
  refine fun s p => ⟨fun i h htap hform hop hread himage => ?live, fun i h htap hform hop hq hwait hread himage => ?full,
    fun h hz hbit hc => ?activate, fun h hz hcmd hdrain hhot => ?reset, fun h hop hz hq hdrain hhot hcmd => ?zeroize⟩
  case live =>
    have hlive : ((s.box p).field 28 1).testBit 0 = true := by rw [hop]; rfl
    have hkeep : ((s.box p).field 28 1).testBit 1 = false := by rw [hop]; rfl
    have hexec := exec_loadConfig_goes (i := i) h htap hform (.inl hlive) hread (by rw [hlive]; exact himage) (by rw [hlive]; rfl)
    rw [hlive, hkeep, State.loaded_live] at hexec
    obtain ⟨hend, -⟩ := secEnded_of_used (u := (s.secUsed p).liveLoad i) h rfl rfl secDone
    have hrest := ((s.secUsed p).liveLoad i).secEnd_rest p secDone
    exact ⟨_, hexec, hend, (congrArg StartSt.live hrest.start :), (congrArg StartSt.img hrest.start :), hrest.queues⟩
  case full =>
    have hlive : ((s.box p).field 28 1).testBit 0 = false := by rw [hop]; rfl
    have hkeep : ((s.box p).field 28 1).testBit 1 = false := by rw [hop]; rfl
    have hload := State.waitsImage_loaded (s := s.secUsed p) p i hwait
    have hsec := (s.secUsed p).fullLoad_sec p i false
    have hexec := exec_loadConfig_goes (i := i) h htap hform (.inr hq) hread (by rw [hlive]; exact himage)
      (by rw [hlive, hkeep, hload, hsec])
    rw [hlive, hkeep, hload] at hexec
    obtain ⟨hend, -⟩ := secEnded_of_used (u := (s.secUsed p).fullLoad p i false) h (by rw [hsec]) (by rw [hsec]) secDone
    have hrest := ((s.secUsed p).fullLoad p i false).secEnd_rest p secDone
    have hleaves := ((s.secUsed p).fullLoad_leaves p i).congr hrest.start hrest.mem hrest.queues
    exact ⟨_, hexec, hend, hleaves.img, hleaves.qOwner, hleaves.ctxOwner, fun n => congrArg (tget Stream.free · n) hleaves.streams,
      hleaves.closed⟩
  case activate =>
    let u := (s.secUsed p).activate ((s.box p).field 16 8) ((s.box p).field 24 1 % 64) (((s.box p).field 24 1).testBit 7)
    obtain ⟨hend, -⟩ := secEnded_of_used (u := u) h rfl rfl secDone
    have hrest := u.secEnd_rest p secDone
    refine ⟨_, exec_activateFirmware_goes h hz hbit hc, hend, congrArg FwuSt.actHerd hrest.fwu, ?_⟩
    rw [hrest.fwu]
    exact s.activate_target _ _ _
  case reset =>
    obtain ⟨hend, -⟩ := secEnded_of_used (u := s.secUsed p) h rfl rfl secDone
    obtain ⟨hpending, hsec, -⟩ := ((s.secUsed p).secEnd p secDone).atTick_beginReset 0 (((s.secUsed p).secEnd p secDone).now + 1)
    have hnow := ((s.secUsed p).secEnd_ready p (e := secDone) (by decide)).2.2.2
    rw [exec_resetDevice_goes h hz, State.resetAfter_taken (u := s.secUsed p) _ hcmd hdrain hhot]
    refine ⟨_, rfl, secEnded_congr hend hsec, ?_⟩
    rw [hpending, hnow]
    rfl
  case zeroize => exact zeroize_settles h hop hz hq hdrain hhot hcmd

end Sys2Proof.Machine
end

section
/-!
PROOFS. Link flits and port states (11 R459 to R475, R486).
-/
namespace Sys2Proof.Machine

open Sys2Proof.Claims

/-! ## What a port keeps when it sends -/

/-- `y` has the receiver of the port `x`, with its phase and its counts. -/
structure LinkSt.SameReceiver (y x : LinkSt) : Prop where
  phase : y.phase = x.phase
  rxSeq : y.rxSeq = x.rxSeq
  rx : y.rx = x.rx
  nakFor : y.nakFor = x.nakFor
  crc : y.crc = x.crc
  replays : y.replays = x.replays

/-- The port `x` has sent flits, which joined its replay buffer, and is `y`. -/
structure LinkSt.Pumped (y x : LinkSt) : Prop extends y.SameReceiver x where
  replay : ∃ fs, y.replay = x.replay ++ fs

protected theorem LinkSt.SameReceiver.rfl {x : LinkSt} : x.SameReceiver x := ⟨rfl, rfl, rfl, rfl, rfl, rfl⟩

theorem LinkSt.SameReceiver.trans {z y x : LinkSt} (h : z.SameReceiver y) (g : y.SameReceiver x) : z.SameReceiver x :=
  ⟨h.phase.trans g.phase, h.rxSeq.trans g.rxSeq, h.rx.trans g.rx, h.nakFor.trans g.nakFor, h.crc.trans g.crc, h.replays.trans g.replays⟩

theorem LinkSt.Pumped.trans {z y x : LinkSt} (h : z.Pumped y) (g : y.Pumped x) : z.Pumped x := by
  obtain ⟨fs, hfs⟩ := h.replay
  obtain ⟨gs, hgs⟩ := g.replay
  exact ⟨h.toSameReceiver.trans g.toSameReceiver, gs ++ fs, by rw [hfs, hgs, List.append_assoc]⟩

theorem LinkSt.creditField_eq (l : LinkSt) (held : List Nat) : ∃ f, (l.creditField held).2 = { l with rxFree := f } := by
  unfold LinkSt.creditField
  split
  · exact ⟨_, rfl⟩
  · exact ⟨_, rfl⟩

theorem LinkSt.send1_pumped (held : List Nat) (l : LinkSt) (e : TxFlit) : (l.send1 held e).1.Pumped l := by
  unfold LinkSt.send1
  obtain ⟨f, hf⟩ := l.creditField_eq held
  split
  · simp only [hf]
    exact ⟨⟨rfl, rfl, rfl, rfl, rfl, rfl⟩, _, rfl⟩
  · exact ⟨⟨rfl, rfl, rfl, rfl, rfl, rfl⟩, [], (List.append_nil _).symm⟩

/-- One waiting flit more, with what has left so far. -/
def LinkSt.sendMore (held : List Nat) (a : LinkSt × List Flit) (e : TxFlit) : LinkSt × List Flit :=
  ((a.1.send1 held e).1, a.2 ++ (a.1.send1 held e).2)

theorem LinkSt.pump_eq (held : List Nat) (l : LinkSt) : l.pump held = l.txq.foldl (LinkSt.sendMore held) ({ l with txq := [] }, []) := rfl

theorem LinkSt.pump_pumped (held : List Nat) (l : LinkSt) : (l.pump held).1.Pumped l := by
  have hstart : LinkSt.Pumped { l with txq := [] } l := ⟨⟨rfl, rfl, rfl, rfl, rfl, rfl⟩, [], (List.append_nil _).symm⟩
  rw [LinkSt.pump_eq]
  exact List.foldlRecOn (motive := fun a : LinkSt × List Flit => a.1.Pumped l) l.txq (LinkSt.sendMore held) hstart
    fun a ha e _ => (a.1.send1_pumped held e).trans ha

theorem LinkSt.covered_same (l : LinkSt) (aseq credit vc : Nat) (now : DWord) : (l.covered aseq credit vc now).SameReceiver l := by
  unfold LinkSt.covered
  dsimp only
  split <;> exact ⟨rfl, rfl, rfl, rfl, rfl, rfl⟩

/-! ## What an event of one port leaves -/

/-- `t` has every port of `s` but `l`, and its memory. -/
structure OnPort (l : Nat) (t s : State) : Prop where
  others : ∀ y, y ≠ l → t.link y = s.link y
  mem : t.mem = s.mem

protected theorem OnPort.rfl {l : Nat} {s : State} : OnPort l s s := ⟨fun _ _ => rfl, rfl⟩

theorem OnPort.trans {l : Nat} {u t s : State} (h : OnPort l u t) (g : OnPort l t s) : OnPort l u s :=
  ⟨fun y hy => (h.others y hy).trans (g.others y hy), h.mem.trans g.mem⟩

section Port

variable {s : State} {l : Nat} (hl : l < 16)
include hl

theorem State.putLink_onPort (x : LinkSt) : OnPort l (s.putLink l x) s :=
  ⟨fun _ hy => (State.link_putLink _ _ _ _ hl).trans (if_neg hy), rfl⟩

theorem State.link_putLink_same (x : LinkSt) : (s.putLink l x).link l = x := (State.link_putLink _ _ _ _ hl).trans (if_pos rfl)

end Port

/-- Flits that leave change what has left alone. -/
theorem State.emitFlits_rest (s : State) (l : Nat) (fs : List Flit) :
    (s.emitFlits l fs).fab = s.fab ∧ (s.emitFlits l fs).mem = s.mem ∧ (s.emitFlits l fs).sync = s.sync ∧ (s.emitFlits l fs).tally = s.tally := by
  induction fs generalizing s with
  | nil => exact ⟨rfl, rfl, rfl, rfl⟩
  | cons f fs ih => exact ih (s.emit (.flit l f))

theorem State.link_of_fab {t s : State} (h : t.fab = s.fab) (y : Nat) : t.link y = s.link y := by rw [State.link, h]; rfl

theorem State.emitFlits_link (s : State) (l y : Nat) (fs : List Flit) : (s.emitFlits l fs).link y = s.link y :=
  State.link_of_fab (s.emitFlits_rest l fs).1 y

theorem State.emitFlits_onPort (s : State) (l : Nat) (fs : List Flit) : OnPort l (s.emitFlits l fs) s :=
  ⟨fun y _ => s.emitFlits_link l y fs, (s.emitFlits_rest l fs).2.1⟩

/-- A port that sends what it can changes its own sender alone. -/
theorem State.pumpLink_pumped {s : State} {l : Nat} (hl : l < 16) :
    OnPort l (s.pumpLink l) s ∧ ((s.pumpLink l).link l).Pumped (s.link l) := by
  refine ⟨(State.emitFlits_onPort _ _ _).trans (State.putLink_onPort hl _), ?_⟩
  have hpump := (s.link l).pump_pumped (s.withheld l)
  unfold State.pumpLink
  rw [State.emitFlits_link, State.link_putLink_same hl]
  split
  · exact ⟨⟨hpump.phase, hpump.rxSeq, hpump.rx, hpump.nakFor, hpump.crc, hpump.replays⟩, hpump.replay⟩
  · exact hpump

theorem State.flitCover_same {s : State} {l : Nat} (hl : l < 16) (h : FlitHead) :
    OnPort l (s.flitCover l h) s ∧ ((s.flitCover l h).link l).SameReceiver (s.link l) := by
  refine ⟨State.putLink_onPort hl _, ?_⟩
  rw [State.flitCover, State.link_putLink_same hl]
  exact LinkSt.covered_same _ _ _ _ _

/-- A NAK asks for the expected FSEQ (11 R466). -/
theorem State.sendNak_link {s : State} {l : Nat} (hl : l < 16) :
    ∃ f, (s.sendNak l).link l = { s.link l with rxFree := f, nakFor := some (s.link l).rxSeq } := by
  unfold State.sendNak
  dsimp only
  split
  · next h => exact ⟨(s.link l).rxFree, by rw [← h]⟩
  · obtain ⟨f, hf⟩ := (s.link l).creditField_eq (s.withheld l)
    exact ⟨f, (State.link_putLink_same hl _).trans (by rw [hf])⟩

/-! ## Flits -/

section FlitsIn

variable {s : State} {l : Link} {f : Flit} (hears : s.hears l = true)
include hears

theorem State.flitIn_good {type : Nat} {take : FlitHead → State} (hgood : (readHead f).good = true) (ht : (readHead f).type = type) :
    s.flitIn l none f type take = take (readHead f) := by
  rw [State.flitIn, if_neg (by simp [hears])]
  exact (if_neg (by simp [hgood])).trans (if_neg (by simp [ht]))

theorem State.flitIn_bad {type : Nat} {take : FlitHead → State} (hgood : (readHead f).good = false) :
    s.flitIn l none f type take = s.badFlit l (readHead f) := by
  rw [State.flitIn, if_neg (by simp [hears])]
  exact if_pos (by simp [hgood])

theorem State.flitIn_touched (n type : Nat) (take : FlitHead → State) :
    s.flitIn l (some n) f type take = s.putLink l { s.link l with fecUE := sat32 (s.link l).fecUE n } := by
  rw [State.flitIn, if_neg (by simp [hears])]

/-- A data flit in order is taken, and the next is awaited (11 R466, R470). -/
theorem exec_dataFlit_next (hgood : (readHead f).good = true) (ht : (readHead f).type = 1)
    (hseq : BitVec.ofNat 16 (readHead f).fseq = (s.link l).rxSeq) :
    ∃ t, exec (.dataFlit l none f) s = .next t ∧ (t.link l).rxSeq = (s.link l).rxSeq + 1 ∧
      vget (t.link l).rx (readHead f).vc [] = vget (s.link l).rx (readHead f).vc [] ++ flitPayload f ∧
      (∀ y, y < 16 → y ≠ l.val → t.link y = s.link y) ∧ t.mem = s.mem := by
  obtain ⟨hcover, hsame⟩ := s.flitCover_same l.isLt (readHead f)
  have hvc : (readHead f).vc < 4 := by
    simp only [readHead, bitsOf]
    omega
  have hd : (BitVec.ofNat 16 (readHead f).fseq - ((s.flitCover l (readHead f)).link l).rxSeq).toNat = 0 := by
    rw [hseq, hsame.rxSeq, BitVec.sub_self]
    rfl
  let y := (s.flitCover l (readHead f)).link l
  let z : LinkSt := { y with rxSeq := y.rxSeq + 1, nakFor := none, rx := vset y.rx (readHead f).vc (vget y.rx (readHead f).vc [] ++ flitPayload f) }
  obtain ⟨hpump, hpumped⟩ := State.pumpLink_pumped (s := (s.flitCover l (readHead f)).putLink l z) l.isLt
  rw [State.link_putLink_same l.isLt] at hpumped
  have hport := hpump.trans ((State.putLink_onPort l.isLt z).trans hcover)
  refine ⟨_, congrArg Host.Outcome.next ((State.flitIn_good hears hgood ht).trans (congrArg (fun t : State => t.pumpLink l) (if_pos hd))),
    ?_, ?_, fun y _ hy => hport.others y hy, hport.mem⟩
  · rw [hpumped.rxSeq, ← hsame.rxSeq]
  · rw [hpumped.rx, ← hsame.rx]
    exact (vget_vset _ _ _ _ _ hvc).trans (if_pos rfl)

/-- A data flit ahead of its turn is answered by a NAK (11 R466). -/
theorem exec_dataFlit_ahead (hgood : (readHead f).good = true) (ht : (readHead f).type = 1)
    (hpos : 0 < (BitVec.ofNat 16 (readHead f).fseq - (s.link l).rxSeq).toNat)
    (hlt : (BitVec.ofNat 16 (readHead f).fseq - (s.link l).rxSeq).toNat < 0x8000) :
    ∃ t, exec (.dataFlit l none f) s = .next t ∧ (t.link l).rxSeq = (s.link l).rxSeq ∧ (t.link l).rx = (s.link l).rx ∧
      (t.link l).nakFor = some (s.link l).rxSeq := by
  obtain ⟨-, hsame⟩ := s.flitCover_same l.isLt (readHead f)
  rw [← hsame.rxSeq] at hpos hlt
  obtain ⟨free, hnak⟩ := State.sendNak_link (s := s.flitCover l (readHead f)) l.isLt
  obtain ⟨-, hpumped⟩ := State.pumpLink_pumped (s := (s.flitCover l (readHead f)).sendNak l) l.isLt
  rw [hnak] at hpumped
  refine ⟨_, congrArg Host.Outcome.next ((State.flitIn_good hears hgood ht).trans (congrArg (fun t : State => t.pumpLink l)
    ((if_neg (by omega)).trans (if_pos hlt)))), ?_, ?_, ?_⟩
  · rw [hpumped.rxSeq, ← hsame.rxSeq]
  · rw [hpumped.rx, ← hsame.rx]
  · rw [hpumped.nakFor, ← hsame.rxSeq]

theorem exec_idleFlit_badCrc (hcrc : (readHead f).crcOk = false) :
    ∃ t, exec (.idleFlit l none f) s = .next t ∧ (t.link l).crc = sat32 (s.link l).crc 1 ∧ (t.link l).nakFor = some (s.link l).rxSeq ∧
      (t.link l).rx = (s.link l).rx := by
  let u := s.putLink l { s.link l with crc := sat32 (s.link l).crc 1 }
  have hbad : s.badFlit l (readHead f) = u.sendNak l := if_neg (by simp [hcrc])
  obtain ⟨free, hnak⟩ := State.sendNak_link (s := u) l.isLt
  rw [State.link_putLink_same l.isLt] at hnak
  refine ⟨_, congrArg Host.Outcome.next ((State.flitIn_bad hears (by simp [FlitHead.good, hcrc])).trans hbad), ?_, ?_, ?_⟩ <;> rw [hnak]

theorem exec_idleFlit_good (hgood : (readHead f).good = true) (ht : (readHead f).type = 0) :
    ∃ t, exec (.idleFlit l none f) s = .next t ∧ (t.link l).rxSeq = (s.link l).rxSeq ∧ (t.link l).rx = (s.link l).rx ∧ t.mem = s.mem := by
  obtain ⟨hcover, hsame⟩ := s.flitCover_same l.isLt (readHead f)
  obtain ⟨hport, hpumped⟩ := State.pumpLink_pumped (s := s.flitCover l (readHead f)) l.isLt
  have hall := hpumped.toSameReceiver.trans hsame
  exact ⟨_, congrArg Host.Outcome.next (State.flitIn_good hears hgood ht), hall.rxSeq, hall.rx, (hport.trans hcover).mem⟩

end FlitsIn

/-! ## Replays -/

/-- A replay that has been sent counts, and the eighth in a row brings the port to SPARING (11 R467). -/
theorem State.replayed_link {s : State} {l : Nat} (hl : l < 16) : OnPort l (s.replayed l) s ∧
    ((s.replayed l).link l).replays = sat16 (s.link l).replays 1 ∧ ((s.replayed l).link l).rx = (s.link l).rx ∧
    ((s.replayed l).link l).phase = if 8 ≤ (s.link l).replaysInRow + 1 then .sparing else (s.link l).phase := by
  let x := { s.link l with replays := sat16 (s.link l).replays 1 }
  have hcount : (s.countReplay l).link l = x := State.link_putLink_same hl x
  let u := (s.countReplay l).putLink l { x with replaysInRow := x.replaysInRow + 1 }
  have hu : u.link l = { x with replaysInRow := x.replaysInRow + 1 } := State.link_putLink_same hl _
  have hport : OnPort l u s := (State.putLink_onPort hl _).trans ⟨(State.putLink_onPort hl x).others, rfl⟩
  have heq : s.replayed l = if 8 ≤ x.replaysInRow + 1 then u.spare l else u := by
    unfold State.replayed
    dsimp only
    rw [hcount]
  rw [heq]
  by_cases h : 8 ≤ x.replaysInRow + 1
  · have hspare : (u.spare l).link l = _ := State.link_putLink_same hl _
    rw [if_pos h, if_pos h, hspare, hu]
    exact ⟨(State.putLink_onPort hl _).trans hport, rfl, rfl, rfl⟩
  · rw [if_neg h, if_neg h, hu]
    exact ⟨hport, rfl, rfl, rfl⟩

/-- A NAK brings a replay (11 R467). -/
theorem exec_nak_good {s : State} {l : Link} {f : Flit} (hears : s.hears l = true) (hgood : (readHead f).good = true)
    (ht : (readHead f).type = 2) :
    ∃ t, exec (.nak l none f) s = .next t ∧ (t.link l).replays = sat16 (s.link l).replays 1 ∧ (t.link l).rx = (s.link l).rx ∧
      t.mem = s.mem ∧ (t.link l).phase = (if 8 ≤ ((s.flitCover l (readHead f)).link l).replaysInRow + 1 then .sparing else .up) := by
  have hup : (s.link l).phase = .up := by
    rw [State.hears, Bool.and_eq_true, decide_eq_true_eq] at hears
    exact hears.1
  obtain ⟨hcover, hsame⟩ := s.flitCover_same l.isLt (readHead f)
  let u := (s.flitCover l (readHead f)).resend l (readHead f).aseq
  have hsent : u.link l = (s.flitCover l (readHead f)).link l := State.emitFlits_link _ _ _ _
  obtain ⟨hport, hreplays, hrx, hphase⟩ := State.replayed_link (s := u) l.isLt
  obtain ⟨hpump, hpumped⟩ := State.pumpLink_pumped (s := u.replayed l) l.isLt
  rw [hsent] at hreplays hrx hphase
  refine ⟨_, congrArg Host.Outcome.next (State.flitIn_good hears hgood ht), ?_, ?_,
    ((hpump.trans hport).trans ((State.emitFlits_onPort _ _ _).trans hcover)).mem, ?_⟩
  · rw [hpumped.replays, hreplays, hsame.replays]
  · rw [hpumped.rx, hrx, hsame.rx]
  · rw [hpumped.phase, hphase, hsame.phase, hup]

/-- A port without progress replays from the oldest flit (11 R467). -/
theorem exec_replayTimeout_due {s : State} {l : Link} (hup : (s.link l).phase = .up) (hbuf : (s.link l).replay ≠ [])
    (hdue : 1000 ≤ (s.now - (s.link l).lastAseq).toNat) :
    ∃ t, exec (.replayTimeout l) s = .next t ∧ (t.link l).replays = sat16 (s.link l).replays 1 ∧
      (t.link l).phase = (if 8 ≤ (s.link l).replaysInRow + 1 then .sparing else .up) ∧ t.mem = s.mem := by
  let u := s.emitFlits l ((s.link l).replay.map fun f => mkFlit 1 (readHead f).vc (readHead f).fseq (s.link l).aseq 0 (flitPayload f))
  have hsent : u.link l = s.link l := State.emitFlits_link _ _ _ _
  let v := u.putLink l { u.link l with lastAseq := s.now }
  obtain ⟨hport, hreplays, -, hphase⟩ := State.replayed_link (s := v) l.isLt
  have hv : v.link l = { s.link l with lastAseq := s.now } := (State.link_putLink_same l.isLt _).trans (by rw [hsent])
  rw [hv] at hreplays hphase
  refine ⟨_, congrArg Host.Outcome.next (if_pos ⟨hup, hbuf, hdue⟩), hreplays, hphase.trans (by rw [hup]),
    (hport.trans ((State.putLink_onPort l.isLt _).trans (State.emitFlits_onPort _ _ _))).mem⟩

theorem flits : Sys2Proof.Claims.Flits := by
  unfold Sys2Proof.Claims.Flits
  refine fun s l f hears => ⟨exec_dataFlit_next hears, exec_dataFlit_ahead hears, fun n c hc => ?touched, exec_idleFlit_badCrc hears,
    exec_idleFlit_good hears, exec_nak_good hears, exec_replayTimeout_due⟩
  case touched =>
    have htouched (type : Nat) (take : FlitHead → State) := congrArg (fun t : State => (Host.Outcome.next t : Answer))
      (State.flitIn_touched (f := f) hears n type take)
    simp only [List.mem_cons, List.not_mem_nil, or_false] at hc
    rcases hc with rfl | rfl | rfl
    · exact htouched _ _
    · exact htouched _ _
    · exact htouched _ _

/-! ## A port that goes DOWN -/

/-- Port `l`, where it carries no message, is as it was. -/
def PortKept (l : Nat) (t s : State) : Prop := (s.link l).carries = false → t.link l = s.link l

theorem PortKept.of_fab {l : Nat} {t s : State} (h : t.fab = s.fab) : PortKept l t s := fun _ => State.link_of_fab h l

/-- The shared operations send on ports in service alone (11 R474, R480). -/
theorem portKept_logFrame (l : Nat) : LogFrame (PortKept l) where
  refl _ _ := rfl
  trans {u t s} h g hs := (h ((g hs).symm ▸ hs)).trans (g hs)
  rows _ _ _ _ := .of_fab rfl
  fired _ _ _ := .of_fab rfl
  mem _ _ _ _ _ := .of_fab rfl
  live _ _ := .of_fab rfl
  sent _ _ := .of_fab rfl
  pba _ _ _ := .of_fab rfl
  cores _ _ := .of_fab rfl
  queues _ _ _ := .of_fab rfl
  ke _ _ := .of_fab rfl
  links s p x h hs := by
    rw [State.link_putLink _ _ _ _ (lt_of_carries h)]
    split
    · next heq =>
      rw [heq, h] at hs
      exact absurd hs (by decide)
    · rfl
  sync _ _ _ _ _ _ _ _ := .of_fab rfl
  records _ _ _ _ _ := .of_fab rfl
  log _ _ _ _ _ _ _ := .of_fab (State.logEvent_fab _ _ _ _ _ _ _)

theorem State.failReq_portKept (s : State) (l tag : Nat) : PortKept l (s.failReq tag) s := by
  unfold State.failReq
  split
  · exact fun _ => rfl
  · exact (portKept_logFrame l).trans ((portKept_logFrame l).failItem _ _ _ _) fun _ => rfl

theorem State.reroute_portKept (s : State) (l kind : Nat) (m : MsgHead) (data : List Line) : PortKept l (s.reroute kind m data) s := by
  unfold State.reroute
  split
  · next h => exact (portKept_logFrame l).sendOn s _ _ _ _ (State.carries_of_route h)
  · exact (portKept_logFrame l).ite ((portKept_logFrame l).refl s)
      ((portKept_logFrame l).ite (s.failReq_portKept l _) ((portKept_logFrame l).originate s _ _ _ _ _))

theorem State.checkLost_portKept (s : State) (l e : Nat) : PortKept l (s.checkLost e) s := by
  have hmark (t : State) : PortKept l (t.markLost e) t := (portKept_logFrame l).ite ((portKept_logFrame l).refl t)
    ((portKept_logFrame l).trans ((portKept_logFrame l).log _ _ _ _ _ _ _) fun _ => rfl)
  have hflood (t : State) (m : MsgHead) : PortKept l (t.floodLost m) t := (portKept_logFrame l).foldl (fun u p => by
    split
    · next h => exact (portKept_logFrame l).sendOn u _ _ _ _ h
    · exact (portKept_logFrame l).refl u) _ t
  unfold State.checkLost
  dsimp only
  split
  · exact (portKept_logFrame l).trans (hflood _ _) ((portKept_logFrame l).trans (hmark _) fun _ => rfl)
  · exact (portKept_logFrame l).refl s

/-- A port that is DOWN, with what it keeps (11 R475). -/
def LinkSt.downed (x : LinkSt) (now : DWord) : LinkSt :=
  { x.fresh now with phase := .down, routed := false, failsInRow := 0, downs := satAdd 255 x.downs 1 }

/-- The state in which the messages that a port going DOWN leaves behind take their new path (11 R475, R482). -/
def State.downNoted (s : State) (l : Nat) : State := (s.putLink l ((s.link l).downed s.now)).logEvent 0x31 3 l 3 0 0

theorem State.linkDown_eq (s : State) (l : Nat) : s.linkDown l =
    ((waitingMsgs (s.link l).txq).foldl (fun u m => u.reroute m.1 m.2.1 m.2.2) (s.downNoted l)).checkLost (s.link l).expect := rfl

/-- No message that a port going DOWN leaves behind comes back to it. -/
theorem State.linkDown_link {s : State} {l : Nat} (hl : l < 16) : (s.linkDown l).link l = (s.link l).downed s.now := by
  have ht : (s.downNoted l).link l = (s.link l).downed s.now :=
    (State.link_of_fab (State.logEvent_fab _ _ _ _ _ _ _) l).trans (State.link_putLink_same hl _)
  have hfold := (portKept_logFrame l).foldl (fun u (m : Nat × MsgHead × List Line) => u.reroute_portKept l m.1 m.2.1 m.2.2)
    (waitingMsgs (s.link l).txq) (s.downNoted l)
  have hkept : PortKept l (s.linkDown l) (s.downNoted l) := by
    rw [State.linkDown_eq]
    exact (portKept_logFrame l).trans (State.checkLost_portKept _ l _) hfold
  exact (hkept (by rw [ht]; rfl)).trans ht

/-! ## Trainings -/

theorem State.endTraining_good {s : State} {l : Link} {r : TrainFact} (hlock : r.locked = true) (hpeer : r.peer.val = (s.link l).expect)
    (hlanes : 4 ≤ ((s.link l).trained r).healthyCount) :
    s.endTraining l r = s.putLink l { ((s.link l).trained r).fresh s.now with phase := .up, failsInRow := 0 } := by
  unfold State.endTraining
  dsimp only
  rw [if_neg (show ¬(r.locked = true ∧ r.peer.toNat ≠ (s.link l).expect) from fun h => h.2 hpeer)]
  exact if_pos ⟨hlock, hpeer, hlanes⟩

/-- A port after a training that failed (11 R471). -/
def LinkSt.failedTraining (x : LinkSt) (r : TrainFact) : LinkSt :=
  { x.trained r with trainFails := satAdd 255 (x.trained r).trainFails 1, failsInRow := (x.trained r).failsInRow + 1 }

theorem State.endTraining_unlocked {s : State} {l : Link} {r : TrainFact} (hlock : r.locked = false) :
    s.endTraining l r = if ((s.link l).failedTraining r).healthyCount < 4 ∨ 3 ≤ ((s.link l).failedTraining r).failsInRow then
      (s.putLink l ((s.link l).failedTraining r)).linkDown l else s.putLink l ((s.link l).failedTraining r) := by
  unfold State.endTraining
  dsimp only
  rw [if_neg (show ¬(r.locked = true ∧ r.peer.toNat ≠ (s.link l).expect) by simp [hlock])]
  exact if_neg (by simp [hlock])

theorem exec_trainingEnd {s : State} {l : Link} {r : TrainFact} (h : (s.link l).phase = .training) :
    exec (.trainingEnd l r) s = .next (s.endTraining l r) := congrArg Host.Outcome.next (if_pos h)

/-! ## Lanes -/

/-- The healthy lanes of five bits (11 R455). -/
def healthyLanes (b : BitVec 5) : List Nat := (List.range 5).filter fun i => b.getLsbD i

theorem healthyLanes_failed : ∀ (b : BitVec 5) (i : Fin 5), b.getLsbD i = true →
    (healthyLanes (b &&& ~~~(1#5 <<< i.val))).length + 1 = (healthyLanes b).length := by decide

theorem inUse_all : ∀ i : Fin 5, i.val ∈ (healthyLanes 0x1F).take 4 ↔ i.val ≠ 4 := by decide

/-- The state in which the failure of a lane is decided (11 R472). -/
def State.laneLogged (s : State) (l i : Nat) : State :=
  (s.putLink l { s.link l with healthy := (s.link l).healthy &&& ~~~(1#5 <<< i) }).logEvent 0x30 3 l 3 i 0

theorem State.laneLogged_link {s : State} {l : Nat} (hl : l < 16) (i : Nat) :
    (s.laneLogged l i).link l = { s.link l with healthy := (s.link l).healthy &&& ~~~(1#5 <<< i) } :=
  (State.link_of_fab (State.logEvent_fab _ _ _ _ _ _ _) l).trans (State.link_putLink_same hl _)

theorem exec_laneFail_healthy {s : State} {l : Link} {i : Fin 5} (hup : (s.link l).phase = .up) (hlane : (s.link l).healthy.getLsbD i = true) :
    exec (.laneFail l i) s = .next (if (healthyLanes ((s.link l).healthy &&& ~~~(1#5 <<< i.val))).length < 4 then
      (s.laneLogged l i).linkDown l
      else if i.val ∈ (healthyLanes (s.link l).healthy).take 4 then (s.laneLogged l i).spare l else s.laneLogged l i) :=
  congrArg Host.Outcome.next (if_pos ⟨hup, hlane⟩)

theorem State.spare_link {s : State} {l : Nat} (hl : l < 16) : (s.spare l).link l =
    { s.link l with phase := .sparing, sparings := satAdd 255 (s.link l).sparings 1, replaysInRow := 0, since := s.now } :=
  State.link_putLink_same hl _

/-- One failed lane of five leaves four: the spare replaces one in use (11 R472, R473). -/
theorem exec_laneFail_spares {s : State} {l : Link} {i : Fin 5} (hup : (s.link l).phase = .up) (hall : (s.link l).healthy = 0x1F) :
    ∃ t, exec (.laneFail l i) s = .next t ∧ (t.link l).healthy = (s.link l).healthy &&& ~~~(1#5 <<< i.val) ∧
      (t.link l).phase = (if i.val = 4 then .up else .sparing) ∧ logged s t 0x30 l := by
  have hlane : (s.link l).healthy.getLsbD i = true := by rw [hall]; revert i; decide
  have hcount := healthyLanes_failed (s.link l).healthy i hlane
  have hfive : (healthyLanes (s.link l).healthy).length = 5 := by rw [hall]; decide
  have hlog : logged s (s.laneLogged l i) 0x30 l := logEvent_logged_of (u := s.putLink l _) rfl rfl 0x30 3 l 3 i 0
  have hexec := exec_laneFail_healthy hup hlane
  rw [if_neg (by omega), hall] at hexec
  have huse := inUse_all i
  by_cases hi : i.val = 4
  · rw [if_neg (fun h => (huse.mp h) hi)] at hexec
    refine ⟨_, hexec, ?_, ?_, hlog⟩
    · rw [State.laneLogged_link l.isLt]
    · rw [State.laneLogged_link l.isLt, if_pos hi, hup]
  · rw [if_pos (huse.mpr hi)] at hexec
    refine ⟨_, hexec, ?_, ?_, logged_congr hlog rfl rfl rfl⟩
    · rw [State.spare_link l.isLt, State.laneLogged_link l.isLt]
    · rw [State.spare_link l.isLt, if_neg hi]

/-- With four healthy lanes one that fails brings the port down (11 R473, R475). -/
theorem exec_laneFail_downs {s : State} {l : Link} {i : Fin 5} (hup : (s.link l).phase = .up) (hfour : (s.link l).healthyCount = 4)
    (hlane : (s.link l).healthy.getLsbD i = true) :
    ∃ t, exec (.laneFail l i) s = .next t ∧ (t.link l).phase = .down ∧ (t.link l).downs = min 255 ((s.link l).downs + 1) := by
  have hcount := healthyLanes_failed (s.link l).healthy i hlane
  have hfour' : (healthyLanes (s.link l).healthy).length = 4 := hfour
  have hexec := exec_laneFail_healthy hup hlane
  rw [if_pos (by omega)] at hexec
  refine ⟨_, hexec, ?_, ?_⟩
  · rw [State.linkDown_link l.isLt]
    rfl
  · rw [State.linkDown_link l.isLt, State.laneLogged_link l.isLt]
    rfl

/-- The end of a sparing sends the replay buffer again, and the port is UP (11 R473). -/
theorem exec_sparingEnd_sparing {s : State} {l : Link} (h : (s.link l).phase = .sparing) :
    ∃ t, exec (.sparingEnd l) s = .next t ∧ (t.link l).phase = .up ∧ (t.link l).replay.take (s.link l).replay.length = (s.link l).replay := by
  let u := (s.putLink l { s.link l with phase := .up, lastAseq := s.now }).emitFlits l
    ((s.link l).replay.map fun f => mkFlit 1 (readHead f).vc (readHead f).fseq (s.link l).aseq 0 (flitPayload f))
  have hu : u.link l = { s.link l with phase := .up, lastAseq := s.now } :=
    (State.emitFlits_link _ _ _ _).trans (State.link_putLink_same l.isLt _)
  obtain ⟨-, hpumped⟩ := State.pumpLink_pumped (s := u) l.isLt
  rw [hu] at hpumped
  obtain ⟨fs, hfs⟩ := hpumped.replay
  refine ⟨_, congrArg Host.Outcome.next (if_pos h), hpumped.phase, ?_⟩
  rw [hfs]
  exact List.take_left

theorem portStates : Sys2Proof.Claims.PortStates := by
  unfold Sys2Proof.Claims.PortStates
  intro s l x
  have hothers (y : LinkSt) (z : Nat) (_ : z < 16) (hz : z ≠ l.val) : (s.putLink l y).link z = s.link z :=
    (State.putLink_onPort l.isLt y).others z hz
  refine ⟨fun hon hen hphase => ?train, fun hon hup => ?follow, fun r ht hlock hpeer hlanes => ?good, fun r ht hlock hfails => ?third,
    fun r ht hlock hfails hlanes => ?again, fun i => exec_laneFail_spares, fun i => exec_laneFail_downs, exec_sparingEnd_sparing,
    fun hsp hdue => ?timeout, fun hopen hgate hup => ?retrain⟩
  case train =>
    exact ⟨_, congrArg Host.Outcome.next (if_pos ⟨hon, hen, hphase⟩), State.link_putLink_same l.isLt _, hothers _⟩
  case follow =>
    have hlink := s.spare_link l.isLt
    have hexec : exec (.training l) s = .next (s.spare l) := congrArg Host.Outcome.next
      ((if_neg (fun h => by rcases h.2.2 with h | h <;> exact absurd (hup.symm.trans h) (by decide))).trans (if_pos ⟨hon, hup⟩))
    exact ⟨_, hexec, congrArg LinkSt.phase hlink, (congrArg LinkSt.replay hlink :), congrArg LinkSt.sparings hlink, hothers _⟩
  case good =>
    have hlink := State.link_putLink_same (s := s) l.isLt { (x.trained r).fresh s.now with phase := .up, failsInRow := 0 }
    refine ⟨_, (exec_trainingEnd ht).trans (congrArg _ (State.endTraining_good hlock hpeer hlanes)), ?_, ?_, ?_, ?_, ?_, rfl⟩ <;>
      rw [hlink] <;> rfl
  case third =>
    have hthree : 3 ≤ (x.failedTraining r).failsInRow := Nat.succ_le_succ hfails
    refine ⟨_, (exec_trainingEnd ht).trans (congrArg _ ((State.endTraining_unlocked hlock).trans (if_pos (.inr hthree)))), ?_⟩
    rw [State.linkDown_link l.isLt]
    rfl
  case again =>
    have hcond : ¬((x.failedTraining r).healthyCount < 4 ∨ 3 ≤ (x.failedTraining r).failsInRow) := by
      have hn : (x.failedTraining r).failsInRow = x.failsInRow + 1 := rfl
      have hc : (x.failedTraining r).healthyCount = (x.trained r).healthyCount := rfl
      omega
    refine ⟨_, (exec_trainingEnd ht).trans (congrArg _ ((State.endTraining_unlocked hlock).trans (if_neg hcond))), ?_, ?_⟩
    · rw [State.link_putLink_same l.isLt]
      exact ht
    · rw [State.link_putLink_same l.isLt]
      rfl
  case timeout =>
    refine ⟨_, congrArg Host.Outcome.next (if_pos ⟨hsp, hdue⟩), ?_⟩
    rw [State.linkDown_link l.isLt]
    rfl
  case retrain =>
    have hlink := s.spare_link l.isLt
    have hexec : exec (.retrain l) s = .next (s.spare l) := by
      change execRetrain l s = _
      rw [execRetrain, if_neg (by simp [hopen, hgate])]
      simp only [show (s.link l).phase = .up from hup]
    exact ⟨_, hexec, congrArg LinkSt.phase hlink, congrArg LinkSt.sparings hlink⟩

/-- Settles O30: a port that sends keeps its receiver, and one that goes DOWN carries no message that is left behind. -/
theorem linkFlitsAndStates : Obligations.LinkFlitsAndStates := ⟨flits, portStates⟩

end Sys2Proof.Machine
end

section
/-!
PROOFS. Row audits with the promotion, the loss of a core and the retry that follow (03 R123 to R142, 14 R563 to R565, 01 R32).
-/
namespace Sys2Proof.Machine

open Sys2Proof.Claims

/-! ## When an audit falls due and begins -/

theorem Pass.unload_settled (x : Pass) (h : x.isTmm = true) : x.unload.phase = .streaming ∨ x.unload.phase = .waiting := by
  unfold Pass.unload
  split
  · exact .inr rfl
  · next hun => exact .inl (by simpa [Pass.unbegun, h] using hun)

theorem Pass.isTmm_unload (x : Pass) : x.unload.isTmm = x.isTmm := by
  unfold Pass.unload
  split <;> rfl

/-- The core on which an audit begins (03 R137). -/
def State.auditBegun (s : State) (c : Nat) : Core :=
  { s.core c with arr := (s.core c).arr.beginAudit s.now s.freeCount
                  tile := { (s.core c).tile with queue := (s.core c).tile.queue.map Pass.unload } }

theorem exec_rowAudit_due {s : State} {c : Site} (hdue : (s.core c).arr.auditDue = true) (hphase : (s.core c).seq.phase ≠ .stopping)
    (hsums : ∀ x ∈ (s.core c).tile.queue, x.sums = []) :
    exec (.rowAudit c) s = .next ((s.putCore c (s.auditBegun c)).setFreeCount (s.freeCount + 1)) :=
  congrArg Host.Outcome.next (if_pos ⟨hdue, hphase, List.all_eq_true.mpr fun x hx => List.isEmpty_iff.mpr (hsums x hx)⟩)

theorem auditsFallDueAndBegin : Sys2Proof.Claims.AuditsFallDueAndBegin := by
  unfold Sys2Proof.Claims.AuditsFallDueAndBegin
  intro s c k
  refine ⟨fun hp hd hr => ⟨_, congrArg Host.Outcome.next (if_pos ⟨hp, by simp only [k] at hd; simp [hd], hr⟩), s.putCore_only _ _⟩,
    fun hopen haud => ⟨_, congrArg Host.Outcome.next (if_neg (by simp only [k] at haud; simp [haud, hopen])), s.putCore_only _ _⟩,
    fun hdue hphase hsums => ?_⟩
  have hcore : ((s.putCore c (s.auditBegun c)).setFreeCount (s.freeCount + 1)).core c = s.auditBegun c := State.core_putCore_same _ _ _
  refine ⟨_, exec_rowAudit_due hdue hphase hsums, ?_, ?_, ?_, ?_, ?_, ?_, ?_, fun x hx htmm => ?_, fun y hy => State.core_putCore_ne _ _ _ _ hy,
    fun a => rfl⟩
  case refine_8 =>
    rw [hcore] at hx
    obtain ⟨z, -, rfl⟩ := List.mem_map.mp hx
    exact z.unload_settled (z.isTmm_unload ▸ htmm)
  all_goals
    rw [hcore]
    rfl

/-! ## Rows -/

theorem mem_rowsOf {m : BitVec 100} {r : Nat} : r ∈ rowsOf m ↔ m.getLsbD r = true := by
  rw [rowsOf, List.mem_filter, List.mem_range, and_iff_right_iff_imp]
  exact BitVec.lt_of_getLsbD

theorem rowsOf_eq_nil {m : BitVec 100} : rowsOf m = [] ↔ m = 0 := by
  constructor
  · intro h
    refine BitVec.eq_of_getLsbD_eq fun i _ => ?_
    have hi : i ∉ rowsOf m := by simp [h]
    rw [mem_rowsOf, Bool.not_eq_true] at hi
    simpa using hi
  · rintro rfl
    decide

/-- The first of the rows of a mask is its lowest. -/
theorem head_rowsOf {m : BitVec 100} (h : m ≠ 0) :
    m.getLsbD ((rowsOf m).head?.getD 0x7F) = true ∧ ∀ i, i < (rowsOf m).head?.getD 0x7F → m.getLsbD i = false := by
  have hsorted : (rowsOf m).Pairwise (· < ·) := List.Pairwise.filter _ List.pairwise_lt_range
  obtain ⟨r, rest, hr⟩ := List.exists_cons_of_ne_nil (mt rowsOf_eq_nil.mp h)
  have hmem : r ∈ rowsOf m := by rw [hr]; exact List.mem_cons_self
  rw [hr] at hsorted
  refine ⟨by rw [hr]; exact mem_rowsOf.mp hmem, fun i hi => ?_⟩
  rw [hr, List.head?_cons, Option.getD_some] at hi
  by_contra hbit
  have hin : i ∈ r :: rest := hr ▸ mem_rowsOf.mpr (by simpa using hbit)
  rcases List.mem_cons.mp hin with rfl | hin
  · omega
  · have := (List.pairwise_cons.mp hsorted).1 i hin
    omega

/-! ## The end of an audit -/

/-- Entries of failing rows change the fault log and what its messages bring alone (03 R142). -/
theorem State.logRowsAt (s : State) (began : DWord) (c last : Nat) (l : List Nat) :
    let t := l.foldl (fun t r => t.logAt began 0x11 1 c 3 last r) s
    t.cores = s.cores ∧ t.queues = s.queues ∧ t.fault.seq = s.fault.seq + BitVec.ofNat 64 l.length := by
  induction l generalizing s with
  | nil => exact ⟨rfl, rfl, by simp⟩
  | cons r l ih =>
    obtain ⟨hcores, hqueues, hseq⟩ := ih (s.logAt began 0x11 1 c 3 last r)
    have hone : (s.logAt began 0x11 1 c 3 last r).fault.seq = s.fault.seq + 1 := (s.logEvent_log 0x11 1 c 3 last r).1
    refine ⟨hcores.trans (s.logEvent_cores ..), hqueues.trans (s.logEvent_queues ..), hseq.trans ?_⟩
    rw [hone, List.length_cons, Nat.add_comm, BitVec.ofNat_add, ← BitVec.add_assoc]
    rfl

/-- The array after an audit that found no row in use failed (03 R138, R141, R142). -/
def ArrayState.auditEnded (a : ArrayState) (began : DWord) (fresh : BitVec 100) : ArrayState :=
  { a with
    auditRun := none
    auditBad := !decide (fresh = 0)
    firstFail := (rowsOf fresh).head?.getD 0x7F
    auditDtc := if decide (fresh = 0) then began else a.auditDtc
    held := a.held && !(decide (fresh = 0) && decide (a.newFailed = 0))
    failed := a.failed ||| (fresh &&& ~~~0#100)
    newFailed := a.newFailed ||| 0#100 }

theorem ArrayState.auditEnded_failed (a : ArrayState) (began : DWord) (fresh : BitVec 100) :
    (a.auditEnded began fresh).failed = a.failed ||| fresh := by
  rw [ArrayState.auditEnded, BitVec.not_zero, BitVec.and_allOnes]

/-- The rows that an audit reports for the first time (03 R138). -/
def ArrayState.fresh (a : ArrayState) (rows : BitVec 100) : BitVec 100 := rows &&& ~~~(a.failed ||| a.newFailed)

/-- The state with an audit's result noted and its failed spares logged. -/
def State.auditNoted (s : State) (c : Site) (began : DWord) (fresh : BitVec 100) : State :=
  (rowsOf fresh).foldl (fun t r => t.logAt began 0x11 1 c 3 (s.core c).arr.auditDtc.toNat r)
    (s.putCore c { s.core c with arr := (s.core c).arr.auditEnded began fresh })

theorem exec_auditEnd_spares {s : State} {c : Site} {rows : BitVec 100} {began : DWord} (hrun : (s.core c).arr.auditRun = some began)
    (hused : ∀ i, ((s.core c).arr.fresh rows).getLsbD i = true → (s.core c).arr.rowState i ≠ 0) :
    exec (.auditEnd c rows) s = .next ((s.auditNoted c began ((s.core c).arr.fresh rows)).auditOver c) := by
  have hnone : ((rowsOf ((s.core c).arr.fresh rows)).filter fun r => decide ((s.core c).arr.rowState r = 0)) = [] :=
    List.filter_eq_nil_iff.mpr fun r hr => by simp [hused r (mem_rowsOf.mp hr)]
  change execAuditEnd c rows s = _
  rw [execAuditEnd]
  simp only [hrun]
  exact congrArg Host.Outcome.next (by rw [ArrayState.fresh] at hnone; simp only [hnone, if_true]; rfl)

theorem State.auditNoted_rest (s : State) (c : Site) (began : DWord) (fresh : BitVec 100) :
    (∀ y, (s.auditNoted c began fresh).core y =
      if y = c.val then { s.core c with arr := (s.core c).arr.auditEnded began fresh } else s.core y) ∧
    (s.auditNoted c began fresh).queues = s.queues ∧
    (s.auditNoted c began fresh).fault.seq = s.fault.seq + BitVec.ofNat 64 (rowsOf fresh).length := by
  obtain ⟨hcores, hqueues, hseq⟩ := State.logRowsAt (s.putCore c { s.core c with arr := (s.core c).arr.auditEnded began fresh }) began c
    (s.core c).arr.auditDtc.toNat (rowsOf fresh)
  refine ⟨fun y => ?_, hqueues, hseq⟩
  rw [State.core, State.auditNoted, hcores]
  exact State.core_putCore _ _ _ _

/-! ## What a core does after an audit -/

/-- A change of the queue's entries that leaves what they are and what they have to do leaves which one can be done. -/
theorem Core.ready_map {k k' : Core} {f : Pass → Pass} (hq : k'.tile.queue = k.tile.queue.map f) (hissue : ∀ x, (f x).issue = x.issue)
    (hword : ∀ x, (f x).word = x.word) (htodo : ∀ x, (f x).todo = x.todo) : k'.ready = k.ready.map f := by
  have hreader (x : Pass) : (f x).reader = x.reader := by simp only [Pass.reader, hword]
  have hbehind (x : Pass) : k'.tile.behind (f x) = k.tile.behind x := by
    simp only [TileState.behind, TileState.earlier, hq, List.filter_map, List.any_map, Function.comp_def, hissue, hword, hreader]
  simp only [Core.ready, hq, List.find?_map, Function.comp_def, htodo, hbehind]

/-- With nothing to do the queue stays as it is. -/
theorem State.tilesOn_of_ready_none {s : State} {c : Nat} (h : (s.core c).ready = none) : s.tilesOn c = s := by
  unfold State.tilesOn
  cases 2 * (s.core c).tile.queue.length with
  | zero => rfl
  | succ n =>
    rw [runTile]
    simp only [h]
    split <;> simp_all

/-- What waits in the queue is presented in a cycle (03 R136). -/
def Pass.presented (i : Int) (x : Pass) : Pass := if x.unbegun then { x with cycI := i } else x

/-- A core after an audit, before its queue goes on (03 R136). -/
def Core.afterAudit (k : Core) (i : Int) : Core :=
  { k with arr := { k.arr with pipe := Pipe.drained i }, tile := { k.tile with queue := k.tile.queue.map (Pass.presented i) } }

theorem Pass.presented_todo (i : Int) (x : Pass) : (x.presented i).todo = x.todo := by
  unfold Pass.presented
  split <;> rfl

theorem Core.afterAudit_ready {k : Core} (i : Int) (h : k.ready = none) : (k.afterAudit i).ready = none := by
  have hmap := Core.ready_map (k := k) (k' := k.afterAudit i) (f := Pass.presented i) rfl (fun x => by unfold Pass.presented; split <;> rfl)
    (fun x => by unfold Pass.presented; split <;> rfl) (Pass.presented_todo i)
  rw [hmap, h]
  rfl

theorem State.auditOver_eq (s : State) (c : Nat) : s.auditOver c = match (s.core c).seq.run with
    | none => s.putCore c { s.core c with arr := { (s.core c).arr with pipe := Pipe.drained s.aclk } }
    | some r => if (s.core c).seq.stop ≠ .none ∧ (s.core c).seq.phase ≠ .stopping then
        ((s.putCore c ((s.core c).afterAudit s.aclk)).stopNow c).settleItem r.q r.k
      else (s.putCore c ((s.core c).afterAudit s.aclk)).tilesOn c := rfl

/-- `t` is `s` after an audit of core `c`, whose sequencer is then `x` (03 R136). -/
structure AuditLeft (t s : State) (c : Nat) (x : SeqState) : Prop where
  arr : (t.core c).arr = { (s.core c).arr with pipe := Pipe.drained s.aclk }
  seq : (t.core c).seq = x
  others : ∀ y, y ≠ c → t.core y = s.core y
  fault : t.fault = s.fault

theorem State.putCore_auditLeft {s : State} {c : Nat} {k : Core} (h : k.arr = { (s.core c).arr with pipe := Pipe.drained s.aclk }) :
    AuditLeft (s.putCore c k) s c k.seq := by
  refine ⟨?_, ?_, fun y hy => State.core_putCore_ne _ _ _ _ hy, rfl⟩
  · rw [State.core_putCore_same, h]
  · rw [State.core_putCore_same]

/-- Where no queued instruction can be done and no stop waits, an audit's end leaves the sequencer (03 R136). -/
theorem State.auditOver_rests {s : State} {c : Nat}
    (h : (s.core c).seq.run = none ∨ ((s.core c).seq.stop = .none ∧ (s.core c).ready = none)) :
    AuditLeft (s.auditOver c) s c (s.core c).seq := by
  rw [State.auditOver_eq]
  split
  · exact State.putCore_auditLeft rfl
  · next r hr =>
    obtain ⟨hstop, hready⟩ := h.resolve_left (by simp [hr])
    rw [if_neg (by simp [hstop]), State.tilesOn_of_ready_none]
    · exact State.putCore_auditLeft rfl
    · rw [State.core_putCore_same]
      exact Core.afterAudit_ready _ hready

/-- A stop that an audit held off takes effect on a core with an empty queue (06 R263). -/
theorem State.auditOver_stops {s : State} {c : Nat} {r : Run} (hrun : (s.core c).seq.run = some r) (hstop : (s.core c).seq.stop = .save)
    (hphase : (s.core c).seq.phase = .running) (hqueue : (s.core c).tile.queue = [])
    (hitem : ∀ i, s.item? r.q r.k = some i → i.status = 0) :
    AuditLeft (s.auditOver c) s c { (s.core c).seq with phase := .stopping } := by
  let t := s.putCore c ((s.core c).afterAudit s.aclk)
  have hcore : t.core c = (s.core c).afterAudit s.aclk := State.core_putCore_same _ _ _
  have hempty : (t.core c).tile.queue = [] := by rw [hcore]; simp [Core.afterAudit, hqueue]
  have hrunning : (t.core c).seq.phase = .running := by rw [hcore]; exact hphase
  have hleave : t.leaveWait c = t := by
    rw [State.leaveWait, if_neg (by simp [hrunning]), if_neg (by simp [hrunning])]
  have hitem' : ∀ i, (t.stopNow c).item? r.q r.k = some i → i.status = 0 := by
    rw [State.stopNow, hleave]
    exact hitem
  have hover : s.auditOver c = t.stopNow c := by
    rw [State.auditOver_eq, hrun]
    exact (if_pos ⟨by simp [hstop], by simp [hphase]⟩).trans (State.settleItem_of_undecided hitem')
  rw [hover, State.stopNow, hleave]
  refine ⟨?_, ?_, fun y hy => (State.core_putCore_ne _ _ _ _ hy).trans (State.core_putCore_ne _ _ _ _ hy), rfl⟩
  · rw [State.core_putCore_same, Core.stopTile, hempty, hcore]
    rfl
  · rw [State.core_putCore_same, hcore]
    rfl

/-- What AUDIT_END leaves where every row that it reports anew is a spare (03 R138, R141, R142). -/
theorem exec_auditEnd_left {s : State} {c : Site} {rows : BitVec 100} {began : DWord} {x : SeqState}
    (hrun : (s.core c).arr.auditRun = some began)
    (hused : ∀ i, ((s.core c).arr.fresh rows).getLsbD i = true → (s.core c).arr.rowState i ≠ 0)
    (hleft : AuditLeft ((s.auditNoted c began ((s.core c).arr.fresh rows)).auditOver c) (s.auditNoted c began ((s.core c).arr.fresh rows)) c x) :
    ∃ t p, exec (.auditEnd c rows) s = .next t ∧
      (t.core c).arr = { (s.core c).arr.auditEnded began ((s.core c).arr.fresh rows) with pipe := p } ∧ (t.core c).seq = x ∧
      (∀ y, y ≠ c.val → t.core y = s.core y) ∧
      t.fault.seq = s.fault.seq + BitVec.ofNat 64 (rowsOf ((s.core c).arr.fresh rows)).length := by
  obtain ⟨hcores, -, hseq⟩ := s.auditNoted_rest c began ((s.core c).arr.fresh rows)
  refine ⟨_, Pipe.drained (s.auditNoted c began ((s.core c).arr.fresh rows)).aclk, exec_auditEnd_spares hrun hused, ?_, hleft.seq, fun y hy => (hleft.others y hy).trans ((hcores y).trans (if_neg hy)),
    (congrArg FaultSt.seq hleft.fault).trans hseq⟩
  rw [hleft.arr, hcores, if_pos rfl]

theorem auditsEnd : Sys2Proof.Claims.AuditsEnd := by
  unfold Sys2Proof.Claims.AuditsEnd
  intro s c rows began k fresh hrun
  obtain ⟨hcores, hqueues, -⟩ := s.auditNoted_rest c began (k.arr.fresh rows)
  have hcore := (hcores c).trans (if_pos rfl)
  have hnone (h : fresh = 0) : ∀ i, (k.arr.fresh rows).getLsbD i = true → k.arr.rowState i ≠ 0 := fun i hi => by
    rw [show k.arr.fresh rows = 0 from h] at hi
    simp at hi
  refine ⟨fun r hfresh hr hstop hphase hqueue hitem => ?stop, fun hidle => ?_⟩
  case stop =>
    have hleft := State.auditOver_stops (s := s.auditNoted c began (k.arr.fresh rows)) (c := c) (r := r) (by rw [hcore]; exact hr)
      (by rw [hcore]; exact hstop) (by rw [hcore]; exact hphase) (by rw [hcore]; exact hqueue)
      (by rw [State.item?, State.queue, hqueues]; exact hitem)
    obtain ⟨t, p, hexec, harr, hseq, hothers, -⟩ := exec_auditEnd_left hrun (hnone hfresh) hleft
    refine ⟨t, hexec, by rw [harr]; rfl, ?_, by rw [hseq, hcore], hothers⟩
    rw [harr]
    simp only [ArrayState.auditEnded, show (s.core c).arr.fresh rows = 0 from hfresh, decide_true, Bool.not_true]
  have hleft := State.auditOver_rests (s := s.auditNoted c began (k.arr.fresh rows)) (c := c) (by rw [hcore]; exact hidle)
  rw [hcore] at hleft
  refine ⟨fun hfresh => ?clean, fun hfresh hspare => ?failed⟩
  case clean =>
    obtain ⟨t, p, hexec, harr, hseq, hothers, hfault⟩ := exec_auditEnd_left hrun (hnone hfresh) hleft
    have hzero : (s.core c).arr.fresh rows = 0 := hfresh
    rw [hzero] at harr hfault
    refine ⟨t, hexec, ?_, ?_, ?_, ?_, ?_, ?_, hseq, hothers⟩
    · rw [harr]; rfl
    · rw [harr]; rfl
    · rw [harr]; rfl
    · rw [harr, ArrayState.auditEnded, rowsOf_eq_nil.mpr rfl]; rfl
    · rw [harr]; exact (ArrayState.auditEnded_failed _ began _).trans BitVec.or_zero
    · rw [hfault, rowsOf_eq_nil.mpr rfl]; simp
  case failed =>
    have hspare' : ∀ i, (k.arr.fresh rows).getLsbD i = true → k.arr.rowState i ≠ 0 :=
      fun i hi => hspare i (BitVec.lt_of_getLsbD hi) hi
    obtain ⟨t, p, hexec, harr, hseq, hothers, hfault⟩ := exec_auditEnd_left hrun hspare' hleft
    have hne : (s.core c).arr.fresh rows ≠ 0 := hfresh
    obtain ⟨hfirst, hlow⟩ := head_rowsOf hne
    refine ⟨t, hexec, ?_, ?_, ?_, ?_, ?_, ?_, hfault, hseq, hothers⟩
    · rw [harr]; rfl
    · rw [harr]; simp only [ArrayState.auditEnded, hne, decide_false, Bool.not_false]
    · rw [harr]; simp only [ArrayState.auditEnded, hne, decide_false, Bool.false_eq_true, if_false]; rfl
    · rw [harr]; exact ArrayState.auditEnded_failed _ began _
    · rw [harr]; exact hfirst
    · rw [harr]; exact hlow

/-! ## Promotion and the loss of a core -/

/-- The core whose newly failed rows are promoted round (03 R123 to R125, R140). -/
def Core.promoted (k : Core) : Core :=
  { k with arr := { k.arr.clearLatches with
    failed := k.arr.failed ||| k.arr.newFailed
    newFailed := 0
    epoch := k.arr.epoch + BitVec.ofNat 16 (rowsOf k.arr.newFailed).length
    held := true
    auditDue := true } }

theorem exec_promotion_due {s : State} {c : Site} (hrows : (s.core c).arr.newFailed ≠ 0) (hrun : (s.core c).seq.run = none)
    (haudit : (s.core c).arr.auditRun = none) (hsite : s.siteState c ≠ 2) :
    exec (.promotion c) s =
      .next ((s.putCore c (s.core c).promoted).tallyAdd (0x100 + 8 * (c.val / 64)) (rowsOf (s.core c).arr.newFailed).length) := by
  have hlen : (rowsOf (s.core c).arr.newFailed).length ≠ 0 := by
    rw [Ne, List.length_eq_zero_iff, rowsOf_eq_nil]
    exact hrows
  exact congrArg Host.Outcome.next (if_neg (by simp [hlen, hrun, haudit, hsite]))

/-- A failed site counts as such, and its core, memory and the log stand (01 R32). -/
theorem State.failSite_rest (s : State) (site : Nat) : (s.failSite site).siteState site = 2 ∧ (s.failSite site).fault = s.fault ∧
    (s.failSite site).mem = s.mem ∧ (s.failSite site).cores = s.cores ∧ (s.sync.herds = [] → (s.failSite site).sync.herds = []) := by
  have hin : site ∈ (if s.start.siteFailed.elem site then s.start.siteFailed else site :: s.start.siteFailed) := by
    split
    · next h => exact List.elem_iff.mp h
    · exact List.mem_cons_self
  have hstate (t : State) (h : t.start.siteFailed = if s.start.siteFailed.elem site then s.start.siteFailed else site :: s.start.siteFailed) :
      t.siteState site = 2 := if_pos (by rw [h]; exact hin)
  unfold State.failSite
  dsimp only
  split
  · exact ⟨hstate _ rfl, rfl, rfl, rfl, id⟩
  · split
    · refine ⟨hstate _ rfl, rfl, rfl, rfl, fun h => ?_⟩
      rw [State.tallyAdd_sync]
      simp only [State.mapHerds, State.setStart_sync, State.setSync_sync, h, List.foldl_nil]
    · exact ⟨hstate _ rfl, rfl, rfl, rfl, id⟩

/-- The loss of a core that runs nothing makes its site failed (14 R563, 01 R32). -/
theorem exec_coreLoss_idle {s : State} {c : Site} {cause : Fin 4} (hcause : cause.val = 1 ∨ cause.val = 2) (hserving : s.serving = true)
    (hsite : s.siteState c ≠ 2) (hrun : (s.core c).seq.run = none) (hherds : s.sync.herds = []) :
    exec (.coreLoss c cause) s = .next ((s.logEvent 0x10 1 c 3 ((s.lcoreOf c).getD 0x7FF) cause).failSite c) := by
  let t := s.logEvent 0x10 1 c 3 ((s.lcoreOf c).getD 0x7FF) cause
  have hnone : (t.core c).seq.run = none := by rw [State.core, State.logEvent_cores]; exact hrun
  have hempty : (t.failSite c).sync.herds = [] := (t.failSite_rest c).2.2.2.2 (by rw [State.logEvent_sync]; exact hherds)
  have hlose : s.loseCore c cause true = t.failSite c := by
    unfold State.loseCore
    dsimp only
    rw [show ((s.logEvent 0x10 1 c 3 ((s.lcoreOf c).getD 0x7FF) cause).core c).seq.run = none from hnone]
    dsimp only
    rw [if_pos rfl, State.checkCoreHerds, hempty, List.foldl_nil]
  have hcond : ¬(cause.val = 0 ∨ (!s.serving) = true ∨ s.siteState c = 2 ∨ (cause.val = 3 ∧ (s.core c).seq.phase ≠ .stopping)) := by
    rintro (h | h | h | ⟨h, -⟩)
    · omega
    · simp [hserving] at h
    · exact hsite h
    · omega
  exact congrArg Host.Outcome.next ((if_neg hcond).trans hlose)

/-! ## Instances that begin -/

/-- Memory, its map and its gates alone tell what an image holds and whether it can be read. -/
theorem State.image_congr {s t : State} (hstart : t.start = s.start) (hpower : t.power = s.power) (hmem : t.mem = s.mem) (image ilen : Nat) :
    t.imageFail image ilen = s.imageFail image ilen ∧ t.imemOf image ilen = s.imemOf image ilen := by
  have hbyte (a : Nat) := State.byte_congr s t a hmem (congrArg StartSt.img hstart)
  have hgated (a : Nat) : t.gatedAt a = s.gatedAt a := by
    unfold State.gatedAt State.lpGated State.hubOf
    rw [State.region_congr hstart, hstart, hpower]
  have hue (a : Nat) : t.isUe a = s.isUe a := by rw [State.isUe, State.isUe, State.loc_congr hstart, hmem]
  constructor
  · simp only [State.imageFail, State.region_congr hstart, hgated, hue]
  · simp only [State.imemOf, State.num, State.bytes, hbyte]

/-- A core as its run starts (06 R260). -/
def State.instanceCore (s : State) (q site inst : Nat) (i : Item) : Core := startCore (s.core site) (i.jobRun q inst)
  (s.imemOf (i.fld 16 8) (i.fld 12 4)) (i.fld 28 2) (BitVec.ofNat 64 (i.fld 32 8)) ((s.lcoreOf site).getD 0x7FF)

/-- A run whose image can be read and whose entry is good begins on its core alone (06 R230, R260). -/
theorem State.beginInstance_good {s t : State} {q site inst : Nat} {i : Item} (hstart : t.start = s.start) (hpower : t.power = s.power)
    (hmem : t.mem = s.mem) (himage : s.imageFail (i.fld 16 8) (i.fld 12 4) = none) (hentry : goodEntry s i) :
    t.beginInstance q site inst i = t.putCore site (t.instanceCore q site inst i) := by
  obtain ⟨hfail, himem⟩ := State.image_congr hstart hpower hmem (i.fld 16 8) (i.fld 12 4)
  have hgood := hentry (t.instanceCore q site inst i).seq himem
  unfold State.beginInstance
  dsimp only
  rw [show t.imageFail (i.jobRun q inst).image (i.jobRun q inst).ilen = none from hfail.trans himage]
  dsimp only
  rw [State.core_putCore_same]
  exact if_neg fun h => h.2 (hgood h.1)

section Retry

variable {s : State} {q : Queue} {k : Nat} {c : Site} {i : Item} {w : JobWork} (hitem : s.item? q k = some i) (hlive : i.live = true)
  (hstatus : i.status = 0) (hgoes : (s.queue q).goes = true) (hwork : i.work = .job w) (hfree : s.coreFree q c = true)
include hitem hlive hstatus hgoes hwork hfree

/-- ITEM_RETRY of a JOB's lost part on a core other than the lost (14 R565). -/
theorem exec_itemRetry_job {n : Lost} (hlost : s.lostFor c w.again = some n) : exec (.itemRetry q k c) s =
    .next (((s.mapItem q k fun j => { j with work := .job { w with again := w.again.erase n } }).logEvent 0x12 1 c 1 k q).beginInstance
      q c n.inst i) := by
  change execItemRetry q k c s = _
  rw [execItemRetry]
  simp only [hitem]
  rw [if_neg (by simp [hlive, hstatus, hgoes, hfree]), hwork]
  simp only [hlost]

theorem exec_itemRetry_job_none (hlost : s.lostFor c w.again = none) : exec (.itemRetry q k c) s = .next s := by
  change execItemRetry q k c s = _
  rw [execItemRetry]
  simp only [hitem]
  rw [if_neg (by simp [hlive, hstatus, hgoes, hfree]), hwork]
  simp only [hlost]

end Retry

theorem promotionLossAndRetry : Sys2Proof.Claims.PromotionLossAndRetry := by
  unfold Sys2Proof.Claims.PromotionLossAndRetry
  refine ⟨fun s c hrows hrun haudit hsite => ?promotion, fun s c cause hcause hserving hsite hrun hherds => ?loss,
    fun s q k c i w hitem hlive hstatus hgoes hwork hfree => ⟨fun n rest hagain hother himage hentry => ?retry, fun hsame => ?wait⟩⟩
  case promotion =>
    have hcore : ((s.putCore c (s.core c).promoted).tallyAdd (0x100 + 8 * (c.val / 64)) (rowsOf (s.core c).arr.newFailed).length).core c =
      (s.core c).promoted := State.core_putCore_same _ _ _
    refine ⟨_, exec_promotion_due hrows hrun haudit hsite, ?_, ?_, ?_, ?_, ?_, fun y hy => State.core_putCore_ne _ _ _ _ hy,
      fun a => State.byte_congr s _ a rfl rfl⟩
    all_goals
      rw [hcore]
      rfl
  case loss =>
    let t := s.logEvent 0x10 1 c 3 ((s.lcoreOf c).getD 0x7FF) cause
    obtain ⟨hstate, hfault, hmem, hcores, -⟩ := t.failSite_rest c
    obtain ⟨hseq, -⟩ := s.logEvent_log 0x10 1 c 3 ((s.lcoreOf c).getD 0x7FF) cause
    refine ⟨_, exec_coreLoss_idle hcause hserving hsite hrun hherds, hstate, by rw [hfault, hseq],
      ⟨_, (congrArg (fun f : FaultSt => f.log.getLast?) hfault).trans (s.logEvent_newest ..), rfl, rfl, ?_⟩, fun a => ⟨?_, ?_⟩⟩
    · exact Nat.mod_eq_of_lt (by omega)
    · rw [hmem, State.logEvent_mem]
    · rw [State.core, hcores, State.logEvent_cores]
      rfl
  case retry =>
    let u := s.mapItem q k fun j => { j with work := .job { w with again := w.again.erase n } }
    let t := u.logEvent 0x12 1 c 1 k q
    have hrest := u.logEvent_secRest 0x12 1 c 1 k q
    have hlost : s.lostFor c w.again = some n := by
      rw [State.lostFor, hagain]
      exact List.find?_cons_of_pos (by simpa using hother)
    have hbegin : t.beginInstance q c n.inst i = t.putCore c (t.instanceCore q c n.inst i) :=
      State.beginInstance_good (s := s) hrest.start hrest.power hrest.mem himage hentry
    have hexec := exec_itemRetry_job hitem hlive hstatus hgoes hwork hfree hlost
    have hcore : (t.putCore c (t.instanceCore q c n.inst i)).core c = t.instanceCore q c n.inst i := State.core_putCore_same _ _ _
    have hlog : logged s (t.putCore c (t.instanceCore q c n.inst i)) 0x12 c :=
      logged_congr (u.logEvent_logged 0x12 1 c 1 k q) rfl rfl rfl
    refine ⟨_, i.jobRun q n.inst, hexec.trans (congrArg _ hbegin), by rw [hcore]; rfl, rfl, rfl, rfl, by rw [hcore]; rfl, by rw [hcore]; rfl,
      hlog, fun y hy => (State.core_putCore_ne _ _ _ _ hy).trans ?_⟩
    rw [State.core, State.logEvent_cores]
    rfl
  case wait =>
    have hnone : s.lostFor c w.again = none := List.find?_eq_none.mpr fun n hn => by simp [hsame n hn]
    exact exec_itemRetry_job_none hitem hlive hstatus hgoes hwork hfree hnone

/-- Settles O15: an audit that finds no row in use failed leaves its core's sequencer, and each other event writes its own core, site or
item. -/
theorem rowAudits : Obligations.RowAudits := ⟨auditsFallDueAndBegin, auditsEnd, promotionLossAndRetry⟩

end Sys2Proof.Machine
end

section
/-!
PROOFS. JOB items and their instances (06 R228, R258 to R262, 09 R374).
-/
namespace Sys2Proof.Machine

open Sys2Proof.Claims

/-! ## The start of a JOB and of its instances -/

theorem jobItem : JobItem := by
  unfold JobItem
  intro s q k i h
  refine fun haddr himage hlines => ?_
  have hchecks : ((linesOf ((begun s i).fld 16 8) ((begun s i).fld 12 4)).findSome? fun l =>
      (s.begin q k).checkLine (begun s i).wins rightX l) = none := List.findSome?_eq_none_iff.mpr hlines
  have hexec : exec (.job q k) s = .next ((s.begin q k).setWork q k (.job ⟨0, 0, [], 0, []⟩)) := by
    refine congrArg Host.Outcome.next ((State.startItem_starts h _).trans ?_)
    dsimp only
    rw [if_neg (Nat.not_le.mpr haddr), himage]
    dsimp only
    rw [hchecks]
  exact ⟨_, hexec, itemNow_mapItem (f := fun i => { i with work := .job ⟨0, 0, [], 0, []⟩ }) (State.begin_itemNow (starts_item h)) fun _ hi => hi,
    rfl, rfl⟩

/-- A free core that no saved part of the item waits for begins the next of its instances. -/
theorem exec_instanceStart_next {s : State} {q : Queue} {k : Nat} {c : Site} {i : Item} {w : JobWork} (hitem : s.item? q k = some i)
    (hlive : i.live = true) (hstatus : i.status = 0) (hgoes : (s.queue q).goes = true) (hwork : i.work = .job w) (hsaved : w.saved = [])
    (hmore : w.started < i.fld 24 4) (hfree : s.coreFree q c = true) : exec (.instanceStart q k c) s =
    .next ((s.mapItem q k fun j => { j with work := .job { w with started := w.started + 1 } }).beginInstance q c w.started i) := by
  change execInstanceStart q k c s = _
  rw [execInstanceStart]
  simp only [hitem]
  rw [hwork]
  dsimp only
  rw [if_neg (by simp [hlive, hstatus, hgoes, hfree]), hsaved, List.find?_nil]
  dsimp only
  rw [if_pos hmore]

/-! ## Instances that end -/

/-- What a run that halts leaves in its item (06 R261). -/
def Item.haltRun (count : Nat) (i : Item) : Item :=
  match i.work with
  | .job w => { i with progress := i.progress + 1, work := .job { w with halted := w.halted + 1 }
                       phase := if w.halted + 1 = count ∧ i.status = 0 then .workDone else i.phase }
  | _ => i

theorem haltInstance_eq (s : State) (c : Nat) (r : Run) : haltInstance s c r = ((s.releaseCore c).putCore c
    { (s.releaseCore c).core c with seq := { ((s.releaseCore c).core c).seq with
        outbox := ((s.releaseCore c).core c).seq.outbox ++ [(r.q, r.k)] } }).mapItem r.q r.k (Item.haltRun r.count) := rfl

theorem Item.haltRun_k (count : Nat) (i : Item) : (i.haltRun count).k = i.k := by
  unfold Item.haltRun
  split <;> rfl

theorem Item.addRun_k (i : Item) (t : TileState) : (i.addRun t).k = i.k := by
  unfold Item.addRun
  dsimp only
  split <;> rfl

theorem Item.addRun_job {i : Item} {w : JobWork} (h : i.work = .job w) (t : TileState) :
    i.addRun t = { i with fl := i.fl.or t.flags, work := .job { w with invTiles := w.invTiles + t.xcount } } := by
  unfold Item.addRun
  dsimp only
  rw [h]

theorem Item.haltRun_addRun {i : Item} {w : JobWork} (h : i.work = .job w) (t : TileState) (n : Nat) :
    ((i.addRun t).haltRun n).progress = i.progress + 1 := by
  rw [Item.addRun_job h]
  rfl

theorem State.releaseCore_eq {s : State} {c : Nat} {r : Run} (h : (s.core c).seq.run = some r) :
    s.releaseCore c = (s.mapItem r.q r.k fun i => i.addRun (s.core c).tile).putCore c (s.core c).freed := by
  rw [State.releaseCore, h]

/-! ## Instances that fail -/

/-- No core but `c` runs a part of an item. -/
def State.RunsAlone (s : State) (q k c : Nat) : Prop := ∀ e ∈ s.cores, e.2.runs q k = true → e.1 = c

/-- A core that keeps its run brings no other core to an item. -/
theorem State.RunsAlone.putCore {s : State} {q k c : Nat} (h : s.RunsAlone q k c) (y : Nat) {x : Core} (hx : x.seq.run = (s.core y).seq.run) :
    (s.putCore y x).RunsAlone q k c := by
  intro e he hruns
  rcases mem_tput (show e ∈ tput Core.reset s.cores y x from he) with rfl | he
  · have hold : (s.core y).runs q k = true := by rw [← hruns, Core.runs, Core.runs, hx]
    have hne : s.core y ≠ Core.reset := fun hreset => by rw [hreset] at hold; cases hold
    exact h (y, s.core y) (mem_of_tget_ne hne) hold
  · exact h e he hruns

theorem State.runsAlone_iff {s : State} {q k c : Nat} : s.RunsAlone q k c ↔ ∀ y ∈ s.sitesOf q k, y = c := by
  have hs : s.sitesOf q k = (s.cores.filter fun e => e.2.runs q k).map (·.1) := rfl
  simp [hs, State.RunsAlone]

theorem State.mem_sitesOf {s : State} {c : Nat} {r : Run} (h : (s.core c).seq.run = some r) : c ∈ s.sitesOf r.q r.k := by
  have hs : s.sitesOf r.q r.k = (s.cores.filter fun e => e.2.runs r.q r.k).map (·.1) := rfl
  have hruns : (s.core c).runs r.q r.k = true := by rw [Core.runs, h]; simp
  have hne : s.core c ≠ Core.reset := fun hreset => by rw [hreset] at h; cases h
  rw [hs]
  exact List.mem_map.mpr ⟨(c, s.core c), List.mem_filter.mpr ⟨mem_of_tget_ne hne, hruns⟩, rfl⟩

/-- The audit of core `c` and the item that it runs alone stand. -/
def SameStaff (q k c : Nat) (t s : State) : Prop :=
  (t.core c).arr.auditRun = (s.core c).arr.auditRun ∧ (s.RunsAlone q k c → t.RunsAlone q k c)

theorem sameStaff_frame (q k c : Nat) : WriteFrame (SameStaff q k c) where
  refl _ := ⟨rfl, id⟩
  trans h g := ⟨h.1.trans g.1, fun hs => h.2 (g.2 hs)⟩
  rows s y x hx := by
    refine ⟨?_, fun hs => hs.putCore y (congrArg (·.seq.run) hx)⟩
    rw [State.core_putCore]
    split
    · next hy =>
      rw [hy]
      exact (congrArg (·.arr.auditRun) hx :)
    · rfl
  fired _ _ _ := ⟨rfl, id⟩
  mem _ _ _ _ _ := ⟨rfl, id⟩
  live _ _ := ⟨rfl, id⟩
  sent _ _ := ⟨rfl, id⟩
  pba _ _ _ := ⟨rfl, id⟩

/-- Item `k` of queue `q` is `i`, no watch names it, and core `c` alone, whose sequencer is `x`, runs a part of it outside an audit. -/
structure RunsOn (q k c : Nat) (i : Item) (x : SeqState) (s : State) : Prop where
  watches : ∀ w ∈ s.sync.watches, w.who ≠ .item q k
  item : s.item? q k = some i
  seq : (s.core c).seq = x
  audit : (s.core c).arr.auditRun = none
  alone : s.RunsAlone q k c

/-- An issuing core is woken by no watch, and another item's end does not reach it. -/
theorem runsOn_keptByReleases (q k c : Nat) (i : Item) {x : SeqState} (hx : x.phase = .running) : KeptByReleases q k (RunsOn q k c i x) where
  watches h := h.watches
  sync h _ hw := ⟨fun w hm => h.watches w (hw w hm), h.item, h.seq, h.audit, h.alone⟩
  waiter {s} h w hw := by
    unfold State.releaseWaiter
    split
    · next y n hwho =>
      obtain ⟨haudit, halone⟩ := (sameStaff_frame q k c).endNow (fun _ _ _ => ⟨rfl, id⟩) (fun _ _ _ => ⟨rfl, id⟩) s y n none
      refine ⟨by rw [State.endNow_sync]; exact h.watches, ?_, (s.endNow_sameSeqs y n none c).trans h.seq, haudit.trans h.audit, halone h.alone⟩
      rw [State.endNow_item?_ne s none fun he => hw (by rw [hwho, he.1, he.2])]
      exact h.item
    · next site _ =>
      dsimp only
      split
      · next hwait =>
        have hne : c ≠ site := fun he => by rw [← he, h.seq, hx] at hwait; cases hwait
        have hcore : (s.putCore site { s.core site with seq := (s.core site).seq.resume }).core c = s.core c :=
          State.core_putCore_ne _ _ _ _ hne
        exact ⟨h.watches, h.item, by rw [hcore]; exact h.seq, by rw [hcore]; exact h.audit, h.alone.putCore site rfl⟩
      · exact h
    · next p n _ =>
      have hmsix {t : State} (v : Nat) (ht : RunsOn q k c i x t) : RunsOn q k c i x (t.msix p v) := by
        have hsame := sameItems_frame.msix t p v
        obtain ⟨haudit, halone⟩ := (sameStaff_frame q k c).msix t p v
        exact ⟨by rw [hsame.sync]; exact ht.watches, (hsame.items q k).trans ht.item, (hsame.seqs c).trans ht.seq, haudit.trans ht.audit,
          halone ht.alone⟩
      exact hmsix _ ⟨h.watches, h.item, h.seq, h.audit, h.alone⟩

/-- What the stop of a core that waits for nothing changes: it stops, but where an audit holds the stop off. -/
structure StopLeft (c : Nat) (t s : State) : Prop where
  queues : t.queues = s.queues
  seq : (t.core c).seq = { (s.core c).seq with stop := .drop, phase := (t.core c).seq.phase }
  phase : (t.core c).seq.phase = .stopping ∨ ((s.core c).arr.auditRun ≠ none ∧ (t.core c).seq.phase = (s.core c).seq.phase)
  alone : ∀ q k, s.RunsAlone q k c → t.RunsAlone q k c

theorem State.stopCore_left {s : State} {c : Nat} (hc : (s.core c).seq.phase ≠ .waitC) (hh : (s.core c).seq.phase ≠ .waitH) :
    StopLeft c (s.stopCore c) s := by
  let k : Core := { s.core c with seq := { (s.core c).seq with stop := .drop } }
  have hcore : (s.putCore c k).core c = k := State.core_putCore_same _ _ _
  have hleave : (s.putCore c k).leaveWait c = s.putCore c k := by
    rw [State.leaveWait, hcore, if_neg hc, if_neg hh]
  by_cases haudit : (s.core c).arr.auditRun.isSome = true
  · have hstop : s.stopCore c = s.putCore c k := if_pos haudit
    rw [hstop]
    exact ⟨rfl, by rw [hcore], .inr ⟨Option.isSome_iff_ne_none.mp haudit, by rw [hcore]⟩, fun q n h => h.putCore c rfl⟩
  · have hstop : s.stopCore c = (s.putCore c k).putCore c { k.stopTile true s.aclk with seq := { k.seq with phase := .stopping } } := by
      refine (if_neg haudit : s.stopCore c = (s.putCore c k).stopNow c).trans ?_
      rw [State.stopNow]
      dsimp only
      rw [hleave, hcore]
      rfl
    rw [hstop]
    have hlast := State.core_putCore_same (s.putCore c k) c { k.stopTile true s.aclk with seq := { k.seq with phase := .stopping } }
    refine ⟨rfl, by rw [hlast], .inl (by rw [hlast]), fun q n h => ?_⟩
    have hk : (s.putCore c k).RunsAlone q n c := h.putCore c rfl
    exact hk.putCore c (congrArg (·.seq.run) hcore).symm

/-- Item `k` of queue `q` is `j`, and core `c` alone runs a part of it, whose slots hold lines, as `r`. -/
structure Holds (q k c : Nat) (j : Item) (r : Run) (s : State) : Prop where
  item : s.item? q k = some j
  run : (s.core c).seq.run = some r
  slots : (s.core c).seq.slots ≠ []
  alone : s.RunsAlone q k c

theorem Holds.stopCore {q k c : Nat} {j : Item} {r : Run} {s : State} (h : Holds q k c j r s) (hc : (s.core c).seq.phase ≠ .waitC)
    (hh : (s.core c).seq.phase ≠ .waitH) : Holds q k c j r (s.stopCore c) := by
  obtain ⟨hqueues, hseq, -, halone⟩ := State.stopCore_left hc hh
  exact ⟨by rw [State.item?, State.queue, hqueues]; exact h.item, (congrArg SeqState.run hseq).trans h.run,
    by rw [hseq]; exact h.slots, halone q k h.alone⟩

/-- The one core of an item stops, however often it is asked to. -/
theorem Holds.stopItem {q k c : Nat} {j : Item} {r : Run} {s : State} (h : Holds q k c j r s) (hr : r.q = q ∧ r.k = k)
    (hphase : (s.core c).seq.phase = .running) (haudit : (s.core c).arr.auditRun = none) :
    Holds q k c j r (s.stopItem q k) ∧ ((s.stopItem q k).core c).seq.phase = .stopping := by
  have hagain (l : List Nat) : ∀ t : State, (∀ y ∈ l, y = c) → Holds q k c j r t → (t.core c).seq.phase = .stopping →
      Holds q k c j r (l.foldl (fun t c => t.stopCore c) t) ∧ ((l.foldl (fun t c => t.stopCore c) t).core c).seq.phase = .stopping := by
    induction l with
    | nil => exact fun t _ ht hp => ⟨ht, hp⟩
    | cons y l ih =>
      intro t hl ht hp
      obtain rfl := hl y List.mem_cons_self
      have hc : (t.core y).seq.phase ≠ .waitC := by rw [hp]; decide
      have hh : (t.core y).seq.phase ≠ .waitH := by rw [hp]; decide
      refine ih _ (fun x hx => hl x (List.mem_cons_of_mem _ hx)) (ht.stopCore hc hh) ?_
      exact (State.stopCore_left hc hh).phase.elim id fun hp' => hp'.2.trans hp
  have hmem : c ∈ s.sitesOf q k := by
    rw [← hr.1, ← hr.2]
    exact State.mem_sitesOf h.run
  have hall := State.runsAlone_iff.mp h.alone
  rw [State.stopItem]
  cases hl : s.sitesOf q k with
  | nil => rw [hl] at hmem; cases hmem
  | cons y l =>
    rw [hl] at hall
    obtain rfl := hall y List.mem_cons_self
    have hc : (s.core y).seq.phase ≠ .waitC := by rw [hphase]; decide
    have hh : (s.core y).seq.phase ≠ .waitH := by rw [hphase]; decide
    refine hagain l _ (fun x hx => hall x (List.mem_cons_of_mem _ hx)) (h.stopCore hc hh) ?_
    exact (State.stopCore_left hc hh).phase.resolve_right fun hp => hp.1 haudit

/-- An item whose only core has not come to its stop is not settled. -/
theorem Holds.settleItem {q k c : Nat} {j : Item} {r : Run} {s : State} (h : Holds q k c j r s) (hr : r.q = q ∧ r.k = k) :
    s.settleItem q k = s := by
  have hmem : c ∈ s.sitesOf q k := by
    rw [← hr.1, ← hr.2]
    exact State.mem_sitesOf h.run
  have hstopped : (s.core c).stopped = false := by
    rw [Core.stopped, show (s.core c).seq.slots.isEmpty = false from by simpa using h.slots, Bool.and_false, Bool.false_and]
  have hnone : (s.sitesOf q k).filter (fun c => (s.core c).stopped) = [] :=
    List.filter_eq_nil_iff.mpr fun y hy => by rw [State.runsAlone_iff.mp h.alone y hy, hstopped]; decide
  rw [State.settleItem, h.item]
  dsimp only
  rw [hnone, List.foldl_nil, if_neg (List.ne_nil_of_mem hmem), ite_self]

/-- An item that fails at its only core, whose slots hold lines, takes its status, and the core stops (06 R262). -/
theorem State.failItem_held {s : State} {c : Nat} {r : Run} {i : Item} {w : JobWork} {f : Fail} (hrun : (s.core c).seq.run = some r)
    (hphase : (s.core c).seq.phase = .running) (hslots : (s.core c).seq.slots ≠ []) (haudit : (s.core c).arr.auditRun = none)
    (halone : s.RunsAlone r.q r.k c) (hitem : s.item? r.q r.k = some i) (hundecided : i.undecided = true) (hlate : i.late s.now = false)
    (hwork : i.work = .job w) (hue : f.ue = none) :
    ∃ t, s.failItem r.q r.k f = t ∧ t.item? r.q r.k = some { i with status := f.status, detail := f.detail } ∧
      (t.core c).seq.phase = .stopping := by
  have hgo : s.letGo r.q r.k i = s.withdrawAll (s.waitsFor [(r.q, r.k)]) := by rw [State.letGo, State.withdrawItem, hwork, ite_self]
  have hon : RunsOn r.q r.k c i (s.core c).seq (s.letGo r.q r.k i) := by
    rw [hgo]
    exact (runsOn_keptByReleases r.q r.k c i hphase).withdrawAll fun _ hw => ⟨hw, hitem, rfl, haudit, halone⟩
  have hfailure : i.failure s.now f = f := if_neg (by simp [hlate])
  have hfailed : Item.failed f i = { i with status := f.status, detail := f.detail } := by
    simp only [Item.undecided, Bool.and_eq_true, decide_eq_true_eq] at hundecided
    exact if_pos ⟨hundecided.2, hundecided.1⟩
  refine ⟨_, rfl, ?_⟩
  rw [State.failItem_eq hitem hundecided hue, hfailure]
  generalize s.letGo r.q r.k i = t at hon
  have hmapped : (t.mapItem r.q r.k (Item.failed f)).item? r.q r.k = some { i with status := f.status, detail := f.detail } := by
    rw [State.item?_mapItem t r.q r.k fun j hj => (j.failed_decidedBy f).1.trans hj, if_pos ⟨rfl, rfl⟩, hon.item, Option.map_some, hfailed]
  have hholds : Holds r.q r.k c { i with status := f.status, detail := f.detail } r (t.mapItem r.q r.k (Item.failed f)) :=
    ⟨hmapped, (congrArg SeqState.run hon.seq).trans hrun, fun h => hslots ((congrArg SeqState.slots hon.seq).symm.trans h), hon.alone⟩
  obtain ⟨hstop, hp⟩ := hholds.stopItem ⟨rfl, rfl⟩ ((congrArg SeqState.phase hon.seq).trans hphase) hon.audit
  rw [hstop.settleItem ⟨rfl, rfl⟩]
  exact ⟨hstop.item, hp⟩

theorem instanceStartsAndEnds : InstanceStartsAndEnds := by
  unfold InstanceStartsAndEnds
  refine ⟨fun s q k c i w hgoes hitem hop hlive hstatus hwork hsaved hmore hfree himage hentry => ?start,
    fun s c r i w hissue hslots hqueue hroom hitem hwork => ?halt,
    fun s c r i w hrun hissues hgroup hbad hslots haudit hsites hitem hstatus hphase hdue hwork => ?malformed⟩
  case start =>
    let t := s.mapItem q k fun j => { j with work := .job { w with started := w.started + 1 } }
    have hbegin : t.beginInstance q c w.started i = t.putCore c (t.instanceCore q c w.started i) :=
      State.beginInstance_good (s := s) rfl rfl rfl himage hentry
    have hcore : (t.putCore c (t.instanceCore q c w.started i)).core c = t.instanceCore q c w.started i := State.core_putCore_same _ _ _
    refine ⟨_, i.jobRun q w.started,
      (exec_instanceStart_next hitem hlive hstatus hgoes hwork hsaved hmore hfree).trans (congrArg _ hbegin), by rw [hcore]; rfl, rfl,
      QueueSt.item?_k hitem, rfl, rfl, by rw [hcore]; rfl, by rw [hcore]; rfl, by rw [hcore]; rfl, by rw [hcore]; rfl,
      fun y hy => State.core_putCore_ne _ _ _ _ hy⟩
  case halt =>
    have hexec : exec (.halt c) s = .next (haltInstance s c r) := by
      refine congrArg Host.Outcome.next ((State.issueAt_of_issuing hissue _).trans ?_)
      exact if_pos (by simp [hslots, hqueue, hroom])
    have hfreed : (s.releaseCore c).core c = (s.core c).freed := by
      rw [State.releaseCore_eq hissue.1]
      exact State.core_putCore_same _ _ _
    have hcore : (haltInstance s c r).core c = { (s.core c).freed with seq := { (s.core c).freed.seq with
        outbox := (s.core c).freed.seq.outbox ++ [(r.q, r.k)] } } := by
      rw [haltInstance_eq, hfreed]
      exact State.core_putCore_same _ _ _
    have hreleased : (s.releaseCore c).item? r.q r.k = some (i.addRun (s.core c).tile) := by
      rw [State.releaseCore_eq hissue.1]
      refine (State.item?_mapItem s r.q r.k (fun j hj => (j.addRun_k _).trans hj) r.q r.k).trans ?_
      rw [if_pos ⟨rfl, rfl⟩, hitem, Option.map_some]
    have hitem' : (haltInstance s c r).item? r.q r.k = some ((i.addRun (s.core c).tile).haltRun r.count) := by
      rw [haltInstance_eq]
      refine (State.item?_mapItem _ r.q r.k (fun j hj => (j.haltRun_k _).trans hj) r.q r.k).trans ?_
      rw [if_pos ⟨rfl, rfl⟩]
      exact congrArg (Option.map _) hreleased
    refine ⟨_, _, hexec, by rw [hcore]; rfl, by rw [hcore]; rfl, by rw [hcore]; rfl, hitem', Item.haltRun_addRun hwork _ _, fun y hy => ?_,
      fun a => ?_⟩
    · rw [haltInstance_eq, State.releaseCore_eq hissue.1]
      exact (State.core_putCore_ne _ _ _ _ hy).trans (State.core_putCore_ne _ _ _ _ hy)
    · rw [haltInstance_eq, State.releaseCore_eq hissue.1]
      exact State.byte_congr s _ a rfl rfl
  case malformed =>
    have hrunning : (s.core c).seq.phase = .running := by
      simp only [Core.issues, Bool.and_eq_true, decide_eq_true_eq] at hissues
      exact hissues.1.1.1
    have hundecided : i.undecided = true := by simp [Item.undecided, hstatus, hphase]
    have hlate : i.late s.now = false := by
      unfold Item.late
      split
      · next d hd => simpa using hdue d hd
      · rfl
    have halone : s.RunsAlone r.q r.k c := State.runsAlone_iff.mpr (by rw [hsites]; simp)
    obtain ⟨t, ht, hitem', hstop⟩ := State.failItem_held (f := ⟨0x1D, ((s.lcoreOf c).getD 0x7FF) * 65536 + (if r.job then r.inst else 0), none⟩)
      hrun hrunning hslots haudit halone hitem hundecided hlate hwork rfl
    refine ⟨t, _, ?_, hitem', rfl, rfl, hstop⟩
    rw [← ht]
    change execMalformedInstruction c s = _
    rw [execMalformedInstruction, hrun]
    dsimp only
    rw [hgroup, hissues, hbad, if_pos (by simp), State.malformedAt, State.failAt, hrun]

/-- Settles O16: a run begins on its core alone, a halting one counts in its item, and a malformed word decides its item while the
core's slots keep it from ending. -/
theorem jobs : Obligations.Jobs := ⟨jobItem, instanceStartsAndEnds⟩

end Sys2Proof.Machine
end

section
/-!
PROOFS. Tiles and their queue: issue, TZERO and TMM (04 R145 to R163, 05 R208 to R211, 06 R226).
-/
namespace Sys2Proof.Machine

open Sys2Proof.Claims

/-! ## Elements and stamps of a tile -/

theorem tget_filter {α : Type} {d : α} {t : Table α} (P : Nat → Bool) (k : Nat) :
    tget d (t.filter fun e => P e.1) k = if P k then tget d t k else d := by
  induction t with
  | nil => simp [tget]
  | cons e t ih =>
    rw [List.filter_cons]
    by_cases he : k = e.1
    · subst he
      by_cases hp : P e.1 = true
      · simp [tget, hp]
      · simp only [hp] at ih ⊢
        simpa using ih
    · by_cases hp : P e.1 = true <;> simp [tget, hp, he, ih]

/-- What the key of an element tells (04 R165). -/
theorem tileKey_fields {acc m n : Nat} (hm : m < 256) (hn : n < 96) :
    tileKey acc m n / 24576 = acc ∧ tileKey acc m n % 24576 / 96 = m ∧ tileKey acc m n % 96 = n := by
  unfold tileKey
  omega

theorem tileKey_inj {acc m n acc' m' n' : Nat} (hm : m < 256) (hn : n < 96) (hm' : m' < 256) (hn' : n' < 96) :
    tileKey acc m n = tileKey acc' m' n' ↔ acc = acc' ∧ m = m' ∧ n = n' := by
  unfold tileKey
  omega

theorem TileState.elem_zeroed (t : TileState) (f : Nat → Bool) (acc m n : Nat) :
    (t.zeroed f).elem acc m n = if f (tileKey acc m n) then 0 else t.elem acc m n := by
  rw [TileState.elem, TileState.zeroed, tget_filter (fun i => !f i)]
  cases f (tileKey acc m n) <;> rfl

theorem TileState.elem_clear (t : TileState) (a : Nat) {acc m n : Nat} (hm : m < 256) (hn : n < 96) :
    (t.clear a).elem acc m n = if acc = a then 0 else t.elem acc m n := by
  rw [TileState.clear, TileState.elem_zeroed, (tileKey_fields hm hn).1]
  simp

theorem TileState.stamp_setStamp (t : TileState) (a : Nat) (x : Stamp) (acc : Nat) (h : a < 4) :
    (t.setStamp a x).stamp acc = if acc = a then x else t.stamp acc := by
  rw [TileState.stamp, TileState.setStamp]
  exact vget_vset t.stamps a acc x _ h

theorem twAcc_lt (w : TWord) : twAcc w < 4 := Nat.mod_lt _ (by decide)

/-! ## The tile queue -/

/-- A tile instruction that issues has its effect. -/
theorem State.tileIssue_of_issuing {s : State} {c : Nat} {r : Run} {kind : Nat} {w : TWord} (h : tileIssuing s c r kind w)
    (f : Core → Run → State) : s.tileIssue c kind w f = f (s.core c) r := by
  obtain ⟨hrun, hissues, hgroup, hpc, hword, htop, haudits, hlen, hzeros, hform⟩ := h
  rw [State.tileIssue]
  simp only [hrun]
  rw [if_pos (by simp [hissues, hgroup, hpc, hword, htop]), if_neg (by simp [haudits]; omega), if_neg (by simp [hzeros, hform])]

theorem tileIssuing_active {s : State} {c : Nat} {r : Run} {kind : Nat} {w : TWord} (h : tileIssuing s c r kind w) :
    (s.core c).active = true := by
  obtain ⟨hrun, hissues, -⟩ := h
  simp only [Core.issues, Bool.and_eq_true, decide_eq_true_eq] at hissues
  simp [Core.active, hrun, hissues.1.1.1]

/-- An instruction that nothing is to be done for, or that an earlier one holds back, leaves a queue in which nothing can be done. -/
theorem Core.ready_append {k k' : Core} {x : Pass} (hq : k'.tile.queue = k.tile.queue ++ [x]) (hk : k.ready = none)
    (hx : x.todo = true → k'.tile.behind x = true) : k'.ready = none := by
  rw [Core.ready, List.find?_eq_none] at hk ⊢
  intro y hy hgo
  rw [hq, List.mem_append, List.mem_singleton] at hy
  simp only [Bool.and_eq_true, Bool.not_eq_true'] at hgo
  obtain ⟨htodo, hbehind⟩ := hgo
  obtain hy | rfl := hy
  · refine hk y hy ?_
    rw [TileState.behind, TileState.earlier, hq, List.filter_append, List.any_append, Bool.or_eq_false_iff] at hbehind
    rw [htodo, TileState.behind, TileState.earlier, hbehind.1]
    rfl
  · rw [hx htodo] at hbehind
    cases hbehind

/-- Nothing stands before an instruction alone in the queue. -/
theorem Core.ready_alone {k : Core} {x : Pass} (hq : k.tile.queue = [x]) : k.ready = if x.todo then some x else none := by
  have hbehind : k.tile.behind x = false := by simp [TileState.behind, TileState.earlier, hq]
  rw [Core.ready, hq, List.find?_singleton, hbehind]
  simp

/-- The last instruction of a queue leaves it, and the core has drained (03 R748). -/
theorem Core.dequeue_alone {k : Core} {x y : Pass} (hq : k.tile.queue = [y]) (hi : y.issue = x.issue) : k.dequeue x =
    { k with tile := { (if x.recorded then k.tile.unrecord else k.tile) with queue := [] }, arr := { k.arr with lastLoad := 0 } } := by
  rw [Core.dequeue]
  simp [hq, hi]

theorem Core.ready_empty {k : Core} (hq : k.tile.queue = []) : k.ready = none := by rw [Core.ready, hq, List.find?_nil]

theorem runTile_of_ready_none {s : State} {c : Nat} (n : Nat) (h : (s.core c).ready = none) : runTile n s c = s := by
  cases n with
  | zero => rfl
  | succ n =>
    rw [runTile]
    simp only [h]
    split <;> simp_all

/-- With one thing to do the queue does it, and stands. -/
theorem State.tilesOn_of_ready {s : State} {c : Nat} {r : Run} {x : Pass} (hrun : (s.core c).seq.run = some r)
    (hactive : (s.core c).active = true) (haudits : (s.core c).arr.audits = false) (hready : (s.core c).ready = some x)
    (hafter : ((s.perform c x r).core c).ready = none) : s.tilesOn c = s.perform c x r := by
  have hpos : 0 < (s.core c).tile.queue.length := List.length_pos_of_mem (List.mem_of_find?_eq_some hready)
  obtain ⟨n, hn⟩ : ∃ n, 2 * (s.core c).tile.queue.length = n + 1 := ⟨2 * (s.core c).tile.queue.length - 1, by omega⟩
  rw [State.tilesOn, hn, runTile]
  simp only [hrun, hready]
  rw [if_neg (by simp [hactive, haudits]), runTile_of_ready_none n hafter]

/-- An instruction alone in the queue of a core that goes on is done. -/
theorem State.tilesOn_alone {s : State} {c : Nat} {k : Core} {r : Run} {x : Pass} (hrun : k.seq.run = some r) (hactive : k.active = true)
    (haudits : k.arr.audits = false) (hq : k.tile.queue = [x]) (htodo : x.todo = true)
    (hafter : (((s.putCore c k).perform c x r).core c).ready = none) : (s.putCore c k).tilesOn c = (s.putCore c k).perform c x r := by
  have hcore : (s.putCore c k).core c = k := State.core_putCore_same _ _ _
  refine State.tilesOn_of_ready (by rw [hcore]; exact hrun) (by rw [hcore]; exact hactive) (by rw [hcore]; exact haudits) ?_ hafter
  rw [hcore, Core.ready_alone hq, if_pos htodo]

theorem State.putCore_putCore_only (s : State) (c : Nat) (k u : Core) : OnlyCore s ((s.putCore c k).putCore c u) c u :=
  ⟨State.core_putCore_same _ _ _, fun _ hx => (State.core_putCore_ne _ _ _ _ hx).trans (State.core_putCore_ne _ _ _ _ hx), rfl, fun _ => rfl⟩

/-! ## What a queued instruction does -/

section Perform

variable {s : State} {c : Nat} {x : Pass} (r : Run)

theorem State.perform_tzero (h : twTop x.word = 0) :
    s.perform c x r = s.putCore c ({ s.core c with tile := (s.core c).tile.clear (twAcc x.word) }.dequeue x) := by
  simp only [State.perform, h]

theorem State.perform_tmm (h : twTop x.word = 1) : s.perform c x r = s.putCore c ((s.core c).clearFor x) := by
  simp only [State.perform, h]

theorem State.perform_taccrd (h : twTop x.word = 2) : s.perform c x r = s.readOn c x r := by simp only [State.perform, h]

theorem State.perform_tsave (h : twTop x.word = 3) : s.perform c x r = (s.putCore c ((s.core c).dequeue x)).write
    (coreAddr c (64 * twRaddr x.word)) (tileImage (s.core c).tile (twAcc x.word) (stampOf x.org.toNat)) := by
  simp only [State.perform, h]

theorem State.perform_trestore (h : twTop x.word = 4) (hue : s.operandUe c [(twRaddr x.word, imageBytes)] = none) : s.perform c x r =
    s.putCore c ({ s.core c with
      tile := restoreElems (s.core c).tile (twAcc x.word) (fun i => s.num (coreAddr c (64 * twRaddr x.word) + 5 * i) 5) }.dequeue x) := by
  simp only [State.perform, h, hue]

end Perform

/-! ## TZERO -/

/-- The core of a TZERO that enters the queue: its tile is stamped. -/
def Core.tzeroIssued (k : Core) (w : TWord) (i : Int) : Core :=
  { k with tile := k.tile.setStamp (twAcc w) (twStamp w) }.enqueue (newEntry k w i)

theorem exec_tzero {s : State} {c : Site} {r : Run} {w : TWord} (h : tileIssuing s c r 0 w) :
    exec (.tzero c w) s = .next ((s.putCore c ((s.core c).tzeroIssued w s.aclk)).tilesOn c) :=
  congrArg Host.Outcome.next (State.tileIssue_of_issuing h _)

/-- An instruction of a held tile is behind another where it does not only read. -/
theorem tileHeld_behind {k k' : Core} {w : TWord} {x : Pass} (h : tileHeld k w) (hq : k'.tile.queue = k.tile.queue ++ [x])
    (hissue : x.issue = k.tile.issueNo) (hword : x.word = w) (htop : twTop w < 2) : k'.tile.behind x = true := by
  obtain ⟨-, y, hy, hlt, hacc⟩ := h
  have hreader : x.reader = false := by rw [Pass.reader, hword]; simp; omega
  rw [TileState.behind, TileState.earlier, List.any_eq_true]
  refine ⟨y, List.mem_filter.mpr ⟨by rw [hq]; exact List.mem_append_left _ hy, ?_⟩, by rw [hreader]; rfl⟩
  rw [hissue, hword]
  simp [hlt, hacc]

theorem tileZero : TileZero := by
  unfold TileZero
  intro s c r w
  refine fun h => ⟨fun hidle => ?idle, fun hheld => ?held⟩
  case idle =>
    have hq : (s.core c).tile.queue = [] := hidle
    let k := (s.core c).tzeroIssued w s.aclk
    let u := { k with tile := k.tile.clear (twAcc w) }.dequeue (newEntry (s.core c) w s.aclk)
    obtain ⟨hrun, -, -, -, -, htop, haudits, -⟩ := id h
    have hqueue : k.tile.queue = [newEntry (s.core c) w s.aclk] := congrArg (· ++ [newEntry (s.core c) w s.aclk]) hq
    have hu : u = { k with tile := { k.tile.clear (twAcc w) with queue := [] }, arr := { k.arr with lastLoad := 0 } } :=
      Core.dequeue_alone hqueue rfl
    have honly : OnlyCore s ((s.putCore c k).putCore c u) c u := s.putCore_putCore_only c k u
    have hperform : (s.putCore c k).perform c (newEntry (s.core c) w s.aclk) r = (s.putCore c k).putCore c u := by
      rw [State.perform_tzero r (show twTop (newEntry (s.core c) w s.aclk).word = 0 from htop), State.core_putCore_same]
      rfl
    have htiles : (s.putCore c k).tilesOn c = (s.putCore c k).putCore c u := by
      rw [State.tilesOn_alone (k := k) (r := r) hrun (tileIssuing_active h) haudits hqueue (by simp [Pass.todo, Pass.isTmm, newEntry, htop]), hperform]
      rw [hperform, honly.1]
      exact Core.ready_empty (by rw [hu])
    refine ⟨_, u, (exec_tzero h).trans (congrArg _ htiles), honly, by rw [hu]; rfl, by rw [hu], fun acc m n hacc hm hn => ?_,
      fun acc hacc => ?_, by rw [hu]; rfl, by rw [hu]; rfl, by rw [hu]; rfl⟩
    · rw [hu]
      exact TileState.elem_clear k.tile (twAcc w) hm hn
    · rw [hu]
      exact (s.core c).tile.stamp_setStamp (twAcc w) (twStamp w) acc (twAcc_lt w)
  case held =>
    obtain ⟨-, -, -, -, -, htop, -⟩ := id h
    refine (exec_tzero h).trans (congrArg _ (State.tilesOn_of_ready_none ?_))
    rw [State.core_putCore_same]
    exact Core.ready_append rfl hheld.1 fun _ => tileHeld_behind hheld rfl rfl rfl (by omega)

/-! ## TMM -/

theorem exec_tmm {s : State} {c : Site} {r : Run} {w : TWord} (h : tileIssuing s c r 1 w)
    (hops : operandsFail c r.extent (tmmOperands w) = none) (hstamp : twZero w = true ∨ (s.core c).tile.stamp (twAcc w) = twStamp w)
    (hwait : (s.core c).slotWait (tmmOperands w) false = false)
    (hstaged : twTr w = false → s.isUe (coreAddr c (64 * twRaddr w)) = false ∧ headerOk w (s.bytes (coreAddr c (64 * twRaddr w)) 64) = true) :
    exec (.tmm c w) s = .next ((s.putCore c (issueTmm (s.core c) w s.aclk)).tilesOn c) := by
  refine congrArg Host.Outcome.next ((State.tileIssue_of_issuing h _).trans ?_)
  rw [hops]
  dsimp only
  rw [if_neg (by rcases hstamp with h | h <;> simp [h]), if_neg (by simp [hwait]), if_neg, if_neg]
  · cases htr : twTr w with
    | true => simp
    | false => simp [(hstaged htr).2]
  · cases htr : twTr w with
    | true => simp
    | false => simp [(hstaged htr).1]

/-- What a TMM leaves of an idle core once it has issued and cleared (04 R159, R162, 05 R208, R211). -/
structure TmmLeft (k u : Core) (w : TWord) (i : Int) : Prop where
  seq : u.seq = { k.seq with pc := k.seq.pc + 4 }
  queue : u.tile.queue = if streamed w (tmmMask k w) = [] then [] else [{ newPass k w i with clear := false }]
  stamp : ∀ acc, acc < 4 → u.tile.stamp acc = if acc = twAcc w then twStamp w else k.tile.stamp acc
  elem : ∀ acc m n, acc < 4 → m < 256 → n < 96 → u.tile.elem acc m n =
    if acc = twAcc w ∧ twZero w = true ∧ ¬(m < twM w ∧ (tmmMask k w).getLsbD m = true ∧ n < twN w) then 0 else k.tile.elem acc m n
  masks : u.tile.masks = k.tile.masks
  flags : u.tile.flags = k.tile.flags
  arr : u.arr = { k.arr with pipe := u.arr.pipe, lastLoad := u.arr.lastLoad }

/-- A TMM with no row to stream that clears nothing is done as it issues. -/
theorem issueTmm_skips {k : Core} {w : TWord} (i : Int) (hrows : streamed w (tmmMask k w) = []) (hzero : twZero w = false) :
    issueTmm k w i = { k with tile := { k.tile with issueNo := k.tile.issueNo + 1 }, seq := k.seq.next4 } := by
  rw [issueTmm]
  dsimp only
  rw [if_pos (by simp [newPass, hrows, hzero])]
  simp [hzero]

/-- The core of a TMM that enters the queue: a tile that it clears is stamped, and the first pass after a drain is presented now. -/
def Core.tmmIssued (k : Core) (w : TWord) (i : Int) : Core :=
  { k with arr := if k.tile.queue.any Pass.isTmm then k.arr else { k.arr with pipe := Pipe.drained i }
           tile := if twZero w then k.tile.setStamp (twAcc w) (twStamp w) else k.tile }.enqueue (newPass k w i)

theorem issueTmm_enters {k : Core} {w : TWord} (i : Int) (h : ¬(streamed w (tmmMask k w) = [] ∧ twZero w = false)) :
    issueTmm k w i = k.tmmIssued w i := by
  rw [issueTmm]
  exact if_neg (by simpa [newPass] using h)

theorem Core.tmmIssued_stamp {k : Core} {w : TWord} (i : Int) (h : twZero w = true ∨ k.tile.stamp (twAcc w) = twStamp w) (acc : Nat) :
    (k.tmmIssued w i).tile.stamp acc = if acc = twAcc w then twStamp w else k.tile.stamp acc := by
  change (if twZero w then k.tile.setStamp (twAcc w) (twStamp w) else k.tile).stamp acc = _
  by_cases hzero : twZero w = true
  · rw [if_pos hzero, TileState.stamp_setStamp _ _ _ _ (twAcc_lt w)]
  · rw [if_neg hzero]
    split
    · next he => rw [he, h.resolve_left hzero]
    · rfl

theorem Core.tmmIssued_tile (k : Core) (w : TWord) (i : Int) : (k.tmmIssued w i).tile.a = k.tile.a ∧
    (k.tmmIssued w i).tile.masks = k.tile.masks ∧ (k.tmmIssued w i).tile.flags = k.tile.flags ∧
    (k.tmmIssued w i).tile.queue = k.tile.queue ++ [newPass k w i] := by
  unfold Core.tmmIssued
  cases twZero w <;> exact ⟨rfl, rfl, rfl, rfl⟩

theorem newPass_todo {k : Core} {w : TWord} (htop : twTop w = 1) (i : Int) : (newPass k w i).todo = twZero w := by
  rw [Pass.todo, if_pos (by simpa [Pass.isTmm, newPass, newEntry] using htop)]
  rfl

theorem streamed_eq_nil_or {k : Core} {w : TWord} (h : ¬(streamed w (tmmMask k w) = [] ∧ twZero w = false)) (hzero : twZero w = false) :
    streamed w (tmmMask k w) ≠ [] := fun he => h ⟨he, hzero⟩

theorem tmmLeft_skips {k : Core} {w : TWord} (i : Int) (hidle : k.tile.queue = []) (hrows : streamed w (tmmMask k w) = [])
    (hzero : twZero w = false) (hstamp : k.tile.stamp (twAcc w) = twStamp w) : TmmLeft k (issueTmm k w i) w i := by
  rw [issueTmm_skips i hrows hzero]
  refine ⟨rfl, by rw [if_pos hrows]; exact hidle, fun acc _ => ?_, fun acc m n _ _ _ => by rw [hzero, if_neg (by simp)]; rfl, rfl, rfl, rfl⟩
  split
  · next he => exact he ▸ hstamp
  · rfl

theorem tmmLeft_streams {k : Core} {w : TWord} (i : Int) (hidle : k.tile.queue = []) (hrows : streamed w (tmmMask k w) ≠ [])
    (hzero : twZero w = false) (hstamp : k.tile.stamp (twAcc w) = twStamp w) : TmmLeft k (k.tmmIssued w i) w i := by
  obtain ⟨ha, hmasks, hflags, hqueue⟩ := k.tmmIssued_tile w i
  have hclear : (newPass k w i) = { newPass k w i with clear := false } := by simp [newPass, hzero]
  refine ⟨rfl, ?_, fun acc _ => k.tmmIssued_stamp i (.inr hstamp) acc, fun acc m n _ _ _ => ?_, hmasks, hflags, ?_⟩
  · rw [if_neg hrows, hqueue, hidle, List.nil_append, ← hclear]
  · rw [hzero, if_neg (by simp), TileState.elem, ha]
    rfl
  · simp [Core.tmmIssued, Core.enqueue, hidle]

/-- The clearing of a TMM alone in the queue. -/
theorem tmmLeft_clears {k : Core} {w : TWord} (i : Int) (hidle : k.tile.queue = []) (hzero : twZero w = true) :
    TmmLeft k ((k.tmmIssued w i).clearFor (newPass k w i)) w i := by
  obtain ⟨ha, hmasks, hflags, hqueue⟩ := k.tmmIssued_tile w i
  rw [hidle, List.nil_append] at hqueue
  let x := newPass k w i
  let u : Core := { k.tmmIssued w i with tile := ((k.tmmIssued w i).tile.zeroed (zeroClears x)).setPass { x with clear := false } }
  have hone : u.tile.queue = [{ x with clear := false }] := by
    refine (congrArg (List.map _) hqueue).trans ?_
    simp [x]
  have hstamp (acc : Nat) : u.tile.stamp acc = if acc = twAcc w then twStamp w else k.tile.stamp acc := k.tmmIssued_stamp i (.inl hzero) acc
  have helem (acc m n : Nat) (hm : m < 256) (hn : n < 96) : u.tile.elem acc m n =
      if acc = twAcc w ∧ twZero w = true ∧ ¬(m < twM w ∧ (tmmMask k w).getLsbD m = true ∧ n < twN w) then 0 else k.tile.elem acc m n := by
    have hclears : zeroClears x (tileKey acc m n) = true ↔
        acc = twAcc w ∧ twZero w = true ∧ ¬(m < twM w ∧ (tmmMask k w).getLsbD m = true ∧ n < twN w) := by
      obtain ⟨hacc, hrow, hcol⟩ := tileKey_fields (acc := acc) hm hn
      unfold zeroClears
      dsimp only
      rw [hacc, hrow, hcol]
      simp [x, newPass, newEntry, hzero]
      grind
    have hold : (k.tmmIssued w i).tile.elem acc m n = k.tile.elem acc m n := by rw [TileState.elem, ha]; rfl
    have hzeroed : u.tile.elem acc m n = if zeroClears x (tileKey acc m n) then 0 else (k.tmmIssued w i).tile.elem acc m n :=
      TileState.elem_zeroed _ _ _ _ _
    rw [hzeroed, hold]
    exact if_congr hclears rfl rfl
  have harr : u.arr = { k.arr with pipe := u.arr.pipe, lastLoad := u.arr.lastLoad } := by simp [u, Core.tmmIssued, Core.enqueue, hidle]
  by_cases hrows : streamed w (tmmMask k w) = []
  · have hdone : (k.tmmIssued w i).clearFor x = { u with tile := { u.tile with queue := [] }, arr := { u.arr with lastLoad := 0 } } :=
      (if_pos hrows).trans (Core.dequeue_alone hone rfl)
    rw [hdone]
    refine ⟨rfl, (if_pos hrows).symm, fun acc _ => hstamp acc, fun acc m n _ hm hn => helem acc m n hm hn, hmasks, hflags, ?_⟩
    dsimp only
    rw [harr]
  · have hdone : (k.tmmIssued w i).clearFor x = u := if_neg hrows
    rw [hdone]
    exact ⟨rfl, hone.trans (if_neg hrows).symm, fun acc _ => hstamp acc, fun acc m n _ hm hn => helem acc m n hm hn, hmasks, hflags, harr⟩

theorem tileMultiplies : TileMultiplies := by
  unfold TileMultiplies
  intro s c r w
  refine fun h hops hstamp hwait hstaged => ⟨fun hidle => ?idle, fun hready hheld => ?held⟩
  case idle =>
    have hq : (s.core c).tile.queue = [] := hidle
    obtain ⟨hrun, -, -, -, -, htop, haudits, -⟩ := id h
    suffices hleft : ∃ t u, (s.putCore c (issueTmm (s.core c) w s.aclk)).tilesOn c = t ∧ OnlyCore s t c u ∧ TmmLeft (s.core c) u w s.aclk by
      obtain ⟨t, u, ht, honly, hseq, hqueue, hst, helem, hmasks, hflags, harr⟩ := hleft
      exact ⟨t, u, (exec_tmm h hops hstamp hwait hstaged).trans (congrArg _ ht), honly, hseq, hqueue, hst, helem, hmasks, hflags, harr⟩
    by_cases hskip : streamed w (tmmMask (s.core c) w) = [] ∧ twZero w = false
    · obtain ⟨hrows, hzero⟩ := hskip
      have hleft := tmmLeft_skips s.aclk hq hrows hzero (hstamp.resolve_left (by simp [hzero]))
      refine ⟨_, _, State.tilesOn_of_ready_none ?_, s.putCore_only c _, hleft⟩
      rw [State.core_putCore_same]
      exact Core.ready_empty (hleft.queue.trans (if_pos hrows))
    · rw [issueTmm_enters s.aclk hskip]
      have hqueue : ((s.core c).tmmIssued w s.aclk).tile.queue = [newPass (s.core c) w s.aclk] := by
        rw [(Core.tmmIssued_tile _ w s.aclk).2.2.2, hq, List.nil_append]
      cases hzero : twZero w with
      | false =>
        have hleft := tmmLeft_streams s.aclk hq (streamed_eq_nil_or hskip hzero) hzero (hstamp.resolve_left (by simp [hzero]))
        refine ⟨_, _, State.tilesOn_of_ready_none ?_, s.putCore_only c _, hleft⟩
        rw [State.core_putCore_same, Core.ready_alone hqueue, newPass_todo htop, hzero]
        rfl
      | true =>
        have hleft := tmmLeft_clears s.aclk hq hzero
        let k := (s.core c).tmmIssued w s.aclk
        let u := k.clearFor (newPass (s.core c) w s.aclk)
        have honly : OnlyCore s ((s.putCore c k).putCore c u) c u := s.putCore_putCore_only c k u
        have hperform : (s.putCore c k).perform c (newPass (s.core c) w s.aclk) r = (s.putCore c k).putCore c u := by
          rw [State.perform_tmm r (show twTop (newPass (s.core c) w s.aclk).word = 1 from htop), State.core_putCore_same]
        refine ⟨_, u, ?_, honly, hleft⟩
        have haud : k.arr.audits = false := by
          simp only [k, Core.tmmIssued, Core.enqueue, hq, List.any_nil]
          exact haudits
        rw [State.tilesOn_alone (k := k) (r := r) (x := newPass (s.core c) w s.aclk) hrun (tileIssuing_active h) haud hqueue
          ((newPass_todo htop _).trans hzero), hperform]
        rw [hperform, honly.1]
        by_cases hrows : streamed w (tmmMask (s.core c) w) = []
        · exact Core.ready_empty (hleft.queue.trans (if_pos hrows))
        · rw [Core.ready_alone (hleft.queue.trans (if_neg hrows)), Pass.todo,
            if_pos (show Pass.isTmm { newPass (s.core c) w s.aclk with clear := false } = true by
              simpa [Pass.isTmm, newPass, newEntry] using htop)]
          rfl
  case held =>
    obtain ⟨-, -, -, -, -, htop, -⟩ := id h
    refine (exec_tmm h hops hstamp hwait hstaged).trans (congrArg _ (State.tilesOn_of_ready_none ?_))
    rw [State.core_putCore_same]
    by_cases hskip : streamed w (tmmMask (s.core c) w) = [] ∧ twZero w = false
    · rw [issueTmm_skips _ hskip.1 hskip.2]
      exact hready
    · rw [issueTmm_enters _ hskip]
      have hqueue := (Core.tmmIssued_tile (s.core c) w s.aclk).2.2.2
      refine Core.ready_append hqueue hready fun htodo => ?_
      exact tileHeld_behind (hheld ((newPass_todo htop _).symm.trans htodo)) hqueue rfl rfl (by omega)

end Sys2Proof.Machine
end

section
/-!
PROOFS. The passes of the array: keeper loads, starts, restages and chunk sums (03 R97, R111 to R130, 04 R163 to R169, 05 R201).
-/
namespace Sys2Proof.Machine

open Sys2Proof.Claims

/-! ## Keeper loads -/

section Loads

variable {s : State} {c : Site} {x : Pass} (hactive : (s.core c).active = true) (haudits : (s.core c).arr.audits = false)
  (hfind : (s.core c).tile.queue.find? (fun y => y.isTmm && decide (y.phase = .waiting)) = some x)
include hactive haudits hfind

theorem exec_keeperLoad_reuses {e : KLatch} (he : (s.core c).arr.reuses x.word = some e) : exec (.keeperLoad c) s =
    .next (s.putCore c { s.core c with
      tile := (s.core c).tile.setPass { x with phase := .loaded, reuse := true, bank := e.bank, kscales := e.scales } }) := by
  change execKeeperLoad c s = _
  rw [execKeeperLoad]
  simp only [hfind]
  rw [if_neg (by simp [hactive, haudits]), he]

/-- The core of a keeper load that begins in cycle `l` (03 R117 to R121). -/
def Core.loadedFor (k : Core) (s : State) (c : Nat) (x : Pass) (l : Int) : Core :=
  let a := if twTk x.word then fillKeeper s c x.word k.arr else k.arr
  { k with
    arr := { a with pipe := a.pipe.loaded l (a.loadLen (twWide x.word)) (twTk x.word), lastLoad := loadBankOf k.arr x
                    kLatch := some (kLatchOf x.word (loadBankOf k.arr x) (keeperScales s c x.word)) }
    tile := k.tile.setPass { x with phase := .loaded, bank := loadBankOf k.arr x, cycL := l, kscales := keeperScales s c x.word
                                    keeper := keeperRows s c x.word a x.krow } }

theorem exec_keeperLoad_loads (he : (s.core c).arr.reuses x.word = none)
    (hwait : (s.core c).tile.loadWaits x (loadBankOf (s.core c).arr x) = false)
    (hreached : s.reached ((s.core c).arr.pipe.loadAt x.cycI (loadBankOf (s.core c).arr x) (twTk x.word)) = true)
    (hue : s.operandUe c [(twKaddr x.word, twKeeperBytes x.word), (twKsaddr x.word, twKscaleBytes x.word)] = none) : exec (.keeperLoad c) s =
    .next (s.putCore c ((s.core c).loadedFor s c x
      (max ((s.core c).arr.pipe.loadAt x.cycI (loadBankOf (s.core c).arr x) (twTk x.word)) s.aclk))) := by
  change execKeeperLoad c s = _
  rw [execKeeperLoad]
  simp only [hfind]
  rw [if_neg (by simp [hactive, haudits]), he]
  dsimp only
  rw [if_neg (by simp [hwait, hreached]), hue]
  rfl

end Loads

theorem keeperLoads : KeeperLoads := by
  unfold KeeperLoads
  intro s c x
  refine fun hactive haudits hfind => ⟨fun he hwait hreached hue => ?loads, fun e he => ?reuses⟩
  case loads =>
    exact ⟨_, exec_keeperLoad_loads hactive haudits hfind he hwait hreached hue, s.putCore_only c _⟩
  case reuses =>
    exact ⟨_, exec_keeperLoad_reuses hactive haudits hfind he, s.putCore_only c _⟩

/-! ## Pass starts -/

/-- The writing of keeper rows leaves what the array counts. -/
def SameCounts (b a : ArrayState) : Prop := b.active = a.active ∧ b.passes = a.passes

theorem ArrayState.putKeeper_sameCounts (a : ArrayState) (bank k n form : Nat) : SameCounts (a.putKeeper bank k n form) a := by
  unfold ArrayState.putKeeper
  dsimp only
  split
  · exact ⟨rfl, rfl⟩
  · split <;> exact ⟨rfl, rfl⟩

theorem sameCounts_foldl {β : Type} {f : ArrayState → β → ArrayState} (hf : ∀ b x, SameCounts (f b x) b) (l : List β) (a : ArrayState) :
    SameCounts (l.foldl f a) a :=
  foldl_keeps (P := fun b => SameCounts b a) f (fun b x h => ⟨(hf b x).1.trans h.1, (hf b x).2.trans h.2⟩) l a ⟨rfl, rfl⟩

theorem ArrayState.writeRows_sameCounts (a : ArrayState) (x : Pass) (n : Nat) : SameCounts (a.writeRows x n) a := by
  refine sameCounts_foldl (fun b k => ?_) _ a
  split
  · exact ⟨rfl, rfl⟩
  · exact sameCounts_foldl (fun b n => b.putKeeper_sameCounts _ _ _ _) _ b

/-- An array that is armed for a pass has its bank active, and has not counted it. -/
theorem ArrayState.armed_counts (a : ArrayState) (s : State) (c : Nat) (x : Pass) :
    (a.armed s c x).active = x.bank ∧ (a.armed s c x).passes = a.passes := by
  have hrows : (if x.reuse then a else a.writeRows x 96).passes = a.passes := by
    split
    · rfl
    · exact (a.writeRows_sameCounts x 96).2
  have hfill (b : ArrayState) : SameCounts (fillRunner s c x.word b) b := by
    refine sameCounts_foldl (fun b m => sameCounts_foldl (fun b k => ?_) _ b) _ b
    exact ⟨rfl, rfl⟩
  unfold ArrayState.armed
  dsimp only
  split
  · exact ⟨(hfill _).1, (hfill _).2.trans hrows⟩
  · exact ⟨rfl, hrows⟩

/-- A pass as it streams from cycle `cyc` on. -/
def Pass.startedAt (x : Pass) (s : State) (c : Nat) (k : Core) (cyc : Int) : Pass :=
  { x with phase := .streaming, first := x.row, cycS := cyc, cycT := cyc + (x.rows.length * twC x.word : Nat) - 1, keeper := []
           sums := passSums s c x (k.arr.armed s c x) }

theorem startPass_tile (s : State) (c : Nat) (k : Core) (x : Pass) (cyc : Int) :
    (startPass s c k x cyc).tile = k.tile.setPass (x.startedAt s c k cyc) := rfl

section Starts

variable {s : State} {c : Site} {x : Pass} (hactive : (s.core c).active = true) (hnext : (s.core c).tile.nextPass = some x)
include hactive hnext

theorem exec_passStart_starts (haudits : (s.core c).arr.audits = false) (hloaded : x.phase = .loaded)
    (hwait : (s.core c).tile.startWaits x = false) (hreached : s.reached ((s.core c).arr.startAt x) = true)
    (hepoch : twTr x.word = true ∨ s.num (coreAddr c (64 * twRaddr x.word) + 2) 2 = (s.core c).arr.epoch.toNat)
    (hue : s.passUe c x (s.core c).arr = none) : ∃ t, exec (.passStart c) s = .next t ∧
      t.cores = (s.putCore c (startPass s c (s.core c) x (max ((s.core c).arr.startAt x) s.aclk))).cores ∧ t.mem = s.mem ∧
      t.start = s.start ∧ t.freeCount = if x.skewed s c (s.core c).arr then s.freeCount + 1 else s.freeCount := by
  have hexec : exec (.passStart c) s = .next (if x.skewed s c (s.core c).arr then
        (s.putCore c (startPass s c (s.core c) x (max ((s.core c).arr.startAt x) s.aclk))).setFreeCount (s.freeCount + 1)
      else s.putCore c (startPass s c (s.core c) x (max ((s.core c).arr.startAt x) s.aclk))) := by
    change execPassStart c s = _
    rw [execPassStart]
    simp only [hnext]
    rw [if_neg (by simp [hactive, haudits, hloaded, hwait, hreached]), if_neg (by rcases hepoch with h | h <;> simp [h]), hue]
  refine ⟨_, hexec, ?_⟩
  split <;> exact ⟨rfl, rfl, rfl, rfl⟩

theorem exec_passStart_refused (haudits : (s.core c).arr.audits = false) (hloaded : x.phase = .loaded)
    (hwait : (s.core c).tile.startWaits x = false) (hreached : s.reached ((s.core c).arr.startAt x) = true)
    (htr : twTr x.word = false) (hepoch : s.num (coreAddr c (64 * twRaddr x.word) + 2) 2 ≠ (s.core c).arr.epoch.toNat) :
    exec (.passStart c) s = .next ((s.putCore c { s.core c with
      arr := { (s.core c).arr with restages := sat32 (s.core c).arr.restages 1 }
      tile := (s.core c).tile.setPass { x with phase := .restage } }).tallyAdd 0xA0 1) := by
  change execPassStart c s = _
  rw [execPassStart]
  simp only [hnext]
  rw [if_neg (by simp [hactive, haudits, hloaded, hwait, hreached]), if_pos (by simp [htr, hepoch])]

theorem exec_restage_lays {r : Run} (hrun : (s.core c).seq.run = some r) (hphase : x.phase = .restage)
    (hreads : ∀ m, m < twM x.word → s.checkReads (s.runWins r) (s.num (coreAddr c (64 * twRaddr x.word) + 16) 8 +
      m * s.num (coreAddr c (64 * twRaddr x.word) + 24) 4) ((twK x.word * fmtBits (twRfmt x.word) + 7) / 8) = none) :
    exec (.restage c) s = .next ((s.putCore c { s.core c with tile := (s.core c).tile.setPass { x with phase := .loaded } }).write
      (coreAddr c (64 * twRaddr x.word))
      (tileBytes s (s.core c).arr (twRfmt x.word) (twM x.word) (twK x.word) (fmtBits (twRfmt x.word)) (twC x.word)
        (s.num (coreAddr c (64 * twRaddr x.word) + 16) 8) (s.num (coreAddr c (64 * twRaddr x.word) + 24) 4) (twSteps x.word))) := by
  have hnone := List.findSome?_eq_none_iff.mpr fun m hm => hreads m (List.mem_range.mp hm)
  change execRestage c s = _
  rw [execRestage]
  simp only [hnext, hrun]
  rw [if_neg (by simp [hactive, hphase]), hnone]

end Starts

theorem passStarts : PassStarts := by
  unfold PassStarts
  intro s c x
  refine fun hactive hnext => ⟨fun haudits hloaded hwait hreached hepoch hue => ?starts, fun haudits hloaded hwait hreached htr hepoch => ?refused,
    fun r hrun hphase => ?restage⟩
  case starts =>
    let k := s.core c
    let u := startPass s c k x (max (k.arr.startAt x) s.aclk)
    obtain ⟨t, hexec, hcores, hmem, hstart, hfree⟩ := exec_passStart_starts hactive hnext haudits hloaded hwait hreached hepoch hue
    obtain ⟨hbank, hpasses⟩ := k.arr.armed_counts s c x
    have hput (y : Nat) : t.core y = (s.putCore c u).core y := by rw [State.core, hcores]; rfl
    have hcore : t.core c = u := (hput c).trans (State.core_putCore_same _ _ _)
    have hother : ∀ y, y ≠ c.val → t.core y = s.core y := fun y hy => (hput y).trans (State.core_putCore_ne _ _ _ _ hy)
    refine ⟨t, x.startedAt s c k (max (k.arr.startAt x) s.aclk), hexec, hcore, by rw [hcore]; exact startPass_tile s c k x _, rfl, rfl, rfl, rfl,
      rfl, by rw [hcore]; exact hbank, ?_, by rw [hcore]; rfl, hfree, hother, fun a => State.byte_congr s t a hmem (congrArg StartSt.img hstart)⟩
    rw [hcore, ← hpasses]
    rfl
  case refused =>
    exact ⟨_, exec_passStart_refused hactive hnext haudits hloaded hwait hreached htr hepoch, State.core_putCore_same _ _ _,
      fun y hy => State.core_putCore_ne _ _ _ _ hy, fun a => State.byte_congr s _ a rfl rfl⟩
  case restage =>
    refine fun hreads => ?_
    let k : Core := { s.core c with tile := (s.core c).tile.setPass { x with phase := .loaded } }
    obtain ⟨hin, hout⟩ := readsAfterWrites (s.putCore c k) (coreAddr c (64 * twRaddr x.word))
      (tileBytes s (s.core c).arr (twRfmt x.word) (twM x.word) (twK x.word) (fmtBits (twRfmt x.word)) (twC x.word)
        (s.num (coreAddr c (64 * twRaddr x.word) + 16) 8) (s.num (coreAddr c (64 * twRaddr x.word) + 24) 4) (twSteps x.word))
    obtain ⟨l, hl⟩ := (s.putCore c k).write_core (coreAddr c (64 * twRaddr x.word))
      (tileBytes s (s.core c).arr (twRfmt x.word) (twM x.word) (twK x.word) (fmtBits (twRfmt x.word)) (twC x.word)
        (s.num (coreAddr c (64 * twRaddr x.word) + 16) 8) (s.num (coreAddr c (64 * twRaddr x.word) + 24) 4) (twSteps x.word)) c
    rw [State.core_putCore_same] at hl
    exact ⟨_, exec_restage_lays hactive hnext hrun hphase hreads, ⟨hin, fun b hb => (hout b hb).trans (State.byte_congr s _ b rfl rfl)⟩,
      by rw [hl], by rw [hl]⟩

/-! ## Chunk sums -/

/-- A chunk sum is added into its element alone (03 R111, R112). -/
theorem TileState.addChunk_tile (t : TileState) (acc issue : Nat) (zero : Bool) (tag : Word) (y : ChunkSum) :
    (t.addChunk acc issue zero tag y).1.a = (t.putElem acc y.m y.n (addTile zero (t.elem acc y.m y.n) y).1).a ∧
      (t.addChunk acc issue zero tag y).1.queue = t.queue := by
  unfold TileState.addChunk
  dsimp only
  obtain ⟨v, event⟩ := addTile zero (t.elem acc y.m y.n) y
  obtain - | ⟨kind, k⟩ := event
  all_goals
    cases y.prodInv <;> cases y.nanIn <;> exact ⟨rfl, rfl⟩

/-- A pass without the chunk sum of an element. -/
def Pass.without (x : Pass) (m n : Nat) (inv : Bool) : Pass :=
  { x with sums := x.sums.filter fun z => !(decide (z.m = m ∧ z.n = n)), inv := x.inv || inv }

/-- The tile of a core once a chunk sum of a pass is added. -/
def Core.summed (k : Core) (x : Pass) (y : ChunkSum) : TileState × Bool :=
  k.tile.addChunk (twAcc x.word) x.issue (twZero x.word) ((k.seq.run.map (·.tag)).getD 0) y

/-- The core of a chunk sum that is written. -/
def Core.sumWritten (k : Core) (x : Pass) (y : ChunkSum) (m n : Nat) : Core :=
  let r := k.summed x y
  let t := if r.2 && !x.inv then r.1.countInv else r.1
  let t := if x.recorded then { t with insnInv := (x.without m n r.2).inv } else t
  { k with tile := t.setPass (x.without m n r.2) }

theorem Core.sumWritten_tile (k : Core) (x : Pass) (y : ChunkSum) (m n : Nat) :
    (k.sumWritten x y m n).tile.a = (k.tile.putElem (twAcc x.word) y.m y.n (addTile (twZero x.word) (k.tile.elem (twAcc x.word) y.m y.n) y).1).a ∧
      (k.sumWritten x y m n).tile.queue = k.tile.queue.map fun p => if p.issue = x.issue then x.without m n (k.summed x y).2 else p := by
  obtain ⟨ha, hq⟩ := k.tile.addChunk_tile (twAcc x.word) x.issue (twZero x.word) ((k.seq.run.map (·.tag)).getD 0) y
  have hcount : (if (k.summed x y).2 && !x.inv then (k.summed x y).1.countInv else (k.summed x y).1).a = (k.summed x y).1.a ∧
      (if (k.summed x y).2 && !x.inv then (k.summed x y).1.countInv else (k.summed x y).1).queue = (k.summed x y).1.queue := by
    split <;> exact ⟨rfl, rfl⟩
  unfold Core.sumWritten
  dsimp only
  split
  · exact ⟨hcount.1.trans ha, congrArg (List.map _) (hcount.2.trans hq)⟩
  · exact ⟨hcount.1.trans ha, congrArg (List.map _) (hcount.2.trans hq)⟩

theorem exec_chunkSumWrite {s : State} {c : Site} {x : Pass} {y : ChunkSum} {m : Fin 256} {n : Fin 96}
    (hfind : (s.core c).tile.queue.find? (fun x => x.sums.any fun y => decide (y.m = m.val ∧ y.n = n.val)) = some x)
    (hsum : x.sums.find? (fun y => decide (y.m = m.val ∧ y.n = n.val)) = some y)
    (hearlier : ∀ z ∈ (s.core c).tile.earlier x, z.isTmm = true) (hreached : s.reached (x.writeAt (s.core c).arr m n) = true) :
    exec (.chunkSumWrite c m n) s = .next (if (x.without m n ((s.core c).summed x y).2).sums.isEmpty then
        retirePass (s.putCore c ((s.core c).sumWritten x y m n)) c (x.without m n ((s.core c).summed x y).2)
      else s.putCore c ((s.core c).sumWritten x y m n)) := by
  change execChunkSumWrite c m n s = _
  rw [execChunkSumWrite]
  simp only [hfind, hsum]
  rw [if_neg]
  · rfl
  · simp only [hreached, Bool.not_true, Bool.or_false, List.any_eq_true, Bool.not_eq_true', not_exists, not_and, Bool.not_eq_false]
    exact hearlier

/-- A pass that is alone in its queue, whose item has no status, leaves it (03 R122). -/
theorem retirePass_alone {s : State} {c : Nat} {x y : Pass} (hq : (s.core c).tile.queue = [y]) (hi : y.issue = x.issue)
    (hphase : x.phase ≠ .cut) (hitem : ∀ r, (s.core c).seq.run = some r → r.trap = false ∧ ∀ i, s.item? r.q r.k = some i → i.status = 0) :
    retirePass s c x = s.putCore c ((s.core c).dequeue x) := by
  have hempty : (((s.putCore c ((s.core c).dequeue x)).core c)).ready = none := by
    rw [State.core_putCore_same, Core.dequeue_alone hq hi]
    exact Core.ready_empty rfl
  unfold retirePass
  dsimp only
  rw [if_neg fun h => hphase h.1]
  split
  · rfl
  · next r hr =>
    obtain ⟨htrap, hstatus⟩ := hitem r hr
    rw [if_neg (by simp [htrap])]
    rw [show (s.putCore c ((s.core c).dequeue x)).settleItem r.q r.k = s.putCore c ((s.core c).dequeue x) from
      State.settleItem_of_undecided hstatus]
    exact State.tilesOn_of_ready_none hempty

theorem chunkSumWrite : ChunkSumWrite := by
  unfold ChunkSumWrite
  intro s c x y m n
  refine fun hfind hsum hearlier hreached hlast => ?_
  let k := s.core c
  let u := k.sumWritten x y m n
  have hexec := exec_chunkSumWrite hfind hsum hearlier hreached
  obtain ⟨hym, hyn⟩ : y.m = m.val ∧ y.n = n.val := by simpa using List.find?_some hsum
  obtain ⟨ha, hq⟩ := k.sumWritten_tile x y m n
  have helem (t : TileState) (ht : t.a = u.tile.a) (acc i j : Nat) (hi : i < 256) (hj : j < 96) : t.elem acc i j =
      if acc = twAcc x.word ∧ i = m.val ∧ j = n.val then (addTile (twZero x.word) (k.tile.elem acc i j) y).1 else k.tile.elem acc i j := by
    rw [TileState.elem, ht, ha, hym, hyn, TileState.putElem, tget_tput]
    by_cases he : acc = twAcc x.word ∧ i = m.val ∧ j = n.val
    · obtain ⟨rfl, rfl, rfl⟩ := he
      rw [if_pos rfl, if_pos ⟨rfl, rfl, rfl⟩]
    · rw [if_neg fun hkey => he ((tileKey_inj hi hj m.isLt n.isLt).mp hkey), if_neg he]
      rfl
  have hcore : (s.putCore c u).core c = u := State.core_putCore_same _ _ _
  by_cases hrest : x.sums.filter (fun z => !(decide (z.m = m.val ∧ z.n = n.val))) = []
  · obtain ⟨halone, hstreams, hitem⟩ := hlast.resolve_left (not_not.mpr hrest)
    have hone : u.tile.queue = [x.without m n (k.summed x y).2] := by rw [hq, halone]; simp
    have hretire := retirePass_alone (s := s.putCore c u) (c := c) (x := x.without m n (k.summed x y).2) (by rw [hcore]; exact hone) rfl
      (by rw [show (x.without m n (k.summed x y).2).phase = .streaming from hstreams]; decide) (by rw [hcore]; exact hitem)
    rw [if_pos (by rw [show (x.without m n (k.summed x y).2).sums = [] from hrest]; rfl), hretire, hcore, Core.dequeue_alone hone rfl] at hexec
    have hlast := State.core_putCore_same (s.putCore c u) c { u with
      tile := { (if (x.without m n (k.summed x y).2).recorded then u.tile.unrecord else u.tile) with queue := [] }
      arr := { u.arr with lastLoad := 0 } }
    refine ⟨_, hexec, fun acc i j _ hi hj => ?_, ?_, ?_,
      fun z hz => (State.core_putCore_ne _ _ _ _ hz).trans (State.core_putCore_ne _ _ _ _ hz), fun a => State.byte_congr s _ a rfl rfl⟩
    · rw [hlast]
      refine helem _ ?_ acc i j hi hj
      dsimp only
      split <;> rfl
    · rw [hlast, if_pos hrest]
      rfl
    · rw [hlast]
      rfl
  · rw [if_neg (by simpa [Pass.without] using hrest)] at hexec
    refine ⟨_, hexec, fun acc i j _ hi hj => ?_, ?_, ?_, fun z hz => State.core_putCore_ne _ _ _ _ hz, fun a => State.byte_congr s _ a rfl rfl⟩
    · rw [hcore]
      exact helem _ rfl acc i j hi hj
    · rw [hcore, if_neg hrest, hq, List.map_map]
      refine List.map_congr_left fun z _ => ?_
      dsimp only [Function.comp_apply]
      split <;> rfl
    · rw [hcore]
      rfl

/-- Settles O13: what a tile instruction does at issue is the first thing that its queue can do, and each event of a pass changes its own
core alone. -/
theorem tileMultiply : Obligations.TileMultiply := ⟨tileZero, tileMultiplies, keeperLoads, passStarts, chunkSumWrite⟩

end Sys2Proof.Machine
end

section
/-!
PROOFS. Tiles read out, saved and restored (04 R145, R155, R156, R165, R166, R189).
-/
namespace Sys2Proof.Machine

open Sys2Proof.Claims

/-! ## TSAVE and TRESTORE -/

/-- A stamp is read back as it was saved (04 R193). -/
theorem stampOf_word (x : Stamp) : stampOf x.word = x := by
  have hn := x.nM1.isLt
  have hm := x.mM1.isLt
  obtain ⟨valid, n, m⟩ := x
  dsimp only at hn hm
  have hvalid : (b01 valid * 2 ^ 31 + n.toNat * 256 + m.toNat).testBit 31 = valid := by
    rw [Nat.testBit_eq_decide_div_mod_eq]
    cases valid <;> simp only [b01] <;> simp <;> omega
  have hhigh : bitsOf (b01 valid * 2 ^ 31 + n.toNat * 256 + m.toNat) 14 8 = n.toNat := by
    rw [bitsOf, Nat.shiftRight_eq_div_pow]
    cases valid <;> simp only [b01] <;> omega
  have hlow : bitsOf (b01 valid * 2 ^ 31 + n.toNat * 256 + m.toNat) 7 0 = m.toNat := by
    rw [bitsOf, Nat.shiftRight_eq_div_pow]
    cases valid <;> simp only [b01] <;> omega
  simp only [stampOf, Stamp.word, hvalid, hhigh, hlow, BitVec.ofNat_toNat, BitVec.setWidth_eq]

theorem Stamp.word_lt (x : Stamp) : x.word < 2 ^ 64 := by
  have hn := x.nM1.isLt
  have hm := x.mM1.isLt
  unfold Stamp.word b01
  split <;> omega

/-- A TSAVE as it enters the queue, with the stamp that it saves. -/
def saveEntry (k : Core) (w : TWord) (i : Int) : Pass := { newEntry k w i with org := BitVec.ofNat 64 (k.tile.stamp (twAcc w)).word }

theorem exec_tsave {s : State} {c : Site} {r : Run} {w : TWord} (h : tileIssuing s c r 3 w)
    (hops : operandsFail c r.extent [(twRaddr w, imageBytes)] = none) (hshape : readShape (s.core c) w true = true)
    (hwait : (s.core c).slotWait [(twRaddr w, imageBytes)] true = false) :
    exec (.tsave c w) s = .next ((s.putCore c ((s.core c).enqueue (saveEntry (s.core c) w s.aclk))).tilesOn c) := by
  change execTsave c w s = _
  rw [execTsave, State.tileIssue_of_issuing h]
  simp only [hops, hshape, hwait]
  rfl

/-- The key of an element by its place in the tile's image (04 R165). -/
theorem tileKey_div (acc i : Nat) : tileKey acc (i / 96) (i % 96) = 24576 * acc + i := by rw [tileKey, Nat.add_assoc, Nat.div_add_mod]

theorem tileElems_eq (t : TileState) (acc : Nat) :
    tileElems t acc = ((List.range 24576).map fun i => natLe 5 (t.elem acc (i / 96) (i % 96)).toNat).flatten := by
  rw [tileElems]
  refine congrArg List.flatten (List.map_congr_left fun i _ => ?_)
  rw [TileState.elem, tileKey_div]

theorem exec_trestore {s : State} {c : Site} {r : Run} {w : TWord} (h : tileIssuing s c r 4 w)
    (hops : operandsFail c r.extent [(twRaddr w, imageBytes)] = none) (hwait : (s.core c).slotWait [(twRaddr w, imageBytes)] false = false)
    (hue : s.operandUe c [(twRaddr w, imageBytes)] = none) (hstamp : bitsOf (s.num (coreAddr c (64 * twRaddr w) + 122880) 4) 14 8 < 96) :
    exec (.trestore c w) s = .next ((s.putCore c ({ s.core c with
      tile := (s.core c).tile.setStamp (twAcc w) (stampOf (s.num (coreAddr c (64 * twRaddr w) + 122880) 4)) }.enqueue
        (newEntry (s.core c) w s.aclk))).tilesOn c) := by
  change execTrestore c w s = _
  rw [execTrestore, State.tileIssue_of_issuing h]
  simp only [hops, hwait, hue]
  rw [if_neg (by decide), if_neg (Nat.not_le.mpr hstamp)]

/-- Values put one after another from a key on. -/
theorem tget_foldl_from {α : Type} [DecidableEq α] {d : α} (f : Nat → α) (t : Table α) (lo n k : Nat) :
    tget d ((List.range n).foldl (fun l i => tput d l (lo + i) (f i)) t) k = if lo ≤ k ∧ k < lo + n then f (k - lo) else tget d t k := by
  induction n with
  | zero => rw [List.range_zero, List.foldl_nil, if_neg (by omega)]
  | succ n ih =>
    rw [List.range_succ, List.foldl_concat, tget_tput]
    by_cases hk : k = lo + n
    · rw [if_pos hk, if_pos (by omega)]
      exact congrArg f (by omega)
    · rw [if_neg hk, ih]
      exact if_congr (by omega) rfl rfl

theorem restoreElems_a (t : TileState) (acc : Nat) (f : Nat → Nat) : (restoreElems t acc f).a =
    (List.range 24576).foldl (fun l i => tput 0 l (24576 * acc + i) (BitVec.ofNat 34 (f i))) (t.clear acc).a := by
  unfold restoreElems
  generalize t.clear acc = u
  generalize List.range 24576 = l
  induction l generalizing u with
  | nil => rfl
  | cons i l ih => rw [List.foldl_cons, List.foldl_cons, ih]

/-- A restore leaves all of a tile state but its elements. -/
theorem restoreElems_rest (t : TileState) (acc : Nat) (f : Nat → Nat) :
    (restoreElems t acc f).stamps = t.stamps ∧ (restoreElems t acc f).queue = t.queue := by
  unfold restoreElems
  generalize List.range 24576 = l
  refine foldl_keeps (P := fun u : TileState => u.stamps = t.stamps ∧ u.queue = t.queue) _ ?_ l (t.clear acc) ⟨rfl, rfl⟩
  exact fun _ _ h => h

theorem elem_restoreElems (t : TileState) (a : Nat) (f : Nat → Nat) {acc m n : Nat} (hm : m < 256) (hn : n < 96) :
    (restoreElems t a f).elem acc m n = if acc = a then BitVec.ofNat 34 (f (96 * m + n)) else t.elem acc m n := by
  rw [TileState.elem, restoreElems_a, tget_foldl_from fun i => BitVec.ofNat 34 (f i)]
  by_cases he : acc = a
  · subst he
    rw [if_pos (by unfold tileKey; omega), if_pos rfl]
    exact congrArg (fun i => BitVec.ofNat 34 (f i)) (by unfold tileKey; omega)
  · rw [if_neg (by unfold tileKey; omega), if_neg he]
    exact (t.elem_clear a hm hn).trans (if_neg he)

theorem tileSaveAndRestore : TileSaveAndRestore := by
  unfold TileSaveAndRestore
  intro s c r w
  refine fun hops hidle => ⟨fun h hext hsite hshape hwait => ?save, fun h hwait hue hstamp => ?restore⟩
  case save =>
    have hq : (s.core c).tile.queue = [] := hidle
    obtain ⟨hrun, -, -, -, -, htop, haudits, -⟩ := id h
    let x := saveEntry (s.core c) w s.aclk
    let k := (s.core c).enqueue x
    have hqueue : k.tile.queue = [x] := congrArg (· ++ [x]) hq
    let u : Core := { k with tile := { k.tile with queue := [] }, arr := { k.arr with lastLoad := 0 } }
    have hdone : k.dequeue x = u := Core.dequeue_alone hqueue rfl
    have hstamp : stampOf x.org.toNat = (s.core c).tile.stamp (twAcc w) := by
      have horg : x.org.toNat = ((s.core c).tile.stamp (twAcc w)).word :=
        (BitVec.toNat_ofNat _ _).trans (Nat.mod_eq_of_lt (Stamp.word_lt _))
      rw [horg, stampOf_word]
    have hperform : (s.putCore c k).perform c x r = ((s.putCore c k).putCore c u).write (coreAddr c (64 * twRaddr w))
        (tileImage (s.core c).tile (twAcc w) ((s.core c).tile.stamp (twAcc w))) := by
      rw [State.perform_tsave r (show twTop x.word = 3 from htop), State.core_putCore_same, hdone, hstamp]
      rfl
    obtain ⟨l, hl⟩ := ((s.putCore c k).putCore c u).write_core (coreAddr c (64 * twRaddr w))
      (tileImage (s.core c).tile (twAcc w) ((s.core c).tile.stamp (twAcc w))) c
    rw [State.core_putCore_same] at hl
    obtain ⟨hin, hout⟩ := readsAfterWrites ((s.putCore c k).putCore c u) (coreAddr c (64 * twRaddr w))
      (tileImage (s.core c).tile (twAcc w) ((s.core c).tile.stamp (twAcc w)))
    have htiles : (s.putCore c k).tilesOn c = ((s.putCore c k).putCore c u).write (coreAddr c (64 * twRaddr w))
        (tileImage (s.core c).tile (twAcc w) ((s.core c).tile.stamp (twAcc w))) := by
      rw [State.tilesOn_alone (k := k) (r := r) (x := x) hrun (tileIssuing_active h) haudits hqueue, hperform]
      · simp [Pass.todo, Pass.isTmm, x, saveEntry, newEntry, htop]
      · rw [hperform, hl]
        exact Core.ready_empty rfl
    refine ⟨_, (exec_tsave h hops hshape hwait).trans (congrArg _ htiles), ?_, by rw [hl]; rfl, by rw [hl]; rfl⟩
    rw [← tileElems_eq]
    exact ⟨hin, fun b hb => (hout b hb).trans (State.byte_congr s _ b rfl rfl)⟩
  case restore =>
    have hq : (s.core c).tile.queue = [] := hidle
    obtain ⟨hrun, -, -, -, -, htop, haudits, -⟩ := id h
    let x := newEntry (s.core c) w s.aclk
    let k : Core := { s.core c with
      tile := (s.core c).tile.setStamp (twAcc w) (stampOf (s.num (coreAddr c (64 * twRaddr w) + 122880) 4)) }.enqueue x
    let f (i : Nat) : Nat := s.num (coreAddr c (64 * twRaddr w) + 5 * i) 5
    have hnum (i : Nat) : (s.putCore c k).num (coreAddr c (64 * twRaddr w) + 5 * i) 5 = f i := rfl
    have hqueue : k.tile.queue = [x] := congrArg (· ++ [x]) hq
    obtain ⟨v, hv, helem, hstamps, hempty⟩ : ∃ v, restoreElems k.tile (twAcc w) f = v ∧
        (∀ acc m n, m < 256 → n < 96 → v.elem acc m n = if acc = twAcc w then BitVec.ofNat 34 (f (96 * m + n)) else k.tile.elem acc m n) ∧
        v.stamps = k.tile.stamps ∧ v.queue = k.tile.queue :=
      ⟨_, rfl, fun _ _ _ hm hn => elem_restoreElems _ _ f hm hn, (restoreElems_rest _ _ f).1, (restoreElems_rest _ _ f).2⟩
    let u : Core := { k with tile := { v with queue := [] }, arr := { k.arr with lastLoad := 0 } }
    have hdone : { k with tile := v }.dequeue x = u := Core.dequeue_alone (hempty.trans hqueue) rfl
    have honly := s.putCore_putCore_only c k u
    have hperform : (s.putCore c k).perform c x r = (s.putCore c k).putCore c u := by
      rw [State.perform_trestore (s := s.putCore c k) r (show twTop x.word = 4 from htop) hue, State.core_putCore_same, ← hdone]
      simp only [show x.word = w from rfl, hnum, hv]
    have htiles : (s.putCore c k).tilesOn c = (s.putCore c k).putCore c u := by
      rw [State.tilesOn_alone (k := k) (r := r) (x := x) hrun (tileIssuing_active h) haudits hqueue, hperform]
      · simp [Pass.todo, Pass.isTmm, x, newEntry, htop]
      · rw [hperform, honly.1]
        exact Core.ready_empty rfl
    refine ⟨_, (exec_trestore h hops hwait hue hstamp).trans (congrArg _ htiles), honly.2.2.2, fun acc m n _ hm hn => ?_, ?_,
      by rw [honly.1]; rfl, honly.2.1⟩
    · rw [honly.1]
      exact helem acc m n hm hn
    · rw [honly.1]
      refine (congrArg (fun v => vget v (twAcc w) Stamp.invalid) hstamps).trans ?_
      exact ((s.core c).tile.stamp_setStamp _ _ _ (twAcc_lt w)).trans (if_pos rfl)

end Sys2Proof.Machine
end

section
/-!
PROOFS. TACCRD: the rows of a tile, to core memory with their scales or to vector registers, at once or in two parts (04 R155 to R157,
R161, R189).
-/
namespace Sys2Proof.Machine

open Sys2Proof.Claims

/-! ## One row -/

/-- What a readout leaves of its core: all but vector registers, captured events, flags and what the feeder holds. -/
structure ReadsOn (u k : Core) : Prop where
  seq : u.seq = { k.seq with v := u.seq.v }
  elems : u.tile.a = k.tile.a
  nans : u.tile.nans = k.tile.nans
  queue : u.tile.queue = k.tile.queue
  audits : u.arr.audits = k.arr.audits

theorem ReadsOn.refl (k : Core) : ReadsOn k k := ⟨rfl, rfl, rfl, rfl, rfl⟩

theorem ReadsOn.trans {v u k : Core} (h : ReadsOn v u) (g : ReadsOn u k) : ReadsOn v k where
  seq := by rw [h.seq, g.seq]
  elems := h.elems.trans g.elems
  nans := h.nans.trans g.nans
  queue := h.queue.trans g.queue
  audits := h.audits.trans g.audits

theorem captureRow_same (t : TileState) (w : TWord) (issue : Nat) (tag : Word) (m : Nat) :
    (captureRow t w issue tag m).a = t.a ∧ (captureRow t w issue tag m).nans = t.nans ∧ (captureRow t w issue tag m).queue = t.queue := by
  unfold captureRow
  refine foldl_keeps (P := fun u : TileState => u.a = t.a ∧ u.nans = t.nans ∧ u.queue = t.queue) _ (fun u n h => ?_) _ t ⟨rfl, rfl, rfl⟩
  split <;> exact h

/-- A row depends on the elements of its tile, and on where their NaNs came from. -/
theorem readRow_congr {t u : TileState} (ha : u.a = t.a) (hn : u.nans = t.nans) (w : TWord) (org seed : DWord) (m : Nat) :
    readRow u w org seed m = readRow t w org seed m := by
  have helem (acc m n : Nat) : u.elem acc m n = t.elem acc m n := by rw [TileState.elem, ha]; rfl
  have hvals (acc m n : Nat) (rnd : Nat → Rnd) : rowVals u acc m n rnd = rowVals t acc m n rnd := by simp only [rowVals, helem]
  have hnan : operandNan u w m = operandNan t w m := by simp only [operandNan, helem, hn]
  simp only [readRow, hvals, hnan]

/-- The core of a row that is read: its captures and flags. -/
def Core.rowRead (k : Core) (x : Pass) (r : Run) (m : Nat) : Core :=
  { k with tile := captureRow k.tile x.word x.issue r.tag m }.raise (readRow k.tile x.word x.org r.seed m).2.2

theorem Core.rowRead_readsOn (k : Core) (x : Pass) (r : Run) (m : Nat) : ReadsOn (k.rowRead x r m) k := by
  obtain ⟨ha, hn, hq⟩ := captureRow_same k.tile x.word x.issue r.tag m
  exact ⟨rfl, ha, hn, hq, rfl⟩

/-- The bytes of a row in core memory, and of its scales (04 R155). -/
def rowLine (t : TileState) (w : TWord) (org seed : DWord) (m : Nat) : List Byte :=
  natLe (rowBytes (twN w) (fmtBits (twOfmt w))) (packNat (fmtBits (twOfmt w)) (readRow t w org seed m).1)
def rowScales (t : TileState) (w : TWord) (org seed : DWord) (m : Nat) : List Byte :=
  (readRow t w org seed m).2.1.map (BitVec.ofNat 8)

theorem rowLine_length (t : TileState) (w : TWord) (org seed : DWord) (m : Nat) :
    (rowLine t w org seed m).length = rowBytes (twN w) (fmtBits (twOfmt w)) := natLe_length _ _

theorem blocks32_length (n : Nat) (vs ws : List (Val × Rnd)) (h : vs.length = ws.length) :
    (blocks32 n vs).length = (blocks32 n ws).length := by
  induction n generalizing vs ws with
  | zero => rfl
  | succ n ih =>
    have hempty : vs.isEmpty = ws.isEmpty := by
      rw [Bool.eq_iff_iff, List.isEmpty_iff_length_eq_zero, List.isEmpty_iff_length_eq_zero, h]
    rw [blocks32, blocks32, hempty]
    split
    · rfl
    · exact congrArg (· + 1) (ih _ _ (by simp [h]))

/-- Each row has as many scales. -/
theorem rowScales_length (t : TileState) (w : TWord) (org seed : DWord) (m : Nat) :
    (rowScales t w org seed m).length = (rowScales t w org seed 0).length := by
  have hlen (m : Nat) : (rowVals t (twAcc w) m (twN w) fun n => readRnd w seed org m n).length = twN w := by simp [rowVals]
  simp only [rowScales, readRow, List.length_map, convRow]
  split
  · simp only [List.length_map]
    rw [hlen, hlen]
    exact blocks32_length _ _ _ ((hlen m).trans (hlen 0).symm)
  · rfl

theorem rowScales_plain {w : TWord} (h : fmtScaled (twOfmt w) = false) (t : TileState) (org seed : DWord) (m : Nat) :
    rowScales t w org seed m = [] := by
  simp [rowScales, readRow, convRow, h]

theorem rowToMemory_eq (s : State) (c : Nat) (k : TileState) (w : TWord) (org seed : DWord) (m : Nat) :
    rowToMemory s c w m (readRow k w org seed m) =
      (s.write (coreAddr c (64 * twRaddr w) + m * rowBytes (twN w) (fmtBits (twOfmt w))) (rowLine k w org seed m)).write
        (coreAddr c (64 * twRsaddr w) + m * (rowScales k w org seed m).length) (rowScales k w org seed m) := by
  unfold rowToMemory
  dsimp only
  by_cases hnone : (readRow k w org seed m).2.1 = []
  · rw [if_pos hnone, rowScales, hnone]
    rfl
  · rw [if_neg hnone, rowScales, List.length_map]
    rfl

section Rows

variable (s : State) (c : Nat) (x : Pass) (r : Run) (m : Nat)

theorem readOut_memory (h : twDest x.word = false) : readOut s c x r m = rowToMemory (s.putCore c ((s.core c).rowRead x r m)) c x.word m
    (readRow (s.core c).tile x.word x.org r.seed m) :=
  if_neg (by simp [h])

theorem readOut_vector (h : twDest x.word = true) : readOut s c x r m = s.putCore c { (s.core c).rowRead x r m with
    seq := rowToVector (s.core c).seq x.word m (readRow (s.core c).tile x.word x.org r.seed m).1 } :=
  if_pos h

theorem rowToVector_rest (y : SeqState) (w : TWord) (codes : List Nat) : rowToVector y w m codes = { y with v := (rowToVector y w m codes).v } := by
  unfold rowToVector
  exact foldl_keeps (P := fun z : SeqState => z = { y with v := z.v }) _ (fun z n h => by dsimp only; rw [h]; rfl) _ y rfl

/-- A row that is read leaves its core as a readout may; one to core memory leaves its vector registers too. -/
theorem readOut_core : ReadsOn ((readOut s c x r m).core c) (s.core c) ∧
    (twDest x.word = false → ((readOut s c x r m).core c).seq = (s.core c).seq) := by
  have hrow := (s.core c).rowRead_readsOn x r m
  cases hdest : twDest x.word with
  | false =>
    rw [readOut_memory s c x r m hdest, rowToMemory_eq]
    obtain ⟨l, hl⟩ := (s.putCore c ((s.core c).rowRead x r m)).write_core
      (coreAddr c (64 * twRaddr x.word) + m * rowBytes (twN x.word) (fmtBits (twOfmt x.word))) (rowLine (s.core c).tile x.word x.org r.seed m) c
    obtain ⟨l', hl'⟩ := ((s.putCore c ((s.core c).rowRead x r m)).write
      (coreAddr c (64 * twRaddr x.word) + m * rowBytes (twN x.word) (fmtBits (twOfmt x.word)))
      (rowLine (s.core c).tile x.word x.org r.seed m)).write_core
      (coreAddr c (64 * twRsaddr x.word) + m * (rowScales (s.core c).tile x.word x.org r.seed m).length)
      (rowScales (s.core c).tile x.word x.org r.seed m) c
    rw [hl', hl, State.core_putCore_same]
    exact ⟨⟨hrow.seq, hrow.elems, hrow.nans, hrow.queue, hrow.audits⟩, fun _ => rfl⟩
  | true =>
    rw [readOut_vector s c x r m hdest, State.core_putCore_same]
    exact ⟨⟨rowToVector_rest m _ _ _, hrow.elems, hrow.nans, hrow.queue, hrow.audits⟩, nofun⟩

/-- The bytes of memory after a row: its line, its scales, and all others as before. -/
theorem readOut_byte (h : twDest x.word = false) (b : Nat) : (readOut s c x r m).byte b =
    if coreAddr c (64 * twRsaddr x.word) + m * (rowScales (s.core c).tile x.word x.org r.seed 0).length ≤ b ∧
        b < coreAddr c (64 * twRsaddr x.word) + m * (rowScales (s.core c).tile x.word x.org r.seed 0).length +
          (rowScales (s.core c).tile x.word x.org r.seed 0).length then
      (rowScales (s.core c).tile x.word x.org r.seed m).getD
        (b - (coreAddr c (64 * twRsaddr x.word) + m * (rowScales (s.core c).tile x.word x.org r.seed 0).length)) 0
    else if coreAddr c (64 * twRaddr x.word) + m * rowBytes (twN x.word) (fmtBits (twOfmt x.word)) ≤ b ∧
        b < coreAddr c (64 * twRaddr x.word) + m * rowBytes (twN x.word) (fmtBits (twOfmt x.word)) +
          rowBytes (twN x.word) (fmtBits (twOfmt x.word)) then
      (rowLine (s.core c).tile x.word x.org r.seed m).getD
        (b - (coreAddr c (64 * twRaddr x.word) + m * rowBytes (twN x.word) (fmtBits (twOfmt x.word)))) 0
    else s.byte b := by
  rw [readOut_memory s c x r m h, rowToMemory_eq, State.write_byte, State.write_byte, rowScales_length, rowLine_length]
  rfl

end Rows

/-! ## Rows one after another -/

/-- Rows `lo` to `lo + n − 1` are read. -/
def State.readRows (s : State) (c : Nat) (x : Pass) (r : Run) (lo n : Nat) : State :=
  (List.range' lo n).foldl (fun t m => readOut t c x r m) s

theorem State.readRows_succ (s : State) (c : Nat) (x : Pass) (r : Run) (lo n : Nat) :
    s.readRows c x r lo (n + 1) = readOut (s.readRows c x r lo n) c x r (lo + n) := by
  rw [State.readRows, List.range'_concat, List.foldl_concat, Nat.one_mul]
  rfl

theorem State.readRows_core (s : State) (c : Nat) (x : Pass) (r : Run) (lo n : Nat) : ReadsOn ((s.readRows c x r lo n).core c) (s.core c) ∧
    (twDest x.word = false → ((s.readRows c x r lo n).core c).seq = (s.core c).seq) := by
  refine foldl_keeps (P := fun t : State => ReadsOn (t.core c) (s.core c) ∧ (twDest x.word = false → (t.core c).seq = (s.core c).seq)) _
    (fun t m h => ?_) _ s ⟨.refl _, fun _ => rfl⟩
  obtain ⟨hreads, hseq⟩ := readOut_core t c x r m
  exact ⟨hreads.trans h.1, fun hd => (hseq hd).trans (h.2 hd)⟩

theorem rows_length {f : Nat → List Byte} {len : Nat} (hf : ∀ m, (f m).length = len) (n : Nat) :
    ((List.range n).map f).flatten.length = n * len := by
  induction n with
  | zero => simp
  | succ n ih => rw [List.range_succ, List.map_append, List.flatten_append, List.length_append, ih]; simp [hf, Nat.succ_mul]

/-- A byte of rows of one length that stand one after another. -/
theorem rows_getD {f : Nat → List Byte} {len n m i : Nat} (hf : ∀ m, (f m).length = len) (hm : m < n) (hi : i < len) :
    ((List.range n).map f).flatten.getD (m * len + i) 0 = (f m).getD i 0 := by
  induction n with
  | zero => omega
  | succ n ih =>
    rw [List.range_succ, List.map_append, List.flatten_append, List.map_singleton, List.flatten_singleton]
    have hlen := rows_length hf n
    by_cases he : m = n
    · subst he
      rw [List.getD_append_right _ _ _ _ (by omega), hlen, Nat.add_sub_cancel_left]
    · have hle : (m + 1) * len ≤ n * len := Nat.mul_le_mul_right _ (by omega)
      rw [Nat.succ_mul] at hle
      rw [List.getD_append _ _ _ _ (by omega), ih (by omega)]

section Memory

variable {s : State} {c : Nat} {x : Pass} (r : Run)

/-- The bytes of the first rows of a tile, and of their scales. -/
def TileState.lines (t : TileState) (w : TWord) (org seed : DWord) (n : Nat) : List Byte := ((List.range n).map (rowLine t w org seed)).flatten
def TileState.scales (t : TileState) (w : TWord) (org seed : DWord) (n : Nat) : List Byte := ((List.range n).map (rowScales t w org seed)).flatten

theorem rowLine_congr {u k : Core} (h : ReadsOn u k) (m : Nat) : rowLine u.tile x.word x.org r.seed m = rowLine k.tile x.word x.org r.seed m := by
  rw [rowLine, readRow_congr h.elems h.nans]
  rfl

theorem rowScales_congr {u k : Core} (h : ReadsOn u k) (m : Nat) :
    rowScales u.tile x.word x.org r.seed m = rowScales k.tile x.word x.org r.seed m := by
  rw [rowScales, readRow_congr h.elems h.nans]
  rfl

/-- Rows of memory and their scales, where the two do not meet. -/
theorem State.readRows_byte (hdest : twDest x.word = false) {lo n M : Nat} (hM : lo + n ≤ M)
    (hapart : ∀ b, coreAddr c (64 * twRaddr x.word) ≤ b →
      b < coreAddr c (64 * twRaddr x.word) + M * rowBytes (twN x.word) (fmtBits (twOfmt x.word)) → coreAddr c (64 * twRsaddr x.word) ≤ b →
      ¬b < coreAddr c (64 * twRsaddr x.word) + M * (rowScales (s.core c).tile x.word x.org r.seed 0).length) (b : Nat) :
    (s.readRows c x r lo n).byte b =
      if coreAddr c (64 * twRsaddr x.word) + lo * (rowScales (s.core c).tile x.word x.org r.seed 0).length ≤ b ∧
          b < coreAddr c (64 * twRsaddr x.word) + (lo + n) * (rowScales (s.core c).tile x.word x.org r.seed 0).length then
        ((s.core c).tile.scales x.word x.org r.seed M).getD (b - coreAddr c (64 * twRsaddr x.word)) 0
      else if coreAddr c (64 * twRaddr x.word) + lo * rowBytes (twN x.word) (fmtBits (twOfmt x.word)) ≤ b ∧
          b < coreAddr c (64 * twRaddr x.word) + (lo + n) * rowBytes (twN x.word) (fmtBits (twOfmt x.word)) then
        ((s.core c).tile.lines x.word x.org r.seed M).getD (b - coreAddr c (64 * twRaddr x.word)) 0
      else s.byte b := by
  have hscale (m i : Nat) (hm : m < M) (hi : i < (rowScales (s.core c).tile x.word x.org r.seed 0).length) :
      ((s.core c).tile.scales x.word x.org r.seed M).getD (m * (rowScales (s.core c).tile x.word x.org r.seed 0).length + i) 0 =
        (rowScales (s.core c).tile x.word x.org r.seed m).getD i 0 := rows_getD (rowScales_length _ _ _ _) hm hi
  have hline (m i : Nat) (hm : m < M) (hi : i < rowBytes (twN x.word) (fmtBits (twOfmt x.word))) :
      ((s.core c).tile.lines x.word x.org r.seed M).getD (m * rowBytes (twN x.word) (fmtBits (twOfmt x.word)) + i) 0 =
        (rowLine (s.core c).tile x.word x.org r.seed m).getD i 0 := rows_getD (rowLine_length _ _ _ _) hm hi
  induction n with
  | zero =>
    rw [Nat.add_zero, if_neg (by omega), if_neg (by omega)]
    rfl
  | succ n ih =>
    have hreads := (s.readRows_core c x r lo n).1
    rw [State.readRows_succ, readOut_byte _ _ _ _ _ hdest, rowScales_congr r hreads, rowScales_congr r hreads, rowLine_congr r hreads,
      ih (by omega), show lo + (n + 1) = lo + n + 1 from rfl, Nat.succ_mul (lo + n), Nat.succ_mul (lo + n)]
    have hscale' := hscale (lo + n) (b - (coreAddr c (64 * twRsaddr x.word) +
      (lo + n) * (rowScales (s.core c).tile x.word x.org r.seed 0).length)) (by omega)
    have hline' := hline (lo + n) (b - (coreAddr c (64 * twRaddr x.word) +
      (lo + n) * rowBytes (twN x.word) (fmtBits (twOfmt x.word)))) (by omega)
    have hapart' := hapart b
    have hl0 : lo * rowBytes (twN x.word) (fmtBits (twOfmt x.word)) ≤ (lo + n) * rowBytes (twN x.word) (fmtBits (twOfmt x.word)) :=
      Nat.mul_le_mul_right _ (by omega)
    have hl1 : lo * (rowScales (s.core c).tile x.word x.org r.seed 0).length ≤
        (lo + n) * (rowScales (s.core c).tile x.word x.org r.seed 0).length := Nat.mul_le_mul_right _ (by omega)
    have hm0 : (lo + n + 1) * rowBytes (twN x.word) (fmtBits (twOfmt x.word)) ≤ M * rowBytes (twN x.word) (fmtBits (twOfmt x.word)) :=
      Nat.mul_le_mul_right _ hM
    have hm1 : (lo + n + 1) * (rowScales (s.core c).tile x.word x.org r.seed 0).length ≤
        M * (rowScales (s.core c).tile x.word x.org r.seed 0).length := Nat.mul_le_mul_right _ hM
    rw [Nat.succ_mul (lo + n)] at hm0 hm1
    clear hscale hline ih hapart
    generalize (rowScales (s.core c).tile x.word x.org r.seed 0).length = L at *
    generalize rowBytes (twN x.word) (fmtBits (twOfmt x.word)) = len at *
    generalize (lo + n) * L = q1 at *
    generalize (lo + n) * len = q0 at *
    generalize lo * L = p1 at *
    generalize lo * len = p0 at *
    generalize coreAddr c (64 * twRaddr x.word) = at0 at *
    generalize coreAddr c (64 * twRsaddr x.word) = at1 at *
    by_cases h1 : at1 + q1 ≤ b ∧ b < at1 + q1 + L
    · rw [if_pos h1, if_pos (by omega), ← hscale' (by omega)]
      refine congrArg (fun i => ((s.core c).tile.scales x.word x.org r.seed M).getD i 0) ?_
      omega
    · rw [if_neg h1]
      by_cases h0 : at0 + q0 ≤ b ∧ b < at0 + q0 + len
      · rw [if_pos h0, if_neg (by omega), if_pos (by omega), ← hline' (by omega)]
        refine congrArg (fun i => ((s.core c).tile.lines x.word x.org r.seed M).getD i 0) ?_
        omega
      · rw [if_neg h0]
        exact if_congr (by omega) rfl (if_congr (by omega) rfl rfl)

end Memory

/-! ## Rows in vector registers -/

/-- The lanes that a row takes. -/
theorem lane_rowToVector (y : SeqState) (w : TWord) (m : Nat) (codes : List Nat) (hN : twN w ≤ 128) (hV : twVreg w + 2 * m + 2 ≤ 32)
    {v l : Nat} (hl : l < 64) : lane ((rowToVector y w m codes).vreg v) l =
      if twVreg w + 2 * m ≤ v ∧ 64 * (v - (twVreg w + 2 * m)) + l < twN w then
        BitVec.ofNat 32 (codes[64 * (v - (twVreg w + 2 * m)) + l]?.getD 0)
      else lane (y.vreg v) l := by
  unfold rowToVector
  generalize twN w = n at hN
  generalize twVreg w + 2 * m = v0 at hV
  induction n with
  | zero => simp
  | succ n ih =>
    rw [List.range_succ, List.foldl_concat]
    generalize (List.range n).foldl _ y = z at ih
    dsimp only
    have hreg (u : Vector Word 64) : (z.setV (v0 + n / 64) u).vreg v = if v = v0 + n / 64 then u else z.vreg v :=
      vget_vset z.v (v0 + n / 64) v u _ (by omega)
    rw [hreg]
    by_cases hv : v = v0 + n / 64
    · rw [if_pos hv, hv, lane, vget_vset _ _ _ _ _ (by omega)]
      by_cases hn : l = n % 64
      · rw [if_pos hn, if_pos (by omega)]
        exact congrArg (fun i => BitVec.ofNat 32 (codes[i]?.getD 0)) (by omega)
      · rw [if_neg hn, ← lane, ← hv, ih (by omega)]
        exact if_congr (by omega) rfl rfl
    · rw [if_neg hv, ih (by omega)]
      exact if_congr (by omega) rfl rfl

/-- The vector registers of a readout hold its rows, two to a row (04 R156). -/
theorem State.readRows_lane {s : State} {c : Nat} {x : Pass} (r : Run) (hdest : twDest x.word = true) (hN : twN x.word ≤ 96) {M : Nat}
    (hV : twVreg x.word + 2 * M ≤ 32) {m n : Nat} (hm : m < M) (hn : n < twN x.word) :
    lane (((s.readRows c x r 0 M).core c).seq.vreg (twVreg x.word + 2 * m + n / 64)) (n % 64) =
      BitVec.ofNat 32 ((readRow (s.core c).tile x.word x.org r.seed m).1[n]?.getD 0) := by
  induction M with
  | zero => omega
  | succ M ih =>
    have hreads := (s.readRows_core c x r 0 M).1
    rw [State.readRows_succ, Nat.zero_add, readOut_vector _ _ _ _ _ hdest, State.core_putCore_same]
    dsimp only
    rw [lane_rowToVector _ _ _ _ (by omega) (by omega) (Nat.mod_lt _ (by decide)), readRow_congr hreads.elems hreads.nans]
    by_cases he : m = M
    · subst he
      rw [if_pos (by omega)]
      exact congrArg (fun i => BitVec.ofNat 32 (_[i]?.getD 0)) (by omega)
    · rw [if_neg (by omega)]
      exact ih (by omega) (by omega)

theorem State.readRows_vector_byte {s : State} {c : Nat} {x : Pass} (r : Run) (hdest : twDest x.word = true) (lo n b : Nat) :
    (s.readRows c x r lo n).byte b = s.byte b := by
  refine foldl_keeps (P := fun t : State => t.byte b = s.byte b) _ (fun t m h => ?_) _ s rfl
  rw [readOut_vector t c x r m hdest]
  exact (State.byte_congr t _ b rfl rfl).trans h

/-! ## A readout and its parts -/

theorem range_filter_le (lo hi : Nat) : (List.range hi).filter (fun m => decide (lo ≤ m)) = List.range' lo (hi - lo) := by
  induction hi with
  | zero => simp
  | succ n ih =>
    rw [List.range_succ, List.filter_append, ih]
    by_cases h : lo ≤ n
    · rw [Nat.succ_sub h, List.range'_concat, Nat.one_mul, Nat.add_sub_cancel' h]
      simp [h]
    · simp [h, Nat.sub_eq_zero_of_le (by omega : n ≤ lo), Nat.sub_eq_zero_of_le (by omega : n + 1 ≤ lo)]

/-- A TACCRD that has written `n` more rows. -/
def Pass.readTo (x : Pass) (n : Nat) (inv : Bool) : Pass := { x with phase := .streaming, inv := x.inv || inv, row := x.row + n }

/-- What a TACCRD does in its queue: its next rows, then it is done or paused (04 R175, R189). -/
theorem State.readOn_rows {s : State} {c : Nat} {x : Pass} {r : Run} {n : Nat} (hnext : x.nextRows = List.range' x.row n)
    (htrap : r.trap = false) : ∃ (inv : Bool) (k : Core), ReadsOn k (s.core c) ∧ k.seq = ((s.readRows c x r x.row n).core c).seq ∧
      s.readOn c x r = (s.readRows c x r x.row n).putCore c
        (if x.row + n < twM x.word then { k with tile := k.tile.setPass (x.readTo n inv) } else k.dequeue (x.readTo n inv)) := by
  let inv := readInv (s.core c).tile x.word x.nextRows
  let u := (s.readRows c x r x.row n).core c
  have hreads := (s.readRows_core c x r x.row n).1
  refine ⟨inv, if inv && !x.inv then { u with tile := u.tile.countInv } else u, ?_, ?_, ?_⟩
  · split
    · exact ⟨hreads.seq, hreads.elems, hreads.nans, hreads.queue, hreads.audits⟩
    · exact hreads
  · split <;> rfl
  · have hlen : x.nextRows.length = n := by rw [hnext, List.length_range']
    have hfold : x.nextRows.foldl (fun t m => readOut t c x r m) s = s.readRows c x r x.row n := by rw [hnext]; rfl
    unfold State.readOn
    dsimp only
    rw [hfold, hlen]
    by_cases hrow : x.row + n < twM x.word
    · rw [if_pos hrow, if_pos hrow]
      rfl
    · rw [if_neg hrow, if_neg hrow, if_neg (by simp [htrap])]
      rfl

/-- A core whose queue is done with its one instruction. -/
structure ReadDone (u k : Core) (y : SeqState) : Prop where
  seq : u.seq = y
  elems : u.tile.a = k.tile.a
  queue : u.tile.queue = []

/-- A TACCRD alone in the queue of a core writes the rows that it has left, and is done. -/
theorem State.tilesOn_reads {s : State} {c : Nat} {r : Run} {x : Pass} (hrun : (s.core c).seq.run = some r) (hactive : (s.core c).active = true)
    (haudits : (s.core c).arr.audits = false) (hqueue : (s.core c).tile.queue = [x]) (htop : twTop x.word = 2) (hupto : x.upto = none)
    (hrow : x.row ≤ twM x.word) (htrap : r.trap = false) : ∃ u, s.tilesOn c = (s.readRows c x r x.row (twM x.word - x.row)).putCore c u ∧
      ReadDone u (s.core c) ((s.readRows c x r x.row (twM x.word - x.row)).core c).seq := by
  have hnext : x.nextRows = List.range' x.row (twM x.word - x.row) := by
    rw [Pass.nextRows, hupto]
    exact range_filter_le _ _
  obtain ⟨inv, k, hreads, hseq, hread⟩ := State.readOn_rows (s := s) (c := c) hnext htrap
  rw [if_neg (by omega), Core.dequeue_alone (x := x.readTo (twM x.word - x.row) inv) (hreads.queue.trans hqueue) rfl] at hread
  refine ⟨{ k with
    tile := { (if (x.readTo (twM x.word - x.row) inv).recorded then k.tile.unrecord else k.tile) with queue := [] }
    arr := { k.arr with lastLoad := 0 } }, ?_, hseq, ?_, rfl⟩
  · have hready : (s.core c).ready = some x := by
      rw [Core.ready_alone hqueue, if_pos]
      simp [Pass.todo, Pass.isTmm, htop, hupto]
    rw [State.tilesOn_of_ready hrun hactive haudits hready, State.perform_taccrd r htop, hread]
    rw [State.perform_taccrd r htop, hread, State.core_putCore_same]
    exact Core.ready_empty rfl
  · refine Eq.trans ?_ hreads.elems
    dsimp only
    split <;> rfl

/-- A TACCRD as it enters the queue. -/
def readEntry (k : Core) (w : TWord) (i : Int) (stop : Option (Fin 256)) : Pass := { newEntry k w i with upto := stop.map fun m => m.val + 1 }

theorem exec_taccrd {s : State} {c : Site} {r : Run} {w : TWord} (stop : Option (Fin 256)) (h : tileIssuing s c r 2 w)
    (hidle : (s.core c).tile.queue = []) (hops : operandsFail c r.extent (readOperands w) = none)
    (hshape : readShape (s.core c) w false = true) (hwait : (s.core c).slotWait (readOperands w) true = false) (hue : s.scaleUe c w = none) :
    exec (.taccrd c w stop) s = .next ((s.putCore c ((s.core c).enqueue (readEntry (s.core c) w s.aclk stop))).tilesOn c) := by
  have hvec (l : List Nat) : (s.core c).vecWaits l = false := by rw [Core.vecWaits, hidle, List.any_nil]
  change execTaccrd c w stop s = _
  rw [execTaccrd]
  dsimp only
  rw [hidle, List.find?_nil]
  dsimp only
  rw [State.tileIssue_of_issuing h]
  simp only [hops, hshape, hwait, hvec, hue]
  rfl

/-- A TACCRD that has paused goes on to its end. -/
theorem exec_taccrd_resumes {s : State} {c : Site} {w : TWord} {x : Pass} (hqueue : (s.core c).tile.queue = [x]) (hreading : x.reading = true)
    (hword : x.word = w) (hactive : (s.core c).active = true) : exec (.taccrd c w none) s =
    .next ((s.putCore c { s.core c with tile := { (s.core c).tile with queue := [{ x with upto := none }] } }).tilesOn c) := by
  have hset : (s.core c).tile.setPass { x with upto := none } = { (s.core c).tile with queue := [{ x with upto := none }] } := by
    simp [TileState.setPass, hqueue]
  change execTaccrd c w none s = _
  rw [execTaccrd]
  dsimp only
  rw [hqueue, List.find?_singleton, if_pos (by simp [hreading, hword])]
  dsimp only [Option.map_none]
  rw [if_pos hactive, hset]

section Readout

variable {s : State} {c : Site} {r : Run} {w : TWord} (h : tileIssuing s c r 2 w) (hidle : (s.core c).tile.queue = [])
  (hops : operandsFail c r.extent (readOperands w) = none) (hshape : readShape (s.core c) w false = true)
  (hwait : (s.core c).slotWait (readOperands w) true = false) (hue : s.scaleUe c w = none) (htrap : r.trap = false)
include h hidle hops hshape hwait hue htrap

/-- A TACCRD that does not pause. -/
theorem exec_taccrd_whole : ∃ u, exec (.taccrd c w none) s = .next
      (((s.putCore c ((s.core c).enqueue (readEntry (s.core c) w s.aclk none))).readRows c (readEntry (s.core c) w s.aclk none) r 0
        (twM w)).putCore c u) ∧
    ReadDone u (s.core c) (((s.putCore c ((s.core c).enqueue (readEntry (s.core c) w s.aclk none))).readRows c
      (readEntry (s.core c) w s.aclk none) r 0 (twM w)).core c).seq := by
  obtain ⟨hrun, -, -, -, -, htop, haudits, -⟩ := id h
  have hcore := State.core_putCore_same s c ((s.core c).enqueue (readEntry (s.core c) w s.aclk none))
  have hqueue : ((s.core c).enqueue (readEntry (s.core c) w s.aclk none)).tile.queue = [readEntry (s.core c) w s.aclk none] :=
    congrArg (· ++ [_]) hidle
  obtain ⟨u, hu, hdone⟩ := State.tilesOn_reads (s := s.putCore c ((s.core c).enqueue (readEntry (s.core c) w s.aclk none))) (c := c) (r := r)
    (x := readEntry (s.core c) w s.aclk none) (by rw [hcore]; exact hrun) (by rw [hcore]; exact tileIssuing_active h)
    (by rw [hcore]; exact haudits) (by rw [hcore]; exact hqueue) htop rfl (Nat.zero_le _) htrap
  refine ⟨u, (exec_taccrd none h hidle hops hshape hwait hue).trans (congrArg _ hu), hdone.seq, ?_, hdone.queue⟩
  rw [hdone.elems, hcore]
  rfl

/-- A TACCRD that pauses after row `m`. -/
theorem exec_taccrd_pauses (m : Fin 256) (hm : m.val + 1 < twM w) (hdest : twDest w = false) : ∃ (inv : Bool) (u : Core),
    exec (.taccrd c w (some m)) s = .next
      (((s.putCore c ((s.core c).enqueue (readEntry (s.core c) w s.aclk (some m)))).readRows c (readEntry (s.core c) w s.aclk (some m)) r 0
        (m.val + 1)).putCore c u) ∧
    u.seq = { (s.core c).seq with pc := (s.core c).seq.pc + 4 } ∧ u.tile.a = (s.core c).tile.a ∧ u.tile.nans = (s.core c).tile.nans ∧
    u.arr.audits = false ∧ u.tile.queue = [(readEntry (s.core c) w s.aclk (some m)).readTo (m.val + 1) inv] := by
  obtain ⟨hrun, -, -, -, -, htop, haudits, -⟩ := id h
  let x := readEntry (s.core c) w s.aclk (some m)
  let k := (s.core c).enqueue x
  have hcore : (s.putCore c k).core c = k := State.core_putCore_same s c k
  have hqueue : k.tile.queue = [x] := congrArg (· ++ [x]) hidle
  have hnext : x.nextRows = List.range' x.row (m.val + 1) := by
    have hmin : min (m.val + 1) (twM w) = m.val + 1 := by omega
    refine (range_filter_le x.row (min (m.val + 1) (twM w))).trans ?_
    rw [hmin]
    rfl
  obtain ⟨inv, v, hreads, hseq, hread⟩ := State.readOn_rows (s := s.putCore c k) (c := c) hnext htrap
  rw [if_pos (show x.row + (m.val + 1) < twM x.word by rw [show x.row = 0 from rfl, Nat.zero_add]; exact hm)] at hread
  let u : Core := { v with tile := v.tile.setPass (x.readTo (m.val + 1) inv) }
  have hlast : u.tile.queue = [x.readTo (m.val + 1) inv] := by
    refine (congrArg (List.map _) (hreads.queue.trans ((congrArg (·.tile.queue) hcore).trans hqueue))).trans ?_
    simp [Pass.readTo]
  refine ⟨inv, u, ?_, ?_, ?_, ?_, ?_, hlast⟩
  · refine (exec_taccrd (some m) h hidle hops hshape hwait hue).trans (congrArg _ ?_)
    have hperform := State.perform_taccrd (s := s.putCore c k) (c := c) (x := x) r htop
    rw [State.tilesOn_alone (k := k) (x := x) hrun (tileIssuing_active h) haudits hqueue, hperform, hread]
    · rfl
    · simp [Pass.todo, Pass.isTmm, x, readEntry, newEntry, htop]
    · rw [hperform, hread, State.core_putCore_same, Core.ready_alone hlast, if_neg]
      simp [Pass.todo, Pass.isTmm, x, readEntry, newEntry, Pass.readTo, htop]
  · refine hseq.trans (((s.putCore c k).readRows_core c x r x.row (m.val + 1)).2 hdest |>.trans ?_)
    rw [hcore]
    rfl
  · refine hreads.elems.trans ?_
    rw [hcore]
    rfl
  · refine hreads.nans.trans ?_
    rw [hcore]
    rfl
  · refine hreads.audits.trans ?_
    rw [hcore]
    exact haudits

end Readout

/-! ## What a readout stores -/

theorem TileState.lines_length (t : TileState) (w : TWord) (org seed : DWord) (n : Nat) :
    (t.lines w org seed n).length = n * rowBytes (twN w) (fmtBits (twOfmt w)) := rows_length (rowLine_length _ _ _ _) n

theorem TileState.scales_length (t : TileState) (w : TWord) (org seed : DWord) (n : Nat) :
    (t.scales w org seed n).length = n * (rowScales t w org seed 0).length := rows_length (rowScales_length _ _ _ _) n

theorem TileState.lines_congr {u t : TileState} (ha : u.a = t.a) (hn : u.nans = t.nans) (w : TWord) (org seed : DWord) (n : Nat) :
    u.lines w org seed n = t.lines w org seed n :=
  congrArg List.flatten (List.map_congr_left fun m _ => by rw [rowLine, readRow_congr ha hn, ← rowLine])

theorem TileState.scales_congr {u t : TileState} (ha : u.a = t.a) (hn : u.nans = t.nans) (w : TWord) (org seed : DWord) (n : Nat) :
    u.scales w org seed n = t.scales w org seed n :=
  congrArg List.flatten (List.map_congr_left fun m _ => by rw [rowScales, readRow_congr ha hn, ← rowScales])

/-- The lines of the first rows are the beginning of all lines. -/
theorem TileState.lines_getD (t : TileState) (w : TWord) (org seed : DWord) {n M i : Nat} (hn : n ≤ M) (hi : i < (t.lines w org seed n).length) :
    (t.lines w org seed M).getD i 0 = (t.lines w org seed n).getD i 0 := by
  obtain ⟨d, rfl⟩ := Nat.exists_eq_add_of_le hn
  have hsplit : t.lines w org seed (n + d) = t.lines w org seed n ++ ((List.range d).map fun m => rowLine t w org seed (n + m)).flatten := by
    rw [TileState.lines, List.range_add, List.map_append, List.flatten_append, List.map_map]
    rfl
  rw [hsplit, List.getD_append _ _ _ _ hi]

theorem stored_of_byte {s t : State} {a : Nat} {bs : List Byte}
    (h : ∀ b, t.byte b = if a ≤ b ∧ b < a + bs.length then bs.getD (b - a) 0 else s.byte b) : Stored s t a bs := by
  refine ⟨fun i hi => ?_, fun b hb => ?_⟩
  · rw [h, if_pos (by omega), Nat.add_sub_cancel_left]
  · rw [h, if_neg (by omega)]

/-- Rows without scales that a readout stores, of the lines of all. -/
theorem State.readRows_plain {s : State} {c : Nat} {x : Pass} {r : Run} {w : TWord} {org : DWord} (hword : x.word = w) (horg : x.org = org)
    (hdest : twDest w = false) (hplain : fmtScaled (twOfmt w) = false) {lo n M : Nat} (hM : lo + n ≤ M) (b : Nat) :
    (s.readRows c x r lo n).byte b =
      if coreAddr c (64 * twRaddr w) + lo * rowBytes (twN w) (fmtBits (twOfmt w)) ≤ b ∧
          b < coreAddr c (64 * twRaddr w) + (lo + n) * rowBytes (twN w) (fmtBits (twOfmt w)) then
        ((s.core c).tile.lines w org r.seed M).getD (b - coreAddr c (64 * twRaddr w)) 0
      else s.byte b := by
  subst hword horg
  have hnone : (rowScales (s.core c).tile x.word x.org r.seed 0).length = 0 := by rw [rowScales_plain hplain]; rfl
  rw [State.readRows_byte r hdest hM (by rw [hnone]; omega), hnone, if_neg (by omega)]

theorem tileForm_vector {w : TWord} (htop : twTop w = 2) (hdest : twDest w = true) (h : tileForm w = true) :
    twN w ≤ 96 ∧ twVreg w + 2 * twM w ≤ 32 := by
  rw [tileForm, if_neg (by omega), if_pos htop, hdest] at h
  simp only [Bool.not_true, Bool.false_or, Bool.and_eq_true, decide_eq_true_eq] at h
  exact ⟨h.1.1, h.2.2.2⟩

section Cases

variable {s : State} {c : Site} {r : Run} {w : TWord} (h : tileIssuing s c r 2 w) (hidle : (s.core c).tile.queue = [])
  (hops : operandsFail c r.extent (readOperands w) = none) (hshape : readShape (s.core c) w false = true)
  (hwait : (s.core c).slotWait (readOperands w) true = false) (hue : s.scaleUe c w = none) (htrap : r.trap = false)
include h hidle hops hshape hwait hue htrap

/-- What a TACCRD to core memory leaves, its bytes aside, where it does not pause. -/
theorem taccrd_memory (hdest : twDest w = false) : ∃ t : State, exec (.taccrd c w none) s = .next t ∧
    (∀ b, t.byte b = ((s.putCore c ((s.core c).enqueue (readEntry (s.core c) w s.aclk none))).readRows c
      (readEntry (s.core c) w s.aclk none) r 0 (twM w)).byte b) ∧
    (t.core c).seq = { (s.core c).seq with pc := (s.core c).seq.pc + 4 } ∧ (t.core c).tile.a = (s.core c).tile.a ∧
    (t.core c).tile.queue = [] := by
  let x := readEntry (s.core c) w s.aclk none
  let k := (s.core c).enqueue x
  obtain ⟨u, hexec, hseq, helems, hqueue⟩ := exec_taccrd_whole h hidle hops hshape hwait hue htrap
  have hput := State.core_putCore_same ((s.putCore c k).readRows c x r 0 (twM w)) c u
  refine ⟨_, hexec, fun b => State.byte_congr _ _ b rfl rfl, ?_, (congrArg (·.tile.a) hput).trans helems, (congrArg (·.tile.queue) hput).trans hqueue⟩
  refine (congrArg (·.seq) hput).trans (hseq.trans ((((s.putCore c k).readRows_core c x r 0 (twM w)).2 hdest).trans ?_))
  exact congrArg (·.seq) (State.core_putCore_same s c k)

theorem taccrd_plain (hdest : twDest w = false) (hplain : fmtScaled (twOfmt w) = false) : ∃ t : State, exec (.taccrd c w none) s = .next t ∧
    Stored s t (coreAddr c (64 * twRaddr w)) ((s.core c).tile.lines w ((s.core c).seq.sreg (twOrg w)) r.seed (twM w)) ∧
    (t.core c).seq = { (s.core c).seq with pc := (s.core c).seq.pc + 4 } ∧ (t.core c).tile.a = (s.core c).tile.a ∧
    (t.core c).tile.queue = [] := by
  obtain ⟨t, hexec, hbyte, hleft⟩ := taccrd_memory h hidle hops hshape hwait hue htrap hdest
  refine ⟨t, hexec, stored_of_byte fun b => ?_, hleft⟩
  rw [hbyte, State.readRows_plain (w := w) (org := (s.core c).seq.sreg (twOrg w)) rfl rfl hdest hplain (by omega : 0 + twM w ≤ twM w),
    TileState.lines_length, State.core_putCore_same, Nat.zero_mul, Nat.add_zero, Nat.zero_add]
  rfl

theorem taccrd_scaled (hdest : twDest w = false)
    (hapart : coreAddr c (64 * twRaddr w) + ((s.core c).tile.lines w ((s.core c).seq.sreg (twOrg w)) r.seed (twM w)).length ≤
        coreAddr c (64 * twRsaddr w) ∨
      coreAddr c (64 * twRsaddr w) + ((s.core c).tile.scales w ((s.core c).seq.sreg (twOrg w)) r.seed (twM w)).length ≤
        coreAddr c (64 * twRaddr w)) : ∃ t : State, exec (.taccrd c w none) s = .next t ∧
    (∀ b, t.byte b =
      if coreAddr c (64 * twRsaddr w) ≤ b ∧
          b < coreAddr c (64 * twRsaddr w) + ((s.core c).tile.scales w ((s.core c).seq.sreg (twOrg w)) r.seed (twM w)).length then
        ((s.core c).tile.scales w ((s.core c).seq.sreg (twOrg w)) r.seed (twM w)).getD (b - coreAddr c (64 * twRsaddr w)) 0
      else if coreAddr c (64 * twRaddr w) ≤ b ∧
          b < coreAddr c (64 * twRaddr w) + ((s.core c).tile.lines w ((s.core c).seq.sreg (twOrg w)) r.seed (twM w)).length then
        ((s.core c).tile.lines w ((s.core c).seq.sreg (twOrg w)) r.seed (twM w)).getD (b - coreAddr c (64 * twRaddr w)) 0
      else s.byte b) ∧
    (t.core c).seq = { (s.core c).seq with pc := (s.core c).seq.pc + 4 } ∧ (t.core c).tile.a = (s.core c).tile.a ∧
    (t.core c).tile.queue = [] := by
  obtain ⟨t, hexec, hbyte, hleft⟩ := taccrd_memory h hidle hops hshape hwait hue htrap hdest
  refine ⟨t, hexec, fun b => ?_, hleft⟩
  let x := readEntry (s.core c) w s.aclk none
  let k := (s.core c).enqueue x
  have hcore : (s.putCore c k).core c = k := State.core_putCore_same s c k
  rw [TileState.lines_length, TileState.scales_length] at hapart ⊢
  have hrows := State.readRows_byte (s := s.putCore c k) (c := c) (x := x) r hdest (lo := 0) (n := twM w) (M := twM w) (by omega)
  rw [hcore] at hrows
  have hnever (b : Nat) (h0 : coreAddr c (64 * twRaddr w) ≤ b)
      (h1 : b < coreAddr c (64 * twRaddr w) + twM w * rowBytes (twN w) (fmtBits (twOfmt w))) (h2 : coreAddr c (64 * twRsaddr w) ≤ b) :
      ¬b < coreAddr c (64 * twRsaddr w) + twM w * (rowScales (s.core c).tile w ((s.core c).seq.sreg (twOrg w)) r.seed 0).length := by omega
  rw [hbyte, hrows hnever, Nat.zero_mul, Nat.zero_mul, Nat.add_zero, Nat.add_zero, Nat.zero_add]
  rfl

theorem taccrd_vector (hdest : twDest w = true) : ∃ t : State, exec (.taccrd c w none) s = .next t ∧ (∀ a, t.byte a = s.byte a) ∧
    (t.core c).tile.a = (s.core c).tile.a ∧ (t.core c).seq.pc = (s.core c).seq.pc + 4 ∧ (t.core c).seq.s = (s.core c).seq.s ∧
    (t.core c).seq.p = (s.core c).seq.p ∧ ∀ m n, m < twM w → n < twN w →
      lane ((t.core c).seq.vreg (twVreg w + 2 * m + n / 64)) (n % 64) =
        BitVec.ofNat 32 ((readRow (s.core c).tile w ((s.core c).seq.sreg (twOrg w)) r.seed m).1[n]?.getD 0) := by
  let x := readEntry (s.core c) w s.aclk none
  let k := (s.core c).enqueue x
  have hcore : (s.putCore c k).core c = k := State.core_putCore_same s c k
  obtain ⟨hN, hV⟩ : twN w ≤ 96 ∧ twVreg w + 2 * twM w ≤ 32 := by
    obtain ⟨-, -, -, -, -, htop, -, -, -, hform⟩ := h
    exact tileForm_vector htop hdest hform
  obtain ⟨u, hexec, hdone, helems, -⟩ := exec_taccrd_whole h hidle hops hshape hwait hue htrap
  have hput := State.core_putCore_same ((s.putCore c k).readRows c x r 0 (twM w)) c u
  have hrest := ((s.putCore c k).readRows_core c x r 0 (twM w)).1.seq
  rw [hcore] at hrest
  have hseq {α : Type} (f : SeqState → α) : f ((((s.putCore c k).readRows c x r 0 (twM w)).putCore c u).core c).seq =
      f ((s.putCore c k).readRows c x r 0 (twM w) |>.core c).seq := by rw [hput, hdone]
  refine ⟨_, hexec, fun a => ?_, (congrArg (·.tile.a) hput).trans helems, ?_, ?_, ?_, fun m n hm hn => ?_⟩
  · refine (State.byte_congr ((s.putCore c k).readRows c x r 0 (twM w)) _ a rfl rfl).trans ?_
    exact (State.readRows_vector_byte (s := s.putCore c k) (c := c) (x := x) r hdest 0 (twM w) a).trans (State.byte_congr s _ a rfl rfl)
  · exact (hseq SeqState.pc).trans (congrArg SeqState.pc hrest)
  · exact (hseq SeqState.s).trans (congrArg SeqState.s hrest :)
  · exact (hseq SeqState.p).trans (congrArg SeqState.p hrest :)
  · refine (hseq fun y => lane (y.vreg (twVreg w + 2 * m + n / 64)) (n % 64)).trans ?_
    refine (State.readRows_lane (x := x) r hdest hN hV hm hn).trans ?_
    rw [hcore]
    rfl

theorem taccrd_paused (hdest : twDest w = false) (hplain : fmtScaled (twOfmt w) = false) (m : Fin 256) (hm : m.val + 1 < twM w) :
    ∃ (t : State) (x : Pass), exec (.taccrd c w (some m)) s = .next t ∧ (t.core c).tile.queue = [x] ∧ x.word = w ∧ x.row = m.val + 1 ∧
      x.reading = true ∧ (t.core c).seq = { (s.core c).seq with pc := (s.core c).seq.pc + 4 } ∧ (t.core c).tile.a = (s.core c).tile.a ∧
      Stored s t (coreAddr c (64 * twRaddr w)) ((s.core c).tile.lines w ((s.core c).seq.sreg (twOrg w)) r.seed (m.val + 1)) ∧
      ∃ u, exec (.taccrd c w none) t = .next u ∧ (u.core c).tile.queue = [] ∧ (u.core c).tile.a = (s.core c).tile.a ∧
        (u.core c).seq = (t.core c).seq ∧
        Stored s u (coreAddr c (64 * twRaddr w)) ((s.core c).tile.lines w ((s.core c).seq.sreg (twOrg w)) r.seed (twM w)) := by
  obtain ⟨hrun, -, -, -, -, htop, -⟩ := id h
  let x := readEntry (s.core c) w s.aclk (some m)
  let k := (s.core c).enqueue x
  let org := (s.core c).seq.sreg (twOrg w)
  obtain ⟨inv, v, hexec, hseq, helems, hnans, haudits, hqueue⟩ := exec_taccrd_pauses h hidle hops hshape hwait hue htrap m hm hdest
  have hcore : (s.putCore c k).core c = k := State.core_putCore_same s c k
  let t := ((s.putCore c k).readRows c x r 0 (m.val + 1)).putCore c v
  have hput : t.core c = v := State.core_putCore_same _ _ _
  have hfirst (b : Nat) : t.byte b = if coreAddr c (64 * twRaddr w) ≤ b ∧
      b < coreAddr c (64 * twRaddr w) + (m.val + 1) * rowBytes (twN w) (fmtBits (twOfmt w)) then
        ((s.core c).tile.lines w org r.seed (twM w)).getD (b - coreAddr c (64 * twRaddr w)) 0
      else s.byte b := by
    have hrows := State.readRows_plain (s := s.putCore c k) (c := c) (x := x) (r := r) (w := w) (org := org) rfl rfl hdest hplain
      (show 0 + (m.val + 1) ≤ twM w by omega) b
    rw [Nat.zero_mul, Nat.add_zero, Nat.zero_add, hcore] at hrows
    exact (State.byte_congr _ t b rfl rfl).trans hrows
  let y := x.readTo (m.val + 1) inv
  let z : Pass := { y with upto := none }
  let v' : Core := { v with tile := { v.tile with queue := [z] } }
  have hreading : y.reading = true := by simp [y, x, Pass.reading, Pass.readTo, readEntry, newEntry, htop]
  have hrow : z.row = m.val + 1 := Nat.zero_add _
  have hrunning : v.seq.run = some r := (congrArg SeqState.run hseq).trans hrun
  have hactive : v.active = true := by
    have hold := tileIssuing_active h
    rw [Core.active] at hold ⊢
    rw [hseq]
    exact hold
  have hput' : (t.putCore c v').core c = v' := State.core_putCore_same _ _ _
  obtain ⟨u, htiles, hdone⟩ := State.tilesOn_reads (s := t.putCore c v') (c := c) (r := r) (x := z) (by rw [hput']; exact hrunning)
    (by rw [hput']; exact hactive) (by rw [hput']; exact haudits) (by rw [hput']) htop rfl (by rw [hrow]; exact hm.le) htrap
  have hresume : exec (.taccrd c w none) t = .next ((t.putCore c v').tilesOn c) := by
    rw [exec_taccrd_resumes (w := w) (x := y) (by rw [hput]; exact hqueue) hreading rfl (by rw [hput]; exact hactive), hput]
  have hlast := State.core_putCore_same ((t.putCore c v').readRows c z r z.row (twM z.word - z.row)) c u
  have hlines : v'.tile.lines w org r.seed (twM w) = (s.core c).tile.lines w org r.seed (twM w) :=
    TileState.lines_congr helems hnans w org r.seed (twM w)
  refine ⟨t, y, hexec, by rw [hput]; exact hqueue, rfl, hrow, hreading, by rw [hput]; exact hseq, by rw [hput]; exact helems,
    stored_of_byte fun b => ?_, _, hresume.trans (congrArg _ htiles), by rw [hlast]; exact hdone.queue, ?_, ?_, stored_of_byte fun b => ?_⟩
  · rw [hfirst, TileState.lines_length]
    by_cases hb : coreAddr c (64 * twRaddr w) ≤ b ∧ b < coreAddr c (64 * twRaddr w) + (m.val + 1) * rowBytes (twN w) (fmtBits (twOfmt w))
    · rw [if_pos hb, if_pos hb]
      exact TileState.lines_getD _ w org r.seed hm.le (by rw [TileState.lines_length]; omega)
    · rw [if_neg hb, if_neg hb]
  · rw [hlast, hdone.elems, hput']
    exact helems
  · rw [hlast, hdone.seq, ((t.putCore c v').readRows_core c z r z.row (twM z.word - z.row)).2 hdest, hput', hput]
  · have hrows := State.readRows_plain (s := t.putCore c v') (c := c) (x := z) (r := r) (w := w) (org := org) rfl rfl hdest hplain
      (show z.row + (twM w - z.row) ≤ twM w by omega) b
    rw [hput', hlines, Nat.add_sub_cancel' (show z.row ≤ twM w by omega), hrow] at hrows
    rw [TileState.lines_length]
    refine (State.byte_congr ((t.putCore c v').readRows c z r z.row (twM z.word - z.row)) _ b rfl rfl).trans ?_
    rw [show twM z.word = twM w from rfl, hrow, hrows, show (t.putCore c v').byte b = t.byte b from State.byte_congr t _ b rfl rfl, hfirst]
    have hle : (m.val + 1) * rowBytes (twN w) (fmtBits (twOfmt w)) ≤ twM w * rowBytes (twN w) (fmtBits (twOfmt w)) := Nat.mul_le_mul_right _ hm.le
    generalize (m.val + 1) * rowBytes (twN w) (fmtBits (twOfmt w)) = p at hle ⊢
    generalize twM w * rowBytes (twN w) (fmtBits (twOfmt w)) = q at hle ⊢
    by_cases hin : coreAddr c (64 * twRaddr w) ≤ b ∧ b < coreAddr c (64 * twRaddr w) + q
    · rw [if_pos hin]
      by_cases hp : b < coreAddr c (64 * twRaddr w) + p
      · rw [if_neg (by omega), if_pos ⟨hin.1, hp⟩]
      · rw [if_pos (by omega)]
    · rw [if_neg hin, if_neg (by omega), if_neg (by omega)]

end Cases

/-- Two lists of bytes that are stored apart. -/
theorem stored_apart {s t : State} {a0 a1 : Nat} {bs cs : List Byte}
    (h : ∀ b, t.byte b = if a1 ≤ b ∧ b < a1 + cs.length then cs.getD (b - a1) 0
      else if a0 ≤ b ∧ b < a0 + bs.length then bs.getD (b - a0) 0 else s.byte b)
    (hapart : a0 + bs.length ≤ a1 ∨ a1 + cs.length ≤ a0) : (∀ i, i < bs.length → t.byte (a0 + i) = bs.getD i 0) ∧
      (∀ i, i < cs.length → t.byte (a1 + i) = cs.getD i 0) ∧
      ∀ a, (a < a0 ∨ a0 + bs.length ≤ a) → (a < a1 ∨ a1 + cs.length ≤ a) → t.byte a = s.byte a := by
  refine ⟨fun i hi => ?_, fun i hi => ?_, fun a h0 h1 => ?_⟩
  · rw [h, if_neg (by omega), if_pos (by omega), Nat.add_sub_cancel_left]
  · rw [h, if_pos (by omega), Nat.add_sub_cancel_left]
  · rw [h, if_neg (by omega), if_neg (by omega)]

theorem tileReadout : TileReadout := by
  unfold TileReadout
  intro s c r w
  refine fun hops hext hsite hshape hwait hue htrap hidle h => ⟨fun hdest hplain => ?plain, ?scaled, fun hdest => ?vector,
    fun m hm hdest hplain => ?paused⟩
  case plain => exact taccrd_plain h hidle hops hshape hwait hue htrap hdest hplain
  case scaled =>
    refine fun hdest hscaled hapart => ?_
    obtain ⟨t, hexec, hbyte, hleft⟩ := taccrd_scaled h hidle hops hshape hwait hue htrap hdest hapart
    obtain ⟨hlines, hscales, hother⟩ := stored_apart hbyte hapart
    exact ⟨t, hexec, hlines, hscales, hother, hleft⟩
  case vector => exact taccrd_vector h hidle hops hshape hwait hue htrap hdest
  case paused => exact taccrd_paused h hidle hops hshape hwait hue htrap hdest hplain m hm

/-- Settles O14: the rows of a readout are written one after another, a readout that pauses keeps its place in the queue, and a tile is
read back from the places that its image gives to its elements. -/
theorem tileMoves : Obligations.TileMoves := ⟨tileReadout, tileSaveAndRestore⟩

end Sys2Proof.Machine
end

section
/-!
PROOFS. MATMUL items (05 R209, R212 to R220, 09 R355 to R357, R374).
-/
namespace Sys2Proof.Machine

open Sys2Proof.Claims

/-! ## Writes of a list -/

theorem writesFor_eq {ws : WinSet} {l : List (Nat × List Byte)} {s : State} (h : (writesFor ws s l).2 = none) :
    (writesFor ws s l).1 = l.foldl (fun t p => t.writeLine p.1 p.2) s := by
  induction l generalizing s with
  | nil => rfl
  | cons p l ih =>
    rw [writesFor] at h ⊢
    split at h
    · cases h
    · exact ih h

/-- An item's write that meets no failure is the write. -/
theorem State.writeFor_eq {s : State} {ws : WinSet} {a : Nat} {bs : List Byte} (h : (s.writeFor ws a bs).2 = none) :
    (s.writeFor ws a bs).1 = s.write a bs := writesFor_eq h

/-- Writes one after another. -/
def State.writeEach (s : State) (l : List (Nat × List Byte)) : State := l.foldl (fun t p => t.write p.1 p.2) s

theorem writeRows_eq {ws : WinSet} {l : List (Nat × List Byte)} {s : State} (h : (writeRows ws l s).2 = none) :
    (writeRows ws l s).1 = s.writeEach l := by
  induction l generalizing s with
  | nil => rfl
  | cons p l ih =>
    rw [writeRows] at h ⊢
    cases hw : (s.writeFor ws p.1 p.2).2 with
    | some f => rw [hw] at h; cases h
    | none =>
      rw [hw] at h
      dsimp only at h ⊢
      rw [ih h, State.writeFor_eq hw]
      rfl

/-- A byte that no write of a list names reads as before. -/
theorem State.writeEach_byte_out {s : State} {l : List (Nat × List Byte)} {b : Nat} (h : ∀ p ∈ l, b < p.1 ∨ p.1 + p.2.length ≤ b) :
    (s.writeEach l).byte b = s.byte b := by
  induction l generalizing s with
  | nil => rfl
  | cons p l ih =>
    refine (ih (s := s.write p.1 p.2) fun e he => h e (List.mem_cons_of_mem _ he)).trans ?_
    have hp := h p List.mem_cons_self
    rw [State.write_byte, if_neg (by omega)]

/-- Two places that do not meet. -/
def Apart (p e : Nat × List Byte) : Prop := p.1 + p.2.length ≤ e.1 ∨ e.1 + e.2.length ≤ p.1

/-- Where the places of a list do not meet each of them reads back. -/
theorem State.writeEach_byte_in {s : State} {l : List (Nat × List Byte)} (hl : l.Pairwise Apart) {p : Nat × List Byte} (hp : p ∈ l) {i : Nat}
    (hi : i < p.2.length) : (s.writeEach l).byte (p.1 + i) = p.2.getD i 0 := by
  induction l generalizing s with
  | nil => cases hp
  | cons e l ih =>
    rw [List.pairwise_cons] at hl
    obtain rfl | hp := List.mem_cons.mp hp
    · refine (State.writeEach_byte_out (s := s.write p.1 p.2) fun e he => ?_).trans ?_
      · rcases hl.1 e he with h | h <;> omega
      · rw [State.write_byte, if_pos (by omega), Nat.add_sub_cancel_left]
    · exact ih hl.2 hp

theorem State.writeEach_core (s : State) (l : List (Nat × List Byte)) (c : Nat) :
    ∃ r, (s.writeEach l).core c = { s.core c with arr := { (s.core c).arr with rLatch := r } } :=
  foldl_keeps (P := fun t : State => ∃ r, t.core c = { s.core c with arr := { (s.core c).arr with rLatch := r } }) _
    (fun t p ⟨r, h⟩ => by
      obtain ⟨r', h'⟩ := t.write_core p.1 p.2 c
      exact ⟨r', by rw [h', h]⟩) l s ⟨_, rfl⟩

theorem State.writeEach_item? (s : State) (l : List (Nat × List Byte)) (q k : Nat) : (s.writeEach l).item? q k = s.item? q k :=
  foldl_keeps (P := fun t : State => t.item? q k = s.item? q k) _ (fun t p h => (t.write_item? p.1 p.2 q k).trans h) l s rfl

/-! ## The start of a MATMUL -/

/-- A field that is not bad. -/
theorem Item.badField_none {i : Item} {l : List (Nat × Bool)} (h : i.badField l = none) {e : Nat × Bool} (he : e ∈ l) : e.2 = false := by
  rw [Item.badField] at h
  split at h
  · cases h
  · rw [Option.map_eq_none_iff, List.find?_eq_none] at h
    simpa using h e he

/-- A MATMUL that starts has a region. -/
theorem Item.regions_pos {s : State} {i : Item} (h : i.badField (matFields s i) = none) : 0 < i.regions := by
  have hm := Item.badField_none h (e := (12, decide (i.matCmd.m = 0) || decide (2 ^ 31 ≤ i.matCmd.m)))
    (List.mem_append_left _ (by simp))
  have hn := Item.badField_none h (e := (16, decide (i.matCmd.n = 0) || decide (2 ^ 31 ≤ i.matCmd.n)))
    (List.mem_append_left _ (by simp))
  simp only [Bool.or_eq_false_iff, decide_eq_false_iff_not] at hm hn
  have hrow : 0 < i.rowTile := by unfold Item.rowTile; split <;> decide
  exact Nat.mul_pos (Nat.div_pos (by omega) hrow) (Nat.div_pos (by omega) (by decide))

theorem QueueSt.mapItem_goes (x : QueueSt) (k : Nat) (f : Item → Item) : (x.mapItem k f).goes = x.goes := rfl

theorem State.mapItem_goes (s : State) (q k : Nat) (f : Item → Item) (y : Nat) : ((s.mapItem q k f).queue y).goes = (s.queue y).goes := by
  rw [State.mapItem, State.queue_putQueue]
  split
  · next h => rw [h]; rfl
  · rfl

theorem State.forget_cores (s : State) (lo hi : Nat) : (s.forget lo hi).cores = s.cores ∧ (s.forget lo hi).queues = s.queues := by
  unfold State.forget
  dsimp only
  split
  · exact ⟨rfl, rfl⟩
  · refine foldl_keeps (P := fun t : State => t.cores = s.cores ∧ t.queues = s.queues) _ ?_ _ s ⟨rfl, rfl⟩
    exact fun _ _ h => h

theorem starts_goes {s : State} {q k op : Nat} {fields : Item → List (Nat × Bool)} {i : Item} (h : starts s q k op fields i) :
    (s.queue q).goes = true := by
  have hready := (State.startable_item h.1).2
  simp only [State.ready, Bool.and_eq_true] at hready
  exact hready.1.1.1.1.1

/-- What a core that takes a region runs (09 R356). -/
structure TakesRegion (t s : State) (q k c region : Nat) : Prop where
  cores : ∀ y, y ≠ c → t.core y = s.core y
  phase : (t.core c).seq.phase = .running
  run : ∃ r : Run, (t.core c).seq.run = some r ∧ r.q = q ∧ r.k = k ∧ r.inst = region ∧ r.job = false

/-- A core that works for a MATMUL leaves the other cores, and the queues (09 R749). -/
theorem State.matCore_left (s : State) (c : Nat) (r : Run) (ts : TileState) (wake : BitVec 16) :
    (s.matCore c r ts wake).queues = s.queues ∧ (∀ y, y ≠ c → (s.matCore c r ts wake).core y = s.core y) ∧
      ((s.matCore c r ts wake).core c).seq.run = some r ∧ ((s.matCore c r ts wake).core c).seq.phase = .running := by
  obtain ⟨k, hk, hrun, hphase⟩ : ∃ k : Core, s.matCore c r ts wake = (s.putCore c k).forget (coreAddr c 0) (coreAddr c (64 * r.extent)) ∧
      k.seq.run = some r ∧ k.seq.phase = .running := by
    unfold State.matCore
    exact ⟨_, rfl, rfl, rfl⟩
  obtain ⟨hcores, hqueues⟩ := (s.putCore c k).forget_cores (coreAddr c 0) (coreAddr c (64 * r.extent))
  have hcore (y : Nat) : (s.matCore c r ts wake).core y = (s.putCore c k).core y := by
    rw [hk, State.core, hcores]
    rfl
  rw [hcore c, State.core_putCore_same]
  exact ⟨(congrArg State.queues hk).trans hqueues, fun y hy => (hcore y).trans (State.core_putCore_ne _ _ _ _ hy), hrun, hphase⟩

theorem State.stageMarks_left {s : State} {c : Nat} {r : Run} (h : (s.core c).seq.run = some r) (i : Item) (region : Nat) :
    (s.stageMarks c i region).queues = s.queues ∧ (∀ y, y ≠ c → (s.stageMarks c i region).core y = s.core y) ∧
      ((s.stageMarks c i region).core c).seq.run = some { r with inst := region, done := 0, sums := [], base := s.freeCount } ∧
      ((s.stageMarks c i region).core c).seq.phase = (s.core c).seq.phase := by
  have hcores (t : State) (n : Nat) (y : Nat) : (t.setFreeCount n).core y = t.core y := rfl
  unfold State.stageMarks
  dsimp only
  rw [hcores, State.core_putCore_same, h]
  exact ⟨rfl, fun y hy => (hcores _ _ y).trans (State.core_putCore_ne _ _ _ _ hy), rfl, rfl⟩

theorem State.takeRegion_left (s : State) (q c region : Nat) (i : Item) : (s.takeRegion q c region i).queues = s.queues ∧
    TakesRegion (s.takeRegion q c region i) s q i.k c region := by
  unfold State.takeRegion
  dsimp only
  generalize hr : (⟨q, i.k, _, _, _, _, _, _, _, _, _, _, _, _, _, _⟩ : Run) = r
  obtain ⟨hqueues, hcores, hrun, hphase⟩ := s.matCore_left c r TileState.reset 0
  obtain ⟨hqueues', hcores', hrun', hphase'⟩ := State.stageMarks_left hrun i region
  subst hr
  exact ⟨hqueues'.trans hqueues, fun y hy => (hcores' y hy).trans (hcores y hy), hphase'.trans hphase, _, hrun', rfl, rfl, rfl, rfl⟩

/-- A MATMUL as it has started. -/
def State.matStarted (s : State) (q k : Nat) (j : Item) : State :=
  (s.begin q k).setWork q k (.matmul ⟨j.regions, 0, [], [], 0, s.bytes j.matCmd.mask j.matCmd.maskBytes⟩)

theorem startItem_matmul {s : State} {q k : Nat} {i : Item} (h : starts s q k 0x10 (matFields s) i)
    (hsafe : s.start.img.safe = false ∨ (begun s i).matCmd.u ≤ 1) (hlocal : badLocal (begun s i).matLocals = none)
    (hmask : s.checkReads (begun s i).wins (begun s i).matCmd.mask (begun s i).matCmd.maskBytes = none) :
    s.startItem q k 0x10 (matFields s) (fun t i => t.startMat q k i) = s.matStarted q k (begun s i) := by
  rw [State.startItem_starts h]
  have hsafe' : ¬((s.begin q k).start.img.safe = true ∧ 1 < (begun s i).matCmd.u) := by
    rintro ⟨h1, h2⟩
    rcases hsafe with h | h
    · exact absurd (h.symm.trans h1) (by decide)
    · omega
  have hmask' : (s.begin q k).checkReads (begun s i).wins (begun s i).matCmd.mask (begun s i).matCmd.maskBytes = none := hmask
  rw [State.startMat, if_neg hsafe', hlocal]
  rw [hmask']
  rfl

/-- A free core of a started MATMUL's engine takes its first region. -/
theorem matJoin_first {s : State} {q k c : Nat} {j : Item} {w : MatWork} (hitem : s.item? q k = some j) (hlive : j.live = true)
    (hstatus : j.status = 0) (hwork : j.work = .matmul w) (hgoes : (s.queue q).goes = true) (hfree : s.coreFree q c = true)
    (hsaved : w.saved = []) (hnext : w.next < w.total) : s.matJoin q k c =
      (s.mapItem q k fun j => { j with work := .matmul { w with next := w.next + 1 } }).takeRegion q c w.next j := by
  rw [State.matJoin, hitem]
  dsimp only
  rw [hwork]
  dsimp only
  rw [if_neg (by simp [hlive, hstatus, hgoes, hfree]), hsaved, List.find?_nil]
  dsimp only
  rw [if_pos hnext]

theorem matmul_starts {s : State} {q : Queue} {k : Nat} {c : Site} {i : Item} (h : starts s q k 0x10 (matFields s) i)
    (hsafe : s.start.img.safe = false ∨ (begun s i).matCmd.u ≤ 1) (hlocal : badLocal (begun s i).matLocals = none)
    (hmask : s.checkReads (begun s i).wins (begun s i).matCmd.mask (begun s i).matCmd.maskBytes = none) (hfree : s.coreFree q c = true) :
    ∃ t, exec (.matmul q k c 0 []) s = .next t ∧
      itemNow s t q k { begun s i with work := .matmul ⟨(begun s i).regions, 1, [], [], 0,
        s.bytes (begun s i).matCmd.mask (begun s i).matCmd.maskBytes⟩ } ∧ TakesRegion t s q k c 0 := by
  let w : MatWork := ⟨(begun s i).regions, 0, [], [], 0, s.bytes (begun s i).matCmd.mask (begun s i).matCmd.maskBytes⟩
  let t := s.matStarted q k (begun s i)
  let u := t.mapItem q k fun j => { j with work := .matmul { w with next := w.next + 1 } }
  obtain ⟨-, hstatus, -⟩ := starts_undecided h
  have hk : i.k = k := QueueSt.item?_k (starts_item h)
  have hstarted : itemNow s t q k { begun s i with work := .matmul w } :=
    itemNow_mapItem (f := fun j => { j with work := .matmul w }) (State.begin_itemNow (starts_item h)) fun _ hi => hi
  have hgoes : (t.queue q).goes = true := by
    refine (State.mapItem_goes _ _ _ _ _).trans ((State.mapItem_goes _ _ _ _ _).trans ?_)
    exact (starts_goes h :)
  have hfields : (begun s i).badField (matFields s (begun s i)) = none := by
    obtain ⟨-, -, -, -, hfield, -⟩ := h
    exact hfield
  have hjoin : t.matJoin q k c = u.takeRegion q c 0 { begun s i with work := .matmul w } :=
    matJoin_first hstarted.1 rfl hstatus rfl hgoes hfree rfl (Item.regions_pos hfields)
  have hserving : t.serving = true := by
    simp only [State.coreFree, Bool.and_eq_true] at hfree
    exact hfree.1.1.1.1.1
  obtain ⟨hqueues, hcores, hphase, r, hrun, hq, hrk, hinst, hjob⟩ := u.takeRegion_left q c 0 { begun s i with work := .matmul w }
  refine ⟨u.takeRegion q c 0 { begun s i with work := .matmul w }, congrArg Host.Outcome.next ?_, ?_, ?_⟩
  · rw [startItem_matmul h hsafe hlocal hmask]
    exact (if_pos hserving).trans hjoin
  · have hnext := itemNow_mapItem (f := fun j => { j with work := .matmul { w with next := w.next + 1 } }) hstarted fun _ hi => hi
    exact (itemNow_congr hnext hqueues :)
  · exact ⟨hcores, hphase, r, hrun, hq, hrk.trans hk, hinst, hjob⟩

end Sys2Proof.Machine
end

section
/-!
PROOFS. The passes and the write-outs of a MATMUL's regions (05 R214, R218, R220, 09 R355 to R357, R383).
-/
namespace Sys2Proof.Machine

open Sys2Proof.Claims

/-! ## The steps of a core that works for a MATMUL -/

theorem State.startable_of_live {s : State} {q k : Nat} {i : Item} (hitem : s.item? q k = some i) (hlive : i.live = true) :
    s.startable q k = none := by
  have hphase : i.phase = .running := of_decide_eq_true hlive
  simp [State.startable, hitem, State.ready, hphase]

/-- An item that runs does not start again. -/
theorem State.startItem_of_live {s : State} {q k : Nat} {i : Item} (hitem : s.item? q k = some i) (hlive : i.live = true) (op : Nat)
    (fields : Item → List (Nat × Bool)) (go : State → Item → State) : s.startItem q k op fields go = s := by
  rw [State.startItem, State.startable_of_live hitem hlive]

/-- A core that runs for an item does not join another. -/
theorem State.matJoin_of_run {s : State} {q k c : Nat} {r : Run} (hrun : (s.core c).seq.run = some r) : s.matJoin q k c = s := by
  have hfree : s.coreFree q c = false := by simp [State.coreFree, hrun]
  rw [State.matJoin]
  split
  · rfl
  · split
    · rw [if_pos (by simp [hfree])]
    · rfl

/-- Core `c` runs for item `k`, a MATMUL without streams, and may go on. -/
structure WorksOn (s : State) (q k c : Nat) (i : Item) (w : MatWork) (r : Run) : Prop where
  serving : s.serving = true
  item : s.item? q k = some i
  live : i.live = true
  status : i.status = 0
  work : i.work = .matmul w
  run : (s.core c).seq.run = some r
  queue : r.q = q
  number : r.k = k
  job : r.job = false
  phase : (s.core c).seq.phase = .running
  halted : (s.core c).seq.halted = false
  audits : (s.core c).arr.audits = false
  uses : ∀ u ∈ i.uses, u.kstream = false

section
variable {s : State} {q k c : Nat} {i : Item} {w : MatWork} {r : Run}

theorem WorksOn.matStep (h : WorksOn s q k c i w r) : s.matStep q k c [] =
    if i.regionRows r.inst = [] then s.nextRegion q c i
    else match i.passes[r.done]? with
      | some p => s.matPass q c i r p []
      | none => s.matOut q c i r := by
  have huses : (i.uses.any (·.kstream)) = false := by simpa using h.uses
  rw [State.matStep, h.item, h.run]
  dsimp only
  rw [huses, if_neg (by simp [h.live, h.status, h.queue, h.number, h.job, h.phase, h.halted, h.audits])] <;> rfl

theorem WorksOn.exec_eq {q : Queue} {c : Site} (h : WorksOn s q k c i w r) : exec (.matmul q k c 1 []) s = .next (s.matStep q k c []) := by
  refine congrArg Host.Outcome.next ?_
  rw [State.startItem_of_live h.item h.live]
  exact (if_pos h.serving).trans (congrArg (State.matStep · q k c []) (State.matJoin_of_run h.run))

theorem Item.passes_use {p : MatPass} (h : p ∈ i.passes) : p.use ∈ i.uses := by
  simp only [Item.passes, List.mem_flatten, List.mem_map] at h
  obtain ⟨_, ⟨x, hx, rfl⟩, hp⟩ := h
  obtain ⟨c, -, rfl⟩ := List.mem_map.mp hp
  exact hx

/-- What a pass leaves of a core's run. -/
def Run.passed (r : Run) (outs : List (Nat × List ElemOut)) : Run :=
  { r with done := r.done + 1, sums := outs.map fun o => o.2.map (·.v) }

/-- A pass changes its own core alone. -/
theorem WorksOn.matPass (h : WorksOn s q k c i w r) (htrap : i.trap = false) {p : MatPass} (hp : i.passes[r.done]? = some p)
    (hreads : (p.reads i.matCmd (i.area r.inst) (i.regionRows r.inst)).findSome? (fun x => s.checkReads i.wins x.1 x.2) = none) :
    ∃ tile, s.matPass q c i r p [] = s.putCore c
        { arr := { (s.core c).arr with passes := min 0x100000 ((s.core c).arr.passes + 1) }
          tile := tile
          seq := { (s.core c).seq with run := some (r.passed (passOuts s i r p)) } } := by
  have hstream : p.use.kstream = false := h.uses _ (Item.passes_use (List.mem_of_getElem? hp))
  have hkeeper : takeKeeper s i i.matCmd p [] = (s, .inr p) := by simp [takeKeeper, hstream]
  unfold State.matPass
  dsimp only
  rw [hreads, hkeeper]
  dsimp only
  rw [htrap, Bool.false_and, if_neg (by decide)]
  exact ⟨_, rfl⟩

/-- The new value of an element of a pass. -/
theorem passOuts_getD (s : State) (i : Item) (r : Run) (p : MatPass) {x y n : Nat} (hx : (i.regionRows r.inst)[x]? = some y)
    (hn : n < (i.area r.inst).cols) : (((passOuts s i r p).map fun o => o.2.map (·.v)).getD x []).getD n 0 =
      (passElem (r.done == 0) ((r.sums.getD x []).getD n 0) (p.sum s i.matCmd (i.area r.inst) y n)).v := by
  obtain ⟨hlen, hget⟩ := List.getElem?_eq_some_iff.mp hx
  simp [passOuts, List.getD, hlen, hget, hn]

theorem WorksOn.pass {q : Queue} {c : Site} (h : WorksOn s q k c i w r) (htrap : i.trap = false) {p : MatPass} (hrows : i.regionRows r.inst ≠ [])
    (hp : i.passes[r.done]? = some p)
    (hreads : (p.reads i.matCmd (i.area r.inst) (i.regionRows r.inst)).findSome? (fun x => s.checkReads i.wins x.1 x.2) = none) :
    ∃ t u, exec (.matmul q k c 1 []) s = .next t ∧ (t.core c).seq.run = some u ∧ u.done = r.done + 1 ∧ u.inst = r.inst ∧
      (∀ (x y n : Nat), (i.regionRows r.inst)[x]? = some y → n < (i.area r.inst).cols → (u.sums.getD x []).getD n 0 =
        (passElem (r.done == 0) ((r.sums.getD x []).getD n 0) (p.sum s i.matCmd (i.area r.inst) y n)).v) ∧
      (t.core c).arr.passes = min 0x100000 ((s.core c).arr.passes + 1) ∧ t.queues = s.queues ∧
      (∀ y, y ≠ c.val → t.core y = s.core y) ∧ (∀ b, t.byte b = s.byte b) := by
  obtain ⟨tile, hpass⟩ := h.matPass htrap hp hreads
  rw [h.exec_eq, h.matStep, if_neg hrows, hp]
  dsimp only
  rw [hpass]
  refine ⟨_, r.passed (passOuts s i r p), rfl, ?_, rfl, rfl, fun x y n hx hn => passOuts_getD s i r p hx hn, ?_, rfl,
    fun y hy => State.core_putCore_ne _ _ _ _ hy, fun _ => rfl⟩
  · rw [State.core_putCore_same]
  · rw [State.core_putCore_same]

/-! ## The end of a region -/

theorem Item.addRun_progress (i : Item) (t : TileState) : (i.addRun t).progress = i.progress ∧ (i.addRun t).phase = i.phase := by
  unfold Item.addRun
  dsimp only
  split <;> exact ⟨rfl, rfl⟩

/-- The end of the last region that an item has handed out frees its core. -/
structure RegionEnds (t s : State) (q k c : Nat) (i : Item) (phase : Phase) : Prop where
  item : ∃ j, t.item? q k = some j ∧ j.progress = i.progress + 1 ∧ j.phase = phase
  run : (t.core c).seq.run = none
  outbox : (t.core c).seq.outbox = (s.core c).seq.outbox ++ [(q, k)]
  others : ∀ y, y ≠ c → t.core y = s.core y
  bytes : ∀ b, t.byte b = s.byte b

/-- A core whose part of an item is complete. -/
def Core.boxed (x : Core) (q k : Nat) : Core := { x with seq := { x.seq with outbox := x.seq.outbox ++ [(q, k)] } }

theorem Core.boxed_freed (x : Core) (q k : Nat) : (x.boxed q k).freed.seq.run = none ∧ (x.boxed q k).freed.seq.outbox = x.seq.outbox ++ [(q, k)] :=
  ⟨rfl, rfl⟩

/-- The module once a region has counted and its core is free. -/
def State.regionEnded (s : State) (q k c : Nat) : State :=
  (((s.mapItem q k fun j => { j with progress := j.progress + 1 }).putCore c ((s.core c).boxed q k)).mapItem q k fun j =>
    j.addRun (s.core c).tile).putCore c ((s.core c).boxed q k).freed

theorem State.regionEnded_core (s : State) (q k c : Nat) : (s.regionEnded q k c).core c = ((s.core c).boxed q k).freed :=
  State.core_putCore_same _ _ _

theorem State.regionEnded_core_ne (s : State) (q k : Nat) {c y : Nat} (hy : y ≠ c) : (s.regionEnded q k c).core y = s.core y :=
  (State.core_putCore_ne _ _ _ _ hy).trans
    (State.core_putCore_ne (s.mapItem q k fun j => { j with progress := j.progress + 1 }) _ _ _ hy)

theorem State.regionEnded_item? (hitem : s.item? q k = some i) (c : Nat) : (s.regionEnded q k c).item? q k =
    some (Item.addRun { i with progress := i.progress + 1 } (s.core c).tile) := by
  have hcounted : (s.mapItem q k fun j => { j with progress := j.progress + 1 }).item? q k = some { i with progress := i.progress + 1 } := by
    rw [State.item?_mapItem s q k (f := fun j => { j with progress := j.progress + 1 }) fun _ h => h, if_pos ⟨rfl, rfl⟩, hitem]
    rfl
  generalize hu : (s.mapItem q k fun j => { j with progress := j.progress + 1 }).putCore c ((s.core c).boxed q k) = u
  have hitem' : u.item? q k = some { i with progress := i.progress + 1 } := by
    rw [← hu]
    exact hcounted
  have hruns := State.item?_mapItem u q k (f := fun j => j.addRun (s.core c).tile) (fun j h => (Item.addRun_k j _).trans h) q k
  rw [if_pos ⟨rfl, rfl⟩, hitem', Option.map_some] at hruns
  rw [State.regionEnded, hu]
  exact hruns

theorem State.workDone_core (s : State) (q k c : Nat) : (s.workDone q k).core c = s.core c := rfl
theorem State.workDone_byte (s : State) (q k b : Nat) : (s.workDone q k).byte b = s.byte b := rfl
theorem State.regionEnded_byte (s : State) (q k c b : Nat) : (s.regionEnded q k c).byte b = s.byte b := rfl

theorem State.nextRegion_eq (hitem : s.item? q k = some i) (hwork : i.work = .matmul w) (hrun : (s.core c).seq.run = some r)
    (hq : r.q = q) (hk : r.k = k) (hnext : w.next = w.total) :
    s.nextRegion q c i = if i.progress + 1 = w.total then (s.regionEnded q k c).workDone q k else s.regionEnded q k c := by
  have hik : i.k = k := QueueSt.item?_k hitem
  generalize hu : (s.mapItem q k fun j => { j with progress := j.progress + 1 }).putCore c ((s.core c).boxed q k) = u
  have hcore : u.core c = (s.core c).boxed q k := by
    rw [← hu]
    exact State.core_putCore_same _ _ _
  have hrelease : u.releaseCore c = s.regionEnded q k c := by
    rw [State.releaseCore_eq (r := r) (by rw [hcore]; exact hrun), hcore, hq, hk, State.regionEnded, hu]
    rfl
  rw [← hrelease, ← hu, State.nextRegion, hwork, hik]
  dsimp only
  rw [if_neg (show ¬w.next < w.total by omega)]
  rfl

theorem State.nextRegion_last (hitem : s.item? q k = some i) (hwork : i.work = .matmul w) (hrun : (s.core c).seq.run = some r)
    (hq : r.q = q) (hk : r.k = k) (hnext : w.next = w.total) :
    RegionEnds (s.nextRegion q c i) s q k c i (if i.progress + 1 = w.total then .workDone else i.phase) := by
  obtain ⟨hfree, hout⟩ := (s.core c).boxed_freed q k
  obtain ⟨hprogress, hphase⟩ := Item.addRun_progress { i with progress := i.progress + 1 } (s.core c).tile
  have hended := State.regionEnded_item? hitem c
  rw [State.nextRegion_eq hitem hwork hrun hq hk hnext]
  split
  · have hdone := State.item?_mapItem (s.regionEnded q k c) q k (f := fun j => { j with phase := .workDone }) (fun _ h => h) q k
    rw [if_pos ⟨rfl, rfl⟩, hended] at hdone
    refine ⟨⟨_, hdone, hprogress, rfl⟩, ?_, ?_, fun y hy => ?_, fun b => ?_⟩
    · rw [State.workDone_core, State.regionEnded_core, hfree]
    · rw [State.workDone_core, State.regionEnded_core, hout]
    · rw [State.workDone_core, State.regionEnded_core_ne s q k hy]
    · rw [State.workDone_byte, State.regionEnded_byte]
  · refine ⟨⟨_, hended, hprogress, hphase⟩, ?_, ?_, fun y hy => State.regionEnded_core_ne s q k hy, s.regionEnded_byte q k c⟩
    · rw [State.regionEnded_core, hfree]
    · rw [State.regionEnded_core, hout]

/-! ## A region's write-out -/

/-- The place of a region's row in the output, which is not scaled. -/
def MatCmd.place (m : MatCmd) (a : Area) (y : Nat) : Nat := m.out + (a.r0 + y) * m.ostride + a.c0 * fmtBits m.ofmt / 8

/-- The bytes of a region's row. -/
def MatCmd.rowOut (m : MatCmd) (a : Area) (e : Nat × List (BitVec 34)) : List Byte :=
  natLe ((a.cols * fmtBits m.ofmt + 7) / 8) (packNat (fmtBits m.ofmt) (outRow m a e.1 e.2).1)

/-- The writes of the rows of a region whose format has no scales. -/
def MatCmd.rowsOut (m : MatCmd) (a : Area) (outs : List (Nat × List (BitVec 34))) : List (Nat × List Byte) :=
  outs.map fun e => (m.place a e.1, m.rowOut a e)

theorem MatCmd.rowsOut_eq {m : MatCmd} (hfmt : fmtScaled m.ofmt = false) (a : Area) (outs : List (Nat × List (BitVec 34))) :
    (outs.map fun e => m.rowWrites a e.1 (outRow m a e.1 e.2)).flatten = m.rowsOut a outs := by
  induction outs with
  | nil => rfl
  | cons e outs ih =>
    rw [List.map_cons, List.flatten_cons, ih, MatCmd.rowWrites, hfmt]
    rfl

/-- A later row's place does not meet an earlier one's. -/
theorem MatCmd.place_apart {m : MatCmd} {a : Area} (hlen : (a.cols * fmtBits m.ofmt + 7) / 8 ≤ m.ostride) {y z : Nat} (h : y < z) :
    m.place a y + (a.cols * fmtBits m.ofmt + 7) / 8 ≤ m.place a z := by
  have hrow : (a.r0 + y) * m.ostride + m.ostride ≤ (a.r0 + z) * m.ostride := by
    rw [← Nat.succ_mul]
    exact Nat.mul_le_mul_right _ (by omega)
  unfold MatCmd.place
  omega

theorem MatCmd.rowsOut_apart {m : MatCmd} {a : Area} (hlen : (a.cols * fmtBits m.ofmt + 7) / 8 ≤ m.ostride)
    {outs : List (Nat × List (BitVec 34))} (h : (outs.map Prod.fst).Pairwise (· < ·)) : (m.rowsOut a outs).Pairwise Apart := by
  rw [MatCmd.rowsOut, List.pairwise_map]
  refine (List.pairwise_map.mp h).imp fun {e f} hef => .inl ?_
  rw [MatCmd.rowOut, natLe_length]
  exact MatCmd.place_apart hlen hef

theorem Item.regionRows_increasing (i : Item) (n : Nat) : (i.regionRows n).Pairwise (· < ·) := List.pairwise_lt_range.filter _

/-- A write-out without failures: the rows' writes, and then the region's end. -/
theorem State.matOut_eq (htrap : i.trap = false) (hfmt : fmtScaled i.matCmd.ofmt = false)
    (hwrites : (writeRows i.wins (((i.regionRows r.inst).zip r.sums).map fun e =>
      i.matCmd.rowWrites (i.area r.inst) e.1 (outRow i.matCmd (i.area r.inst) e.1 e.2)).flatten s).2 = none) :
    ∃ tile, s.matOut q c i r =
      ((s.writeEach (i.matCmd.rowsOut (i.area r.inst) ((i.regionRows r.inst).zip r.sums))).putCore c
        { (s.writeEach (i.matCmd.rowsOut (i.area r.inst) ((i.regionRows r.inst).zip r.sums))).core c with tile := tile }).nextRegion q c i := by
  have heach := writeRows_eq hwrites
  rw [MatCmd.rowsOut_eq hfmt] at hwrites heach
  have hconv : ((((i.regionRows r.inst).zip r.sums).map fun o => (o.1, outRow i.matCmd (i.area r.inst) o.1 o.2)).map
      fun o => i.matCmd.rowWrites (i.area r.inst) o.1 o.2).flatten =
      i.matCmd.rowsOut (i.area r.inst) ((i.regionRows r.inst).zip r.sums) := by
    rw [List.map_map]
    exact MatCmd.rowsOut_eq hfmt _ _
  unfold State.matOut
  dsimp only
  rw [hconv, hwrites, heach, htrap]
  exact ⟨_, rfl⟩

/-- What the write-out of a region leaves in memory. -/
theorem State.writeEach_rows (s : State) {m : MatCmd} {a : Area} (hlen : (a.cols * fmtBits m.ofmt + 7) / 8 ≤ m.ostride)
    {rows : List Nat} {sums : List (List (BitVec 34))} (hrows : rows.Pairwise (· < ·)) (hsums : sums.length = rows.length) :
    (∀ e ∈ rows.zip sums, (s.writeEach (m.rowsOut a (rows.zip sums))).bytes (m.place a e.1) ((a.cols * fmtBits m.ofmt + 7) / 8) = m.rowOut a e) ∧
      ∀ b, (∀ y ∈ rows, b < m.place a y ∨ m.place a y + (a.cols * fmtBits m.ofmt + 7) / 8 ≤ b) →
        (s.writeEach (m.rowsOut a (rows.zip sums))).byte b = s.byte b := by
  have hfst : (rows.zip sums).map Prod.fst = rows := List.map_fst_zip (le_of_eq hsums.symm)
  have hlength (e : Nat × List (BitVec 34)) : (m.rowOut a e).length = (a.cols * fmtBits m.ofmt + 7) / 8 := natLe_length _ _
  refine ⟨fun e he => ?_, fun b hb => State.writeEach_byte_out fun p hp => ?_⟩
  · have hin : (m.place a e.1, m.rowOut a e) ∈ m.rowsOut a (rows.zip sums) := List.mem_map_of_mem he
    refine List.ext_getElem (by rw [hlength]; simp [State.bytes]) fun n hn hn' => ?_
    have hbyte := State.writeEach_byte_in (s := s) (MatCmd.rowsOut_apart hlen (hfst.symm ▸ hrows)) hin (i := n) hn'
    simpa [State.bytes, List.getD, hn'] using hbyte
  · obtain ⟨e, he, rfl⟩ := List.mem_map.mp hp
    dsimp only
    rw [hlength]
    exact hb e.1 (hfst ▸ List.mem_map_of_mem (f := Prod.fst) he)

theorem WorksOn.writeOut {q : Queue} {c : Site} (h : WorksOn s q k c i w r) (htrap : i.trap = false) (hrows : i.regionRows r.inst ≠ [])
    (hpasses : i.passes[r.done]? = none) (hsums : r.sums.length = (i.regionRows r.inst).length) (hfmt : fmtScaled i.matCmd.ofmt = false)
    (hlen : ((i.area r.inst).cols * fmtBits i.matCmd.ofmt + 7) / 8 ≤ i.matCmd.ostride) (hnext : w.next = w.total)
    (hlast : i.progress + 1 = w.total)
    (hwrites : (writeRows i.wins (((i.regionRows r.inst).zip r.sums).map fun e =>
      i.matCmd.rowWrites (i.area r.inst) e.1 (outRow i.matCmd (i.area r.inst) e.1 e.2)).flatten s).2 = none) :
    ∃ t j, exec (.matmul q k c 1 []) s = .next t ∧
      (∀ e ∈ (i.regionRows r.inst).zip r.sums, t.bytes (i.matCmd.place (i.area r.inst) e.1)
        (((i.area r.inst).cols * fmtBits i.matCmd.ofmt + 7) / 8) = i.matCmd.rowOut (i.area r.inst) e) ∧
      (∀ b, (∀ y ∈ i.regionRows r.inst, b < i.matCmd.place (i.area r.inst) y ∨
        i.matCmd.place (i.area r.inst) y + ((i.area r.inst).cols * fmtBits i.matCmd.ofmt + 7) / 8 ≤ b) → t.byte b = s.byte b) ∧
      t.item? q k = some j ∧ j.phase = .workDone ∧ j.progress = i.progress + 1 ∧ (t.core c).seq.run = none ∧
      (t.core c).seq.outbox = (s.core c).seq.outbox ++ [(q.val, k)] := by
  obtain ⟨tile, hout⟩ := State.matOut_eq (s := s) (q := q) (c := c) htrap hfmt hwrites
  obtain ⟨hin, hbytes⟩ := s.writeEach_rows hlen (i.regionRows_increasing r.inst) hsums
  rw [h.exec_eq, h.matStep, if_neg hrows, hpasses]
  dsimp only
  rw [hout]
  generalize hu : s.writeEach (i.matCmd.rowsOut (i.area r.inst) ((i.regionRows r.inst).zip r.sums)) = u at hin hbytes
  have hitem : u.item? q k = some i := by rw [← hu, State.writeEach_item?, h.item]
  have hseq : (u.core c).seq = (s.core c).seq := by
    obtain ⟨latch, hcore⟩ := s.writeEach_core (i.matCmd.rowsOut (i.area r.inst) ((i.regionRows r.inst).zip r.sums)) c
    rw [← hu, hcore]
  generalize ht : u.putCore c { u.core c with tile := tile } = t
  have hput : (t.core c).seq = (s.core c).seq := by rw [← ht, State.core_putCore_same, ← hseq]
  have hmem (b : Nat) : t.byte b = u.byte b := by rw [← ht]; rfl
  obtain ⟨⟨j, hj, hprogress, hphase⟩, hrun, houtbox, -, hend⟩ :=
    State.nextRegion_last (s := t) (c := c) (by rw [← ht]; exact hitem) h.work (by rw [hput]; exact h.run) h.queue h.number hnext
  refine ⟨_, j, rfl, fun e he => ?_, fun b hb => ?_, hj, by rw [hphase, if_pos hlast], hprogress, hrun, by rw [houtbox, hput]⟩
  · rw [← hin e he]
    exact List.map_congr_left fun n _ => (hend _).trans (hmem _)
  · exact (hend b).trans ((hmem b).trans (hbytes b hb))

/-- A region with no trained row ends without a pass. -/
theorem WorksOn.passedOver {q : Queue} {c : Site} (h : WorksOn s q k c i w r) (hrows : i.regionRows r.inst = []) (hnext : w.next = w.total)
    (hlast : i.progress + 1 < w.total) : ∃ t j, exec (.matmul q k c 1 []) s = .next t ∧ t.item? q k = some j ∧ j.progress = i.progress + 1 ∧
      j.phase = .running ∧ (t.core c).seq.run = none ∧ (∀ y, y ≠ c.val → t.core y = s.core y) ∧ ∀ b, t.byte b = s.byte b := by
  have hphase : i.phase = .running := of_decide_eq_true h.live
  obtain ⟨⟨j, hj, hprogress, hj'⟩, hrun, -, hothers, hbytes⟩ := State.nextRegion_last h.item h.work h.run h.queue h.number hnext
  rw [h.exec_eq, h.matStep, if_pos hrows]
  exact ⟨_, j, rfl, hj, hprogress, by rw [hj', if_neg (by omega), hphase], hrun, hothers, hbytes⟩

end

/-- Settles O17: the regions of a started item are handed out to free cores, a pass changes its core's sums alone, the rows of a
write-out do not meet as the stride holds a row, and the end of a region counts it and frees its core. -/
theorem matmulItem : Obligations.MatmulItem := by
  refine ⟨fun s q k c i h _ => ?_, fun s q k c i w r hserving hitem hlive hstatus htrap hwork hrun hq hk hjob hphase hhalted haudits huses => ?_⟩
  · intro j hsafe hlocal hmask hfree
    obtain ⟨t, hexec, hitem, hcores, hphase, r, hrun, hq, hk, hinst, hjob⟩ := matmul_starts h hsafe hlocal hmask hfree
    exact ⟨t, r, hexec, hitem, hrun, hq, hk, hinst, hjob, hphase, hcores⟩
  · have hworks : WorksOn s q k c i w r :=
      ⟨hserving, hitem, hlive, hstatus, hwork, hrun, hq, hk, hjob, hphase, hhalted, haudits, huses⟩
    refine ⟨fun p hrows hp hreads => ?_, fun hrows hpasses hsums hfmt hlen hnext hlast hwrites => ?_, fun hrows hnext hlast => ?_⟩
    · exact hworks.pass htrap hrows hp hreads
    · exact hworks.writeOut htrap hrows hpasses hsums hfmt hlen hnext hlast hwrites
    · exact hworks.passedOver hrows hnext hlast

end Sys2Proof.Machine
end

section
/-!
PROOFS. The start of a COPY (09 R360, R374, R383): an item whose PROGRESS is not 0 keeps it as it starts, where the statement has it 0.
-/
namespace Sys2Proof.Machine

open Sys2Proof.Claims

/-- A COPY that has not started, with PROGRESS 1, and its command at address 0. -/
def progressedCopy : Item :=
  { waitingItem 1 with op := 0x20, len := 3, addr := 0x1000, wins := Vector.replicate 16 ⟨0, 0x3FFFFFFF, 7⟩, progress := 1 }

/-- A command of COPY: one row of 64 bytes from 0x9000 to 0x8000. -/
def copyBytes : List Byte :=
  List.replicate 8 0 ++ natLe 4 0 ++ natLe 4 1 ++ natLe 8 0x9000 ++ natLe 8 0x8000 ++ natLe 4 64 ++ natLe 4 64 ++ natLe 4 64 ++ natLe 4 0

/-- The module with that item at the head of queue 128, and its command in memory. -/
def progressedState : State :=
  (State.reset.putQueue 128 { QueueSt.reset with st := .running, aseq := 1, items := [progressedCopy] }).write 0x1000 copyBytes

/-- The PROGRESS of item 1 of queue 128 in the answer's state. -/
def answerProgress : Answer → Option Nat
  | .next t => (t.item? 128 1).map (·.progress)
  | _ => none

theorem progressedState_starts : starts progressedState 128 1 0x20 (copyFields progressedState.device) progressedCopy := by
  unfold starts begun
  decide +kernel

/-- The start of the COPY leaves its PROGRESS. -/
theorem progressedState_started : answerProgress (exec (.copy 128 1 0) progressedState) = some 1 := by decide +kernel

/-- Refutes O18: in a state whose COPY that has not started has PROGRESS 1, its start leaves PROGRESS 1, where the statement has it 0: the
clause of COPY's start asks for no fresh item. -/
theorem not_transferItems : ¬ Obligations.TransferItems := by
  unfold Obligations.TransferItems
  rintro ⟨⟨h, -⟩, -, -⟩
  obtain ⟨t, ht, ⟨hitem, -⟩, -⟩ := h progressedState 128 1 progressedCopy progressedState_starts
  have hprogress := progressedState_started
  have hitem' : t.item? 128 1 = _ := hitem
  rw [ht, answerProgress, hitem'] at hprogress
  exact absurd (Option.some.inj hprogress) (by decide)

end Sys2Proof.Machine
end

section
/-!
PROOFS. The start of a collective item (12 R489, R506, R508): one whose descriptor names an address outside the device fails instead of
beginning its bucket.
-/
namespace Sys2Proof.Machine

open Sys2Proof.Claims

/-- An ALL_GATHER that has not started, and holds BSEQ 1 of herd 5 from a wait; its command at 0x1000 names herd 63. -/
def strayGather : Item :=
  { waitingItem 1 with op := 0x31, len := 2, addr := 0x1000, wins := Vector.replicate 16 ⟨0, 0x3FFFFFFF, 7⟩, work := .ke (keWaiting 5 1) }

/-- Its command: BSEQ 1 of herd 63, with the descriptor at 0x2000. -/
def gatherBytes : List Byte := List.replicate 8 0 ++ natLe 8 63 ++ natLe 8 1 ++ natLe 8 0x2000

/-- A descriptor of one line whose SRC lies beyond the device's memory, at bit 42. -/
def farBucket : List Byte :=
  natLe 8 (2 ^ 42) ++ natLe 8 0xA000 ++ natLe 8 0 ++ natLe 4 32 ++ natLe 4 0 ++ [1, 1] ++ natLe 2 1 ++ natLe 2 0 ++ [1] ++ List.replicate 25 0

/-- The module with that item at the head of queue 160, fabric herd 63 of this device alone, and the item's command and descriptor. -/
def strayState : State :=
  (((State.reset.putQueue 160 { QueueSt.reset with st := .running, aseq := 1, items := [strayGather] }).putHerd 63
    { Herd.none with kind := 2, master := 0, mask := 1, arrived := [] }).write 0x1000 gatherBytes).write 0x2000 farBucket

theorem strayState_starts : starts strayState 160 1 0x31 (keFields strayState 160) strayGather := by
  unfold starts begun
  decide +kernel

/-- The operands that the statement asks for. -/
theorem strayState_bucket :
    let j := begun strayState strayGather
    let b := readBucket (strayState.bytes (j.fld 24 8) 64)
    (strayState.keHerd (j.fld 8 1)).gone = [] ∧ j.fld 24 8 < 2 ^ 42 ∧ strayState.checkRead strayGather.wins (j.fld 24 8) = none ∧
      b.bad 0x31 strayState.device (strayState.herd (j.fld 8 1)).master (strayState.herd (j.fld 8 1)).members = false ∧
      strayState.keGated b = none ∧ j.fld 8 1 = 63 ∧ (strayState.keHerd 63).next = 1 := by
  unfold begun
  decide +kernel

/-- NEXT_BSEQ of herd 63 in the answer's state. -/
def answerNext : Answer → Option DWord
  | .next t => some (t.keHerd 63).next
  | _ => none

/-- The item fails, and NEXT_BSEQ of herd 63 stands: the BSEQ that it gives up is that of its wait. -/
theorem strayState_fails : answerNext (exec (.allGather 160 1) strayState) = some 1 := by decide +kernel

/-- Refutes O20: in a state whose ALL_GATHER has a descriptor with SRC at 2^42, which R489 does not refuse, and holds a BSEQ of another herd,
its start fails the item and leaves NEXT_BSEQ of its herd, where the statement has it count on. -/
theorem not_collectives : ¬ Obligations.Collectives := by
  unfold Obligations.Collectives
  rintro ⟨h, -⟩
  obtain ⟨hgone, haddr, hread, hbad, hgated, hherd, hone⟩ := strayState_bucket
  have hop : ((fun q k => Instr.allGather q k, 0x31) : (Queue → Nat → Instr) × Nat) ∈ ringOps := .tail _ (.head _)
  obtain ⟨-, hstart⟩ := h _ hop strayState 160 1 strayGather
  obtain ⟨⟨t, ht, hnext⟩, -⟩ := hstart strayState_starts hgone haddr hread hbad hgated
  rw [hherd, hone] at hnext
  have hfails := strayState_fails
  have hexec : exec (.allGather 160 1) strayState = .next t := ht
  rw [hexec, answerNext, hnext] at hfails
  exact absurd (Option.some.inj hfails) (by decide)

end Sys2Proof.Machine
end

section
/-!
PROOFS. UPDATE items: the start with its check pass, and the start of the main pass (13 R526 to R532).
-/
namespace Sys2Proof.Machine

open Sys2Proof.Claims

/-! ## What reads see -/

/-- `t` reads as `s`. -/
structure ReadsAs (t s : State) : Prop where
  bytes : ∀ a, t.byte a = s.byte a
  checks : ∀ ws a, t.checkRead ws a = s.checkRead ws a

theorem ReadsAs.trans {u t s : State} (h : ReadsAs u t) (g : ReadsAs t s) : ReadsAs u s :=
  ⟨fun a => (h.bytes a).trans (g.bytes a), fun ws a => (h.checks ws a).trans (g.checks ws a)⟩

theorem State.mapItem_readsAs (s : State) (q k : Nat) (f : Item → Item) : ReadsAs (s.mapItem q k f) s := ⟨fun _ => rfl, fun _ _ => rfl⟩
theorem State.oxCount_readsAs (s : State) (h : Nat) (f : HubSt → HubSt) : ReadsAs (s.oxCount h f) s := ⟨fun _ => rfl, fun _ _ => rfl⟩

theorem ReadsAs.blockHdr {t s : State} (h : ReadsAs t s) (a : Nat) : t.blockHdr a = s.blockHdr a := by
  have hnum (a n : Nat) : t.num a n = s.num a n := congrArg leNat (List.map_congr_left fun i _ => h.bytes (a + i))
  simp only [State.blockHdr, hnum]

/-! ## The check pass -/

/-- A running UPDATE with its work. -/
theorem State.upd?_eq {s : State} {q k : Nat} {i : Item} {w : UpdWork} : s.upd? q k = some (i, w) ↔
    s.item? q k = some i ∧ i.live = true ∧ i.work = .update w := by
  rw [State.upd?, Option.bind_eq_some_iff]
  constructor
  · rintro ⟨j, hj, h⟩
    split at h
    · next hlive =>
      obtain ⟨x, hx, hw⟩ := Option.map_eq_some_iff.mp h
      cases hw
      refine ⟨hj, hlive, ?_⟩
      unfold Item.upd? at hx
      split at hx
      · next hwork =>
        rw [hwork, Option.some.inj hx]
      · cases hx
    · cases h
  · rintro ⟨hi, hlive, hwork⟩
    exact ⟨i, hi, by rw [if_pos hlive, Item.upd?, hwork]; rfl⟩

/-- The work after the check pass over blocks whose headers a state holds. -/
def UpdWork.checkAll (w : UpdWork) (s : State) (u : Upd) (l : List Nat) : UpdWork :=
  l.foldl (fun w b => w.check1 u (s.blockHdr (u.hdr b)) b) w

theorem checkPass_reads {s : State} {q k : Nat} {u : Upd} {j : Item} {l : List Nat} (hlive : j.live = true)
    (hl : ∀ b ∈ l, s.checkRead j.wins (u.hdr b) = none) : ∀ (t : State) (w : UpdWork), t.item? q k = some { j with work := .update w } →
      ReadsAs t s → (checkPass q k u l t).item? q k = some { j with work := .update (w.checkAll s u l) } ∧ ReadsAs (checkPass q k u l t) s := by
  induction l with
  | nil => exact fun t w hi hr => ⟨hi, hr⟩
  | cons b l ih =>
    intro t w hi hr
    have hupd : t.upd? q k = some ({ j with work := .update w }, w) := State.upd?_eq.mpr ⟨hi, hlive, rfl⟩
    have hset : (t.setUpd q k (w.check1 u (s.blockHdr (u.hdr b)) b)).item? q k =
        some { j with work := .update (w.check1 u (s.blockHdr (u.hdr b)) b) } := by
      refine (State.item?_mapItem t q k (f := fun i => { i with work := .update (w.check1 u (s.blockHdr (u.hdr b)) b) })
        (fun _ h => h) q k).trans ((if_pos ⟨rfl, rfl⟩).trans ?_)
      rw [hi]
      rfl
    have hreads : ReadsAs (t.setUpd q k (w.check1 u (s.blockHdr (u.hdr b)) b)) s := (State.mapItem_readsAs _ _ _ _).trans hr
    rw [checkPass, hupd]
    dsimp only
    rw [hr.checks, hl b List.mem_cons_self]
    dsimp only
    rw [hr.blockHdr]
    refine ih (fun x hx => hl x (List.mem_cons_of_mem _ hx)) _ _ ?_ ?_
    · split
      · exact hset
      · exact hset
    · split
      · exact (State.oxCount_readsAs _ _ _).trans hreads
      · exact hreads

/-! ## What the check pass finds -/

section
variable (w : UpdWork) (u : Upd) (h : BlockHdr) (b : Nat)

theorem UpdWork.check1_found : (w.check1 u h b).found = tput (0, 0) w.found b (h.stamp, u.classOf w.flagWord h b) := by
  unfold UpdWork.check1
  dsimp only
  split <;> split <;> try split
  all_goals rfl

theorem UpdWork.check1_fault : (w.check1 u h b).fault = (w.fault || h.bad u || (u.betaFromHdr && !pairUsable w.betas h.beta)) := by
  unfold UpdWork.check1
  dsimp only
  by_cases hbad : h.bad u = true
  · rw [if_pos hbad, hbad]
    split <;> simp [UpdWork.skew]
  · rw [if_neg hbad, Bool.eq_false_iff.mpr hbad]
    by_cases hpair : (u.betaFromHdr && !pairUsable w.betas h.beta) = true
    · rw [if_pos hpair, hpair]
      split <;> simp [UpdWork.skew]
    · rw [if_neg hpair, Bool.eq_false_iff.mpr hpair]
      split <;> simp [UpdWork.skew]

/-- What a check of a block leaves of the work. -/
theorem UpdWork.check1_kept : (w.check1 u h b).checked = w.checked ∧ (w.check1 u h b).main = w.main ∧ (w.check1 u h b).betas = w.betas ∧
    (w.check1 u h b).flagWord = w.flagWord ∧ (w.check1 u h b).desc = w.desc := by
  unfold UpdWork.check1
  dsimp only
  split <;> split <;> try split
  all_goals exact ⟨rfl, rfl, rfl, rfl, rfl⟩

end

theorem UpdWork.checkAll_kept (s : State) (u : Upd) (l : List Nat) (w : UpdWork) : (w.checkAll s u l).checked = w.checked ∧
    (w.checkAll s u l).main = w.main ∧ (w.checkAll s u l).betas = w.betas ∧ (w.checkAll s u l).flagWord = w.flagWord ∧
    (w.checkAll s u l).desc = w.desc := by
  refine foldl_keeps (P := fun x : UpdWork => x.checked = w.checked ∧ x.main = w.main ∧ x.betas = w.betas ∧ x.flagWord = w.flagWord ∧
    x.desc = w.desc) _ ?_ l w ⟨rfl, rfl, rfl, rfl, rfl⟩
  rintro x b ⟨h1, h2, h3, h4, h5⟩
  obtain ⟨g1, g2, g3, g4, g5⟩ := x.check1_kept u (s.blockHdr (u.hdr b)) b
  exact ⟨g1.trans h1, g2.trans h2, g3.trans h3, g4.trans h4, g5.trans h5⟩

theorem UpdWork.checkAll_found (s : State) (u : Upd) (l : List Nat) (w : UpdWork) (b : Nat) : tget (0, 0) (w.checkAll s u l).found b =
    if b ∈ l then ((s.blockHdr (u.hdr b)).stamp, u.classOf w.flagWord (s.blockHdr (u.hdr b)) b) else tget (0, 0) w.found b := by
  induction l generalizing w with
  | nil => rfl
  | cons x l ih =>
    obtain ⟨-, -, -, hflag, -⟩ := w.check1_kept u (s.blockHdr (u.hdr x)) x
    refine (ih (w.check1 u (s.blockHdr (u.hdr x)) x)).trans ?_
    rw [hflag, w.check1_found, tget_tput]
    by_cases hb : b = x
    · subst hb
      simp
    · simp [hb]

theorem UpdWork.checkAll_fault (s : State) (u : Upd) (l : List Nat) (w : UpdWork) : (w.checkAll s u l).fault = true ↔ w.fault = true ∨
    ∃ b ∈ l, (s.blockHdr (u.hdr b)).bad u = true ∨ (u.betaFromHdr = true ∧ pairUsable w.betas (s.blockHdr (u.hdr b)).beta = false) := by
  induction l generalizing w with
  | nil => simp [UpdWork.checkAll]
  | cons x l ih =>
    obtain ⟨-, -, hbetas, -, -⟩ := w.check1_kept u (s.blockHdr (u.hdr x)) x
    refine (ih (w.check1 u (s.blockHdr (u.hdr x)) x)).trans ?_
    rw [hbetas, w.check1_fault]
    simp [or_assoc]

/-! ## The start -/

/-- The work of an UPDATE before its check pass. -/
def UpdWork.first (bs : List Byte) (betas : Vector (Word × Word) 16) (v : Nat) : UpdWork :=
  { desc := bs, betas := betas, flagWord := v, checked := true, main := false, found := [], fault := false, finished := [], updated := 0
    frozen := 0, skewed := 0, passed := 0, skipped := 0, firstSkewed := none, firstBad := none }

/-- What an UPDATE checks of its descriptor at `a`, and the flag word that it reads. -/
structure DescriptorGood (s : State) (i : Item) (a : Nat) (u : Upd) (v : Nat) : Prop where
  local_ : a < 2 ^ 42
  reads : s.checkReads i.wins a 128 = none
  good : u.bad s.betas = false
  near : failFar u.addresses = none
  flag : s.updFlag i.wins u = .inr v
  report : u.report = 0 ∨ s.checkLine i.wins rightW u.report = none
  gates : s.oxGated u = none

theorem updStart_good {s : State} {q k : Nat} {i : Item} {v : Nat} {bs : List Byte} (hbs : s.bytes (i.fld 8 8) 128 = bs)
    (h : DescriptorGood s i (i.fld 8 8) (readUpd bs) v) : State.updStart q k s i = checkPass q k (readUpd bs) (readUpd bs).blocks
      ((s.setUpd q k (UpdWork.first bs s.betas v)).mapItem q k fun x => { x with saturated := (readUpd bs).last }) := by
  have hreport : (if (readUpd bs).report = 0 then none else s.checkLine i.wins rightW (readUpd bs).report) = none := by
    split
    · rfl
    · next hne => exact h.report.resolve_left hne
  unfold State.updStart
  dsimp only
  rw [if_neg (Nat.not_le.mpr h.local_), h.reads, hbs]
  dsimp only
  rw [h.good, if_neg (by decide), h.near, h.flag, hreport, h.gates]
  rfl

/-- A start leaves what the checks of a descriptor read. -/
theorem DescriptorGood.begin {s : State} {i : Item} {a v : Nat} {u : Upd} (h : DescriptorGood s i a u v) (q k : Nat) :
    DescriptorGood (s.begin q k) (begun s i) a u v := by
  obtain ⟨hlocal, hreads, hgood, hnear, hflag, hreport, hgates⟩ := h
  exact ⟨hlocal, hreads, hgood, hnear, hflag, hreport, hgates⟩

theorem State.begin_bytes (s : State) (q k a n : Nat) : (s.begin q k).bytes a n = s.bytes a n := rfl
theorem State.begin_betas (s : State) (q k : Nat) : (s.begin q k).betas = s.betas := rfl

theorem exec_update_starts {s : State} {q : Queue} {k : Nat} {i : Item}
    (hst : starts s q k 0x40 (fun i => [(8, decide (i.fld 8 8 % 64 ≠ 0)), i.zero 16 16]) i) :
    exec (.update q k) s = .next (State.updStart q k (s.begin q k) (begun s i)) := by
  change execUpdate q k s = _
  rw [execUpdate, State.startItem_starts hst]

/-- A started UPDATE before its check pass. -/
def State.updFirst (s : State) (q k : Nat) (u : Upd) (w : UpdWork) : State :=
  (s.setUpd q k w).mapItem q k fun x => { x with saturated := u.last }

theorem State.updFirst_readsAs (s : State) (q k : Nat) (u : Upd) (w : UpdWork) : ReadsAs (s.updFirst q k u w) s :=
  (State.mapItem_readsAs _ _ _ _).trans (State.mapItem_readsAs _ _ _ _)

theorem State.updFirst_item? {s : State} {q k : Nat} {i : Item} (h : s.item? q k = some i) (u : Upd) (w : UpdWork) :
    (s.updFirst q k u w).item? q k = some { i with work := .update w, saturated := u.last } := by
  have hset := State.item?_mapItem s q k (f := fun x => { x with work := .update w }) (fun _ hi => hi) q k
  rw [if_pos ⟨rfl, rfl⟩, h, Option.map_some] at hset
  have hlast := State.item?_mapItem (s.setUpd q k w) q k (f := fun x => { x with saturated := u.last }) (fun _ hi => hi) q k
  rw [if_pos ⟨rfl, rfl⟩] at hlast
  exact hlast.trans (congrArg (Option.map _) hset)

theorem update_starts {s : State} {q : Queue} {k : Nat} {i : Item} {v : Nat} {bs : List Byte}
    (hst : starts s q k 0x40 (fun i => [(8, decide (i.fld 8 8 % 64 ≠ 0)), i.zero 16 16]) i)
    (hbs : s.bytes ((begun s i).fld 8 8) 128 = bs) (h : DescriptorGood s i ((begun s i).fld 8 8) (readUpd bs) v)
    (hblocks : ∀ b ∈ (readUpd bs).blocks, s.checkRead i.wins ((readUpd bs).hdr b) = none) :
    ∃ t j, exec (.update q k) s = .next t ∧ t.item? q k = some j ∧ j.phase = .running ∧
      j.work = .update ((UpdWork.first bs s.betas v).checkAll s (readUpd bs) (readUpd bs).blocks) ∧ ∀ b, t.byte b = s.byte b := by
  have hstart : State.updStart q k (s.begin q k) (begun s i) = checkPass q k (readUpd bs) (readUpd bs).blocks
      ((s.begin q k).updFirst q k (readUpd bs) (UpdWork.first bs s.betas v)) :=
    updStart_good (q := q) (k := k) ((s.begin_bytes q k _ _).trans hbs) (h.begin q k)
  rw [exec_update_starts hst, hstart]
  generalize readUpd bs = u at hblocks
  have hbegun : ReadsAs (s.begin q k) s := ⟨fun _ => rfl, fun _ _ => rfl⟩
  have hitem := State.updFirst_item? (State.begin_itemNow (starts_item hst)).1 u (UpdWork.first bs s.betas v)
  obtain ⟨hitem, hreads⟩ := checkPass_reads (s := s) (j := { begun s i with saturated := u.last }) rfl hblocks _ _ hitem
    ((State.updFirst_readsAs _ _ _ _ _).trans hbegun)
  exact ⟨_, _, rfl, hitem, rfl, rfl, hreads.bytes⟩

/-! ## The start of the main pass -/

theorem exec_updateMainPass_goes {s : State} {q : Queue} {k : Nat} {i : Item} {w : UpdWork} (hupd : s.upd? q k = some (i, w))
    (hserving : s.serving = true) (hmain : w.main = false) (hfault : w.fault = false) (hskew : w.firstSkewed = none) :
    exec (.updateMainPass q k) s = .next (s.setUpd q k { w with main := true }) := by
  change execUpdateMainPass q k s = _
  rw [execUpdateMainPass, hupd]
  dsimp only
  rw [if_neg (by simp [hserving, hmain]), if_neg (by simp [hfault])]
  split
  · next hp => cases hskew.symm.trans hp
  · rfl

theorem exec_updateMainPass_skewed {s : State} {q : Queue} {k : Nat} {i : Item} {w : UpdWork} {p : Nat × Nat} (hupd : s.upd? q k = some (i, w))
    (hserving : s.serving = true) (hmain : w.main = false) (hfault : w.fault = false) (hskew : w.firstSkewed = some p)
    (hallow : (readUpd w.desc).allowSkew = false) : exec (.updateMainPass q k) s = .next (s.failItem q k ⟨0x17, p.1, none⟩) := by
  change execUpdateMainPass q k s = _
  rw [execUpdateMainPass, hupd]
  dsimp only
  rw [if_neg (by simp [hserving, hmain]), if_neg (by simp [hfault])]
  split
  · next hp =>
    cases hskew.symm.trans hp
    rw [if_neg (by simp [hallow])]
  · next hp => cases hskew.symm.trans hp

theorem Item.finished_decided {i : Item} (h : i.status ≠ 0) (now : DWord) (f : Option Fail) :
    (i.finished now f).phase = .ended ∧ (i.finished now f).status = i.status ∧ (i.finished now f).detail = i.detail := by
  refine ⟨(i.finished_phase now f).1, Item.finished_status now f h, ?_⟩
  rw [Item.finished, Item.ending, if_pos h]

/-- A running item that no core works for ends with its failure (09 R394). -/
theorem State.failItem_unstaffed {s : State} {q k : Nat} {i : Item} {f : Fail} (hi : s.item? q k = some i) (hu : i.undecided = true)
    (hlate : i.late s.now = false) (hs : s.sitesOf q k = []) (hgo : s.letGo q k i = s.withdrawAll (s.waitsFor [(q, k)]))
    (hue : f.ue = none) (hf : f.status ≠ 0) :
    ∃ j, (s.failItem q k f).item? q k = some j ∧ j.phase = .ended ∧ j.status = f.status ∧ j.detail = f.detail := by
  obtain ⟨hs0, hp0⟩ : i.status = 0 ∧ i.phase ≠ .ended := by
    simp only [Item.undecided, Bool.and_eq_true, decide_eq_true_eq] at hu
    exact ⟨hu.2, hu.1⟩
  have hspared := State.withdrawAll_spared hi hs
  have hfailure : i.failure s.now f = f := if_neg (by simp [hlate])
  have hfailed : Item.failed f i = { i with status := f.status, detail := f.detail } := if_pos ⟨hs0, hp0⟩
  rw [State.failItem_eq hi hu hue, hfailure, hgo]
  generalize s.withdrawAll (s.waitsFor [(q, k)]) = t at hspared
  have hitem : (t.mapItem q k (Item.failed f)).item? q k = some { i with status := f.status, detail := f.detail } := by
    rw [State.item?_mapItem t q k fun j hj => (j.failed_decidedBy _).1.trans hj, if_pos ⟨rfl, rfl⟩, hspared.item, Option.map_some, hfailed]
  have hsites : (t.mapItem q k (Item.failed f)).sitesOf q k = [] := hspared.sites
  generalize t.mapItem q k (Item.failed f) = u at hitem hsites
  have hstop : u.stopItem q k = u := by rw [State.stopItem, hsites, List.foldl_nil]
  have hsettle : u.settleItem q k = (u.endNow q k none).1 := by
    rw [State.settleItem, hitem]
    dsimp only
    rw [if_pos ⟨hf, hp0⟩, hsites, List.filter_nil, List.foldl_nil, if_pos hsites]
  rw [hstop, hsettle]
  obtain ⟨hphase, hstatus, hdetail⟩ := Item.finished_decided (i := { i with status := f.status, detail := f.detail }) hf u.now none
  exact ⟨_, (State.endNow_item? hitem hp0 none q k).trans (if_pos ⟨rfl, rfl⟩), hphase, hstatus, hdetail⟩

theorem updateCheckPass : UpdateCheckPass := by
  refine ⟨fun s q k i v hst => ?check, fun s q k i w hupd hserving hmain hfault => ⟨fun hskew => ?goes, fun p hskew hallow hstatus hlate hsites => ?skewed⟩⟩
  case check =>
    intro a u ha hreads hgood hnear hflag hreport hgates hblocks
    obtain ⟨t, j, hexec, hitem, hphase, hwork, hbytes⟩ := update_starts hst rfl ⟨ha, hreads, hgood, hnear, hflag, hreport, hgates⟩ hblocks
    obtain ⟨hchecked, hmain, hbetas, hword, hdesc⟩ := UpdWork.checkAll_kept s u u.blocks (UpdWork.first (s.bytes a 128) s.betas v)
    refine ⟨t, j, _, hexec, hitem, hphase, hwork, hchecked, hmain, hbetas, hword, hdesc, fun b hb => ?_, ?_, hbytes⟩
    · rw [UpdWork.checkAll_found, if_pos hb]
      rfl
    · exact (UpdWork.checkAll_fault s u u.blocks _).trans (by simp [UpdWork.first])
  case goes =>
    obtain ⟨hitem, -, -⟩ := State.upd?_eq.mp hupd
    rw [exec_updateMainPass_goes hupd hserving hmain hfault hskew]
    exact ⟨_, rfl, itemNow_mapItem (f := fun x => { x with work := .update { w with main := true } })
      ⟨hitem, fun _ _ => rfl, fun _ _ => rfl⟩ fun _ hi => hi, rfl⟩
  case skewed =>
    obtain ⟨hitem, hlive, hwork⟩ := State.upd?_eq.mp hupd
    have hphase : i.phase = .running := of_decide_eq_true hlive
    have hgo : s.letGo q k i = s.withdrawAll (s.waitsFor [(q, k)]) := by rw [State.letGo, State.withdrawItem, hwork, ite_self]
    obtain ⟨j, hj, hend, hst, hdetail⟩ := State.failItem_unstaffed (f := ⟨0x17, p.1, none⟩) hitem (by simp [Item.undecided, hstatus, hphase])
      hlate hsites hgo rfl (by simp)
    rw [exec_updateMainPass_skewed hupd hserving hmain hfault hskew hallow]
    exact ⟨_, j, rfl, hj, hend, hst, hdetail⟩

end Sys2Proof.Machine
end

section
/-!
PROOFS. UPDATE items: the blocks of the main pass (13 R521, R522, R528, R530, R534, R535, R541, R542, R546).
-/
namespace Sys2Proof.Machine

open Sys2Proof.Claims

/-! ## The writes of a block -/

theorem State.writeAll_eq {s : State} {ws : WinSet} {l : List (Nat × List Byte)} (h : (s.writeAll ws l).2 = none) :
    (s.writeAll ws l).1 = s.writeEach l := by
  unfold State.writeAll at h ⊢
  dsimp only at h ⊢
  split at h
  · cases h
  · dsimp only
    rw [List.foldl_flatten, List.foldl_map]
    rfl

/-- A whole line is not cut. -/
theorem cutLines_line {a : Nat} {bs : List Byte} (ha : a % 64 = 0) (hl : bs.length = 64) : cutLines bs.length a bs = [(a, bs)] := by
  have hne : bs ≠ [] := fun h => by rw [h] at hl; cases hl
  have htake : bs.take (64 - a % 64) = bs := List.take_of_length_le (by omega)
  have hdrop : bs.drop (64 - a % 64) = [] := List.drop_of_length_le (by omega)
  rw [hl, cutLines, if_neg hne]
  dsimp only
  rw [htake, hdrop, cutLines, if_pos rfl]

theorem State.writeAll_line {s : State} {ws : WinSet} {a : Nat} {bs : List Byte} (ha : a % 64 = 0) (hl : bs.length = 64)
    (h : s.checkWrite ws a 64 = none) : (s.writeAll ws [(a, bs)]).2 = none := by
  unfold State.writeAll
  dsimp only
  rw [List.map_singleton, List.flatten_singleton, cutLines_line ha hl, List.findSome?_cons, hl, h]
  rfl

/-- The module once a block's outcome has counted in its item. -/
def State.blockCounted (s : State) (q k : Nat) (w : UpdWork) (fl : Flags) : State :=
  (s.setUpd q k w).mapItem q k fun i => { i with progress := w.finished.length, detail := w.skipped, fl := i.fl.or fl }

theorem State.blockCounted_item? {s : State} {q k : Nat} {i : Item} (h : s.item? q k = some i) (w : UpdWork) (fl : Flags) :
    ∃ j, (s.blockCounted q k w fl).item? q k = some j ∧ j.progress = w.finished.length := by
  have hset := State.item?_mapItem s q k (f := fun j => { j with work := .update w }) (fun _ h => h) q k
  have hcount := State.item?_mapItem (s.setUpd q k w) q k
    (f := fun j => { j with progress := w.finished.length, detail := w.skipped, fl := j.fl.or fl }) (fun _ h => h) q k
  rw [if_pos ⟨rfl, rfl⟩, h, Option.map_some] at hset
  rw [if_pos ⟨rfl, rfl⟩] at hcount
  exact ⟨_, hcount.trans (congrArg (Option.map _) hset), rfl⟩

theorem State.blockCounted_readsAs (s : State) (q k : Nat) (w : UpdWork) (fl : Flags) : ReadsAs (s.blockCounted q k w fl) s :=
  (State.mapItem_readsAs _ _ _ _).trans (State.mapItem_readsAs _ _ _ _)

theorem State.workDone_progress {s : State} {q k : Nat} {j : Item} (h : s.item? q k = some j) :
    ∃ x, (s.workDone q k).item? q k = some x ∧ x.progress = j.progress := by
  have hdone := State.item?_mapItem s q k (f := fun j => { j with phase := .workDone }) (fun _ h => h) q k
  rw [if_pos ⟨rfl, rfl⟩, h] at hdone
  exact ⟨_, hdone, rfl⟩

/-- The work with these blocks final. -/
def UpdWork.finish (w : UpdWork) (l : List Nat) : UpdWork := { w with finished := l }

theorem State.blockDone_eq {s : State} {q k : Nat} {i : Item} {w : UpdWork} (hupd : s.upd? q k = some (i, w)) (b : Nat)
    (f : UpdWork → UpdWork) (fl : Flags) : s.blockDone q k b f fl =
      if ((f w).finish (b :: w.finished)).finished.length = (readUpd ((f w).finish (b :: w.finished)).desc).nblk then (s.blockCounted q k ((f w).finish (b :: w.finished)) fl).workDone q k
      else s.blockCounted q k ((f w).finish (b :: w.finished)) fl := by
  unfold State.blockDone
  rw [hupd]
  rfl

/-- A block's outcome counts in its item and leaves memory. -/
theorem State.blockDone_left {s : State} {q k : Nat} {i : Item} {w : UpdWork} (hupd : s.upd? q k = some (i, w)) (b : Nat)
    (f : UpdWork → UpdWork) (fl : Flags) :
    (∃ j, (s.blockDone q k b f fl).item? q k = some j ∧ j.progress = w.finished.length + 1) ∧
      ∀ a, (s.blockDone q k b f fl).byte a = s.byte a := by
  obtain ⟨hitem, -, -⟩ := State.upd?_eq.mp hupd
  have hlen : ((f w).finish (b :: w.finished)).finished.length = w.finished.length + 1 := rfl
  rw [State.blockDone_eq hupd]
  generalize (f w).finish (b :: w.finished) = x at hlen
  obtain ⟨j, hj, hprogress⟩ := State.blockCounted_item? hitem x fl
  have hbyte := (s.blockCounted_readsAs q k x fl).bytes
  generalize s.blockCounted q k x fl = u at hj hbyte
  split
  · obtain ⟨y, hy, hyp⟩ := State.workDone_progress hj
    exact ⟨⟨y, hy, by rw [hyp, hprogress, hlen]⟩, fun a => (State.workDone_byte _ q k a).trans (hbyte a)⟩
  · exact ⟨⟨j, hj, by rw [hprogress, hlen]⟩, hbyte⟩

/-- The writes of a block without a failure, and its outcome. -/
theorem State.blockWrites_left {s : State} {q k : Nat} {i : Item} {w : UpdWork} (hupd : s.upd? q k = some (i, w)) (b : Nat) {ws : WinSet}
    {l : List (Nat × List Byte)} (hl : (s.writeAll ws l).2 = none) (hub : Nat) (f : UpdWork → UpdWork)
    (g : HubSt → HubSt) (fl : Flags) : (∃ j, (s.blockWrites q k b ws l hub f g fl).item? q k = some j ∧ j.progress = w.finished.length + 1) ∧
      ∀ a, (s.blockWrites q k b ws l hub f g fl).byte a = (s.writeEach l).byte a := by
  obtain ⟨hitem, hlive, hwork⟩ := State.upd?_eq.mp hupd
  rw [State.blockWrites, hl, State.writeAll_eq hl]
  dsimp only
  have hupd' : ((s.writeEach l).oxCount hub g).upd? q k = some (i, w) := State.upd?_eq.mpr ⟨(s.writeEach_item? l q k).trans hitem, hlive, hwork⟩
  obtain ⟨hj, hbyte⟩ := State.blockDone_left hupd' b f fl
  exact ⟨hj, fun a => (hbyte a).trans ((State.oxCount_readsAs _ _ _).bytes a)⟩

/-! ## A block that its unit takes -/

/-- A block that its unit takes in the main pass, whose header stands as the check pass found it. -/
structure TakesBlock (s : State) (q k : Nat) (i : Item) (w : UpdWork) (u : Upd) (n : Nat) : Prop where
  upd : s.upd? q k = some (i, w)
  serving : s.serving = true
  main : w.main = true
  first : u.first ≤ n
  inRange : n < u.first + u.nblk
  fresh : w.finished.elem n = false
  earlier : ∀ x, u.first ≤ x → x < n → s.oxOf u x = s.oxOf u n → x ∈ w.finished
  read : s.checkRead i.wins (u.hdr n) = none
  stamp : (tget (0, 0) w.found n).1 = (s.blockHdr (u.hdr n)).stamp

theorem TakesBlock.exec_eq {s : State} {q : Queue} {k : Nat} {i : Item} {w : UpdWork} {b : BitVec 32}
    (h : TakesBlock s q k i w (readUpd w.desc) b.toNat) : exec (.updateBlock q k b) s = .next (s.mainBlock q k b.toNat i w (readUpd w.desc)) := by
  have hearlier : ((List.range (b.toNat - (readUpd w.desc).first)).all fun x =>
      decide (s.oxOf (readUpd w.desc) ((readUpd w.desc).first + x) ≠ s.oxOf (readUpd w.desc) b.toNat) ||
        w.finished.elem ((readUpd w.desc).first + x)) = true := by
    rw [List.all_eq_true]
    intro x hx
    have hlt := List.mem_range.mp hx
    by_cases hox : s.oxOf (readUpd w.desc) ((readUpd w.desc).first + x) = s.oxOf (readUpd w.desc) b.toNat
    · rw [List.elem_eq_true_of_mem (h.earlier _ (Nat.le_add_right _ _) (by omega) hox), Bool.or_true]
    · rw [decide_eq_true hox, Bool.true_or]
  have hfresh : b.toNat ∉ w.finished := by simpa using h.fresh
  change execUpdateBlock q k b s = _
  rw [execUpdateBlock, h.upd]
  dsimp only
  rw [hearlier, if_pos (by simp [h.serving, h.main, h.first, h.inRange, hfresh])]

section
variable {s : State} {q k : Nat} {i : Item} {w : UpdWork} {u : Upd} {n : Nat}

theorem TakesBlock.frozen (h : TakesBlock s q k i w u n) (hclass : (tget (0, 0) w.found n).2 = 4) : s.mainBlock q k n i w u =
    s.blockWrites q k n i.wins [(u.hdr n, hdrBytes u.t (s.blockHdr (u.hdr n)).flags (s.blockHdr (u.hdr n)) (s.blockHdr (u.hdr n)).check)]
      (s.oxOf u n) (fun w => { w with frozen := w.frozen + 1 }) (fun x => { x with oxFrozen := sat32 x.oxFrozen 1 }) {} := by
  unfold State.mainBlock
  dsimp only
  rw [h.read]
  dsimp only
  rw [hclass, if_neg (by simp [h.stamp]), if_neg (by decide), if_neg (by simp [h.stamp]), if_pos rfl]

theorem TakesBlock.normal (h : TakesBlock s q k i w u n) (hclass : (tget (0, 0) w.found n).2 = 6) : s.mainBlock q k n i w u =
    s.blockNormal q k n i w u (s.blockHdr (u.hdr n)) := by
  unfold State.mainBlock
  dsimp only
  rw [h.read]
  dsimp only
  rw [hclass, if_neg (by simp [h.stamp]), if_neg (by decide), if_neg (by simp [h.stamp]), if_neg (by decide), if_neg (by decide)]

end

/-! ## A block with new values -/

theorem flatten_length {α β : Type} {f : α → List β} {n : Nat} (hf : ∀ a, (f a).length = n) (l : List α) : (l.map f).flatten.length = n * l.length := by
  induction l with
  | nil => rfl
  | cons a l ih => rw [List.map_cons, List.flatten_cons, List.length_append, ih, hf, List.length_cons, Nat.mul_succ, Nat.add_comm]

/-- The bytes of a block's new state. -/
def State.newState (s : State) (w : UpdWork) (u : Upd) (n : Nat) (st : List Byte) : List (List Byte) :=
  u.newBytes (u.newElems (u.consts (vget w.betas (if u.betaFromHdr then (s.blockHdr (u.hdr n)).beta else u.beta) (0, 0)))
    (words32 (st.take 2048)) (halves ((st.drop 2048).take 1024)) (halves (st.drop 3072)) (halves (s.bytes (u.grad n) 1024)))

/-- The new bytes of a block fill its arrays. -/
theorem newState_sizes (s : State) (w : UpdWork) (u : Upd) (n : Nat) (st : List Byte) :
    List.Forall₂ (fun (a : Nat × Nat) bs => bs.length = a.2) (u.arrays n) (s.newState w u n st) := by
  unfold State.newState
  generalize hes : u.newElems _ _ _ _ _ = es
  have hlen : es.length = 512 := by rw [← hes, Upd.newElems, List.length_map, List.length_range]
  have h4 (f : NewElem → Nat) : (es.map fun e => natLe 4 (f e)).flatten.length = 2048 := by rw [flatten_length (fun _ => natLe_length _ _), hlen]
  have h2 (f : NewElem → Nat) : (es.map fun e => natLe 2 (f e)).flatten.length = 1024 := by rw [flatten_length (fun _ => natLe_length _ _), hlen]
  unfold Upd.arrays Upd.newBytes
  split
  · exact .cons (h4 _) (.cons (h2 _) (.cons (h2 _) .nil))
  · exact .cons (h4 _) (.cons (h2 _) .nil)

theorem hdrBytes_length (t flags : Nat) (h : BlockHdr) (check : Nat) : (hdrBytes t flags h check).length = 64 := by
  simp [hdrBytes, natLe_length]

/-- Bytes that fill places which do not meet are writes that do not meet. -/
theorem zip_apart {as : List (Nat × Nat)} {bss : List (List Byte)} (hs : List.Forall₂ (fun (a : Nat × Nat) bs => bs.length = a.2) as bss)
    (h : as.Pairwise fun x y => x.1 + x.2 ≤ y.1 ∨ y.1 + y.2 ≤ x.1) : ((as.map Prod.fst).zip bss).Pairwise Apart := by
  induction hs with
  | nil => exact .nil
  | @cons a bs as bss hlen hs ih =>
    rw [List.pairwise_cons] at h
    refine .cons (fun e he => ?_) (ih h.2)
    change e ∈ (as.map Prod.fst).zip bss at he
    rw [List.zip_map_left] at he
    obtain ⟨⟨x, cs⟩, hp, rfl⟩ := List.mem_map.mp he
    have hx := h.1 x (List.of_mem_zip hp).1
    have hcs : cs.length = x.2 := List.forall₂_zip hs hp
    simp only [Apart, Prod.map, id]
    omega

section
variable {s : State} {q k : Nat} {i : Item} {w : UpdWork} {u : Upd} {n : Nat}

/-- What a block with new values writes: each array, and then its header. -/
def State.newWrites (s : State) (w : UpdWork) (u : Upd) (n : Nat) (st : List Byte) : List (Nat × List Byte) :=
  ((u.arrays n).map Prod.fst).zip (s.newState w u n st) ++ [(u.hdr n, hdrBytes u.t (s.blockHdr (u.hdr n)).flags (s.blockHdr (u.hdr n))
    (blockCheck u.rule (s.newState w u n st).flatten))]

/-- A readable block without special gradients, whose CHECK stands, is written with its new values. -/
theorem State.blockNormal_eq {st : List Byte} (hst : ((u.arrays n).map fun a => s.bytes a.1 a.2).flatten = st)
    (hreads : ∀ a ∈ u.arrays n ++ [((u.grad n, 1024) : Nat × Nat)], s.checkReads i.wins a.1 a.2 = none)
    (hcheck : u.verify = true → blockCheck u.rule st = (s.blockHdr (u.hdr n)).check)
    (hgrad : (halves (s.bytes (u.grad n) 1024)).any bf16Special = false) :
    ∃ fl, s.blockNormal q k n i w u (s.blockHdr (u.hdr n)) = s.blockWrites q k n i.wins (s.newWrites w u n st) (s.oxOf u n)
      (fun w => { w with updated := w.updated + 1 }) (fun x => { x with oxUpdated := sat32 x.oxUpdated 1 }) fl := by
  have hnone : (u.arrays n ++ [(u.grad n, 1024)]).findSome? (fun (a : Nat × Nat) => s.checkReads i.wins a.1 a.2) = none :=
    List.findSome?_eq_none_iff.mpr hreads
  unfold State.blockNormal
  dsimp only
  rw [hnone, hst]
  dsimp only
  rw [if_neg fun h => h.2 (hcheck h.1), hgrad, if_neg (show ¬(false = true ∧ u.policy ≠ 2) by simp),
    show (if false = true then 2 else 0) = (0 : Nat) from rfl, Nat.or_zero]
  exact ⟨_, rfl⟩

/-- A block's new values and its header read back where the places do not meet. -/
theorem State.newWrites_bytes (s : State) (w : UpdWork) (u : Upd) (n : Nat) (st : List Byte)
    (happart : (u.arrays n ++ [(u.hdr n, 64)]).Pairwise fun (x y : Nat × Nat) => x.1 + x.2 ≤ y.1 ∨ y.1 + y.2 ≤ x.1) :
    (s.writeEach (s.newWrites w u n st)).bytes (u.hdr n) 64 = hdrBytes u.t (s.blockHdr (u.hdr n)).flags (s.blockHdr (u.hdr n))
        (blockCheck u.rule (s.newState w u n st).flatten) ∧
      ∀ p ∈ (u.arrays n).zip (s.newState w u n st), (s.writeEach (s.newWrites w u n st)).bytes p.1.1 p.1.2 = p.2 := by
  have hsizes := newState_sizes s w u n st
  have hwrites : s.newWrites w u n st = ((u.arrays n ++ [(u.hdr n, 64)]).map Prod.fst).zip (s.newState w u n st ++
      [hdrBytes u.t (s.blockHdr (u.hdr n)).flags (s.blockHdr (u.hdr n)) (blockCheck u.rule (s.newState w u n st).flatten)]) := by
    rw [List.map_append, List.zip_append (by rw [List.length_map, hsizes.length_eq])]
    rfl
  have hall := List.rel_append hsizes (.cons (a := (u.hdr n, 64)) (hdrBytes_length u.t (s.blockHdr (u.hdr n)).flags (s.blockHdr (u.hdr n))
    (blockCheck u.rule (s.newState w u n st).flatten)) .nil)
  have hpairwise := hwrites ▸ zip_apart hall happart
  have hread {a : Nat} {bs : List Byte} {len : Nat} (hin : (a, bs) ∈ s.newWrites w u n st) (hlen : bs.length = len) :
      (s.writeEach (s.newWrites w u n st)).bytes a len = bs := by
    subst hlen
    refine List.ext_getElem (by simp [State.bytes]) fun m _ hm => ?_
    have hbyte := State.writeEach_byte_in (s := s) hpairwise hin (i := m) hm
    simpa [State.bytes, List.getD, hm] using hbyte
  refine ⟨hread (List.mem_append_right _ (List.mem_singleton.mpr rfl)) (hdrBytes_length _ _ _ _), fun p hp => ?_⟩
  refine hread (List.mem_append_left _ ?_) ((List.forall₂_zip hsizes hp))
  rw [List.zip_map_left]
  exact List.mem_map.mpr ⟨p, hp, rfl⟩

end

theorem updateBlockInMainPass : UpdateBlockInMainPass := by
  intro s q k i w b hupd hserving hmain u n h hfirst hrange hfresh hearlier hread hstamp
  have htakes : TakesBlock s q k i w u n := ⟨hupd, hserving, hmain, hfirst, hrange, hfresh, hearlier, hread, hstamp⟩
  refine ⟨fun hclass hcheck haligned => ?frozen, fun hclass => ?normal⟩
  case frozen =>
    have hlen := hdrBytes_length u.t h.flags h h.check
    obtain ⟨⟨j, hj, hprogress⟩, hbytes⟩ := State.blockWrites_left hupd n (State.writeAll_line haligned hlen hcheck) (s.oxOf u n)
      (fun w => { w with frozen := w.frozen + 1 }) (fun x => { x with oxFrozen := sat32 x.oxFrozen 1 }) {}
    rw [htakes.exec_eq, htakes.frozen hclass]
    obtain ⟨hin, hout⟩ := readsAfterWrites s (u.hdr n) (hdrBytes u.t h.flags h h.check)
    exact ⟨_, j, rfl, ⟨fun m hm => (hbytes _).trans (hin m hm), fun a ha => (hbytes a).trans (hout a ha)⟩, hj, hprogress⟩
  case normal =>
    intro gs st out hdr hreads hverify hgrad hwrites happart
    obtain ⟨fl, hnormal⟩ := State.blockNormal_eq (s := s) (q := q) (k := k) (i := i) (w := w) (u := u) (n := n) rfl hreads hverify hgrad
    obtain ⟨⟨j, hj, hprogress⟩, hbytes⟩ := State.blockWrites_left hupd n (l := s.newWrites w u n st) hwrites (s.oxOf u n)
      (fun w => { w with updated := w.updated + 1 }) (fun x => { x with oxUpdated := sat32 x.oxUpdated 1 }) fl
    obtain ⟨hhdr, harrays⟩ := s.newWrites_bytes w u n st happart
    have hread' (a len : Nat) : (s.blockWrites q k n i.wins (s.newWrites w u n st) (s.oxOf u n) (fun w => { w with updated := w.updated + 1 })
        (fun x => { x with oxUpdated := sat32 x.oxUpdated 1 }) fl).bytes a len = (s.writeEach (s.newWrites w u n st)).bytes a len :=
      List.map_congr_left fun m _ => hbytes (a + m)
    rw [htakes.exec_eq, htakes.normal hclass, hnormal]
    exact ⟨_, j, rfl, (hread' _ _).trans hhdr, fun p hp => (hread' _ _).trans (harrays p hp), hj, hprogress⟩

/-- Settles O21: the check pass is a fold over the blocks' headers that leaves memory, and a block of the main pass is one list of writes
whose places do not meet, after which its outcome counts. -/
theorem updateItems : Obligations.UpdateItems := ⟨updateCheckPass, updateBlockInMainPass⟩

end Sys2Proof.Machine
end
